-- ==== Sys2Proof/Word.lean ====
section
/-! DEFINITION. The word types of the GX16: bytes, registers, lines, masks, and the numbers of its units. -/

namespace Sys2Proof

/-- One byte. -/
abbrev Byte := BitVec 8

/-- A BAR0 register (R4). -/
abbrev Word := BitVec 32

/-- The 64 bytes of one line, byte 0 in the low bits (R12). -/
abbrev LineData := BitVec 512

/-- One bit per byte of a line (R43). -/
abbrev Mask := BitVec 64

/-- A port engine, and the head that bears its number (R201). -/
abbrev Head := Fin 8

/-- A DRAM channel. -/
abbrev Chan := Fin 16

/-- A ring number (R327). -/
abbrev Ring := Fin 64

/-- A rank set (R235). -/
abbrev RankSet := Fin 8

/-- A power domain by its number in *Domains* (R355). -/
abbrev DomainId := Fin 58

/-- A key slot (R299). -/
abbrev KeyId := Fin 1024

/-- A dictionary slot; 0 stands for no dictionary (R138). -/
abbrev DictId := Fin 16

/-- Sparse data by key: the pairs stand in strictly rising key order and no pair holds the table's default. -/
abbrev Tbl (α : Type) := List (Nat × α)

end Sys2Proof
end

