-- ==== Sys2Proof/Syntax.lean ====
section
/-! DEFINITION. The commands of the GX16: one constructor of `Instr` per row of spec/opcode_table.json, and the operand types they carry. -/

namespace Sys2Proof

/-- Where a register access or a service request comes from (R11, R441). -/
inductive Via where
  | head (h : Head)
  | sideband
  deriving DecidableEq, Repr

/-- MetaField and MetaValue of a request: No-Op, or MetaState with a value (R177). -/
inductive MetaVal where
  | noOp
  | i
  | s
  | a
  deriving DecidableEq, Repr

/-- SnpType of a request (R177). -/
inductive SnpType where
  | noOp
  | data
  | inv
  | cur
  deriving DecidableEq, Repr

/-- Kinds of translation-cache entries (R92, R95). -/
inductive XltEntry where
  | ext
  | page
  | share
  deriving DecidableEq, Repr

/-- A fault found while a request is looked up at its home slice, directory slice or XLT slice (R41, R76, R95, R136, R198, R290). -/
inductive LookupFault where
  | none
  /-- One tag copy of the line's near-cache set is uncorrectable. -/
  | ncTagOne
  /-- Both tag copies of the line's near-cache set are uncorrectable. -/
  | ncTagBoth
  /-- The line's data in the near cache is uncorrectable. -/
  | ncData
  /-- A correctable SRAM error. -/
  | ncCorrected
  /-- One TAG copy of the line's directory entry is uncorrectable. -/
  | dirTagOne
  /-- PRES, STATE or BUSY of the line's directory entry is uncorrectable, TAG good. -/
  | dirState
  /-- Both TAG copies of the way that held `line` are uncorrectable. -/
  | dirTags (line : BitVec 40)
  /-- The bitmap word of the line's extent is uncorrectable. -/
  | bitmapWord
  /-- The translation-cache entry of the line's extent record, of its page record, or of the share record that its page names is uncorrectable. -/
  | xltEntry (e : XltEntry)
  /-- The DEEP page buffer's copy of the line's page is uncorrectable. -/
  | pageBuffer
  /-- The request's message is uncorrectable in a queue of FAB or of a channel. -/
  | message
  /-- The RTK entry given to the request is uncorrectable. -/
  | rtkEntry
  /-- The key-shadow entry that the line's access needs is uncorrectable; `storeLost`: both copies in the key store are too (R302). -/
  | keyShadow (storeLost : Bool)
  deriving DecidableEq, Repr

/-- A device of a rank and subchannel, with a row, as the outer code and ECS name it (R256). -/
structure DevRow where
  rank : RankSet
  subB : Bool
  dev : Fin 16
  bank : BitVec 8
  row : BitVec 20
  deriving DecidableEq, Repr

/-- What the outer code finds wrong in a burst that is read: the symbols in error of each device of its rank and subchannel, 8 at most in each, with the burst's bank and row (R265). -/
structure BurstErrors where
  rank : RankSet
  subB : Bool
  bank : BitVec 8
  row : BitVec 20
  errs : List (Fin 10 × Fin 9)
  deriving DecidableEq, Repr

/-- A codec unit (R124, R133, R146). -/
inductive CodecUnit where
  | comp (i : Fin 8)
  | decomp (i : Fin 16)
  | engine (i : Fin 4)
  deriving DecidableEq, Repr

/-- What a read of stored data meets (R254, R265, R279, R146, R145). -/
inductive DramOutcome where
  | good
  /-- Symbols are in error, which the outer code corrects or cannot (R265, R266); `recovered` says whether, where it cannot, the line's other copy, or every other line of its stripe, is good. -/
  | errors (b : BurstErrors) (recovered : Bool)
  /-- A codec unit signals a decode failure; `retryOk` is the retry's result and `recovered` as above. -/
  | decodeFailure (u : CodecUnit) (retryOk recovered : Bool)
  /-- The dictionary store has an uncorrectable error in the slot the page names. -/
  | dictStore
  deriving DecidableEq, Repr

/-- A verify mismatch (R124, R133): the segment whose compressor fails where segments are compressed, and the engine that fails where a page is encoded. -/
structure VerifyBad where
  seg : Fin 16
  comp : Fin 8
  engine : Fin 4
  deriving DecidableEq, Repr

/-- What the codecs and DRAM make of an operation that reads, decodes and re-encodes stored data: a verify mismatch of what it encodes, and what the read of one line of its page meets (R124, R133, R146, R279). -/
structure CodecRun where
  bad : Option VerifyBad
  line : Fin 64
  read : DramOutcome
  deriving DecidableEq, Repr

/-- A run in which nothing fails. -/
def CodecRun.good : CodecRun := ⟨none, 0, .good⟩

/-- What one map-area copy of a record gives (R79, R84, R91). -/
inductive MapCopy where
  /-- It holds the record last written. -/
  | current
  /-- It passes its code checks and holds these bits. -/
  | raw (w : BitVec 128)
  | uncorrectable
  deriving DecidableEq, Repr

/-- A record of the map area (R77, R80, R86). -/
inductive MapKey where
  | ext (e : BitVec 25)
  /-- A 64-byte sector of four page records. -/
  | sector (e : BitVec 25) (k : Fin 128)
  | share (i : BitVec 38)
  deriving DecidableEq, Repr

/-- What the Trimmer finds in a line it reads (R286). -/
inductive TrimFinding where
  | good
  /-- Symbols are in error; `recovered` as for a read. -/
  | errors (b : BurstErrors) (recovered : Bool)
  | poison
  | mirrorsDiffer (primaryCorrected : Bool)
  | parityWrong
  deriving DecidableEq, Repr

/-- DIMM kinds (R232). -/
inductive DimmKind where
  | rdimm
  | rdimm3ds
  | mrdimm
  deriving DecidableEq, Repr

/-- What discovery finds on one channel (R232 to R235). -/
structure ChanPop where
  /-- Slots 0 and 1 hold a DIMM. -/
  slot0 : Bool
  slot1 : Bool
  kind : DimmKind
  /-- Physical ranks per DIMM, less one. -/
  ranks : Fin 4
  /-- 0 monolithic, 1 2-high, 2 4-high. -/
  stack : Fin 4
  /-- 0 16 Gb, 1 24 Gb, 2 32 Gb. -/
  density : Fin 4
  /-- Capacity per DIMM, GiB. -/
  sizeGib : Nat
  /-- Highest rate that every SPD of the channel lists, as SPEED_MAX encodes it; `none` when a DIMM is unusable. -/
  spdMax : Option (Fin 7)
  /-- The DIMMs' SPDs agree in geometry and timing among themselves. -/
  uniform : Bool
  /-- Training steps 3 to 8 fail at this step at the first and the retried attempt. -/
  failsAt : Option (Fin 9)
  /-- The management bus of the channel stays in I2C mode. -/
  i2c : Bool
  /-- The PMIC of a DIMM reports a fault in training. -/
  pmicFault : Bool
  /-- Every DIMM is built from x4 devices, and carries ECC (R232). -/
  x4 : Bool
  ecc : Bool
  /-- The serial numbers in the SPDs of slots 0 and 1 (R257). -/
  serial0 : BitVec 32
  serial1 : BitVec 32
  deriving DecidableEq, Repr

/-- The straps (R434). -/
structure Straps where
  heads : BitVec 2
  x16 : Bool
  owner : BitVec 3
  lean : Bool
  deriving DecidableEq, Repr

/-- IDE streams, directions and key sets (R309). -/
inductive IdeStream where
  | io
  | cachemem
  deriving DecidableEq, Repr

/-- Causes of the error state (CRY_STATUS.ERR_CAUSE). -/
inductive ErrCause where
  | entropy
  | drbg
  | keyStore
  | aesGcm
  | sha
  | ecdsa
  | mldsa
  | mlkem
  | pairwise
  deriving DecidableEq, Repr

/-- What the power-up known-answer tests find (R314): the shared engines, the XTS engines and the port GCM engines that fail alone. -/
structure KatResult where
  shared : Option ErrCause
  xtsFail : BitVec 17
  gcmFail : BitVec 8
  deriving DecidableEq, Repr

/-- What the checks of the flash's data partition find at a start: the HMAC of the User root list fails (R294), and there is no valid policy record (R324). -/
structure FlashCheck where
  rootsBad : Bool
  policyBad : Bool
  deriving DecidableEq, Repr

/-- A wrapped key for Import Slot (R300): the KEM key pair and the slot number it was made for, whether its tag opens under these, and the two keys in it. -/
structure Wrapped where
  kemGen : Nat
  slot : KeyId
  tagOk : Bool
  dataKey : BitVec 256
  tweakKey : BitVec 256
  deriving DecidableEq, Repr

/-- A firmware image (R321). -/
structure FwImage where
  svn : Fin 129
  /-- The vendor-key fuse entry that its two public keys match, if any. -/
  vkey : Option (Fin 4)
  sigsOk : Bool
  hashesOk : Bool
  manifest : BitVec 384
  /-- CLK_MODE of the board profile, where the image gives it. -/
  clkMode : Option (BitVec 2)
  deriving DecidableEq, Repr

/-- JTAG instructions (R320). -/
inductive Jtag where
  | sample
  | extest
  | internal (tokenOk : Bool)
  deriving DecidableEq, Repr

/-- CXL event logs (R469). -/
inductive EventLog where
  | informational
  | warning
  | failure
  | fatal
  | dynamicCapacity
  deriving DecidableEq, Repr

/-- Answers to an Add Capacity offer (R112, R113). -/
inductive OfferAnswer where
  | whole
  | refuse
  | partly
  deriving DecidableEq, Repr

/-- Wake sources by code (R368). -/
inductive WakeSource where
  | hostRequest
  | engineRequest
  | detector
  | perst
  | sideband
  | sentinel
  | cadence
  | policyWrite
  | configWrite
  deriving DecidableEq, Repr

/-- What the stale-state checks of a wake find (R372). -/
structure WakeChecks where
  signatureBad : Bool
  brownout : Bool
  /-- A channel's XTS engine fails the test of its return; XTS_SP fails its own before it is switched in (R314, R372). -/
  engineBad : Bool := false
  spareBad : Bool := false
  deriving DecidableEq, Repr

/-- Causes of a wake timeout (R370). -/
inductive WakeFailCause where
  | power
  | oscillator
  deriving DecidableEq, Repr

/-- Main rails (R459). -/
inductive Rail where
  | core
  | sram
  | serdes
  | serdes12
  | vddq
  | io
  deriving DecidableEq, Repr

/-- One SENSE round's readings (R382, R260, R262). Temperatures are in quarters of a degree. -/
structure Readings where
  /-- TS0 to TS27; `none` where a sensor gives no conversion. -/
  die : List (Option Int)
  /-- For DIMM n = channel × 2 + slot: SPD hub, TS0 and TS1. -/
  dimm : List (Option Int × Option Int × Option Int)
  /-- Rails outside their window. -/
  rails : List Rail
  /-- DIMMs whose PMIC reports a fault, with whether it has shut its rails down. -/
  pmic : List (Fin 32 × Bool)
  /-- Strap balls as they stand. -/
  straps : Straps
  /-- Input current of the last round, 0.1 A; `none` when missing. -/
  iin : Option (BitVec 16)
  vinMv : BitVec 16
  voutMv : BitVec 16
  coolMv : BitVec 16
  /-- Sum of PMIC output power, 0.1 W; `none` when missing. -/
  dramDw : Option Nat
  deriving DecidableEq, Repr

/-- What HSW measures at a gate-off (R406). -/
structure TripMeas where
  peakA : Nat
  limitUs : Nat
  vinMv : Nat
  vsrcMv : Nat
  deriving DecidableEq, Repr

/-- Estimated energy of one period (R375), 0.1 W, before scaling: device and DRAM, foreground and total. -/
structure PowerEst where
  fgDev : Nat
  fgDram : Nat
  totDev : Nat
  totDram : Nat
  deriving DecidableEq, Repr

/-- A Pannier record as a block raises it (R423). -/
structure PanSrc where
  domain : DomainId
  unit : BitVec 8
  kind : BitVec 4
  event : BitVec 12
  sev : Fin 4
  addr : BitVec 64
  addrKind : Fin 5
  regOff : BitVec 32
  detail : List Byte
  deriving DecidableEq, Repr

/-- What a host and its lanes allow at training (R203, R206, R207). -/
structure LinkCap where
  receiver : Bool
  refclk : Bool
  goodLanes : BitVec 16
  /-- Highest rate of the host, as MAX_RATE encodes it. -/
  hostRate : Fin 6
  /-- Equalization at 64 GT/s fails twice. -/
  eq64Fails : Bool
  loflit : Bool
  cxlMem : Bool
  l0p : Bool
  deriving DecidableEq, Repr

/-- S2M credits that the host grants at link-up or in a flit. -/
structure S2mGrant where
  ndr : Nat
  drs : Nat
  bisnp : Nat
  deriving DecidableEq, Repr

/-- The FEC and CRC result of a received flit (R209). -/
inductive FlitCrc where
  | good
  /-- The first half passes and the second fails. -/
  | firstHalf
  | bad
  deriving DecidableEq, Repr

/-- The flow-control kinds of a CXL.io TLP (R216). -/
inductive IoKind where
  | posted
  | nonPosted
  | completion
  deriving DecidableEq, Repr

/-- One slot of a received flit, as the port's link and transaction layers see it. -/
inductive Slot where
  | credits (g : S2mGrant)
  /-- The host acknowledges every flit up to this sequence number. -/
  | ack (seq : Nat)
  /-- A message that a row of its own carries on. -/
  | message
  /-- A slot with a reserved opcode or reserved field values; `req` or `rwd` says whether it took a credit of that channel. -/
  | malformed (req rwd : Bool)
  | notNegotiated
  /-- A CXL.io request of a type the function does not implement. -/
  | ioUnsupported
  /-- A CXL.io write carrying poisoned data to a BAR, with its 16-byte units of data. -/
  | ioPoisoned (data : Fin 257)
  /-- A CXL.io TLP that a row of its own carries on, with its 16-byte units of data (R212, R216). -/
  | ioTlp (kind : IoKind) (data : Fin 257)
  deriving DecidableEq, Repr

/-- A received 256-byte flit: its sequence number, its CRC result and the slots of its halves. -/
structure Flit where
  seq : Nat
  crc : FlitCrc
  fecFixed : Bool
  first : List Slot
  second : List Slot
  deriving DecidableEq, Repr

/-- The BARs of a head (R444). -/
inductive Bar where
  | b0
  | b2
  | b4
  deriving DecidableEq, Repr

/-- Where an access is aimed that has no row of its own (R447): a BAR0 offset, or a CXL-defined register that the spec names without an offset. -/
inductive RegTarget where
  | bar0 (off : BitVec 24)
  /-- The head's counter window, to which writes are discarded (R418). -/
  | bar2 (off : BitVec 20)
  /-- The head's MSI-X table and pending bits (R350, R444). -/
  | bar4 (off : BitVec 13)
  /-- BI Enable in the head's CXL BI Decoder Control (R175). -/
  | biEnable
  /-- Skid or containment mode and the aggregation count in the head's CXL IDE registers (R226). -/
  | ideMode
  /-- The power state of the head's function: D3hot when bit 0 of the value is 1, else D0 (R205). -/
  | powerState
  /-- Any other register of the head's CXL component or memory device ranges. -/
  | cxlOther (off : BitVec 24)
  deriving DecidableEq, Repr

/-- Causes of an MGT restart that no other row gives (R438). -/
inductive RestartCause where
  | sramError
  | brownout
  deriving DecidableEq, Repr

/-- Settings of Set Event Interrupt Policy: a vector per log, where the log signals one (R350, R353). -/
structure EventPolicy where
  informational : Option (Fin 128)
  warning : Option (Fin 128)
  failure : Option (Fin 128)
  fatal : Option (Fin 128)
  dynamicCapacity : Option (Fin 128)
  deriving DecidableEq, Repr

/-- The commands, one per row of spec/opcode_table.json: in the table's order, first those with operands, then those without. -/
inductive Instr where
  /-- MEM_RD (R37): A host CXL.mem read of one line is decoded, given an RTK entry, ordered at its home slice and answered through the stages of a read. -/
  | memRd (h : Head) (hpa : BitVec 52) (tag : BitVec 16) (mv : MetaVal) (snp : SnpType) (f : LookupFault)
  /-- MEM_RD_DATA (R177): A MemRdData in an HDM-DB region snoops an E/M owner with BISnpData and grants S or E/M. -/
  | memRdData (h : Head) (hpa : BitVec 52) (tag : BitVec 16) (f : LookupFault)
  /-- MEM_SPEC_RD (R177): A MemSpecRd orders nothing and only starts a fill if the line misses. -/
  | memSpecRd (h : Head) (hpa : BitVec 52) (tag : BitVec 16)
  /-- MEM_WR (R42): A host MemWr is ordered at its home slice, lands in the near cache and completes with Cmp. -/
  | memWr (h : Head) (hpa : BitVec 52) (tag : BitVec 16) (mv : MetaVal) (data : LineData) (poison : Bool) (f : LookupFault)
  /-- MEM_WR_PTL (R43): A write with byte enables is merged under a byte-valid mask and opens a fill for the rest of the line on a miss. -/
  | memWrPtl (h : Head) (hpa : BitVec 52) (tag : BitVec 16) (mv : MetaVal) (mask : Mask) (data : LineData) (poison : Bool) (f : LookupFault)
  /-- MEM_INV (R177): A MemInv or MemInvNT invalidates other holders and grants E/M or I by its MetaValue. -/
  | memInv (h : Head) (hpa : BitVec 52) (tag : BitVec 16) (nt : Bool) (mv : MetaVal)
  /-- MEM_CLN_EVCT (R177): A MemClnEvct clears the host's presence and completes with Cmp. -/
  | memClnEvct (h : Head) (hpa : BitVec 52) (tag : BitVec 16)
  /-- MEM_RD_FWD (R199): A MemRdFwd is a violation and completes with Cmp and data, granting no state. -/
  | memRdFwd (h : Head) (hpa : BitVec 52) (tag : BitVec 16)
  /-- MEM_WR_FWD (R199): A MemWrFwd is a violation, completes with Cmp and its data is discarded. -/
  | memWrFwd (h : Head) (hpa : BitVec 52) (tag : BitVec 16) (data : LineData)
  /-- BIRSP_I (R181): A BIRspI from a host answers its snoop, clears presence and may let the waiting write land. -/
  | birspI (h : Head) (line : BitVec 40)
  /-- BIRSP_S (R181): A BIRspS answers BISnpCur or BISnpData and leaves the host in S. -/
  | birspS (h : Head) (line : BitVec 40)
  /-- BIRSP_E (R181): A BIRspE answers BISnpCur and leaves the host's state as E. -/
  | birspE (h : Head) (line : BitVec 40)
  /-- BIRSP_I_BLK (R182): A BIRspIBlk answers a block snoop for all lines of its segment. -/
  | birspIBlk (h : Head) (line : BitVec 40)
  /-- BI_CONFLICT (R186): A BIConflict from a host is answered with BIConflictAck before or after the host's own response by order. -/
  | biConflict (h : Head) (line : BitVec 40) (tag : BitVec 16)
  /-- SNOOP_TIMEOUT (R193): An expired snoop timer settles the line by the state the host held, poisoning E/M lines not delivered. -/
  | snoopTimeout (snoop : Nat)
  /-- FILL_DATA_ARRIVAL (R47): Fill data from storage arrives, is merged under the byte-valid mask and answers the reads joined to the fill. -/
  | fillDataArrival (line : BitVec 40) (o : DramOutcome)
  /-- WAITING_REQUEST_SERVED (R46): A request waiting in the per-line list is served in order when the line's earlier request closes. -/
  | waitingRequestServed (line : BitVec 40)
  /-- WAY_FREED_RESUME (R45): A request waiting for a busy set resumes when a way frees. -/
  | wayFreedResume (entry : Nat)
  /-- WRITE_BACK_BUFFER_RESUME (R44): A miss needing a dirty victim resumes when a write-back-buffer line frees. -/
  | writeBackBufferResume (entry : Nat)
  /-- SNOOP_SLOT_RESUME (R182): A request waiting for a snoop slot or BISnp credit resumes when one frees. -/
  | snoopSlotResume (entry : Nat)
  /-- DIRECTORY_SET_RESUME (R189): A request waiting because every way of its directory set is excluded resumes in its place. -/
  | directorySetResume (entry : Nat)
  /-- STRIPE_GUARD_RESUME (R277): An operation waiting for a full stripe guard resumes when an entry clears. -/
  | stripeGuardResume (line : BitVec 40) (run : CodecRun)
  /-- WRITE_BACK (R98): A dirty line leaving the near cache is translated and written into storage by the state it finds. -/
  | writeBack (line : BitVec 40) (run : CodecRun)
  /-- WRITE_BACK_DONE (R274): A write-back completes when both channels have issued their writes, freeing its buffer line. -/
  | writeBackDone (line : BitVec 40)
  /-- POOL_HOLD_TIMEOUT (R118): A write held at FLOOR gets its Cmp after 100 µs while its line stays a pool line. -/
  | poolHoldTimeout (entry : Nat)
  /-- MAP_READ_RETURN (R93): A map-area read for a missed extent or page record returns and fills the XLT cache. -/
  | mapReadReturn (k : MapKey) (primary secondary : MapCopy)
  /-- BITMAP_REBUILD_DONE (R76): A bitmap word rebuilt from its 64 extent records releases the waiting requests. -/
  | bitmapRebuildDone (word : BitVec 19)
  /-- PAGE_COPY_END (R160): At the end of a page copy XLT commits if GEN is unchanged and DSC clear, or retries or discards. -/
  | pageCopyEnd (copy : Nat) (run : CodecRun) (entryLost : Bool)
  /-- HELD_ATTEMPT_TIMEOUT (R161): A held attempt not committed 1 µs after BUSY is abandoned and the shadow restored. -/
  | heldAttemptTimeout (copy : Nat)
  /-- EXTENT_COPY_ROUND_END (R162): At the end of a copy round the extent commits, recopies marked pages, holds, or is abandoned. -/
  | extentCopyRoundEnd (ext : BitVec 25) (page : Fin 512) (run : CodecRun) (entryLost : Bool)
  /-- STRIPE_CLOSE_TIMEOUT (R166): A stripe still open 100 µs after its first frame is closed with unused frames free. -/
  | stripeCloseTimeout (stripe : Nat)
  /-- OFFER_LAPSE (R113): An offer with no response within 60 s lapses and its region stays free. -/
  | offerLapse (h : Head)
  /-- BREACH (R122): A head that misses its release target in time is marked in breach and gets no offers. -/
  | breach (h : Head)
  /-- CANDIDATE_BUILT (R140): MGT finishes building a candidate dictionary, which DEEP then validates and admits or discards. -/
  | candidateBuilt (signature : BitVec 64) (size : Fin 32769) (meanCand meanBest meanNone : Nat)
  /-- DICT_RELOAD_DONE (R145): A dictionary slot reloaded from the map area after a store error releases waiting DEEP reads. -/
  | dictReloadDone (slot : DictId) (bothBad : Bool)
  /-- CHANNEL_TRAINING (R236): Clandahar trains every channel in use at reset, retrying a failing channel once. -/
  | channelTraining (pops : List ChanPop)
  /-- CHANNEL_TRAINED (R238): A channel completes training and reports TRAINED. -/
  | channelTrained (c : Chan)
  /-- REFRESH (R246): A refresh falls due at its tREFI interval and is issued or postponed. -/
  | refresh (c : Chan) (r : RankSet) (commandsWait : Bool)
  /-- ZQ_CALIBRATION (R242): Every 128 ms per DIMM a ZQ calibration is started and latched in a pause. -/
  | zqCalibration (c : Chan) (slot : Fin 2)
  /-- DQS_OSCILLATOR_READOUT (R242): Every 32 ms per rank the DQS oscillator is read and write DQ adjusted if drift exceeds a step. -/
  | dqsOscillatorReadout (c : Chan) (r : RankSet) (drift : Nat)
  /-- READ_DQ_RECENTRE (R242): Every 128 ms per rank and subchannel read DQ is re-centred in a pause. -/
  | readDqRecentre (c : Chan) (r : RankSet) (subB : Bool)
  /-- WRITE_DQ_RECENTRE (R242): Every 512 ms per rank and subchannel write DQ is re-centred in a pause. -/
  | writeDqRecentre (c : Chan) (r : RankSet) (subB : Bool)
  /-- POWER_DOWN_ENTRY (R248): A rank with no command for PD_IDLE enters power-down. -/
  | powerDownEntry (c : Chan) (r : RankSet)
  /-- SELF_REFRESH_ENTRY (R248): A rank with no command for SR_IDLE enters self-refresh. -/
  | selfRefreshEntry (c : Chan) (r : RankSet)
  /-- PARKED_ENTRY (R248): A rank of a released park set with no command for 2 µs enters PARKED. -/
  | parkedEntry (c : Chan) (r : RankSet)
  /-- QUIET_ENTRY (R249): A channel whose ranks have all slept for QUIET_IDLE enters QUIET. -/
  | quietEntry (c : Chan)
  /-- RANK_WAKE (R248): A command queued for a sleeping rank wakes it, and the PHY first if the channel is QUIET. -/
  | rankWake (c : Chan) (r : RankSet)
  /-- ALERT_N (R252): On ALERT_n the subchannel waits, issues PREA and replays its retry buffer. -/
  | alertN (c : Chan) (subB : Bool)
  /-- CHANNEL_B3_TIMEOUT (R247): A guarded channel in B3 for 2 s or above 105 °C is put into FAILED. -/
  | channelB3Timeout (c : Chan)
  /-- ECS_READOUT (R255): Every 24 h the channel reads each rank's ECS counts and offers them as repair candidates. -/
  | ecsReadout (c : Chan) (d : DevRow) (count : Nat)
  /-- SOFT_PPR (R256): A repair candidate is repaired with sPPR and its row rewritten. -/
  | softPpr (c : Chan) (resource : Bool)
  /-- CHANNEL_NO_DATA_TIMEOUT (R280): No read data returned for 10 µs with reads outstanding puts the channel in FAILED. -/
  | channelNoDataTimeout (c : Chan)
  /-- CHANNEL_RETURN (R281): A FAILED channel whose cause has cleared is retrained for return. -/
  | channelReturn (c : Chan)
  /-- RESYNCHRONIZATION_DONE (R282): The resynchronization cursor passes the last position and the channel is re-admitted for reads. -/
  | resynchronizationDone (c : Chan)
  /-- TRIMMER_READ (R286): The Trimmer reads a line and rewrites, fixes or records it as lost. -/
  | trimmerRead (sa : BitVec 44) (c : Chan) (found : TrimFinding)
  /-- SPDM_SESSION (R294): An operator opens an SPDM secured session with mutual authentication and assumes a role. -/
  | spdmSession (w : Via) (root : Option (BitVec 384))
  /-- SESSION_END (R296): A session ends and its role ends once accepted services finish. -/
  | sessionEnd (w : Via)
  /-- SHOW_STATUS (R295): Returns CRY_STATUS, the firmware version and SVN and the approved-mode indicator. -/
  | showStatus (w : Via)
  /-- GET_CERTIFICATE (R295): SPDM GET_CERTIFICATE returns the device's certificate chain. -/
  | getCertificate (w : Via)
  /-- CHALLENGE (R295): SPDM CHALLENGE attests the device's identity. -/
  | challenge (w : Via) (nonce : BitVec 256)
  /-- GET_MEASUREMENTS (R323): SPDM GET_MEASUREMENTS reports the image hash, SVN and fuse state. -/
  | getMeasurements (w : Via)
  /-- GET_KEM_KEY (R295): Returns the current ML-KEM-1024 public key signed with both identity keys. -/
  | getKemKey (w : Via)
  /-- GENERATE_SLOT (R299): Fills an EMPTY key slot from the DRBG and makes it ACTIVE once all shadows acknowledge. -/
  | generateSlot (w : Via) (slot : KeyId)
  /-- IMPORT_SLOT (R300): Unwraps a key delivered under ML-KEM into an EMPTY slot. -/
  | importSlot (w : Via) (slot : KeyId) (k : Wrapped)
  /-- RETIRE_SLOT (R299): Makes an ACTIVE slot RETIRING unless a region names it. -/
  | retireSlot (w : Via) (slot : KeyId)
  /-- DESTROY_SLOT (R303): Zeroizes a slot in the store and all shadows unless its counts are above zero. -/
  | destroySlot (w : Via) (slot : KeyId)
  /-- SET_USER_ROOTS (R294): The CO writes the User root list to flash. -/
  | setUserRoots (w : Via) (roots : List (BitVec 384))
  /-- SET_IDE_POLICY (R324): The CO sets IDE_ANY_SESSION and stores it in flash. -/
  | setIdePolicy (w : Via) (anySession : Bool)
  /-- SELF_TEST (R314): The CO runs the power-up known-answer tests on demand. -/
  | selfTest (w : Via) (r : KatResult)
  /-- ADVANCE_SVN (R322): Burns the fuse SVN up to the running image's SVN unless an update is pending. -/
  | advanceSvn (w : Via)
  /-- ZEROIZE_ALL (R319): Overwrites every key and DRBG state, writes a pinned record and performs a device reset. -/
  | zeroizeAll (w : Via)
  /-- KEY_PROG (R309): IDE_KM KEY_PROG loads an IDE key of the head inside a secured session. -/
  | keyProg (h : Head) (st : IdeStream) (rx : Bool) (k1 : Bool) (key : BitVec 256)
  /-- K_SET_GO (R310): K_SET_GO switches an IDE direction to the named key set at the next flit boundary. -/
  | kSetGo (h : Head) (st : IdeStream) (rx : Bool) (k1 : Bool)
  /-- IDE_MAC_FAIL (R227): A failed received MAC sets both streams Insecure and takes the link down. -/
  | ideMacFail (h : Head)
  /-- DRBG_RESEED (R313): The DRBG reseeds after 2^20 requests or 60 s. -/
  | drbgReseed (healthFail : Bool)
  /-- XTS_PERIODIC_TEST (R314): Each XTS engine runs its known-answer test once per second in an idle gap. -/
  | xtsPeriodicTest (engine : Fin 17) (pass : Bool) (spareOk : Bool)
  /-- XTS_ENGINE_FAIL (R316): A failed XTS engine is taken out of service and XTS_SP switched into its channel. -/
  | xtsEngineFail (engine : Fin 17) (periodic : Bool) (spareOk : Bool)
  /-- JTAG_INSTRUCTION (R320): An internal-state JTAG instruction acts only after Zeroize All and an unlock token. -/
  | jtagInstruction (ji : Jtag)
  /-- PLDM_FIRMWARE_UPDATE (R322): A PLDM update writes and verifies the inactive image slot and sets PENDING. -/
  | pldmFirmwareUpdate (img : FwImage)
  /-- RING_WINDOW_ENABLE (R325): A write of EN 1 to CMD_WINh checks and fixes the head's ring window. -/
  | ringWindowEnable (w : Via) (h : Head) (base : BitVec 25)
  /-- RING_WINDOW_DISABLE (R325): A write of EN 0 to CMD_WINh disables the window only while no ring is enabled. -/
  | ringWindowDisable (w : Via) (h : Head)
  /-- SQ_ENABLE (R328): A write of EN 1 to CMD_SQr checks the ring and zeroes its counts. -/
  | sqEnable (w : Via) (r : Ring) (v : BitVec 31)
  /-- SQ_DISABLE (R328): A write of EN 0 to CMD_SQr disables the submission ring. -/
  | sqDisable (w : Via) (r : Ring)
  /-- CQ_ENABLE (R328): A write of EN 1 to CMD_CQr checks the ring and zeroes its counts. -/
  | cqEnable (w : Via) (r : Ring) (v : BitVec 31)
  /-- CQ_DISABLE (R330): A write of EN 0 to CMD_CQr is discarded while the CQ holds completions or is named. -/
  | cqDisable (w : Via) (r : Ring)
  /-- SQ_DOORBELL (R329): A producer count passed from an SQ doorbell makes descriptors due, is ignored, or overruns. -/
  | sqDoorbell (r : Ring)
  /-- CQ_DOORBELL (R330): A consumer count passed from a CQ doorbell frees room in the completion ring. -/
  | cqDoorbell (r : Ring)
  /-- COMPLETION_WRITE (R334): CMD writes a completion entry whole, or holds it until the CQ has room. -/
  | completionWrite (cmd : Nat)
  /-- NOP (R341): Completes with RESULT 0. -/
  | nop (cmd : Nat)
  /-- ZERO_RANGE (R341): Commits each page of the range to ZERO. -/
  | zeroRange (cmd : Nat)
  /-- CLONE_RANGE (R342): Commits each destination page to share the source contents. -/
  | cloneRange (cmd : Nat)
  /-- PIN_RANGE (R343): Pins each extent or page record of the range. -/
  | pinRange (cmd : Nat)
  /-- UNPIN_RANGE (R164): Sets PIN to none in each record of the range. -/
  | unpinRange (cmd : Nat)
  /-- HINT_RANGE (R165): Sets HEAT of the range HOT, COLD or NEUTRAL and offers candidates. -/
  | hintRange (cmd : Nat)
  /-- REKEY_RANGE (R308): Moves each extent to a destination key slot by an extent copy. -/
  | rekeyRange (cmd : Nat)
  /-- RELEASE_RANGE (R341): Commits each extent of the range to UNTOUCHED. -/
  | releaseRange (cmd : Nat)
  /-- RESERVE (R344): Stores each page of the range OPEN and pinned keep-open so write-backs need no frames. -/
  | reserve (cmd : Nat)
  /-- QUERY_RANGE (R345): Writes header, extent and page entries describing the range to the output buffer. -/
  | queryRange (cmd : Nat)
  /-- SANITIZE (R348): Commits each extent to UNTOUCHED, overwrites freed frames and optionally destroys keys. -/
  | sanitize (cmd : Nat)
  /-- ABORT (R349): Sets the abort flag on a running command with the given SQ and TAG. -/
  | abort (cmd : Nat)
  /-- FENCE (R337): Holds later commands of its scope until earlier ones complete, then completes. -/
  | fence (cmd : Nat)
  /-- SNAPSHOT_COUNTERS (R346): Latches selected counter groups in one cycle and writes them to the output buffer. -/
  | snapshotCounters (cmd : Nat)
  /-- DICT_RETIRE (R346): DICT_CONTROL action 1 makes an ACTIVE dictionary slot RETIRING. -/
  | dictRetire (cmd : Nat)
  /-- DICT_HOLD_TRAINING (R346): DICT_CONTROL action 2 holds dictionary training. -/
  | dictHoldTraining (cmd : Nat)
  /-- DICT_END_HOLD (R346): DICT_CONTROL action 3 ends the training hold. -/
  | dictEndHold (cmd : Nat)
  /-- DICT_RUN_ROUND (R346): DICT_CONTROL action 4 runs the next training round on pages of a given range. -/
  | dictRunRound (cmd : Nat)
  /-- SET_POLICY_CAPACITY_CONTRACT (R347): SET_POLICY kind 0x01 accepts or withdraws the pressure contract for the head. -/
  | setPolicyCapacityContract (cmd : Nat)
  /-- SET_POLICY_REGISTER (R347): SET_POLICY kind 0x02 applies up to three masked RWL register writes as if unlocked. -/
  | setPolicyRegister (cmd : Nat)
  /-- BAD_OPCODE (R341): A descriptor with an unknown opcode completes with BAD_OPCODE. -/
  | badOpcode (cmd : Nat)
  /-- INTERRUPT_MODERATION_TIMEOUT (R350): MOD_TIME after the oldest unsignalled completion the CQ's vector is sent. -/
  | interruptModerationTimeout (r : Ring)
  /-- IDENTIFY (R353): Mailbox Identify returns device identity. -/
  | identify (h : Head)
  /-- BACKGROUND_OPERATION_STATUS (R353): Mailbox command reports the state of the background operation. -/
  | backgroundOperationStatus (h : Head)
  /-- GET_EVENT_RECORDS (R35): Returns event records from a CXL event log. -/
  | getEventRecords (h : Head) (log : EventLog)
  /-- CLEAR_EVENT_RECORDS (R353): Clears event records from a CXL event log. -/
  | clearEventRecords (h : Head) (log : EventLog) (handles : Option (List Nat))
  /-- GET_EVENT_INTERRUPT_POLICY (R353): Returns the event interrupt policy. -/
  | getEventInterruptPolicy (h : Head)
  /-- SET_EVENT_INTERRUPT_POLICY (R353): Sets the event interrupt policy. -/
  | setEventInterruptPolicy (h : Head) (p : EventPolicy)
  /-- GET_FW_INFO (R353): Reports firmware slots A and B. -/
  | getFwInfo (h : Head)
  /-- GET_TIMESTAMP (R353): Returns the current TB value. -/
  | getTimestamp (h : Head)
  /-- SET_TIMESTAMP (R36): Loads TB from the owner head or sideband and writes a Pannier record of the change. -/
  | setTimestamp (w : Via) (v : BitVec 64)
  /-- GET_SUPPORTED_LOGS (R353): Lists the Command Effects Log. -/
  | getSupportedLogs (h : Head)
  /-- GET_LOG (R353): Returns the Command Effects Log. -/
  | getLog (h : Head)
  /-- IDENTIFY_MEMORY_DEVICE (R353): Reports volatile capacity, LSA size 0 and the poison list size. -/
  | identifyMemoryDevice (h : Head)
  /-- GET_PARTITION_INFO (R353): Reports all capacity as volatile. -/
  | getPartitionInfo (h : Head)
  /-- GET_HEALTH_INFO (R353): Returns device health information. -/
  | getHealthInfo (h : Head)
  /-- GET_ALERT_CONFIGURATION (R353): Returns the alert configuration. -/
  | getAlertConfiguration (h : Head)
  /-- SET_ALERT_CONFIGURATION (R353): Sets the alert configuration. -/
  | setAlertConfiguration (h : Head) (cfg : BitVec 96)
  /-- GET_POISON_LIST (R353): Returns lines reported in General Media records for DPAs the head maps. -/
  | getPoisonList (h : Head)
  /-- INJECT_POISON (R353): Writes a 64-byte poisoned line, ordered as a host write. -/
  | injectPoison (h : Head) (hdpa : BitVec 46)
  /-- CLEAR_POISON (R353): Writes the given 64 bytes as a full-line write, clearing poison. -/
  | clearPoison (h : Head) (hdpa : BitVec 46) (data : LineData)
  /-- GET_DYNAMIC_CAPACITY_CONFIGURATION (R353): Reports the eight Dynamic Capacity regions with 64 GiB blocks. -/
  | getDynamicCapacityConfiguration (h : Head)
  /-- GET_DYNAMIC_CAPACITY_EXTENT_LIST (R353): Returns the head's Dynamic Capacity extents. -/
  | getDynamicCapacityExtentList (h : Head)
  /-- ADD_DYNAMIC_CAPACITY_RESPONSE (R112): The host accepts or refuses an offered extent and the region entry is written. -/
  | addDynamicCapacityResponse (h : Head) (a : OfferAnswer)
  /-- RELEASE_DYNAMIC_CAPACITY (R115): Releases whole elastic extents, committing each to UNTOUCHED and removing the region. -/
  | releaseDynamicCapacity (h : Head) (ranges : List (BitVec 46 × BitVec 46))
  /-- EXECUTE_DESCRIPTOR (R354): Runs one ring descriptor through the mailbox and returns its completion. -/
  | executeDescriptor (h : Head) (d : BitVec 512)
  /-- MAILBOX_UNSUPPORTED (R353): Any other mailbox command completes with return code Unsupported. -/
  | mailboxUnsupported (h : Head) (opcode : BitVec 16)
  /-- DOMAIN_ENTRY_REQUEST (R362): Kickstand asks a domain to enter RET or OFF and sends stop requests to its participants. -/
  | domainEntryRequest (d : DomainId) (off : Bool) (byCadence : Bool)
  /-- IDLE_POLICY_TIMEOUT (R358): A domain idle for its PWR_IDLE time is asked to enter RET or OFF. -/
  | idlePolicyTimeout (d : DomainId)
  /-- PARTICIPANT_STOPPED (R362): A participant answers stopped, and the last answer triggers the commit checks and isolation. -/
  | participantStopped (d : DomainId) (unit : Nat)
  /-- PARTICIPANT_REFUSE (R363): A participant refuses an entry and Kickstand rolls back. -/
  | participantRefuse (d : DomainId) (unit : Nat) (code : Fin 16)
  /-- STOP_TIMEOUT (R363): A participant not answering within STOP_TMO causes refusal NO_ANSWER and rollback. -/
  | stopTimeout (d : DomainId)
  /-- DOMAIN_STATE_REACHED (R362): Bias and supply settle and the domain reaches RET or OFF. -/
  | domainStateReached (d : DomainId)
  /-- DOMAIN_WAKE (R366): A wake source latches and the domain is powered, restored, checked and its latch replayed. -/
  | domainWake (d : DomainId) (src : WakeSource) (chk : WakeChecks)
  /-- WAKE_TIMEOUT (R370): A wake step not reported in time is retried once, then declared a wake failure. -/
  | wakeTimeout (d : DomainId) (cause : WakeFailCause)
  /-- WAKE_DETECTOR_PERIOD (R361): A port wake detector runs receiver detection every DET_PERIOD and sets the wake latch on a change. -/
  | wakeDetectorPeriod (p : Head) (present : Bool)
  /-- CADENCE_PERIOD (R374): Every 100 µs Cadence reads its inputs, grants energy tokens and sets the host stage. -/
  | cadencePeriod (est : PowerEst)
  /-- SENSE_ROUND (R382): Every 10 ms SENSE reads die, DIMM, rail and current sensors and publishes the results. -/
  | senseRound (r : Readings)
  /-- THERMTRIP (R386): A crossing into D3 asserts THERMTRIP_n, writes a pinned record and turns the gate off. -/
  | thermtrip (temp : Int) (m : TripMeas)
  /-- STANDBY_GOOD (R396): The standby rails come up, Kickstand leaves reset and AON registers take reset values. -/
  | standbyGood (coolMv : Nat) (straps : Straps)
  /-- STANDBY_LOSS (R428): VDD_AON18 falls below 1.70 V and BBX_HOLD carries Kickstand to finish records. -/
  | standbyLoss (holdOk : Bool)
  /-- GATE_TURN_ON (R397): When the turn-on conditions have held for 20 ms HSW turns the gate on and ramps the output. -/
  | gateTurnOn (vinMv : Nat)
  /-- FAULT_TIMER_EXPIRY (R401): The fault timer reaches FAULT_MS and HSW trips with cause LIMIT. -/
  | faultTimerExpiry (m : TripMeas)
  /-- FAST_TRIP (R402): Sense voltage at twice the limit trips HSW with cause FAST. -/
  | fastTrip (m : TripMeas)
  /-- SHORT_TIMEOUT (R403): The output not past 2 V within 2 ms of gate-on trips with cause SHORT. -/
  | shortTimeout (m : TripMeas)
  /-- RAMP_TIMEOUT (R403): Power not good within 30 ms of gate-on trips with cause RAMP. -/
  | rampTimeout (m : TripMeas)
  /-- FET_FAULT (R404): Drain-source voltage high or gate-source low for 1 ms trips with cause FET. -/
  | fetFault (m : TripMeas)
  /-- UNDERVOLTAGE (R405): HSW_VIN below 10.0 V for 10 µs turns the gate off as UV. -/
  | undervoltage (m : TripMeas)
  /-- OVERVOLTAGE (R405): HSW_VIN above 14.0 V for 10 µs turns the gate off as OV. -/
  | overvoltage (m : TripMeas)
  /-- HSW_EN_RELEASE (R405): HSW_EN_n high for 1 µs turns the gate off as EN. -/
  | hswEnRelease (m : TripMeas)
  /-- CYCLE (R411): A write of CYCLE turns the gate off, waits 1 s and turns it on again. -/
  | cycle (w : Via) (m : TripMeas)
  /-- UNLATCH (R409): A write of UNLATCH releases a latch-off. -/
  | unlatch (w : Via)
  /-- PANNIER_RECORD_RAISE (R424): A block raises a record, which enters the Kickstand queue against a write token or is dropped. -/
  | pannierRecordRaise (r : PanSrc)
  /-- PANNIER_SLOT_FETCH (R430): A write of BBX_RD_CTL fetches a slot into the read context's buffer. -/
  | pannierSlotFetch (w : Via) (pinned : Bool) (slot : BitVec 16)
  /-- PANNIER_READ_DATA (R430): A read of BBX_RD_DATA returns the next 4 bytes and advances the pointer. -/
  | pannierReadData (w : Via)
  /-- PIN_CLEAR (R427): A sideband write of PIN_CLEAR erases the pinned array and writes PIN_CLEARED. -/
  | pinClear (w : Via)
  /-- GENERAL_COUNTER_SELECT (R417): A write of PMU_GSELg sets a general counter's source, mode and filter and may clear it. -/
  | generalCounterSelect (w : Via) (g : Fin 64) (v : Word)
  /-- OVF_CLEAR (R421): A write of PMU_OVF_CLR clears one or all OVF bits. -/
  | ovfClear (w : Via) (v : Word)
  /-- PAIRED_LOW_READ (R5): A read of the low half of a paired register latches the high half for that head. The operands give any read access: a BAR, an offset, a number of bytes (R6, R418). -/
  | pairedLowRead (w : Via) (bar : Bar) (off : BitVec 24) (size : Fin 4097)
  /-- SETUP_LOCK (R451): Writing 1 to GEN_SETUP_LOCK locks RWL fields until the next device reset. -/
  | setupLock (w : Via)
  /-- RTK_PARTITION_WRITE (R57): A write of RTK_INT_PART is checked and its new division takes effect as entries free. -/
  | rtkPartitionWrite (w : Via) (v : Word)
  /-- REGISTER_WRITE (R447): A write to a register with no row of its own is accepted, discarded by source, or discarded under the lock. -/
  | registerWrite (w : Via) (t : RegTarget) (size : Fin 4097) (v : BitVec 32768)
  /-- REGION_ENTRY_ENABLE (R174): A write of VALID 1 to a region entry's CTL checks the entry and enables it or rejects it. -/
  | regionEntryEnable (w : Via) (n : Head) (e : Fin 9) (v : Word)
  /-- REGION_ENTRY_REMOVE (R176): A write of VALID 0 removes an HDM-H entry at once or starts an HDM-DB removal. -/
  | regionEntryRemove (w : Via) (n : Head) (e : Fin 9) (v : Word)
  /-- REGION_REMOVAL_DONE (R176): All snoops of an HDM-DB removal are answered and the entry stops decoding. -/
  | regionRemovalDone (n : Head) (e : Fin 9)
  /-- HDM_DECODER_COMMIT (R67): A committed HDM decoder with an allowed setting decodes, or reports the CXL commit error. -/
  | hdmDecoderCommit (h : Head) (dec : Fin 4) (base : BitVec 52) (size : BitVec 52) (ways : Fin 17) (gran : Nat)
  /-- PORT_BRING_UP (R206): PORTn_PERST_n deasserts and the port trains to L0 with no firmware. -/
  | portBringUp (p : Head) (c : LinkCap)
  /-- LINK_UP (R215): At link-up credit counters restart and first credits are returned, ending any fence after a port reset. -/
  | linkUp (p : Head) (g : S2mGrant) (gcmOk : Bool)
  /-- LINK_DOWN (R223): A link down ends every operation of the head with synthetic completions. -/
  | linkDown (p : Head)
  /-- PORT_RESET (R224): PORTn_PERST_n assertion or a hot reset takes the link down and resets the head's CXL registers. -/
  | portReset (p : Head) (hot : Bool)
  /-- RECOVERY_TIMEOUT (R222): Recovery not back in L0 within 48 ms takes the link down. -/
  | recoveryTimeout (p : Head)
  /-- VIRAL (R222): A received viral indication is handled as link down for that head. -/
  | viral (p : Head)
  /-- FLIT_RECEIVE (R209): A received flit is FEC-corrected, CRC-checked and its slots consumed, or discarded as a duplicate. -/
  | flitReceive (p : Head) (f : Flit)
  /-- NAK (R210): A Nak from the host replays every unacknowledged flit from the oldest. -/
  | nak (p : Head) (seq : Nat)
  /-- REPLAY_TIMER_EXPIRY (R210): Expiry of the replay timer replays unacknowledged flits and may enter Recovery. -/
  | replayTimerExpiry (p : Head)
  /-- CREDIT_RETURN_TIMER (R214): With credits due and no payload the port sends a credit-only flit. -/
  | creditReturnTimer (p : Head)
  /-- S2M_CREDIT_WITHHOLD_TIMEOUT (R217): A host withholding S2M credits for 10 ms causes an event record. -/
  | s2mCreditWithholdTimeout (p : Head)
  /-- LANE_FAILURE (R204): A lane or quad failing in L0 narrows the link through Recovery. -/
  | laneFailure (p : Head) (good : BitVec 16)
  /-- RETRAIN (R220): Writing RETRAIN 1 starts Recovery unless Recovery is in progress. -/
  | retrain (w : Via) (p : Head)
  /-- L0P_HOST_REQUEST (R218): The port grants a host L0p width request except during Recovery or tests. -/
  | l0pHostRequest (p : Head) (rx : Bool) (width : Fin 17)
  /-- L0P_NARROW (R218): After 50 µs of low egress use the port asks to narrow its transmit direction. -/
  | l0pNarrow (p : Head)
  /-- L0P_WIDEN (R218): The port widens its transmit direction when the egress queue backs up or Cadence asks. -/
  | l0pWiden (p : Head) (byCadence : Bool)
  /-- NO_RECEIVER_TIMEOUT (R219): A port with no receiver for 100 ms goes to RET with its wake detector in sentinel mode. -/
  | noReceiverTimeout (p : Head)
  /-- DEVLOAD_INTERVAL (R64): Every 1 µs FAB computes occupancy and added delay and sets each link's DevLoad. -/
  | devloadInterval (delays : List (Option Nat))
  /-- PHY_LOOP (R229): LOOP 0b001 loops each lane inside the SerDes and counts bit errors. -/
  | phyLoop (w : Via) (p : Head) (errors : Nat)
  /-- REMOTE_LOOP_FOLLOWER (R229): LOOP 0b010 enters PCIe Loopback with the host as leader. -/
  | remoteLoopFollower (w : Via) (p : Head)
  /-- REMOTE_LOOP_LEADER (R229): LOOP 0b011 enters PCIe Loopback with the port as leader. -/
  | remoteLoopLeader (w : Via) (p : Head) (errors : Nat)
  /-- PORT_LOOP (R230): LOOP 0b100 answers CXL.mem at the egress DCQ once the RTK partition is empty. -/
  | portLoop (w : Via) (p : Head)
  /-- LOOP_OFF (R230): LOOP returning to 0 sends requests to FAB again and lets the link retrain. -/
  | loopOff (w : Via) (p : Head)
  /-- MAIN_RAIL_FAULT (R462): A main rail beyond a fault limit for 10 µs holds every domain in reset until rails recover. -/
  | mainRailFault (r : Rail) (mv : Nat)
  /-- RAIL_NOT_GOOD_TIMEOUT (R461): A main rail not good 100 ms after HSW_PG writes a Failure Pannier record. -/
  | railNotGoodTimeout (r : Rail)
  /-- REFCLK_LOSS (R464): Loss of a PCIe REFCLK takes that link down. -/
  | refclkLoss (p : Head)
  /-- MGT_RESTART (R438): MGT alone is reset and Clandahar reloaded while the data path runs on. -/
  | mgtRestart (cause : RestartCause)
  /-- SET_ENDPOINT_ID (R440): MCTP Set Endpoint ID assigns the device's EID. -/
  | setEndpointId (eid : BitVec 8)
  /-- PLDM_SENSOR_READ (R442): A PLDM type 2 read returns a numeric, state or counter sensor. -/
  | pldmSensorRead (id : BitVec 16)
  /-- SET_EVENT_RECEIVER (R442): SetEventReceiver enables PlatformEventMessage at state-sensor changes. -/
  | setEventReceiver (eid : Option (BitVec 8))
  /-- FM_SET_RESPONSE_MESSAGE_LIMIT (R443): FM API sets the response message limit. -/
  | fmSetResponseMessageLimit (limit : BitVec 8)
  /-- GET_HEAD_INFO (R443): Reports rate, width and link state per head. -/
  | getHeadInfo (h : Head)
  /-- GET_HOST_DC_REGION_CONFIGURATION (R443): Reports a host's Dynamic Capacity regions. -/
  | getHostDcRegionConfiguration (h : Head)
  /-- GET_DC_REGION_EXTENT_LISTS (R443): Reports the extents of the Dynamic Capacity regions. -/
  | getDcRegionExtentLists (h : Head)
  /-- FM_UNSUPPORTED (R443): Any other FM API command completes with Unsupported. -/
  | fmUnsupported (opcode : BitVec 16)
  /-- READ_REGISTER (R441): Sideband vendor command returns one BAR0 register. -/
  | readRegister (off : BitVec 24)
  /-- WRITE_REGISTER (R441): Sideband vendor command writes one BAR0 register with owner-head rights. -/
  | writeRegister (off : BitVec 24) (v : Word)
  /-- READ_PANNIER_SLOT (R441): Sideband vendor command fetches and returns one Pannier slot. -/
  | readPannierSlot (pinned : Bool) (slot : BitVec 16)
  /-- COMMIT_STEP (R25): A running range command finishes the work of one page or extent and commits it, testing its abort flag, with its completion ordered after its last such step. -/
  | commitStep (cmd : Nat) (run : CodecRun) (entryLost : Bool)
  /-- READY_POINT (R438): The boot ROM has verified and loaded the image and Clandahar reaches its ready point, so paused ring commands resume, held mailbox and sideband work runs and MGT_PAUSE clears. -/
  | readyPoint (imgA imgB : Bool)
  /-- MAIN_RAILS_GOOD (R431): Every main-rail monitor reads good, so Kickstand releases the internal reset of every domain but PD_AON, latches the straps and locks the core and MCLK PLLs. -/
  | mainRailsGood (straps : Straps)
  /-- POWER_UP_KAT_DONE (R314): The power-up known-answer tests end, and CRY either becomes OPERATIONAL or enters the error state. -/
  | powerUpKatDone (r : KatResult) (flash : FlashCheck)
  /-- DEV_RESET_RELEASE (R436): DEV_RESET_n rises after a device reset, and steps 7 to 12 of Cold start run with the straps latched again. -/
  | devResetRelease (straps : Straps)
  /-- ALERT_N_DEASSERT (R252): ALERT_n deasserts, and the subchannel issues PREA and replays its retry buffer. -/
  | alertNDeassert (c : Chan) (subB bufferLost : Bool)
  /-- LINK_RECOVERY (R220): A link enters Recovery at the host's request or on a link error, and later returns to L0 with credits, entries and snoops kept. -/
  | linkRecovery (p : Head) (byHost : Bool) (back : Bool)
  /-- MSI_X_UNMASK (R350): Host software unmasks an MSI-X vector in BAR4 whose pending bit is set, and the vector is sent. -/
  | msiXUnmask (h : Head) (vec : Fin 128)
  /-- REFCLK_RETURN (R465): PCIe REFCLK has been present for 100 µs at a port waiting after PORTn_PERST_n deassertion, and bring-up begins at step 2. -/
  | refclkReturn (p : Head)
  /-- POOL_LINE_WRITE_BACK (R117): Pool lines are written back when frames become free, firm lines first. -/
  | poolLineWriteBack (run : CodecRun)
  /-- HEAT_EVENT (R149): A heat event applied as a C0 message adds to page and extent HEAT of cached records. -/
  | heatEvent
  /-- HEAT_EPOCH (R154): Every second cached HEAT is halved, placement thresholds are adjusted and park sets planned. -/
  | heatEpoch
  /-- COLD_SWEEP_VISIT (R151): The cold sweep visits a record, decays its HEAT, offers it as a candidate and marks its frames seen. -/
  | coldSweepVisit
  /-- SWEEP_LAP_END (R152): At the end of a sweep lap frames live but not seen are freed. -/
  | sweepLapEnd
  /-- PRESSURE_MEASURE (R107): At the end of each cadence period XLT measures free frames and sets the pressure level. -/
  | pressureMeasure
  /-- ELASTIC_OFFER (R112): Once per second at GREEN the device computes the offerable amount and offers an extent to a head. -/
  | elasticOffer
  /-- RELEASE_TARGET (R114): On entry to RED and every second at RED or FLOOR a release target is set for each accepting head. -/
  | releaseTarget
  /-- TRAINING_ROUND (R140): The Derailleur starts a dictionary training round by naming sample pages for a key slot. -/
  | trainingRound
  /-- CANDIDATE_WAIT_TIMEOUT (R141): A candidate waiting 10 min for a FREE slot is discarded. -/
  | candidateWaitTimeout
  /-- MEMORY_READY (R431): Once every channel is TRAINED or FAILED, keys are made, tables initialized, firm capacity computed and READY set. -/
  | memoryReady
  /-- TRIMMER_LAP_END (R289): A completed Trimmer lap records its duration and flags a slow lap. -/
  | trimmerLapEnd
  /-- ENTROPY_HEALTH_FAIL (R312): A failed health test discards the window and reruns the start-up test, or enters the error state. -/
  | entropyHealthFail
  /-- FW_READY_TIMEOUT (R322): A new image that fails to reach its ready point in 10 s is replaced by the previous slot. -/
  | fwReadyTimeout
  /-- DESCRIPTOR_FETCH (R337): CMD fetches a due descriptor in weighted round robin, checks it and starts the command. -/
  | descriptorFetch
  /-- SENTINEL_WAKE (R360): At each SENSE round Kickstand wakes PD_SNS from sentinel mode for the round. -/
  | sentinelWake
  /-- PACE_STEP (R390): Each 1 ms in stage 3 or after release PACE falls or rises by 25 points. -/
  | paceStep
  /-- POWER_GOOD (R400): Gate and drain voltages hold for 100 µs and HSW_PG rises. -/
  | powerGood
  /-- COOL_DOWN_DISCHARGED (R408): The cool-down cell falls below 0.8 V and stops blocking turn-on. -/
  | coolDownDischarged
  /-- RETRY_COUNT_CLEAR (R409): After 10 s of power good the consecutive trip count clears. -/
  | retryCountClear
  /-- SLOT_PROGRAM_DONE (R422): Programming of a Pannier slot completes and the next queued record starts. -/
  | slotProgramDone
  /-- SECTOR_ERASE_DONE (R422): An erase of the next sector ends and paused writes resume. -/
  | sectorEraseDone
  /-- WRITE_TOKEN_REFILL (R426): The write-token bucket gains tokens and a DROPPED record is written after drops. -/
  | writeTokenRefill
  /-- PANNIER_SCAN_DONE (R429): The power-up scan finds the write point, sets EPOCH and writes POWER_UP. -/
  | pannierScanDone
  /-- REGION_CHECK_AFTER_WAKE (R359): Once the directory slices are ON the pending region entry is checked and takes effect or is rejected. -/
  | regionCheckAfterWake
  /-- DEV_RESET (R436): DEV_RESET_n low for 1 µs resets every domain but PD_AON and reruns cold-start steps 7 to 12. -/
  | devReset
  /-- DRAM_REFCLK_LOSS (R464): Loss of DRAM REFCLK puts every channel in FAILED. -/
  | dramRefclkLoss
  /-- XTAL_LOSS (R464): Loss of XTAL lets the PLLs hold frequency and writes a Warning record. -/
  | xtalLoss
  /-- MGT_WATCHDOG (R438): An unrefreshed MGT watchdog after 2 s causes an MGT restart. -/
  | mgtWatchdog
  /-- GET_ENDPOINT_ID (R441): MCTP Get Endpoint ID returns the EID. -/
  | getEndpointId
  /-- GET_MCTP_VERSION_SUPPORT (R441): Returns the supported MCTP versions. -/
  | getMctpVersionSupport
  /-- GET_MESSAGE_TYPE_SUPPORT (R441): Returns the supported MCTP message types. -/
  | getMessageTypeSupport
  /-- GET_ENDPOINT_UUID (R441): Returns the endpoint UUID. -/
  | getEndpointUuid
  /-- ACTIVATE_FIRMWARE (R442): PLDM ActivateFirmware causes an MGT restart into the new image. -/
  | activateFirmware
  /-- FM_IDENTIFY (R443): FM API Identify returns identity. -/
  | fmIdentify
  /-- FM_BACKGROUND_OPERATION_STATUS (R443): FM API reports background operation status. -/
  | fmBackgroundOperationStatus
  /-- FM_GET_RESPONSE_MESSAGE_LIMIT (R443): FM API returns the response message limit. -/
  | fmGetResponseMessageLimit
  /-- GET_MULTI_HEADED_INFO (R443): Reports the heads presented by the straps. -/
  | getMultiHeadedInfo
  /-- GET_DCD_INFO (R443): Reports Dynamic Capacity device information. -/
  | getDcdInfo
  /-- CLEAR_PINNED (R441): Sideband vendor command performs PIN_CLEAR. -/
  | clearPinned
  /-- DEVICE_RESET_COMMAND (R441): Sideband vendor command starts a device reset unless HSW_PG is low. -/
  | deviceResetCommand
  /-- MGT_RESTART_COMMAND (R441): Sideband vendor command starts an MGT restart unless HSW_PG is low. -/
  | mgtRestartCommand
  /-- XTAL_STARTED (R464): The crystal oscillator starts, so TB takes its rate from XTAL without a step and the core and MCLK PLLs take their reference. -/
  | xtalStarted
  deriving DecidableEq, Repr

end Sys2Proof
end

