-- ==== Sys2Proof/Machine/State.lean ====
section
/-! DEFINITION. The state of the GX16 as plain data, its faults and refusals, and the state right after reset. Each field's comment names the rule that gives it and its reset value. -/

namespace Sys2Proof.Machine

/-- Reasons for a stop that the machine itself reports. The GX16 has none: every error is an effect on its state. -/
inductive Fault where
  /-- Raised by no command; it stands for a machine check, which the spec does not give the device. Safe. -/
  | none
  deriving DecidableEq, Repr

/-- Reasons for which a command has no meaning here. -/
inductive Refusal where
  /-- Raised by the arms of exec whose meaning is not written. Safe: the model stops where the device goes on. -/
  | notModelled (mnemonic : String)
  deriving DecidableEq, Repr

/-- The 64 bytes of a line and whether they are poison (R16, R17). -/
structure LineVal where
  data : LineData
  poison : Bool
  deriving DecidableEq, Repr

/-- The line that has never been written (R16). -/
def LineVal.zero : LineVal := ⟨0, false⟩

/-! ## What the device sends -/

/-- States a completion grants (R177). -/
inductive Grant where
  | none
  | s
  | e
  deriving DecidableEq, Repr

/-- Back-invalidate snoops (R181). -/
inductive SnoopOp where
  | cur
  | data
  | inv
  | invBlk
  deriving DecidableEq, Repr

/-- A completion entry (R336). -/
structure Completion where
  tag : BitVec 32
  sqId : BitVec 6
  status : BitVec 8
  result : BitVec 64
  time : BitVec 64
  deriving DecidableEq, Repr

/-- What a restart of MGT is due to (R438; the wake of PD_MGT from OFF, whose reload is an MGT restart). -/
inductive RestartWhy where
  | watchdog
  | sramError
  | brownout
  | activateFirmware
  | vendorCommand
  | wake
  deriving DecidableEq, Repr

/-- Causes of event records and Pannier records that the rules name. -/
inductive Cause where
  | generalMedia
  | poisonCommitted
  | mapLoss
  | dictLost
  | headFenced
  | channelFailed
  | channelB3
  | wakeFailure
  | linkDown
  | linkNarrowed
  | unitOutOfService
  | codecLast
  | deviceMarked
  | secondDevice
  | pmicFault
  | channelSetAside
  | trainFail
  | noChannelSet
  | breach
  | railWindow
  | lapSlow
  | recovered
  | violation
  | unmapped
  | hdmMiss
  | preActive
  | rxOverflow
  | malformed
  | creditsWithheld
  | ringOverrun
  | levelChange
  | offer
  | releaseTarget
  | tagLoss
  | rtkLoss
  | setShrunk
  | strapChange
  | xtalLoss
  | userRootsBad
  | parityFixed
  | lostLine
  | zeroize
  | errorState
  | powerFault
  | thermtrip
  | gateOff
  | railFault
  | railNotGood
  | mgtRestart (why : RestartWhy)
  | tbSet
  | powerUp
  | dropped
  | pinCleared
  | sramError
  deriving DecidableEq, Repr

/-- One CXL event record (R33, R35, R469). -/
structure EventRec where
  head : Head
  log : EventLog
  cause : Cause
  /-- DPA or unit the event concerns. -/
  addr : Nat
  time : BitVec 64
  handle : Nat
  /-- The Scrub flag of R288. -/
  scrub : Bool
  /-- The home slice of the line the record names (R38). -/
  slice : Option (Fin 16)
  deriving DecidableEq, Repr

/-- Answers of services, mailbox and sideband commands. -/
inductive Reply where
  | ok
  | refused (why : String)
  | word (v : Word)
  | quad (v : BitVec 64)
  | bytes (b : List Byte)
  | nats (v : List Nat)
  | line (v : LineData)
  | fwInfo (active : Bool) (svnA svnB : Option (Fin 129)) (pending : Bool)
  | completion (c : Completion)
  | events (l : List EventRec)
  | policy (p : EventPolicy)
  | names (l : List String)
  | numbers (l : List Int)
  /-- A background operation has begun (R354). -/
  | started
  deriving DecidableEq, Repr

/-- One message or pin event that leaves the device. -/
inductive Msg where
  /-- An S2M DRS, with its NDR where a state is granted; `devload` in the CXL encoding (R64). -/
  | data (h : Head) (tag : BitVec 16) (v : LineVal) (g : Grant) (devload : BitVec 2)
  /-- An S2M NDR. -/
  | cmp (h : Head) (tag : BitVec 16) (g : Grant) (devload : BitVec 2)
  | biConflictAck (h : Head) (tag : BitVec 16) (devload : BitVec 2)
  | snoop (h : Head) (op : SnoopOp) (line : Nat)
  | msix (h : Head) (vec : Nat)
  | ack (p : Head) (seq : Nat)
  | nak (p : Head) (seq : Nat)
  /-- A flit enters the replay buffer with these credit increments (R213). -/
  | flit (p : Head) (seq reqInc rwdInc : Nat)
  | replay (p : Head) (seq reqInc rwdInc : Nat)
  | l0pRequest (p : Head) (width : Nat)
  | l0pAck (p : Head) (rx : Bool) (width : Nat)
  | unsupportedRequest (p : Head)
  /-- CXL.io credits advertised so far: Posted headers and data, Non-Posted headers and data (R216). -/
  | ioCredits (p : Head) (ph pd nph npd : Nat)
  | mailbox (h : Head) (r : Reply)
  | service (w : Via) (r : Reply) (approved : Bool)
  | ideError (h : Head)
  | ideAck (h : Head)
  | sideband (r : Reply)
  | notReady
  | nack
  | platformEvent (sensor : Nat) (value : Nat)
  | register (w : Via) (off : Nat) (v : Word)
  | readData (w : Via) (bar : Bar) (off : Nat) (data : List Byte)
  | jtagData
  deriving DecidableEq, Repr

/-! ## Message classes (R59, R61) -/

/-- The classes of messages in FAB and at the ports, lowest first (R59). -/
inductive MsgClass where
  | background
  | request
  | snoop
  | response
  | data
  deriving DecidableEq, Repr

/-! ## Ports and links -/

/-- Link training states (PRTn_LINK_STATUS.LTSSM). -/
inductive Ltssm where
  | detect
  | polling
  | configuration
  | l0
  | recovery
  | loopback
  | hotReset
  | disabled
  deriving DecidableEq, Repr

/-- An HDM decoder (R67). -/
structure HdmDecoder where
  committed : Bool
  error : Bool
  base : Nat
  size : Nat
  ways : Nat
  gran : Nat
  deriving DecidableEq, Repr

/-- A sent flit held for replay (R210, R213): its credit increments, or the message it carries, and the key it was encrypted under (R225). -/
structure TxFlit where
  seq : Nat
  reqInc : Nat
  rwdInc : Nat
  replays : Nat
  msg : Option Msg
  key : Option (BitVec 256)
  deriving DecidableEq, Repr

/-- CXL.io credits that received TLPs have used since the link came up (R216). -/
structure IoCredits where
  ph : Nat
  pd : Nat
  nph : Nat
  npd : Nat
  deriving DecidableEq, Repr

/-- One IDE stream direction: the two key sets, which one is in use, and the sessions' roles (R309, R310, R324). -/
structure IdeDir where
  /-- A key, and whether it was loaded in a session that held no role. -/
  k0 : Option (BitVec 256 × Bool)
  k1 : Option (BitVec 256 × Bool)
  useK1 : Bool
  go : Bool
  deriving DecidableEq, Repr

def IdeDir.clear : IdeDir := ⟨none, none, false, false⟩

/-- A background operation of a mailbox (R354). -/
structure Background where
  running : Bool
  cmd : Nat
  ret : Nat
  deriving DecidableEq, Repr

/-- An elastic offer: the head's region entry, the HDPA and DPA base and size of its extent in 2 MiB units, and when it was made (R112). -/
structure Offer where
  e : Fin 9
  hbase : Nat
  dbase : Nat
  size : Nat
  made : Nat
  deriving DecidableEq, Repr

/-- One port engine and the head that bears its number. -/
structure Port where
  /-- PORTn_PERST_n is asserted (R222). Reset: true. -/
  perst : Bool
  /-- A receiver is present at the last detection (R361). Reset: false. -/
  receiver : Bool
  /-- PCIe REFCLK is present (R465). Reset: false. -/
  refclk : Bool
  /-- Bring-up waits for REFCLK or for step 7 (R432, R465). Reset: none. -/
  waiting : Option LinkCap
  /-- What the host and the lanes allowed at the last bring-up, for the trainings that follow it with PORTn_PERST_n deasserted (R203, R206, R222). Reset: none. -/
  cap : Option LinkCap
  /-- LTSSM major state (R206). Reset: detect. -/
  ltssm : Ltssm
  /-- DL_Up (R206 step 4). Reset: false. -/
  up : Bool
  /-- CXL.mem is negotiated (R206). Reset: false. -/
  mem : Bool
  /-- The credits of R215 have been returned and CXL.mem runs. Reset: false. -/
  active : Bool
  /-- 256-byte flit mode, latency-optimized flits (R205). Reset: false. -/
  flit256 : Bool
  loflit : Bool
  /-- Current rate, as MAX_RATE encodes it; trained width; current widths per direction under L0p, lanes (R203, R218). Reset: 0. -/
  rate : Nat
  width : Nat
  txWidth : Nat
  rxWidth : Nat
  /-- SRIS is in use (CLK_MODE). Reset: false. -/
  sris : Bool
  /-- Lanes that have not failed (R204). Reset: all. -/
  goodLanes : BitVec 16
  /-- The host advertises L0p; when L0p may be asked again (R218, R220). Reset: false, 0. -/
  l0pHost : Bool
  l0pAfter : Nat
  /-- The port is held in Detect (R318, R371) or OFF after a wake failure (R370). Reset: false. -/
  held : Bool
  /-- A port reset has happened since the last link-up (R196). Reset: false. -/
  resetSeen : Bool
  /-- Memory_Active of the head (R208). Reset: false. -/
  memActive : Bool
  /-- BI Enable (R175). Reset: false. -/
  biEnable : Bool
  /-- Containment mode and aggregation count of IDE (R226). Reset: false, 1. -/
  ideContain : Bool
  ideAgg : Nat
  /-- The head's HDM decoders by number (R67). Reset: none committed. -/
  hdm : Tbl HdmDecoder
  /-- Other CXL-defined registers of the head, by offset in BAR0 (R445). Reset: zero. -/
  cxlRegs : Tbl Word
  /-- Address and data words of the MSI-X table, by offset in BAR4 (R350, R444). Reset: zero. -/
  msixWords : Tbl Word
  /-- CXL RAS: Receiver Overflow, IDE error, malformed message, Poisoned TLP Received, Unsupported Request reported (R227, R228). Reset: false. -/
  rasOverflow : Bool
  rasIde : Bool
  rasMalformed : Bool
  aerPoisoned : Bool
  aerUnsupported : Bool
  /-- Credits the host holds, as the port counts them (PRTn_CRD_STATUS, R54). Reset: 0. -/
  reqHost : Nat
  rwdHost : Nat
  /-- CRD_FREED and CRD_SENT of each channel (R213), 32 bits. Reset: 0. -/
  freedReq : Word
  sentReq : Word
  freedRwd : Word
  sentRwd : Word
  /-- Increments placed in the current microsecond, for pacing (R390). Reset: 0. -/
  paceUsed : Nat
  paceUs : Nat
  /-- S2M credits the host has granted (R217). Reset: 0. -/
  ndr : Nat
  drs : Nat
  bisnp : Nat
  /-- BIConflictAcks that wait for an NDR credit (R187, R217). Reset: none. -/
  acks : List (BitVec 16)
  /-- Entries whose responses wait for an S2M credit, in the order in which they became ready (R48). Reset: none. -/
  ready : List Nat
  /-- Next sequence number to receive; the flit whose first half was consumed (R209, R211). Reset: 0, none. -/
  rxSeq : Nat
  halfDone : Option Nat
  /-- Next sequence number to send; the replay buffer, oldest first (R210). Reset: 0, empty. -/
  txSeq : Nat
  replay : List TxFlit
  /-- A replay goes on at the return to L0 (R210). Reset: false. -/
  replayDue : Bool
  /-- Cumulative CXL.io credits (R216). Reset: 0. -/
  io : IoCredits
  /-- Equalization at 64 GT/s has failed since the last port reset (R207). Reset: false. -/
  eqFailed : Bool
  /-- The function is in D3hot (R205). Reset: false. -/
  d3hot : Bool
  /-- Slots of an aggregation whose MAC has not come, and its flits so far, in containment mode (R226, R227). Reset: none, 0. -/
  ideHeld : List Slot
  ideFlits : Nat
  /-- K_SET_GO switches that wait for the first flit after L0: stream, receive direction, K1 (R220, R310). Reset: none. -/
  goDue : List (IdeStream × Bool × Bool)
  /-- The four IDE stream directions: io tx, io rx, cachemem tx, cachemem rx (R309). Reset: no keys. -/
  ioTx : IdeDir
  ioRx : IdeDir
  cmTx : IdeDir
  cmRx : IdeDir
  /-- The port's GCM engine has passed its test since the last link-up, or failed it (R310). Reset: none. -/
  gcm : Option Bool
  /-- The current DevLoad level, its count of lower intervals, and the peak occupancy of the interval (R64, R65). Reset: 0. -/
  devload : BitVec 2
  dlBelow : Nat
  occPeak : Nat
  /-- The loop in effect waits for an empty partition (R230). Reset: false. -/
  loopWait : Bool
  /-- MSI-X masks and pending bits (R350), interrupts held while the link is down (R352). Reset: masks all set (CXL and PCIe: DESIGN CHOICE, LOG 8), pending clear. -/
  msixMask : BitVec 128
  msixPend : BitVec 128
  /-- Event interrupt policy, alert configuration (R353). Reset: no vector, 0. -/
  evtPolicy : EventPolicy
  alertCfg : BitVec 96
  /-- Background operation and held mailbox result (R223, R354). Reset: none. -/
  bg : Option Background
  mbxHeld : Option Reply
  /-- Elastic maximum in 64 GiB units and whether the contract is accepted (R109). Reset: 0, false. -/
  elasticMax : Nat
  accepted : Bool
  /-- The pending offer (R112). Reset: none. -/
  offer : Option Offer
  /-- Release target in frames, when set, frames freed toward it (R114). Reset: 0. -/
  target : Nat
  targetAt : Nat
  freedTo : Nat
  /-- Time of the last event record of each kind in the current second, for the records written once per second (R70, R199, R228). Reset: empty. -/
  lastEvt : Tbl Nat
  deriving DecidableEq, Repr

/-- A port right after reset (R206): in Detect, with nothing programmed. -/
def Port.reset : Port where
  perst := true
  receiver := false
  refclk := false
  waiting := none
  cap := none
  ltssm := .detect
  up := false
  mem := false
  active := false
  flit256 := false
  loflit := false
  rate := 0
  width := 0
  txWidth := 0
  rxWidth := 0
  sris := false
  goodLanes := BitVec.allOnes 16
  l0pHost := false
  l0pAfter := 0
  held := false
  resetSeen := false
  memActive := false
  biEnable := false
  ideContain := false
  ideAgg := 1
  hdm := []
  cxlRegs := []
  msixWords := []
  rasOverflow := false
  rasIde := false
  rasMalformed := false
  aerPoisoned := false
  aerUnsupported := false
  reqHost := 0
  rwdHost := 0
  freedReq := 0
  sentReq := 0
  freedRwd := 0
  sentRwd := 0
  paceUsed := 0
  paceUs := 0
  ndr := 0
  drs := 0
  bisnp := 0
  acks := []
  ready := []
  rxSeq := 0
  halfDone := none
  txSeq := 0
  replay := []
  replayDue := false
  io := ⟨0, 0, 0, 0⟩
  eqFailed := false
  d3hot := false
  ideHeld := []
  ideFlits := 0
  goDue := []
  ioTx := .clear
  ioRx := .clear
  cmTx := .clear
  cmRx := .clear
  gcm := none
  devload := 0
  dlBelow := 0
  occPeak := 0
  loopWait := false
  msixMask := BitVec.allOnes 128
  msixPend := 0
  evtPolicy := ⟨none, none, none, none, none⟩
  alertCfg := 0
  bg := none
  mbxHeld := none
  elasticMax := 0
  accepted := false
  offer := none
  target := 0
  targetAt := 0
  freedTo := 0
  lastEvt := []

/-! ## The request tracker -/

/-- Credit channels (R54); `inner`: an access of MGT to device memory for a mailbox command, which takes no host credit (R56, R353). -/
inductive CreditChan where
  | req
  | rwd
  | inner
  deriving DecidableEq, Repr

/-- Host operations that hold an RTK entry. -/
inductive ReqOp where
  /-- MemRd with the state it asks for. -/
  | rd (want : MetaVal)
  | rdData
  | specRd
  | wr (keep : MetaVal)
  | inv (want : MetaVal)
  | clnEvct
  | rdFwd
  | wrFwd
  deriving DecidableEq, Repr

/-- Where an RTK entry stands. -/
inductive Phase where
  /-- Behind an earlier open request of its line (R46). -/
  | line
  /-- All ways of its set are busy (R45). -/
  | way
  /-- The slice's write-back buffer is full (R44). -/
  | wbb
  /-- Snoops are outstanding for it (R41, R42). -/
  | snoops
  /-- No snoop slot is free (R182). -/
  | slot
  /-- Every way of its directory set is excluded, or its victim is being evicted (R188, R189). -/
  | dirSet
  /-- Its fill is open (R43, R47). -/
  | fill
  /-- A map-area read is outstanding (R93). -/
  | map (k : MapKey)
  /-- Its bitmap word is being rebuilt (R76). -/
  | bitmap (word : Nat)
  /-- Its dictionary slot is being reloaded (R145). -/
  | dict (slot : Nat)
  /-- A full stripe guard (R277). -/
  | guard
  /-- Its write has landed; Cmp is held at FLOOR (R118). -/
  | pool (since : Nat)
  /-- It needs a pool line and none is free (R119). -/
  | poolFull
  /-- It waits for the port loop or for a domain (R230, R356). -/
  | domain
  /-- It has no entry yet: the CMD partition is full (R56). -/
  | part
  /-- Its response waits for an S2M credit (R217). -/
  | respond
  deriving DecidableEq, Repr

/-- One host entry of RTK (R52). -/
structure RtkEntry where
  id : Nat
  head : Head
  chan : CreditChan
  op : ReqOp
  tag : BitVec 16
  hdpa : Nat
  /-- DPA line number; lines that decode to no memory are answered without an entry's line. -/
  line : Nat
  db : Bool
  mask : Mask
  data : LineData
  poison : Bool
  phase : Phase
  /-- Coherence is settled: the access may be made. -/
  coherent : Bool
  /-- State to grant with the response. -/
  grant : Grant
  /-- Data kept for a waiting read (R41) or its answer. -/
  kept : Option LineVal
  /-- The link went down under it: no response is sent (R223). -/
  synthetic : Bool
  /-- Still held at link-up (R224). -/
  detached : Bool
  /-- It is a crossing write-back (R184). -/
  crossing : Bool
  /-- Hosts whose BIConflict is answered after this request's response (R186), with tags. -/
  conflicts : List (BitVec 16)
  /-- When it was ordered, on the model's clock. -/
  born : Nat
  deriving DecidableEq, Repr

/-! ## Near cache and directory -/

/-- One line of the near cache. -/
structure NcLine where
  way : Fin 16
  data : LineData
  /-- Bytes present (R43). -/
  mask : Mask
  dirty : Bool
  poison : Bool
  /-- A fill is open for it. -/
  filling : Bool
  /-- A pool line: when it became one, and whether its extent is firm (R117). -/
  pool : Option (Nat × Bool)
  deriving DecidableEq, Repr

/-- One line of a write-back buffer (R44). -/
structure WbLine where
  line : Nat
  data : LineData
  mask : Mask
  poison : Bool
  /-- Its writes stand in the channels' queues (R274). -/
  issued : Bool
  /-- It waits on a held page, a zeroing mark, frames or a stripe guard (R24, R117, R277, R471). -/
  held : Bool
  /-- Its entry in a stripe guard: the parity frame's channel slot, and the stripe's position with the line offset (R277). -/
  guard : Option (Nat × Nat)
  deriving DecidableEq, Repr

/-- A read that a later write or commit on its line has passed while the fill is open: its entry, and the bytes that stood over the fill at the read's place, with their poison (R47). -/
structure FillReader where
  id : Nat
  data : LineData
  mask : Mask
  poison : Bool
  deriving DecidableEq, Repr

/-- An open fill: the value read, and the reads joined to it that later writes have passed (R47). -/
structure Fill where
  line : Nat
  /-- The stored value at its translation; none while a map-area read is outstanding for it. -/
  value : Option LineVal
  /-- A full write or a commit has replaced the line since: the fill answers its readers and is not cached. -/
  stale : Bool
  readers : List FillReader
  /-- It reads the second copy of mirrored data (R192). -/
  second : Bool
  /-- It was opened for a host's request, so that it makes a heat event (R148). -/
  host : Bool
  /-- When its read was issued (R239). -/
  since : Nat
  deriving DecidableEq, Repr

/-- Directory states of a line (R179). -/
inductive DirState where
  | s
  | em
  deriving DecidableEq, Repr

/-- A directory entry (R179). -/
structure DirEntry where
  way : Fin 16
  pres : BitVec 8
  state : DirState
  busy : Bool
  /-- Its PRES, STATE or BUSY was uncorrectable, and the broadcast that rebuilds it is still to be sent (R198). -/
  rebuild : Bool
  deriving DecidableEq, Repr

/-- What a snoop was sent for (R181). -/
inductive SnoopCause where
  | request (entry : Nat)
  | evict (entry : Nat)
  | removal (n : Head) (e : Nat)
  | command
  | fault
  deriving DecidableEq, Repr

/-- An outstanding snoop, one slot of its directory slice (R182). -/
structure Snoop where
  id : Nat
  host : Head
  line : Nat
  /-- Lines whose answers are awaited: those of the segment that the host holds, for a block snoop (R182). -/
  lines : List Nat
  op : SnoopOp
  cause : SnoopCause
  /-- When its slot was allocated (R183). -/
  start : Nat
  /-- Its place in the line's order: before the entry of this number (R184). -/
  place : Nat
  /-- It has been sent, with a BISnp credit. -/
  sent : Bool
  /-- Its lines for which a crossing write-back from the host was ordered at its place (R184). -/
  crossed : List Nat
  deriving DecidableEq, Repr

/-! ## Translation -/

/-- MODE of an extent record (R77). -/
inductive ExtMode where
  | untouched
  | direct
  | mapped
  | migrating
  | poisoned
  deriving DecidableEq, Repr

/-- An extent record (R77). -/
structure ExtRec where
  mode : ExtMode
  key : Nat
  loc : Nat
  heat : Nat
  cls : BitVec 2
  pin : BitVec 2
  deriving DecidableEq, Repr

/-- The record of an extent never written (R75). -/
def ExtRec.zero : ExtRec := ⟨.untouched, 0, 0, 0, 0, 0⟩

/-- STATE of a page record (R81). -/
inductive PageState where
  | zero
  | open
  | packed
  | deep
  | shared
  | poisoned
  | busy
  deriving DecidableEq, Repr

/-- A page record (R81). -/
structure PageRec where
  state : PageState
  loc : Nat
  segv : BitVec 48
  gcount : Nat
  dict : Nat
  heat : Nat
  pin : BitVec 2
  dsc : Bool
  gen : BitVec 16
  deriving DecidableEq, Repr

/-- The record first-touch initialization writes (R74). -/
def PageRec.zero : PageRec := ⟨.zero, 0, 0, 0, 0, 0, 0, false, 0⟩

/-- A share record (R86), with the lines of its stored copy that hold the poison pattern. -/
structure ShareRec where
  state : PageState
  loc : Nat
  segv : BitVec 48
  gcount : Nat
  dict : Nat
  refs : Nat
  poison : BitVec 64
  deriving DecidableEq, Repr

def ShareRec.zero : ShareRec := ⟨.zero, 0, 0, 0, 0, 0, 0⟩

/-- An extent-cache entry: the heat prescaler and the HEAT the map area holds (R94, R149). -/
structure ExtCached where
  way : Nat
  prescaler : BitVec 4
  mapHeat : Nat
  deriving DecidableEq, Repr

/-- What a run of frames holds (R106, R270). -/
inductive RunKind where
  | slot
  | stripe
  | block
  | share
  deriving DecidableEq, Repr

/-- An allocated run of frames (R152). -/
structure Run where
  len : Nat
  kind : RunKind
  seen : Bool
  /-- The record that named it is lost: it counts as not in use, and the frame-area sweep reclaims it (R100, R106). -/
  orphan : Bool
  deriving DecidableEq, Repr

/-- An open or written stripe (R166, R167). -/
structure Stripe where
  id : Nat
  cold : Bool
  opened : Nat
  /-- Its position in the frame area, the data frames placed, and whether it has been written. -/
  pos : Nat
  placed : Nat
  written : Bool
  deriving DecidableEq, Repr

/-- Transitions of a page (R156), and the other reasons for which a page is copied. -/
inductive CopyKind where
  | toOpen
  | deepToPacked
  | pack
  | encode
  | compact
  | park
  | unpark
  | reencode
  | restore
  deriving DecidableEq, Repr

/-- A page copy in flight, in its copy entry (R160). -/
structure PageCopy where
  id : Nat
  /-- Page key: extent × 512 + page; for a share-stored page, the index of its share record. -/
  page : Nat
  share : Bool
  /-- LOC of the source at the start. -/
  srcLoc : Nat
  kind : CopyKind
  gen : BitVec 16
  snap : List Host.Cell
  snapPoison : BitVec 64
  dst : Nat
  dstLen : Nat
  repeats : Nat
  held : Option Nat
  stripes : List Nat
  /-- The segment that a compressor's failed verify pass left raw (R124). -/
  raw : Option Nat
  deriving DecidableEq, Repr

/-- Extent copies (R162). -/
inductive ExtCopyKind where
  | promote
  | demote
  | rekey (key : Nat)
  deriving DecidableEq, Repr

/-- A migration entry (R78, R162). -/
structure ExtCopy where
  ext : Nat
  kind : ExtCopyKind
  srcMode : ExtMode
  srcLoc : Nat
  dst : Nat
  mask : BitVec 512
  rounds : Nat
  snap : List Host.Cell
  snapPoison : List Nat
  cmd : Option Nat
  /-- When write-backs into the extent were held for its commit (R162). -/
  paused : Option Nat
  /-- Pages of the current round not yet charged (R377); since when it waits in HOT (R393). -/
  left : Nat
  hotAt : Option Nat
  /-- The page records of a destination with page records, by page of the extent, with the frames taken for them; absent pages are ZERO (R62, R162). -/
  recs : Tbl PageRec
  deriving DecidableEq, Repr

/-! ## Codecs and dictionaries -/

/-- States of a dictionary slot (R138). -/
inductive DictState where
  | free
  | active
  | retiring
  deriving DecidableEq, Repr

/-- A dictionary slot (R138, R139, R141, R143). -/
structure Dict where
  state : DictState
  key : Nat
  size : Nat
  signature : BitVec 64
  refs : Nat
  /-- Being reloaded from the map area (R145). -/
  reloading : Bool
  /-- Both map-area copies are lost (R145). -/
  lost : Bool
  deriving DecidableEq, Repr

def Dict.free : Dict := ⟨.free, 0, 0, 0, 0, false, false⟩

/-- Where dictionary training stands (DEEP_STATUS.TRAIN_STATE). -/
inductive TrainState where
  | idle
  | sampling
  | building
  | validating
  | waiting
  deriving DecidableEq, Repr

/-- A training round and its candidate (R140, R141). -/
structure Training where
  st : TrainState
  key : Nat
  /-- The sample pages, with GEN of each record when it was named. -/
  pages : List (Nat × BitVec 16)
  signature : BitVec 64
  size : Nat
  since : Nat
  /-- The command that asked for the round (R346). -/
  cmd : Option Nat
  deriving DecidableEq, Repr

/-! ## DRAM channels -/

/-- Channel states (R249). -/
inductive ChanState where
  | off
  | active
  | quiet
  | ret
  | failed
  deriving DecidableEq, Repr

/-- Rank states (R248). -/
inductive RankState where
  | active
  | powerDown
  | selfRefresh
  | parked
  deriving DecidableEq, Repr

/-- Why a channel is FAILED (R281). -/
inductive FailCause where
  | training
  | replay
  | detected
  | band
  | pmic
  | engine
  | refclk
  | wake
  | sram
  deriving DecidableEq, Repr

/-- A rank of a channel: its state, refreshes postponed (R246), whether retraining is due at its wake (R243). -/
structure Rank where
  st : RankState
  postponed : Nat
  retrainDue : Bool
  deriving DecidableEq, Repr

/-- A repair-list entry or a device mark (R257, R266): the DIMM by its SPD serial number, with the channel that holds it, the rank, device, bank and row. -/
structure Repair where
  chan : Chan
  serial : BitVec 32
  d : DevRow
  mark : Bool
  deriving DecidableEq, Repr

/-- A command issued to a channel's DIMMs (R251). -/
inductive ChanCmd where
  | read (line : Nat)
  | write (line : Nat)
  /-- A read or a write of a stripe's parity for a write-back in place (R276). -/
  | parity (line : Nat) (write : Bool)
  | refresh (r : RankSet)
  /-- A column command of an internal engine, at a position. -/
  | engine (pos : Nat) (write : Bool)
  deriving DecidableEq, Repr

/-- A channel unit. -/
structure Channel where
  /-- State (R249). Reset: OFF. -/
  st : ChanState
  /-- Training completed (R238). Reset: false. -/
  trained : Bool
  /-- What discovery found (R232); matches the reference configuration (R234). Reset: none, false. -/
  pop : Option ChanPop
  matched : Bool
  /-- Trained data rate, as SPEED_MAX encodes it (R233). Reset: 0. -/
  rate : Nat
  /-- Cause and time of FAILED (R281). Reset: none. -/
  failCause : Option FailCause
  failedAt : Nat
  /-- Times of its returns in the last 24 h (R281). Reset: empty. -/
  returns : List Nat
  /-- Ranks by rank set (R248). Reset: ACTIVE. -/
  ranks : Tbl Rank
  /-- Temperature band of its hottest DIMM, 2x refresh, since when it is in B3 (R244, R245, R247). Reset: B0, false, none. -/
  band : Nat
  ref2x : Bool
  b3Since : Option Nat
  /-- Highest DIMM temperature, quarters of a degree; below 85 °C since (R281). Reset: 0, none. -/
  temp : Int
  coolSince : Option Nat
  /-- A pause or sPPR in progress on subchannel A, B (R242). Reset: false. -/
  pauseA : Bool
  pauseB : Bool
  /-- ALERT_n is held low, times of the alerts of the last 1 ms, time of the last CA re-centring (R252, R253). Reset: false, empty, none. -/
  alertA : Bool
  alertB : Bool
  alerts : List Nat
  recentred : Option Nat
  /-- Corrections of the last 24 h: device and row, line, time (R256, R266). Reset: empty. -/
  tallies : List (DevRow × Nat × Nat)
  /-- Repair candidates with the time of each, oldest first (R256). Reset: empty. -/
  cands : List (DevRow × Nat)
  /-- Uncorrectable bursts of the last 100 us with their ranks (R280). Reset: empty. -/
  bursts : List (Nat × RankSet)
  /-- Marked devices: rank set, subchannel B (R266). Reset: none. -/
  marks : List (RankSet × Bool × Fin 16)
  /-- It is being retrained for its return (R281). Reset: false. -/
  retraining : Bool
  /-- Resynchronization is running (R282). Reset: false. -/
  resync : Bool
  /-- A PMIC fault has shut its rails down (R261). Reset: false. -/
  pmicDown : Bool
  /-- The resynchronization cursor: the position that it takes next, and those whose lines it is resynchronizing, oldest first, 8 lines each (R282, R283). Reset: 0, none. -/
  cursor : Nat
  resyncing : List Nat
  /-- The write queue is in drain (R239). Reset: false. -/
  drain : Bool
  /-- Column commands since the last one of an internal engine, at most 31 (R239). Reset: 0. -/
  c0Gap : Nat
  /-- The retry buffer: the commands of the last 256 DCLK cycles, oldest first, each with its time and subchannel (R251). Reset: empty. -/
  retry : List (Nat × Bool × ChanCmd)
  deriving DecidableEq, Repr

def Channel.reset : Channel where
  st := .off
  trained := false
  pop := none
  matched := false
  rate := 0
  failCause := none
  failedAt := 0
  returns := []
  ranks := []
  band := 0
  ref2x := false
  b3Since := none
  temp := 0
  coolSince := none
  pauseA := false
  pauseB := false
  alertA := false
  alertB := false
  alerts := []
  recentred := none
  tallies := []
  cands := []
  bursts := []
  marks := []
  retraining := false
  resync := false
  pmicDown := false
  cursor := 0
  resyncing := []
  drain := false
  c0Gap := 0
  retry := []

/-! ## The cryptographic module -/

/-- STATE of the module (CRY_STATUS). -/
inductive CryState where
  | selfTest
  | operational
  | error
  deriving DecidableEq, Repr

/-- States of a key slot (R299). -/
inductive KeyState where
  | empty
  | active
  | retiring
  deriving DecidableEq, Repr

/-- A key slot (R299, R301): its keys and its state. -/
structure KeySlot where
  st : KeyState
  imported : Bool
  dataKey : BitVec 256
  tweakKey : BitVec 256
  deriving DecidableEq, Repr

def KeySlot.empty : KeySlot := ⟨.empty, false, 0, 0⟩

/-- Roles of an operator (R294). -/
inductive Role where
  | none
  | user
  | co
  deriving DecidableEq, Repr

/-- An open SPDM session (R294). -/
structure Session where
  via : Via
  role : Role
  deriving DecidableEq, Repr

/-! ## The command engine -/

/-- Where a fetched command stands. -/
inductive CmdPhase where
  /-- Fetched, its opcode not yet begun. -/
  | fetched
  /-- Running its steps. -/
  | running
  /-- Ended: its completion is to be written. -/
  | ended
  deriving DecidableEq, Repr

/-- A command that CMD has fetched (R337) or a mailbox runs (R354). -/
structure Cmd where
  id : Nat
  /-- Its SQ, and the CQ that the SQ named at its fetch; no SQ for Execute Descriptor. -/
  sq : Option Ring
  cq : Ring
  head : Head
  desc : LineData
  /-- The descriptor's count in its SQ (R329). -/
  count : Nat
  phase : CmdPhase
  /-- First page of its range, and of its second range, as page keys: the window and region entries hold them as DPAs (R340, R342). -/
  base : Nat
  dst : Nat
  /-- Next page or extent of its range, and commits made. For ABORT, `next` is one more than the number of its target (R349). -/
  next : Nat
  made : Nat
  abort : Bool
  status : BitVec 8
  result : BitVec 64
  /-- Time of its last commit (R336). -/
  time : Option (BitVec 64)
  /-- Key slots whose counts its commits touched (R348). -/
  keys : List Nat
  /-- Its completion has been held for room in the CQ (R330). -/
  waits : Bool
  /-- Its head's rings have been reset: its completion is discarded (R352). -/
  discard : Bool
  deriving DecidableEq, Repr

/-- Counts of a submission ring (R329). -/
structure Sq where
  seen : Nat
  fetched : Nat
  deriving DecidableEq, Repr

/-- Counts of a completion ring (R330, R350). -/
structure Cq where
  seen : Nat
  produced : Nat
  unsignalled : Nat
  oldest : Nat
  deriving DecidableEq, Repr

/-- A count passed from a doorbell line (R326). -/
structure Bell where
  cq : Bool
  ring : Ring
  count : Nat
  deriving DecidableEq, Repr

/-! ## Power domains -/

/-- Where a domain stands (R357, R362). -/
inductive DomState where
  | on
  | ret
  | off
  /-- Stop phase of an entry to RET or OFF. -/
  | stopping (off : Bool)
  /-- After the commit, before the state is reached. -/
  | entering (off : Bool)
  /-- A wake is in progress; whether its second attempt runs (R370). -/
  | waking (fromOff : Bool) (second : Bool)
  deriving DecidableEq, Repr

/-- A power domain as Kickstand keeps it (R355). -/
structure Domain where
  st : DomState
  /-- Participants that answered stopped, in the order of their answers (R363). -/
  stopped : List Nat
  /-- Wake latch, in order of arrival (R368). -/
  latch : List (WakeSource × BitVec 64)
  /-- Not asked again before this time; consecutive refusals with one code (R365). -/
  holdUntil : Nat
  holdMs : Nat
  lastCode : Nat
  refusals : Nat
  /-- A setup write was made while it was not ON (R372). -/
  stale : Bool
  /-- It must wake and then replay. -/
  failed : Bool
  deriving DecidableEq, Repr

def Domain.reset : Domain := ⟨.off, [], [], 0, 0, 0, 0, false, false⟩

/-! ## Cadence, SENSE, hot swap -/

/-- Heat states (R387). -/
inductive HeatState where
  | cool
  | warm
  | hot
  deriving DecidableEq, Repr

/-- A rate threshold: met, and rounds below half since (R384). -/
structure RateMet where
  met : Bool
  below : Nat
  deriving DecidableEq, Repr

/-- Gate states (HSW_STATUS.GATE). -/
inductive Gate where
  | off
  | wait
  | ramp
  | on
  | cool
  | latched
  deriving DecidableEq, Repr

/-- Sensors of PLDM type 2 other than the counters (R442). -/
inductive Sensor where
  | die (i : Fin 28)
  | dimm (n : Fin 32)
  | rail (r : Rail)
  | iin
  | devPower
  | dramPower
  /-- Die band, heat state, host stage, pressure level, CRY state. -/
  | state (i : Fin 5)
  deriving DecidableEq, Repr

/-! ## Pannier -/

/-- A Pannier record (R423). -/
structure PanRec where
  seq : BitVec 64
  time : BitVec 64
  epoch : BitVec 32
  domain : BitVec 8
  unit : BitVec 8
  code : BitVec 16
  sev : BitVec 8
  flags : BitVec 8
  addr : BitVec 64
  addrKind : BitVec 8
  regOff : BitVec 32
  regVal : BitVec 32
  detail : List Byte
  deriving DecidableEq, Repr

/-- What a slot of the die holds (R423). -/
inductive PanSlot where
  | erased
  | torn
  | valid (r : PanRec)
  deriving DecidableEq, Repr

/-- A read context (R430). -/
structure ReadCtx where
  pinned : Bool
  slot : BitVec 16
  done : Bool
  result : BitVec 2
  buf : List Byte
  ptr : Nat
  deriving DecidableEq, Repr

def ReadCtx.reset : ReadCtx := ⟨false, 0, false, 0, [], 0⟩

/-- An always-running or general counter (R413, R416). -/
structure Counter where
  val : BitVec 48
  ovf : Bool
  deriving DecidableEq, Repr

def Counter.zero : Counter := ⟨0, false⟩

/-! ## Management -/

/-- Where MGT stands (R438). -/
inductive MgtState where
  /-- Held in reset. -/
  | reset
  /-- Its boot ROM loads and verifies an image. -/
  | booting
  | running
  /-- The ROM's recovery loader (R321). -/
  | recovery
  deriving DecidableEq, Repr

/-- How far a start has come (R431). -/
inductive Boot where
  | off
  /-- Standby good and Kickstand out of reset (step 3). -/
  | standby
  /-- Main rails good and straps latched (step 7). -/
  | rails
  /-- Known-answer tests passed (step 8). -/
  | tested
  /-- Clandahar runs (step 9). -/
  | firmware
  /-- Channel training ended (step 10). -/
  | trained
  /-- Memory ready (step 11). -/
  | ready
  /-- No usable channel set: memory never becomes ready (R234). -/
  | noMemory
  deriving DecidableEq, Repr


/-! ## The blocks -/

/-- Kickstand's start, straps, fuses and flash selector (R431 to R437, R321 to R323). -/
structure Aon where
  /-- VDD_AON and VDD_AON18 are good and Kickstand has left power-on reset (R396). Reset: false. -/
  kick : Bool := false
  /-- How far the start has come (R431). Reset: off. -/
  boot : Boot := .off
  /-- The crystal oscillator runs (R464). Reset: false. -/
  xtal : Bool := false
  /-- Main rails that have been good since HSW_PG rose (R461). Reset: false. -/
  rails : Bool := false
  /-- A main rail is beyond a fault limit (R462). Reset: false. -/
  railFault : Bool := false
  /-- A device reset is held, DEV_RESET_n low (R436). Reset: false. -/
  inReset : Bool := false
  /-- The strap balls as last seen (R434). Reset: zero (DESIGN CHOICE, LOG 8). -/
  balls : Straps := ⟨0, false, 0, false⟩
  /-- The latched straps, once latched (R434). Reset: none latched. -/
  straps : Option Straps := none
  /-- THERMTRIP_n is asserted (R386). Reset: false. -/
  thermtrip : Bool := false
  /-- BBX_HOLD carries Kickstand after standby loss (R428). Reset: false. -/
  holding : Bool := false
  /-- OTP fuses: the SVN, the CO root hashes, the vendor keys not revoked (R294, R321, R322). Reset: as a new die (DESIGN CHOICE, LOG 8). -/
  svnFuse : Fin 129 := 0
  coRoots : List (BitVec 384) := []
  /-- The revocation fuses of the CO root hashes, by place in their list (R294). Reset: 0 (DESIGN CHOICE, LOG 8). -/
  coRevoked : BitVec 4 := 0
  vendorKeys : List (Fin 4) := [0, 1, 2, 3]
  /-- The flash's image slots A and B (R321, R433). Reset: none (DESIGN CHOICE, LOG 8). -/
  slotA : Option FwImage := none
  slotB : Option FwImage := none
  /-- The active slot is B; PENDING; the previous active slot is still to fall back on (R322). Reset: false. -/
  activeB : Bool := false
  pendingFw : Bool := false
  /-- The image that runs, as loaded by the ROM (R321). Reset: none. -/
  running : Option FwImage := none
  /-- A new image has not yet reached its ready point (R322). Reset: false. -/
  trying : Bool := false
  /-- The flash's User roots and IDE policy (R294, R324). Reset: empty, IDE_ANY_SESSION 1 (DESIGN CHOICE, LOG 8). -/
  userRoots : List (BitVec 384) := []
  ideAny : Bool := true
  /-- The device's EID (R440). Reset: 0. -/
  eid : BitVec 8 := 0
  /-- The event receiver of SetEventReceiver (R442). Reset: none. -/
  receiver : Option (BitVec 8) := none
  deriving DecidableEq, Repr

/-- The near cache and its write-back buffers (R38 to R47, R290). -/
structure Nc where
  /-- Lines held, by line number (R37). Reset: empty. -/
  lines : Tbl NcLine := []
  /-- Tree pseudo-LRU bits of each set (R44). Reset: 0. -/
  plru : Tbl (BitVec 15) := []
  /-- The write-back buffers, oldest first (R44). Reset: empty. -/
  wbb : List WbLine := []
  /-- Open fills (R43, R47). Reset: none. -/
  fills : List Fill := []
  /-- Hits counted toward the next heat event, by slice (R148). Reset: 0. -/
  hits : Tbl (BitVec 4) := []
  /-- Sets with both tag copies lost (R290). Reset: none. -/
  lost : List Nat := []
  /-- Heat events waiting for XLT as C0 messages: line numbers, oldest first (R149). Reset: none. -/
  heatQ : List Nat := []
  /-- Order in which the next pool line was made (R117). Reset: 0. -/
  poolSeq : Nat := 0
  deriving DecidableEq, Repr

/-- The directory slices (R173 to R199). -/
structure Dir where
  /-- Entries, by line number (R179). Reset: empty. -/
  entries : Tbl DirEntry := []
  /-- Tree pseudo-LRU bits of each set (R188). Reset: 0. -/
  plru : Tbl (BitVec 15) := []
  /-- Outstanding snoops (R182). Reset: none. -/
  snoops : List Snoop := []
  /-- Next snoop number. Reset: 0. -/
  nextSnoop : Nat := 0
  /-- Entries of region tables in removal (R176). Reset: none. -/
  removals : List (Head × Fin 9) := []
  /-- Entries whose checks wait for the directory slices (R359). Reset: none. -/
  checks : List (Head × Fin 9 × Word) := []
  deriving DecidableEq, Repr

/-- The translation units (R71 to R101). -/
structure Xlt where
  /-- Extents whose bitmap bit is set (R72, R73). Reset: none. -/
  touched : Tbl Unit := []
  /-- Extent records that are not UNTOUCHED (R77). Reset: none. -/
  ext : Tbl ExtRec := []
  /-- Page records, by extent × 512 + page (R81); an absent record is ZERO with GEN 0. Reset: none. -/
  page : Tbl PageRec := []
  /-- The prior record of a BUSY page (R84). Reset: none. -/
  shadow : Tbl PageRec := []
  /-- Share records, by index (R86). Reset: none. -/
  share : Tbl ShareRec := []
  /-- The extent caches (R92), by extent. Reset: empty. -/
  extCache : Tbl ExtCached := []
  /-- The page-record caches (R92): way and the HEAT each of the four records has in the map area, by sector number. Reset: empty. -/
  prCache : Tbl (Fin 16 × List Nat) := []
  /-- Pseudo-LRU bits of the cache sets (R93). Reset: 0. -/
  extPlru : Tbl (BitVec 7) := []
  prPlru : Tbl (BitVec 15) := []
  /-- Map-area reads outstanding (R93). Reset: none. -/
  reads : List MapKey := []
  /-- Bitmap words being rebuilt (R76). Reset: none. -/
  rebuilds : List Nat := []
  /-- Zeroing marks of DIRECT extents being demoted, by page key (R471). Reset: none. -/
  zeroing : Tbl Unit := []
  /-- Heat epoch of the last sweep visit to each record, by page key or extent (R151). Reset: 0. -/
  visitExt : Tbl Nat := []
  visitPage : Tbl Nat := []
  deriving DecidableEq, Repr

/-- Capacity and pressure (R102 to R122). -/
structure Cap where
  /-- Raw capacity and direct-area data capacity, MiB (R102, R103). Reset: 0. -/
  rawMib : Nat := 0
  dirMib : Nat := 0
  /-- Usable frames (R102). Reset: 0. -/
  usable : Nat := 0
  /-- Frames of the frame area (R270). Reset: 0. -/
  frames : Nat := 0
  /-- Channels in use, ascending (R234). Reset: none. -/
  chans : List Chan := []
  /-- Bus geometry: rank sets, bank digits (4 × H), rows (R235, R269). Reset: 0. -/
  rankSets : Nat := 0
  bankDigits : Nat := 0
  rows : Nat := 0
  /-- Allocated runs of the frame area, by first frame (R106, R152). Reset: none. -/
  runs : Tbl Run := []
  /-- Frames freed in written stripes, not yet reusable (R167). Reset: none. -/
  dead : Tbl Run := []
  /-- Frames among `dead` that hold zeros: those unused when their stripe closed (R275) and those that SANITIZE overwrote (R348). Reset: none. -/
  zeroed : Tbl Unit := []
  /-- Direct slots in use (R272). Reset: none. -/
  slots : Tbl Unit := []
  /-- Consecutive periods above the fall threshold (R107). Reset: 0. -/
  fall : Nat := 0
  /-- When FLOOR was entered (R122). Reset: none. -/
  floorAt : Option Nat := none
  deriving DecidableEq, Repr

/-- Codecs, DEEP and dictionaries (R123 to R147). -/
structure Cdc where
  /-- Times of recent counted decode failures of each unit (R146). Reset: empty. -/
  faults : List (CodecUnit × Nat) := []
  /-- Times of recent verify mismatches of each unit (R124, R133). Reset: empty. -/
  mismatches : List (CodecUnit × Nat) := []
  /-- CODEC_LAST event written for decompressors, for engines (R147). Reset: false. -/
  lastDecomp : Bool := false
  lastEngine : Bool := false
  /-- Dictionary slots 1 to 15 (R138). Reset: FREE. -/
  dicts : Tbl Dict := []
  /-- The training round in progress (R140). Reset: idle. -/
  train : Training := ⟨.idle, 0, [], 0, 0, 0, none⟩
  /-- Training is held by DICT_CONTROL (R346). Reset: false. -/
  hold : Bool := false
  /-- A range that DICT_CONTROL action 4 asks the next round to take (R346). Reset: none. -/
  asked : Option (Nat × Nat × Nat) := none
  /-- The slot that training has made RETIRING (R141). Reset: none. -/
  trainRetiring : Option Nat := none
  /-- The DEEP page buffer: page key and GEN, most recent first (R136). Reset: empty. -/
  buffer : List (Nat × BitVec 16) := []
  deriving DecidableEq, Repr

/-- Kinds of Derailleur work (R172, "The decision loop"). -/
inductive Work where
  | urgentCompaction
  | toDirect
  | toOpen
  | fromDeep
  | packing
  | deepEncoding
  | gathering
  | compaction
  | reencode
  | sweep
  | demote
  deriving DecidableEq, Repr

/-- The Derailleur (R148 to R172). -/
structure Drl where
  /-- Page copies and extent copies in flight (R160, R162). Reset: none. -/
  copies : List PageCopy := []
  extCopies : List ExtCopy := []
  nextCopy : Nat := 0
  /-- Candidate queues (R153): pages or extents by kind. Reset: empty. -/
  cands : List (Work × Nat) := []
  /-- Next record of the sweep: extent, page; lap start; heat epoch number; pages left alone for the lap (R151, R161). Reset: 0. -/
  sweepExt : Nat := 0
  sweepPage : Option Nat := none
  lapStart : Nat := 0
  epoch : Nat := 0
  leave : List Nat := []
  /-- OPEN_DOWN without the level offset (R154, R155). Reset: 4. -/
  openDown : Nat := 4
  /-- Stripes open or written (R166). Reset: none. -/
  stripes : List Stripe := []
  nextStripe : Nat := 0
  /-- Rank sets released to their channels (R170). Reset: none. -/
  released : BitVec 8 := 0
  /-- Extents that wait for the next epoch under the swap rule (R157). Reset: none. -/
  waiting : List Nat := []
  /-- Pages and share records of a park set taken back, still to be moved out by compaction (R171). Reset: none. -/
  evict : List (Bool × Nat) := []
  /-- A block is needed and found no room in the record zone (R80). Reset: false. -/
  blockWanted : Bool := false
  deriving DecidableEq, Repr

/-- The Trimmer (R285 to R289). -/
structure Trm where
  /-- Absolute position of the walk; lines of the 4 KiB already paid for that are still to be read (R285, R377). Reset: 0. -/
  pos : Nat := 0
  credit : Nat := 0
  /-- When the current lap started; whether its LAP_SLOW has been recorded; lines poisoned found (R286, R289). Reset: 0. -/
  lapStart : Nat := 0
  slow : Bool := false
  poisonSeen : Nat := 0
  /-- The lost-line table: SAs (R287). Reset: empty. -/
  lost : List Nat := []
  /-- Loss walks of lost channels, lean mode (R284). Reset: none. -/
  walks : List Chan := []
  deriving DecidableEq, Repr

/-- The cryptographic module (R291 to R324). -/
structure Cry where
  /-- Its state and the cause of an error (R292, R318). Reset: SELF_TEST, none. -/
  st : CryState := .selfTest
  errCause : Option ErrCause := none
  /-- Key slots that are not EMPTY (R299). Reset: none. -/
  slots : Tbl KeySlot := []
  /-- The device's metadata key and the KEM key pair's generation (R96, R300, R305). Reset: none, 0. -/
  metaKey : Option (BitVec 256) := none
  kemGen : Nat := 0
  /-- Successful imports under the present KEM key pair (R300). Reset: 0. -/
  imports : Nat := 0
  /-- Open sessions and their roles (R294). Reset: none. -/
  sessions : List Session := []
  /-- DRBG requests and time since the last reseed (R313). Reset: 0. -/
  drbgReqs : Nat := 0
  drbgAt : Nat := 0
  /-- Entropy health failures in the current window (R312). Reset: none. -/
  entropyAt : List Nat := []
  /-- The identity key pairs are derived and held; the DRBG's internal state (R295, R313). Reset: false, 0. -/
  identity : Bool := false
  drbgState : BitVec 256 := 0
  /-- The debug unlock of JTAG (R320). Reset: false. -/
  debugOpen : Bool := false
  /-- Zeroize All has been made since the last power-up (R320). Reset: false. -/
  zeroized : Bool := false
  /-- The firmware measurement (R323). Reset: none. -/
  measured : Option (BitVec 384) := none
  deriving DecidableEq, Repr

/-- The command engine (R325 to R354). -/
structure CmdE where
  /-- Counts of enabled rings (R329, R330). Reset: none. -/
  sqs : Tbl Sq := []
  cqs : Tbl Cq := []
  /-- Commands in progress, oldest first (R337). Reset: none. -/
  cmds : List Cmd := []
  nextCmd : Nat := 0
  /-- Counts passed from doorbell lines and not yet taken (R326). Reset: none. -/
  bells : List Bell := []
  /-- Weighted round robin: the ring served last, and what is left of its weight (R337). Reset: 0. -/
  rrRing : Nat := 0
  rrLeft : Nat := 0
  /-- Interrupts held while a head's link is down (R352). Reset: none. -/
  heldMsix : List (Head × Nat) := []
  deriving DecidableEq, Repr

/-- Cadence and SENSE (R374 to R394). -/
structure Cad where
  /-- Host stage (R388). Reset: 0. -/
  stage : Fin 4 := 0
  /-- Consecutive periods over cap, and consecutive periods in which the release conditions hold, in this stage (R388, R389). Reset: 0. -/
  overN : Nat := 0
  underN : Nat := 0
  /-- Foreground power was over cap in the last period; stage 3 is released and PACE rises (R388, R390). Reset: false. -/
  overCap : Bool := false
  releasing : Bool := false
  /-- The caps of the last period, W (R393). Reset: 0 and 0, no period yet. -/
  caps : Nat × Nat := (0, 0)
  /-- Scales as measurement over estimate, numerator and denominator, device and DRAM (R375). Reset: 1. -/
  scaleDev : Nat × Nat := (1, 1)
  scaleDram : Nat × Nat := (1, 1)
  /-- Estimates of the current round (R375). Reset: 0. -/
  estDev : Nat := 0
  estDram : Nat := 0
  estN : Nat := 0
  /-- Die band (0 D0 to 3 D3), heat state, rate condition (R384 to R387). Reset: 0, cool. -/
  band : Nat := 0
  heat : HeatState := .cool
  rate : Tbl RateMet := []
  /-- Die and DIMM temperatures of the last rounds, newest first: the die, then DIMMs 0 to 31 (R384). Reset: none. -/
  history : List (List (Option Int)) := []
  /-- Consecutive rounds in which an on-die sensor differs (0 to 27) or a DIMM sensor gives no reading (32 + 3 × DIMM + k, counted from 1; a DIMM sensor absent here has never given one) (R262, R383). Reset: none. -/
  noRead : Tbl Nat := []
  /-- Bands of the channels' own die sensors (R242); when each rail was last reported (R382). Reset: D0, never. -/
  sensorBand : Tbl Nat := []
  railAt : Tbl Nat := []
  /-- Last published readings: die in quarters of a degree by sensor, DIMM by number (R382). Reset: 0. -/
  die : Tbl Int := []
  dimm : Tbl Int := []
  /-- Die and DRAM tokens that the two pools still hold (R376, R377). Reset: 0. -/
  dieLeft : Nat := 0
  dramLeft : Nat := 0
  /-- Items of the Trimmer (3) and the cold sweep (4) paid for in this period and not yet started (R379, R380). Reset: none. -/
  items : Tbl Nat := []
  /-- Codec work took a token, or a codec read arrived, since this period began; in the last period (R381). Reset: false. -/
  codecWork : Bool := false
  codecPrev : Bool := false
  deriving DecidableEq, Repr

/-- The hot-swap block (R395 to R412). -/
structure Hsw where
  /-- Gate state; power good (R397, R400). Reset: off, false. -/
  gate : Gate := .off
  pg : Bool := false
  /-- HSW_EN_n is low (R397). Reset: true (DESIGN CHOICE, LOG 8). -/
  en : Bool := true
  /-- The cool-down cell is charged (R408). Reset: false. -/
  cell : Bool := false
  /-- THERMTRIP_n or CYCLE holds the gate off (R405, R411). Reset: false. -/
  thermHeld : Bool := false
  cycling : Bool := false
  /-- When HSW_EN_n last rose (R409). Reset: 0. -/
  enAt : Nat := 0
  /-- Time of the last gate-off (R406, R407, R411). Reset: 0. -/
  offAt : Nat := 0
  /-- Time in limit of the attempt that tripped last, µs (R407). Reset: 0. -/
  limitUs : Nat := 0
  deriving DecidableEq, Repr

/-- The Pannier (R422 to R430). -/
structure Pan where
  /-- The die's ring and pinned arrays by slot; absent slots are erased (R422, R427). Reset: erased (a new die: DESIGN CHOICE, LOG 8). -/
  ring : Tbl PanSlot := []
  pinned : Tbl PanSlot := []
  /-- The Kickstand queue, oldest first, with pinned records marked (R424). Reset: empty. -/
  queue : List (PanRec × Bool) := []
  /-- A slot is being programmed; a sector is being erased (R422). Reset: none, false. -/
  programming : Option (PanRec × Bool × Nat) := none
  erasing : Bool := false
  /-- The scan has ended; next ring slot; next pinned slot; next SEQ; EPOCH (R425, R429). Reset: false, 0. -/
  ready : Bool := false
  next : Nat := 0
  nextPin : Nat := 0
  seq : BitVec 64 := 0
  epoch : BitVec 32 := 0
  /-- Write tokens, and the time of the last DROPPED record (R426). Reset: 0, none. -/
  tokens : Nat := 0
  droppedAt : Option Nat := none
  /-- Records dropped since the last DROPPED record, by severity (R426). Reset: none. -/
  drops : Tbl Nat := []
  /-- Read contexts, by head and 8 for the sideband (R430). Reset: empty. -/
  ctx : Tbl ReadCtx := []
  deriving DecidableEq, Repr

/-- The counters (R413 to R421). -/
structure Pmu where
  /-- Always-running counters, by group × 128 + index (R415). Reset: 0. -/
  always : Tbl Counter := []
  /-- General counters (R416). Reset: 0. -/
  general : Tbl Counter := []
  /-- Time at which general counters last counted ticks. Reset: 0. -/
  tickAt : Nat := 0
  deriving DecidableEq, Repr

/-- Management (R436 to R443). -/
structure Mgt where
  /-- Where MGT stands (R438). Reset: reset. -/
  st : MgtState := .reset
  /-- When the watchdog was last refreshed. Reset: 0. -/
  dogAt : Nat := 0
  /-- Work that waits for the ready point: mailbox, sideband (R439). Reset: none. -/
  held : List (Head × Instr) := []
  heldSb : List Instr := []
  /-- The FM API's response message limit (R443). Reset: 8 (DESIGN CHOICE, LOG 8). -/
  fmLimit : BitVec 8 := 8
  /-- A PLDM update is in progress (R322). Reset: false. -/
  updating : Bool := false
  deriving DecidableEq, Repr

/-- The GX16: everything the spec gives the block, with the queue of commands that wait. -/
structure State where
  /-- Commands that wait, first in first out. Reset: empty. -/
  pending : List Instr := []
  /-- The model's own counter of free values read so far. Reset: 0 (DESIGN CHOICE, LOG 1). -/
  free : Nat := 0
  /-- Everything the device has sent, oldest first (the model's own record). Reset: empty. -/
  out : List Msg := []
  /-- Nanoseconds since the model's start; windows and rates are measured on it. Reset: 0. -/
  now : Nat := 0
  /-- The timebase TB (R33, R454). Reset: 0. -/
  tb : BitVec 64 := 0
  /-- Register words that differ from their reset values, by BAR0 offset (R4). Reset: none. -/
  csr : Tbl Word := []
  /-- High halves latched by paired reads, by source × 2^24 + offset (R5). Reset: none. -/
  latches : Tbl Word := []
  /-- Stored data by DPA byte; an unlisted byte is zero (R16, R72). Reset: nothing listed. -/
  mem : List Host.Cell := []
  /-- DPA line numbers whose stored copy is the poison pattern, or whose segment or page is recorded poisoned (R268, R278). Reset: none. -/
  bad : Tbl Unit := []
  /-- Kickstand, straps, fuses, flash (R431). -/
  aon : Aon := {}
  /-- The eight engines and heads, by number (R200). Reset: in Detect. -/
  ports : Tbl Port := []
  /-- Host entries of RTK in order of ordering; the next entry number (R52). Reset: none, 0. -/
  rtk : List RtkEntry := []
  nextEntry : Nat := 0
  nc : Nc := {}
  dir : Dir := {}
  xlt : Xlt := {}
  cap : Cap := {}
  cdc : Cdc := {}
  drl : Drl := {}
  /-- The DRAM channels, by number (R249). Reset: OFF. -/
  chans : Tbl Channel := []
  /-- The repair list in flash (R257). Reset: empty (DESIGN CHOICE, LOG 8). -/
  repairs : List Repair := []
  trm : Trm := {}
  cry : Cry := {}
  cmd : CmdE := {}
  /-- The power domains, by number (R355). Reset: OFF. -/
  doms : Tbl Domain := []
  cad : Cad := {}
  hsw : Hsw := {}
  pan : Pan := {}
  pmu : Pmu := {}
  mgt : Mgt := {}
  /-- The CXL event logs of all heads, oldest first; the next handle (R469). Reset: empty, 1. -/
  events : List EventRec := []
  nextHandle : Nat := 1
  /-- Lines listed for Get Poison List (R353): DPA line numbers. Reset: none. -/
  poisonList : List Nat := []
  deriving DecidableEq, Repr

/-- The device before standby good: nothing runs, nothing is stored, no command waits (R396, R431). -/
def State.reset : State := {}

end Sys2Proof.Machine
end

