-- ==== Sys2Proof/Config.lean ====
section
/-! DEFINITION. What the spec leaves to an implementation, and the free values: constants with no body, so that nothing proved rests on a value of them. Each names its entry of the assumption log. -/

namespace Sys2Proof.Config

open Sys2Proof.Machine

/-! ## Free values (LOG 1): applied to the counter `State.free` -/

/-- Data bytes of a poisoned line, and of other data the spec does not define (R268). -/
opaque freeLine : Nat → LineData

/-- A word of an answer whose content the spec does not state. -/
opaque freeWord : Nat → Word

/-- Bytes of an answer whose content the spec does not state. -/
opaque freeBytes : Nat → List Byte

/-- A number the spec does not state. -/
opaque freeNat : Nat → Nat

/-- The output of the DRBG (R313). -/
opaque drbg : Nat → BitVec 256

/-! ## Hashes and set indices (LOG 5): not part of the interface -/

/-- The home slice of a line number (R38). -/
opaque homeSlice : Nat → Fin 16

/-- The near-cache set of a line within its home slice, 0 to 4,095 (R37). -/
opaque ncSet : Nat → Fin 4096

/-- The XLT slice of an extent (R71). -/
opaque xltSlice : Nat → Fin 4

/-- The set of an extent in its slice's extent cache (R92). -/
opaque extSet : Nat → Fin 65536

/-- The set of a sector in its slice's page-record cache (R92). -/
opaque prSet : Nat → Fin 4096

/-! ## Codecs (LOG 6) -/

/-- Output of the segment compressor in bytes, for the four lines of a segment that is not all zero (R123). -/
opaque segBytes : List LineData → Nat

/-- Granules of a page encoded with no dictionary, 1 to 64 (R133). -/
opaque pageGranules : List LineData → Fin 64

/-- Granules of a page encoded with the dictionary of a slot with this signature (R133). -/
opaque pageGranulesDict : List LineData → BitVec 64 → Fin 64

/-- The 64-bit sketch of a page (R142). -/
opaque sketch : List LineData → BitVec 64

/-- Granule `i` of the compressor's output for the four lines of a segment (R123). -/
opaque segUnit : List LineData → Nat → LineData

/-- Granule `i` of an encoded page, with the signature of the dictionary that it was encoded with (R133). -/
opaque pageUnit : List LineData → Option (BitVec 64) → Nat → LineData

/-! ## Memory encryption (LOG 60) -/

/-- The AES-256 block function under a key (R293). -/
opaque aes : BitVec 256 → BitVec 128 → BitVec 128

/-- What stands in a freed frame of a written stripe until the stripe is free, by the unit's SA: the ciphertext of the data that it held. -/
opaque staleUnit : Nat → LineData

/-! ## Choices of engines -/

/-- Which free frame an allocator tries first: from the run's length and the free counter (LOG 9). -/
opaque allocHint : Nat → Nat

/-- The event number of a Pannier record within its kind (R423 gives only those of kinds 0x0 and 0xC; LOG 13). -/
opaque panEvent : Cause → BitVec 12

/-- The bytes of a Pannier record's DETAIL where the spec names no layout (LOG 13). -/
opaque panDetail : Nat → List Byte

/-- Entries of the shared pool of a FAB queue, of which R61 gives only the floor of 8 (LOG 53). -/
opaque fabPool : Nat

/-- One less than the largest credit increment that a flit's field carries (R213, LOG 58). -/
opaque creditField : Nat

/-! ## Identity -/

/-- The certificate chain of GET_CERTIFICATE (R295). -/
opaque certificates : List Byte

/-- The signature over a challenge or a report (R295, R323). -/
opaque sign : List Byte → List Byte

/-- The ML-KEM-1024 public key of a generation, signed with both identity keys (R295, R300). -/
opaque kemKey : Nat → List Byte

/-- What Identify reports of the device (R353, R443). -/
opaque identity : List Byte

/-- The effects word of a mailbox command in the Command Effects Log (R353). -/
opaque effects : Nat → Nat

/-- The MCTP versions that the device supports (R441). -/
opaque mctpVersions : List Byte

/-- The sensor that a number of the PDR repository names, other than the counters (R442). -/
opaque sensorOf : Nat → Option Sensor

/-- The endpoint UUID (R441). -/
opaque uuid : List Byte

/-- The product's grade: true for QGX16-T (fused, R1). -/
opaque tgrade : Bool

end Sys2Proof.Config
end

