-- ==== Sys2Proof/Machine/RegMap.lean ====
section
/-! DEFINITION. The BAR0 registers of the spec's register tables: each field's place, and each register's reset word and access masks (R4 to R11, R445). -/

namespace Sys2Proof.Machine

/-- A field of a register: offset of instance 0, bits, and the strides of its indices. -/
structure Fld where
  off : Nat
  hi : Nat
  lo : Nat
  s1 : Nat := 0
  s2 : Nat := 0
  deriving DecidableEq, Repr

/-- The field in instance `i` of its register. -/
def Fld.nth (f : Fld) (i : Nat) : Fld := { f with off := f.off + f.s1 * i }

/-- The field in instance `i`, `j` of its register. -/
def Fld.nth2 (f : Fld) (i j : Nat) : Fld := { f with off := f.off + f.s1 * i + f.s2 * j }

/-- A register: its instances `lo1` to `hi1` by `s1` and 0 to `hi2` by `s2`, its reset word, and the masks of its access codes (R9). -/
structure RegInfo where
  off : Nat
  s1 : Nat
  lo1 : Nat
  hi1 : Nat
  s2 : Nat
  hi2 : Nat
  reset : Word
  rw : Word
  rwl : Word
  rws : Word
  w1c : Word
  wo : Word
  roc : Word
  deriving DecidableEq, Repr

/-! RTK_INT_PART (02_request_path.md, R57) -/

def Reg.RTK_INT_PART.TRM_UNITS : Fld := ⟨0x24010, 27, 21, 0x0, 0x0⟩
def Reg.RTK_INT_PART.COPY_UNITS : Fld := ⟨0x24010, 20, 14, 0x0, 0x0⟩
def Reg.RTK_INT_PART.CMD_UNITS : Fld := ⟨0x24010, 13, 7, 0x0, 0x0⟩
def Reg.RTK_INT_PART.DRL_UNITS : Fld := ⟨0x24010, 6, 0, 0x0, 0x0⟩
/-! RTK_STATUS (02_request_path.md, R58) -/

def Reg.RTK_STATUS.PART_ERR : Fld := ⟨0x24000, 1, 1, 0x0, 0x0⟩
def Reg.RTK_STATUS.PART_BUSY : Fld := ⟨0x24000, 0, 0, 0x0, 0x0⟩
/-! FAB_DLD_OCC (02_request_path.md, R66) -/

def Reg.FAB_DLD_OCC.SEV_OCC : Fld := ⟨0x20040, 23, 16, 0x0, 0x0⟩
def Reg.FAB_DLD_OCC.MOD_OCC : Fld := ⟨0x20040, 15, 8, 0x0, 0x0⟩
def Reg.FAB_DLD_OCC.OPT_OCC : Fld := ⟨0x20040, 7, 0, 0x0, 0x0⟩
/-! FAB_DLD_DLY (02_request_path.md, R66) -/

def Reg.FAB_DLD_DLY.CFG_BAD : Fld := ⟨0x20044, 31, 31, 0x0, 0x0⟩
def Reg.FAB_DLD_DLY.SEV_DLY : Fld := ⟨0x20044, 29, 20, 0x0, 0x0⟩
def Reg.FAB_DLD_DLY.MOD_DLY : Fld := ⟨0x20044, 19, 10, 0x0, 0x0⟩
def Reg.FAB_DLD_DLY.OPT_DLY : Fld := ⟨0x20044, 9, 0, 0x0, 0x0⟩
/-! XLT_CFG (03_extents_pages_translation.md, R101) -/

def Reg.XLT_CFG.EXT_DIRECT_WAYS : Fld := ⟨0x220000, 3, 1, 0x0, 0x0⟩
def Reg.XLT_CFG.PRC_PREFETCH : Fld := ⟨0x220000, 0, 0, 0x0, 0x0⟩
/-! XLT_STATUS (03_extents_pages_translation.md, R101) -/

def Reg.XLT_STATUS.BMP_UE : Fld := ⟨0x220004, 3, 3, 0x0, 0x0⟩
def Reg.XLT_STATUS.MAP_UE : Fld := ⟨0x220004, 2, 2, 0x0, 0x0⟩
def Reg.XLT_STATUS.BMP_REBUILD : Fld := ⟨0x220004, 1, 1, 0x0, 0x0⟩
def Reg.XLT_STATUS.READY : Fld := ⟨0x220004, 0, 0, 0x0, 0x0⟩
/-! XLT_TOUCHED (03_extents_pages_translation.md, R101) -/

def Reg.XLT_TOUCHED.COUNT : Fld := ⟨0x220008, 24, 0, 0x0, 0x0⟩
/-! XLT_MAPLOSS (03_extents_pages_translation.md, R101) -/

def Reg.XLT_MAPLOSS.VALID : Fld := ⟨0x22000C, 31, 31, 0x0, 0x0⟩
def Reg.XLT_MAPLOSS.EXT_IDX : Fld := ⟨0x22000C, 24, 0, 0x0, 0x0⟩
/-! XLT_CAP_CFG (04_firm_and_elastic_capacity.md, R122) -/

def Reg.XLT_CAP_CFG.ELASTIC_HEADS : Fld := ⟨0x220080, 15, 8, 0x0, 0x0⟩
def Reg.XLT_CAP_CFG.DIRECT_SIXT : Fld := ⟨0x220080, 2, 1, 0x0, 0x0⟩
def Reg.XLT_CAP_CFG.ELASTIC_EN : Fld := ⟨0x220080, 0, 0, 0x0, 0x0⟩
/-! XLT_CAP_RATIO (04_firm_and_elastic_capacity.md, R122) -/

def Reg.XLT_CAP_RATIO.RATIO_MEAS : Fld := ⟨0x220084, 15, 8, 0x0, 0x0⟩
def Reg.XLT_CAP_RATIO.RATIO_CAP : Fld := ⟨0x220084, 7, 0, 0x0, 0x0⟩
/-! XLT_CAP_FIRM (04_firm_and_elastic_capacity.md, R122) -/

def Reg.XLT_CAP_FIRM.FIRM_2M : Fld := ⟨0x220088, 24, 0, 0x0, 0x0⟩
/-! XLT_CAP_STATUS (04_firm_and_elastic_capacity.md, R122) -/

def Reg.XLT_CAP_STATUS.FREE_TENTHS : Fld := ⟨0x22008C, 31, 24, 0x0, 0x0⟩
def Reg.XLT_CAP_STATUS.BREACH_HEADS : Fld := ⟨0x22008C, 23, 16, 0x0, 0x0⟩
def Reg.XLT_CAP_STATUS.CAP_OVER : Fld := ⟨0x22008C, 5, 5, 0x0, 0x0⟩
def Reg.XLT_CAP_STATUS.FIRM_HELD : Fld := ⟨0x22008C, 4, 4, 0x0, 0x0⟩
def Reg.XLT_CAP_STATUS.POOL_FULL : Fld := ⟨0x22008C, 3, 3, 0x0, 0x0⟩
def Reg.XLT_CAP_STATUS.LEVEL : Fld := ⟨0x22008C, 1, 0, 0x0, 0x0⟩
/-! XLT_CAP_POOL (04_firm_and_elastic_capacity.md, R122) -/

def Reg.XLT_CAP_POOL.LINES : Fld := ⟨0x220090, 19, 0, 0x0, 0x0⟩
/-! XLT_CAP_HEADS (04_firm_and_elastic_capacity.md, R122) -/

def Reg.XLT_CAP_HEADS.HOLDING : Fld := ⟨0x220094, 15, 8, 0x0, 0x0⟩
def Reg.XLT_CAP_HEADS.ACCEPTED : Fld := ⟨0x220094, 7, 0, 0x0, 0x0⟩
/-! CDC_CFG (05_segment_and_page_codecs.md, R147) -/

def Reg.CDC_CFG.TRAIN_EN : Fld := ⟨0x230000, 2, 2, 0x0, 0x0⟩
def Reg.CDC_CFG.DEEP_EN : Fld := ⟨0x230000, 1, 1, 0x0, 0x0⟩
def Reg.CDC_CFG.PACK_EN : Fld := ⟨0x230000, 0, 0, 0x0, 0x0⟩
/-! CDC_STATUS (05_segment_and_page_codecs.md, R147) -/

def Reg.CDC_STATUS.COMP_OOS : Fld := ⟨0x230004, 31, 24, 0x0, 0x0⟩
def Reg.CDC_STATUS.DECOMP_OOS : Fld := ⟨0x230004, 23, 8, 0x0, 0x0⟩
def Reg.CDC_STATUS.CODEC_LAST : Fld := ⟨0x230004, 1, 1, 0x0, 0x0⟩
def Reg.CDC_STATUS.VERIFY_ERR : Fld := ⟨0x230004, 0, 0, 0x0, 0x0⟩
/-! DEEP_CFG (05_segment_and_page_codecs.md, R147) -/

def Reg.DEEP_CFG.MIN_GAIN : Fld := ⟨0x230040, 23, 16, 0x0, 0x0⟩
def Reg.DEEP_CFG.TRAIN_PAGES_K : Fld := ⟨0x230040, 15, 8, 0x0, 0x0⟩
def Reg.DEEP_CFG.ENGINE_OOS : Fld := ⟨0x230040, 7, 4, 0x0, 0x0⟩
/-! DEEP_STATUS (05_segment_and_page_codecs.md, R147) -/

def Reg.DEEP_STATUS.TRAIN_STATE : Fld := ⟨0x230044, 7, 4, 0x0, 0x0⟩
def Reg.DEEP_STATUS.DICT_RELOAD : Fld := ⟨0x230044, 0, 0, 0x0, 0x0⟩
/-! DEEP_DICT_STATE (05_segment_and_page_codecs.md, R147) -/

def Reg.DEEP_DICT_STATE.SLOT_STATE : Fld := ⟨0x230048, 31, 2, 0x0, 0x0⟩
/-! DEEP_DICTn_INFO (05_segment_and_page_codecs.md, R147) -/

def Reg.DEEP_DICTn_INFO.KEY : Fld := ⟨0x230100, 25, 16, 0x10, 0x0⟩
def Reg.DEEP_DICTn_INFO.SIZE : Fld := ⟨0x230100, 15, 0, 0x10, 0x0⟩
/-! DEEP_DICTn_REFS_LO (05_segment_and_page_codecs.md, R147) -/

def Reg.DEEP_DICTn_REFS_LO.COUNT_LO : Fld := ⟨0x230104, 31, 0, 0x10, 0x0⟩
/-! DEEP_DICTn_REFS_HI (05_segment_and_page_codecs.md, R147) -/

def Reg.DEEP_DICTn_REFS_HI.COUNT_HI : Fld := ⟨0x230108, 7, 0, 0x10, 0x0⟩
/-! DRL_CFG (06_derailleur_tiering.md, R172) -/

def Reg.DRL_CFG.PARK_EN : Fld := ⟨0x240000, 3, 3, 0x0, 0x0⟩
def Reg.DRL_CFG.COMPACT_EN : Fld := ⟨0x240000, 2, 2, 0x0, 0x0⟩
def Reg.DRL_CFG.DIRECT_EN : Fld := ⟨0x240000, 1, 1, 0x0, 0x0⟩
def Reg.DRL_CFG.TIER_EN : Fld := ⟨0x240000, 0, 0, 0x0, 0x0⟩
/-! DRL_TARGET (06_derailleur_tiering.md, R172) -/

def Reg.DRL_TARGET.OPEN_TGT : Fld := ⟨0x240004, 23, 16, 0x0, 0x0⟩
def Reg.DRL_TARGET.DIR_TGT : Fld := ⟨0x240004, 15, 8, 0x0, 0x0⟩
def Reg.DRL_TARGET.PIN_MAX : Fld := ⟨0x240004, 7, 0, 0x0, 0x0⟩
/-! DRL_THR_EXT (06_derailleur_tiering.md, R172) -/

def Reg.DRL_THR_EXT.DIR_UP : Fld := ⟨0x240008, 15, 8, 0x0, 0x0⟩
def Reg.DRL_THR_EXT.DIR_DOWN : Fld := ⟨0x240008, 7, 0, 0x0, 0x0⟩
/-! DRL_THR_PAGE (06_derailleur_tiering.md, R172) -/

def Reg.DRL_THR_PAGE.PACK_UP : Fld := ⟨0x24000C, 31, 24, 0x0, 0x0⟩
def Reg.DRL_THR_PAGE.DEEP_DOWN : Fld := ⟨0x24000C, 23, 16, 0x0, 0x0⟩
def Reg.DRL_THR_PAGE.OPEN_UP : Fld := ⟨0x24000C, 15, 8, 0x0, 0x0⟩
def Reg.DRL_THR_PAGE.OPEN_DOWN : Fld := ⟨0x24000C, 7, 0, 0x0, 0x0⟩
/-! DRL_SWEEP (06_derailleur_tiering.md, R172) -/

def Reg.DRL_SWEEP.LAST_LAP : Fld := ⟨0x240010, 31, 16, 0x0, 0x0⟩
def Reg.DRL_SWEEP.LAP_TGT : Fld := ⟨0x240010, 15, 0, 0x0, 0x0⟩
/-! DRL_PARK (06_derailleur_tiering.md, R172) -/

def Reg.DRL_PARK.PARKED : Fld := ⟨0x240014, 23, 16, 0x0, 0x0⟩
def Reg.DRL_PARK.DESIGNATED : Fld := ⟨0x240014, 15, 8, 0x0, 0x0⟩
def Reg.DRL_PARK.PARK_MAX : Fld := ⟨0x240014, 3, 0, 0x0, 0x0⟩
/-! DRL_COMP (06_derailleur_tiering.md, R172) -/

def Reg.DRL_COMP.LOW_PM : Fld := ⟨0x240018, 15, 8, 0x0, 0x0⟩
def Reg.DRL_COMP.URGENT_PM : Fld := ⟨0x240018, 7, 0, 0x0, 0x0⟩
/-! DRL_STATUS (06_derailleur_tiering.md, R172) -/

def Reg.DRL_STATUS.SET_SHRUNK : Fld := ⟨0x24001C, 4, 4, 0x0, 0x0⟩
def Reg.DRL_STATUS.QUEUE_DROP : Fld := ⟨0x24001C, 3, 3, 0x0, 0x0⟩
def Reg.DRL_STATUS.ABANDON : Fld := ⟨0x24001C, 2, 2, 0x0, 0x0⟩
def Reg.DRL_STATUS.COMP_URGENT : Fld := ⟨0x24001C, 1, 1, 0x0, 0x0⟩
def Reg.DRL_STATUS.ACTIVE : Fld := ⟨0x24001C, 0, 0, 0x0, 0x0⟩
/-! PRTn_RGNe_HBASE (07_multi_host_coherence.md, R199) -/

def Reg.PRTn_RGNe_HBASE.HBASE_2M : Fld := ⟨0x100800, 24, 0, 0x10000, 0x10⟩
/-! PRTn_RGNe_DBASE (07_multi_host_coherence.md, R199) -/

def Reg.PRTn_RGNe_DBASE.DBASE_2M : Fld := ⟨0x100804, 24, 0, 0x10000, 0x10⟩
/-! PRTn_RGNe_SIZE (07_multi_host_coherence.md, R199) -/

def Reg.PRTn_RGNe_SIZE.SIZE_2M : Fld := ⟨0x100808, 24, 0, 0x10000, 0x10⟩
/-! PRTn_RGNe_CTL (07_multi_host_coherence.md, R199) -/

def Reg.PRTn_RGNe_CTL.KEY : Fld := ⟨0x10080C, 25, 16, 0x10000, 0x10⟩
def Reg.PRTn_RGNe_CTL.ORIGIN : Fld := ⟨0x10080C, 4, 4, 0x10000, 0x10⟩
def Reg.PRTn_RGNe_CTL.CLASS : Fld := ⟨0x10080C, 3, 2, 0x10000, 0x10⟩
def Reg.PRTn_RGNe_CTL.KIND : Fld := ⟨0x10080C, 1, 1, 0x10000, 0x10⟩
def Reg.PRTn_RGNe_CTL.VALID : Fld := ⟨0x10080C, 0, 0, 0x10000, 0x10⟩
/-! PRTn_RGN_STATUS (07_multi_host_coherence.md, R199) -/

def Reg.PRTn_RGN_STATUS.CHK_BUSY : Fld := ⟨0x100890, 10, 10, 0x10000, 0x0⟩
def Reg.PRTn_RGN_STATUS.RMV_BUSY : Fld := ⟨0x100890, 9, 9, 0x10000, 0x0⟩
def Reg.PRTn_RGN_STATUS.REJ : Fld := ⟨0x100890, 8, 8, 0x10000, 0x0⟩
def Reg.PRTn_RGN_STATUS.REJ_ENTRY : Fld := ⟨0x100890, 7, 4, 0x10000, 0x0⟩
def Reg.PRTn_RGN_STATUS.REJ_CODE : Fld := ⟨0x100890, 3, 0, 0x10000, 0x0⟩
/-! DIR_CFG (07_multi_host_coherence.md, R199) -/

def Reg.DIR_CFG.BLK_SNP_EN : Fld := ⟨0x210000, 0, 0, 0x0, 0x0⟩
/-! DIR_SNP_TMO (07_multi_host_coherence.md, R199) -/

def Reg.DIR_SNP_TMO.TMO_US : Fld := ⟨0x210004, 16, 0, 0x0, 0x0⟩
/-! DIR_STATUS (07_multi_host_coherence.md, R199) -/

def Reg.DIR_STATUS.FENCED : Fld := ⟨0x210008, 23, 16, 0x0, 0x0⟩
def Reg.DIR_STATUS.SET_LOST : Fld := ⟨0x210008, 7, 7, 0x0, 0x0⟩
def Reg.DIR_STATUS.DUP_FIX : Fld := ⟨0x210008, 6, 6, 0x0, 0x0⟩
def Reg.DIR_STATUS.BCAST : Fld := ⟨0x210008, 5, 5, 0x0, 0x0⟩
def Reg.DIR_STATUS.VIOL : Fld := ⟨0x210008, 4, 4, 0x0, 0x0⟩
def Reg.DIR_STATUS.TMO : Fld := ⟨0x210008, 3, 3, 0x0, 0x0⟩
/-! DIR_TMO_LOG (07_multi_host_coherence.md, R199) -/

def Reg.DIR_TMO_LOG.VALID : Fld := ⟨0x21000C, 31, 31, 0x0, 0x0⟩
def Reg.DIR_TMO_LOG.LINKDOWN : Fld := ⟨0x21000C, 30, 30, 0x0, 0x0⟩
def Reg.DIR_TMO_LOG.HEAD : Fld := ⟨0x21000C, 26, 24, 0x0, 0x0⟩
def Reg.DIR_TMO_LOG.EM_LINES : Fld := ⟨0x21000C, 23, 0, 0x0, 0x0⟩
/-! PRTn_LINK_CFG (08_host_ports.md, R230) -/

def Reg.PRTn_LINK_CFG.MAX_RATE : Fld := ⟨0x100000, 15, 13, 0x10000, 0x0⟩
def Reg.PRTn_LINK_CFG.CLK_MODE : Fld := ⟨0x100000, 11, 10, 0x10000, 0x0⟩
def Reg.PRTn_LINK_CFG.L0P_EN : Fld := ⟨0x100000, 9, 9, 0x10000, 0x0⟩
def Reg.PRTn_LINK_CFG.LOFLIT_EN : Fld := ⟨0x100000, 8, 8, 0x10000, 0x0⟩
def Reg.PRTn_LINK_CFG.L0P_MIN : Fld := ⟨0x100000, 5, 4, 0x10000, 0x0⟩
def Reg.PRTn_LINK_CFG.RETRAIN : Fld := ⟨0x100000, 3, 3, 0x10000, 0x0⟩
/-! PRTn_LINK_STATUS (08_host_ports.md, R230) -/

def Reg.PRTn_LINK_STATUS.UP : Fld := ⟨0x100004, 31, 31, 0x10000, 0x0⟩
def Reg.PRTn_LINK_STATUS.MEM : Fld := ⟨0x100004, 30, 30, 0x10000, 0x0⟩
def Reg.PRTn_LINK_STATUS.TANDEM : Fld := ⟨0x100004, 29, 29, 0x10000, 0x0⟩
def Reg.PRTn_LINK_STATUS.FLIT256 : Fld := ⟨0x100004, 28, 28, 0x10000, 0x0⟩
def Reg.PRTn_LINK_STATUS.LOFLIT : Fld := ⟨0x100004, 27, 27, 0x10000, 0x0⟩
def Reg.PRTn_LINK_STATUS.RATE : Fld := ⟨0x100004, 26, 24, 0x10000, 0x0⟩
def Reg.PRTn_LINK_STATUS.WIDTH : Fld := ⟨0x100004, 23, 19, 0x10000, 0x0⟩
def Reg.PRTn_LINK_STATUS.TX_WIDTH : Fld := ⟨0x100004, 18, 14, 0x10000, 0x0⟩
def Reg.PRTn_LINK_STATUS.RX_WIDTH : Fld := ⟨0x100004, 13, 9, 0x10000, 0x0⟩
def Reg.PRTn_LINK_STATUS.SRIS : Fld := ⟨0x100004, 8, 8, 0x10000, 0x0⟩
def Reg.PRTn_LINK_STATUS.IDE_IO : Fld := ⟨0x100004, 7, 7, 0x10000, 0x0⟩
def Reg.PRTn_LINK_STATUS.IDE_CM : Fld := ⟨0x100004, 6, 6, 0x10000, 0x0⟩
def Reg.PRTn_LINK_STATUS.LTSSM : Fld := ⟨0x100004, 5, 0, 0x10000, 0x0⟩
/-! PRTn_LINK_ERR (08_host_ports.md, R230) -/

def Reg.PRTn_LINK_ERR.SURPRISE_DOWN : Fld := ⟨0x100008, 10, 10, 0x10000, 0x0⟩
def Reg.PRTn_LINK_ERR.DEGRADED : Fld := ⟨0x100008, 9, 9, 0x10000, 0x0⟩
def Reg.PRTn_LINK_ERR.RX_OVERFLOW : Fld := ⟨0x100008, 8, 8, 0x10000, 0x0⟩
def Reg.PRTn_LINK_ERR.IDE_FAIL : Fld := ⟨0x100008, 7, 7, 0x10000, 0x0⟩
def Reg.PRTn_LINK_ERR.PRE_ACTIVE : Fld := ⟨0x100008, 6, 6, 0x10000, 0x0⟩
def Reg.PRTn_LINK_ERR.HDM_MISS : Fld := ⟨0x100008, 5, 5, 0x10000, 0x0⟩
def Reg.PRTn_LINK_ERR.MALFORMED : Fld := ⟨0x100008, 4, 4, 0x10000, 0x0⟩
def Reg.PRTn_LINK_ERR.RETRAINED : Fld := ⟨0x100008, 3, 3, 0x10000, 0x0⟩
def Reg.PRTn_LINK_ERR.FEC_UE : Fld := ⟨0x100008, 2, 2, 0x10000, 0x0⟩
/-! PRTn_CRD_STATUS (08_host_ports.md, R230) -/

def Reg.PRTn_CRD_STATUS.RWD_HOLD : Fld := ⟨0x10000C, 20, 20, 0x10000, 0x0⟩
def Reg.PRTn_CRD_STATUS.REQ_HOST : Fld := ⟨0x10000C, 19, 10, 0x10000, 0x0⟩
def Reg.PRTn_CRD_STATUS.RWD_HOST : Fld := ⟨0x10000C, 9, 0, 0x10000, 0x0⟩
/-! PRTn_TEST_CTL (08_host_ports.md, R230) -/

def Reg.PRTn_TEST_CTL.LANE_MASK : Fld := ⟨0x100010, 15, 8, 0x10000, 0x0⟩
def Reg.PRTn_TEST_CTL.PATTERN : Fld := ⟨0x100010, 5, 4, 0x10000, 0x0⟩
def Reg.PRTn_TEST_CTL.LOOP : Fld := ⟨0x100010, 2, 0, 0x10000, 0x0⟩
/-! PRTn_TEST_STATUS (08_host_ports.md, R230) -/

def Reg.PRTn_TEST_STATUS.LANE_LOCK : Fld := ⟨0x100014, 15, 8, 0x10000, 0x0⟩
def Reg.PRTn_TEST_STATUS.ACTIVE : Fld := ⟨0x100014, 0, 0, 0x10000, 0x0⟩
/-! DRC_GLB_CFG (09_dram_channels.md, R263) -/

def Reg.DRC_GLB_CFG.SPEED_MAX : Fld := ⟨0x400000, 7, 4, 0x0, 0x0⟩
def Reg.DRC_GLB_CFG.PPR_HARD_EN : Fld := ⟨0x400000, 3, 3, 0x0, 0x0⟩
def Reg.DRC_GLB_CFG.PPR_SOFT_EN : Fld := ⟨0x400000, 2, 2, 0x0, 0x0⟩
def Reg.DRC_GLB_CFG.ECS_EN : Fld := ⟨0x400000, 1, 1, 0x0, 0x0⟩
/-! DRC_GLB_STATUS (09_dram_channels.md, R263) -/

def Reg.DRC_GLB_STATUS.USED : Fld := ⟨0x400004, 31, 16, 0x0, 0x0⟩
def Reg.DRC_GLB_STATUS.FAILED : Fld := ⟨0x400004, 15, 0, 0x0, 0x0⟩
/-! DRCn_POP (09_dram_channels.md, R263) -/

def Reg.DRCn_POP.RATE : Fld := ⟨0x400010, 31, 28, 0x20000, 0x0⟩
def Reg.DRCn_POP.KIND : Fld := ⟨0x400010, 27, 26, 0x20000, 0x0⟩
def Reg.DRCn_POP.DIMMS : Fld := ⟨0x400010, 25, 24, 0x20000, 0x0⟩
def Reg.DRCn_POP.RANKS : Fld := ⟨0x400010, 23, 22, 0x20000, 0x0⟩
def Reg.DRCn_POP.STACK : Fld := ⟨0x400010, 21, 20, 0x20000, 0x0⟩
def Reg.DRCn_POP.DENSITY : Fld := ⟨0x400010, 19, 18, 0x20000, 0x0⟩
def Reg.DRCn_POP.MATCH : Fld := ⟨0x400010, 17, 17, 0x20000, 0x0⟩
/-! DRCn_STATE (09_dram_channels.md, R263) -/

def Reg.DRCn_STATE.STATE : Fld := ⟨0x400014, 31, 29, 0x20000, 0x0⟩
def Reg.DRCn_STATE.TRAINED : Fld := ⟨0x400014, 28, 28, 0x20000, 0x0⟩
def Reg.DRCn_STATE.BAND : Fld := ⟨0x400014, 27, 26, 0x20000, 0x0⟩
def Reg.DRCn_STATE.REF2X : Fld := ⟨0x400014, 25, 25, 0x20000, 0x0⟩
def Reg.DRCn_STATE.RANK_PARK : Fld := ⟨0x400014, 15, 8, 0x20000, 0x0⟩
def Reg.DRCn_STATE.RANK_SR : Fld := ⟨0x400014, 7, 0, 0x20000, 0x0⟩
/-! DRCn_PWR_CFG (09_dram_channels.md, R263) -/

def Reg.DRCn_PWR_CFG.PD_IDLE : Fld := ⟨0x400018, 31, 24, 0x20000, 0x0⟩
def Reg.DRCn_PWR_CFG.SR_IDLE : Fld := ⟨0x400018, 23, 12, 0x20000, 0x0⟩
def Reg.DRCn_PWR_CFG.QUIET_IDLE : Fld := ⟨0x400018, 11, 0, 0x20000, 0x0⟩
/-! DRCn_ERR (09_dram_channels.md, R263) -/

def Reg.DRCn_ERR.I3C_FALLBACK : Fld := ⟨0x40001C, 8, 8, 0x20000, 0x0⟩
def Reg.DRCn_ERR.SENSOR_LOST : Fld := ⟨0x40001C, 7, 7, 0x20000, 0x0⟩
def Reg.DRCn_ERR.PMIC_FAULT : Fld := ⟨0x40001C, 6, 6, 0x20000, 0x0⟩
def Reg.DRCn_ERR.PPR_EXHAUST : Fld := ⟨0x40001C, 5, 5, 0x20000, 0x0⟩
def Reg.DRCn_ERR.PPR_DONE : Fld := ⟨0x40001C, 4, 4, 0x20000, 0x0⟩
def Reg.DRCn_ERR.THERM_CRIT : Fld := ⟨0x40001C, 3, 3, 0x20000, 0x0⟩
def Reg.DRCn_ERR.REPLAY_FAIL : Fld := ⟨0x40001C, 2, 2, 0x20000, 0x0⟩
def Reg.DRCn_ERR.CA_PAR : Fld := ⟨0x40001C, 1, 1, 0x20000, 0x0⟩
def Reg.DRCn_ERR.TRAIN_FAIL : Fld := ⟨0x40001C, 0, 0, 0x20000, 0x0⟩
/-! TRM_CFG (10_guarding_stored_data.md, R290) -/

def Reg.TRM_CFG.RESYNC_GBS : Fld := ⟨0x250000, 23, 16, 0x0, 0x0⟩
def Reg.TRM_CFG.LAP_TGT_H : Fld := ⟨0x250000, 15, 4, 0x0, 0x0⟩
def Reg.TRM_CFG.TRM_EN : Fld := ⟨0x250000, 0, 0, 0x0, 0x0⟩
/-! TRM_STATUS (10_guarding_stored_data.md, R290) -/

def Reg.TRM_STATUS.LAST_LAP_H : Fld := ⟨0x250004, 31, 16, 0x0, 0x0⟩
def Reg.TRM_STATUS.PROGRESS : Fld := ⟨0x250004, 9, 0, 0x0, 0x0⟩
/-! TRM_EVENTS (10_guarding_stored_data.md, R290) -/

def Reg.TRM_EVENTS.MIRROR_FIX : Fld := ⟨0x250008, 5, 5, 0x0, 0x0⟩
def Reg.TRM_EVENTS.PARITY_FIX : Fld := ⟨0x250008, 4, 4, 0x0, 0x0⟩
def Reg.TRM_EVENTS.LAP_SLOW : Fld := ⟨0x250008, 3, 3, 0x0, 0x0⟩
def Reg.TRM_EVENTS.LOST : Fld := ⟨0x250008, 2, 2, 0x0, 0x0⟩
def Reg.TRM_EVENTS.LOST_FULL : Fld := ⟨0x250008, 1, 1, 0x0, 0x0⟩
def Reg.TRM_EVENTS.ACTIVE : Fld := ⟨0x250008, 0, 0, 0x0, 0x0⟩
/-! TRM_LOST (10_guarding_stored_data.md, R290) -/

def Reg.TRM_LOST.COUNT : Fld := ⟨0x25000C, 10, 0, 0x0, 0x0⟩
/-! TRM_RESYNC (10_guarding_stored_data.md, R290) -/

def Reg.TRM_RESYNC.RESYNC : Fld := ⟨0x250010, 31, 16, 0x0, 0x0⟩
def Reg.TRM_RESYNC.LOCKED_OUT : Fld := ⟨0x250010, 15, 0, 0x0, 0x0⟩
/-! DRCn_MARK (10_guarding_stored_data.md, R290) -/

def Reg.DRCn_MARK.MARK_B : Fld := ⟨0x400020, 23, 16, 0x20000, 0x0⟩
def Reg.DRCn_MARK.MARK_A : Fld := ⟨0x400020, 15, 8, 0x20000, 0x0⟩
/-! CRY_STATUS (11_cryptographic_module.md, R324) -/

def Reg.CRY_STATUS.STATE : Fld := ⟨0x610000, 31, 30, 0x0, 0x0⟩
def Reg.CRY_STATUS.APPROVED : Fld := ⟨0x610000, 29, 29, 0x0, 0x0⟩
def Reg.CRY_STATUS.DEBUG_UNLOCKED : Fld := ⟨0x610000, 28, 28, 0x0, 0x0⟩
def Reg.CRY_STATUS.ERR_CAUSE : Fld := ⟨0x610000, 27, 24, 0x0, 0x0⟩
def Reg.CRY_STATUS.IDE_UNAUTH : Fld := ⟨0x610000, 23, 16, 0x0, 0x0⟩
def Reg.CRY_STATUS.IDE_ANY_SESSION : Fld := ⟨0x610000, 15, 15, 0x0, 0x0⟩
def Reg.CRY_STATUS.IDE_KAT_FAIL : Fld := ⟨0x610000, 14, 14, 0x0, 0x0⟩
def Reg.CRY_STATUS.SLOTS_ACTIVE : Fld := ⟨0x610000, 10, 0, 0x0, 0x0⟩
/-! CRY_SLOT_SEL (11_cryptographic_module.md, R324) -/

def Reg.CRY_SLOT_SEL.SLOT : Fld := ⟨0x610010, 9, 0, 0x0, 0x0⟩
/-! CRY_SLOT_INFO (11_cryptographic_module.md, R324) -/

def Reg.CRY_SLOT_INFO.STATE : Fld := ⟨0x610014, 31, 30, 0x0, 0x0⟩
def Reg.CRY_SLOT_INFO.ORIGIN : Fld := ⟨0x610014, 29, 29, 0x0, 0x0⟩
def Reg.CRY_SLOT_INFO.EXTENTS : Fld := ⟨0x610014, 24, 0, 0x0, 0x0⟩
/-! CRY_SLOT_REFS (11_cryptographic_module.md, R324) -/

def Reg.CRY_SLOT_REFS.DICTS : Fld := ⟨0x610018, 11, 8, 0x0, 0x0⟩
def Reg.CRY_SLOT_REFS.REGIONS : Fld := ⟨0x610018, 6, 0, 0x0, 0x0⟩
/-! CRY_FW (11_cryptographic_module.md, R324) -/

def Reg.CRY_FW.SVN_FUSE : Fld := ⟨0x610020, 31, 24, 0x0, 0x0⟩
def Reg.CRY_FW.SVN_IMAGE : Fld := ⟨0x610020, 23, 16, 0x0, 0x0⟩
def Reg.CRY_FW.VKEY : Fld := ⟨0x610020, 5, 4, 0x0, 0x0⟩
def Reg.CRY_FW.PENDING : Fld := ⟨0x610020, 1, 1, 0x0, 0x0⟩
def Reg.CRY_FW.ACTIVE_SLOT : Fld := ⟨0x610020, 0, 0, 0x0, 0x0⟩
/-! XTS_STATUS (11_cryptographic_module.md, R324) -/

def Reg.XTS_STATUS.SPARE_ACTIVE : Fld := ⟨0x600000, 31, 31, 0x0, 0x0⟩
def Reg.XTS_STATUS.SPARE_FAIL : Fld := ⟨0x600000, 30, 30, 0x0, 0x0⟩
def Reg.XTS_STATUS.SPARE_CH : Fld := ⟨0x600000, 23, 20, 0x0, 0x0⟩
def Reg.XTS_STATUS.ENGINE_OOS : Fld := ⟨0x600000, 15, 0, 0x0, 0x0⟩
/-! XTS_EVENTS (11_cryptographic_module.md, R324) -/

def Reg.XTS_EVENTS.SWITCHED : Fld := ⟨0x600004, 2, 2, 0x0, 0x0⟩
def Reg.XTS_EVENTS.KAT_FAIL : Fld := ⟨0x600004, 1, 1, 0x0, 0x0⟩
def Reg.XTS_EVENTS.CHECK_MISMATCH : Fld := ⟨0x600004, 0, 0, 0x0, 0x0⟩
/-! CMD_STATUS (12_command_rings.md, R354) -/

def Reg.CMD_STATUS.VALID : Fld := ⟨0x800000, 31, 31, 0x0, 0x0⟩
def Reg.CMD_STATUS.CQ : Fld := ⟨0x800000, 30, 30, 0x0, 0x0⟩
def Reg.CMD_STATUS.RING : Fld := ⟨0x800000, 29, 24, 0x0, 0x0⟩
def Reg.CMD_STATUS.CODE : Fld := ⟨0x800000, 23, 20, 0x0, 0x0⟩
def Reg.CMD_STATUS.MGT_PAUSE : Fld := ⟨0x800000, 0, 0, 0x0, 0x0⟩
/-! CMD_OWNk (12_command_rings.md, R354) -/

def Reg.CMD_OWNk.OWN : Fld := ⟨0x800010, 23, 0, 0x4, 0x0⟩
/-! CMD_WINh (12_command_rings.md, R354) -/

def Reg.CMD_WINh.EN : Fld := ⟨0x800040, 31, 31, 0x8, 0x0⟩
def Reg.CMD_WINh.WIN_ERR : Fld := ⟨0x800040, 30, 30, 0x8, 0x0⟩
def Reg.CMD_WINh.BASE_2M : Fld := ⟨0x800040, 24, 0, 0x8, 0x0⟩
/-! CMD_HEADh (12_command_rings.md, R354) -/

def Reg.CMD_HEADh.WIN_SIZE : Fld := ⟨0x800044, 31, 24, 0x8, 0x0⟩
def Reg.CMD_HEADh.CAP_VEC : Fld := ⟨0x800044, 22, 16, 0x8, 0x0⟩
def Reg.CMD_HEADh.MOD_COUNT : Fld := ⟨0x800044, 15, 8, 0x8, 0x0⟩
def Reg.CMD_HEADh.MOD_TIME : Fld := ⟨0x800044, 7, 0, 0x8, 0x0⟩
/-! CMD_SQr (12_command_rings.md, R354) -/

def Reg.CMD_SQr.EN : Fld := ⟨0x800100, 31, 31, 0x4, 0x0⟩
def Reg.CMD_SQr.CQ : Fld := ⟨0x800100, 30, 25, 0x4, 0x0⟩
def Reg.CMD_SQr.SIZE : Fld := ⟨0x800100, 24, 21, 0x4, 0x0⟩
def Reg.CMD_SQr.WEIGHT : Fld := ⟨0x800100, 20, 17, 0x4, 0x0⟩
def Reg.CMD_SQr.OFFSET_4K : Fld := ⟨0x800100, 16, 0, 0x4, 0x0⟩
/-! CMD_CQr (12_command_rings.md, R354) -/

def Reg.CMD_CQr.EN : Fld := ⟨0x800200, 31, 31, 0x4, 0x0⟩
def Reg.CMD_CQr.VEC : Fld := ⟨0x800200, 30, 24, 0x4, 0x0⟩
def Reg.CMD_CQr.SIZE : Fld := ⟨0x800200, 23, 20, 0x4, 0x0⟩
def Reg.CMD_CQr.OFFSET_4K : Fld := ⟨0x800200, 16, 0, 0x4, 0x0⟩
/-! PWR_POLICY (13_power_domains.md, R373) -/

def Reg.PWR_POLICY.SNS_SENT : Fld := ⟨0x700000, 16, 16, 0x0, 0x0⟩
def Reg.PWR_POLICY.DEEP : Fld := ⟨0x700000, 15, 14, 0x0, 0x0⟩
def Reg.PWR_POLICY.CDC : Fld := ⟨0x700000, 13, 12, 0x0, 0x0⟩
def Reg.PWR_POLICY.XLT : Fld := ⟨0x700000, 11, 10, 0x0, 0x0⟩
def Reg.PWR_POLICY.DIR : Fld := ⟨0x700000, 9, 8, 0x0, 0x0⟩
def Reg.PWR_POLICY.NC : Fld := ⟨0x700000, 7, 6, 0x0, 0x0⟩
def Reg.PWR_POLICY.CH : Fld := ⟨0x700000, 5, 4, 0x0, 0x0⟩
def Reg.PWR_POLICY.PRT : Fld := ⟨0x700000, 3, 2, 0x0, 0x0⟩
def Reg.PWR_POLICY.MGT : Fld := ⟨0x700000, 1, 0, 0x0, 0x0⟩
/-! PWR_IDLE (13_power_domains.md, R373) -/

def Reg.PWR_IDLE.CH_MS : Fld := ⟨0x700004, 31, 24, 0x0, 0x0⟩
def Reg.PWR_IDLE.CDC_10US : Fld := ⟨0x700004, 23, 16, 0x0, 0x0⟩
def Reg.PWR_IDLE.DEEP_MS : Fld := ⟨0x700004, 15, 8, 0x0, 0x0⟩
def Reg.PWR_IDLE.SLICE_10US : Fld := ⟨0x700004, 7, 0, 0x0, 0x0⟩
/-! PWR_TMO (13_power_domains.md, R373) -/

def Reg.PWR_TMO.STOP_TMO : Fld := ⟨0x700008, 15, 8, 0x0, 0x0⟩
def Reg.PWR_TMO.REFUSE_HOLD : Fld := ⟨0x700008, 7, 0, 0x0, 0x0⟩
/-! PWR_SENT (13_power_domains.md, R373) -/

def Reg.PWR_SENT.DET_PERIOD : Fld := ⟨0x70000C, 7, 0, 0x0, 0x0⟩
/-! PWR_STATEk (13_power_domains.md, R373) -/

def Reg.PWR_STATEk.STATE : Fld := ⟨0x700010, 31, 0, 0x4, 0x0⟩
/-! PWR_STATUS (13_power_domains.md, R373) -/

def Reg.PWR_STATUS.PFAULT : Fld := ⟨0x700020, 5, 5, 0x0, 0x0⟩
def Reg.PWR_STATUS.BROWNOUT : Fld := ⟨0x700020, 4, 4, 0x0, 0x0⟩
def Reg.PWR_STATUS.STALE : Fld := ⟨0x700020, 3, 3, 0x0, 0x0⟩
def Reg.PWR_STATUS.WAKE_FAIL : Fld := ⟨0x700020, 2, 2, 0x0, 0x0⟩
def Reg.PWR_STATUS.REFUSED : Fld := ⟨0x700020, 1, 1, 0x0, 0x0⟩
def Reg.PWR_STATUS.BUSY : Fld := ⟨0x700020, 0, 0, 0x0, 0x0⟩
/-! PWR_REFUSE_LOG (13_power_domains.md, R373) -/

def Reg.PWR_REFUSE_LOG.VALID : Fld := ⟨0x700024, 31, 31, 0x0, 0x0⟩
def Reg.PWR_REFUSE_LOG.DOMAIN : Fld := ⟨0x700024, 29, 24, 0x0, 0x0⟩
def Reg.PWR_REFUSE_LOG.UNIT : Fld := ⟨0x700024, 23, 16, 0x0, 0x0⟩
def Reg.PWR_REFUSE_LOG.CODE : Fld := ⟨0x700024, 11, 8, 0x0, 0x0⟩
def Reg.PWR_REFUSE_LOG.COUNT : Fld := ⟨0x700024, 7, 0, 0x0, 0x0⟩
/-! PWR_WAKE_LOG (13_power_domains.md, R373) -/

def Reg.PWR_WAKE_LOG.VALID : Fld := ⟨0x700028, 31, 31, 0x0, 0x0⟩
def Reg.PWR_WAKE_LOG.DOMAIN : Fld := ⟨0x700028, 29, 24, 0x0, 0x0⟩
def Reg.PWR_WAKE_LOG.SOURCE : Fld := ⟨0x700028, 23, 20, 0x0, 0x0⟩
def Reg.PWR_WAKE_LOG.TIME_NS : Fld := ⟨0x700028, 19, 0, 0x0, 0x0⟩
/-! PWR_WAKE_FAIL (13_power_domains.md, R373) -/

def Reg.PWR_WAKE_FAIL.VALID : Fld := ⟨0x70002C, 31, 31, 0x0, 0x0⟩
def Reg.PWR_WAKE_FAIL.DOMAIN : Fld := ⟨0x70002C, 29, 24, 0x0, 0x0⟩
def Reg.PWR_WAKE_FAIL.CAUSE : Fld := ⟨0x70002C, 23, 22, 0x0, 0x0⟩
/-! CAD_CAP (14_cadence_and_thermal.md, R394) -/

def Reg.CAD_CAP.DRAM_CAP_W : Fld := ⟨0x710000, 25, 16, 0x0, 0x0⟩
def Reg.CAD_CAP.SLED_OTHER_W : Fld := ⟨0x710000, 15, 8, 0x0, 0x0⟩
def Reg.CAD_CAP.DEV_CAP_W : Fld := ⟨0x710000, 7, 0, 0x0, 0x0⟩
/-! CAD_CFG (14_cadence_and_thermal.md, R394) -/

def Reg.CAD_CFG.BG_MAX_W : Fld := ⟨0x710004, 31, 24, 0x0, 0x0⟩
def Reg.CAD_CFG.BG_WARM_W : Fld := ⟨0x710004, 23, 16, 0x0, 0x0⟩
def Reg.CAD_CFG.BG_HOT_W : Fld := ⟨0x710004, 15, 8, 0x0, 0x0⟩
def Reg.CAD_CFG.MIN_SHARE : Fld := ⟨0x710004, 7, 4, 0x0, 0x0⟩
def Reg.CAD_CFG.PACE_EN : Fld := ⟨0x710004, 1, 1, 0x0, 0x0⟩
def Reg.CAD_CFG.CAP_EN : Fld := ⟨0x710004, 0, 0, 0x0, 0x0⟩
/-! CAD_RATE (14_cadence_and_thermal.md, R394) -/

def Reg.CAD_RATE.SHED_RATE : Fld := ⟨0x710008, 23, 16, 0x0, 0x0⟩
def Reg.CAD_RATE.HOST_RATE : Fld := ⟨0x710008, 15, 8, 0x0, 0x0⟩
def Reg.CAD_RATE.DIMM_RATE : Fld := ⟨0x710008, 7, 0, 0x0, 0x0⟩
/-! CAD_PACE (14_cadence_and_thermal.md, R394) -/

def Reg.CAD_PACE.PACE : Fld := ⟨0x71000C, 15, 8, 0x0, 0x0⟩
def Reg.CAD_PACE.PACE_MIN : Fld := ⟨0x71000C, 7, 0, 0x0, 0x0⟩
/-! CAD_STATUS (14_cadence_and_thermal.md, R394) -/

def Reg.CAD_STATUS.FLOOR : Fld := ⟨0x710010, 11, 10, 0x0, 0x0⟩
def Reg.CAD_STATUS.HEAT : Fld := ⟨0x710010, 9, 8, 0x0, 0x0⟩
def Reg.CAD_STATUS.STAGE : Fld := ⟨0x710010, 7, 6, 0x0, 0x0⟩
def Reg.CAD_STATUS.POWER_OVER : Fld := ⟨0x710010, 3, 3, 0x0, 0x0⟩
def Reg.CAD_STATUS.PACED : Fld := ⟨0x710010, 2, 2, 0x0, 0x0⟩
def Reg.CAD_STATUS.RATE_HOST : Fld := ⟨0x710010, 1, 1, 0x0, 0x0⟩
def Reg.CAD_STATUS.RATE_SHED : Fld := ⟨0x710010, 0, 0, 0x0, 0x0⟩
/-! CAD_GRANT (14_cadence_and_thermal.md, R394) -/

def Reg.CAD_GRANT.DIE_W : Fld := ⟨0x710014, 15, 8, 0x0, 0x0⟩
def Reg.CAD_GRANT.DRAM_W : Fld := ⟨0x710014, 7, 0, 0x0, 0x0⟩
/-! CAD_POWER (14_cadence_and_thermal.md, R394) -/

def Reg.CAD_POWER.DRAM_DW : Fld := ⟨0x710018, 31, 16, 0x0, 0x0⟩
def Reg.CAD_POWER.DEV_DW : Fld := ⟨0x710018, 15, 0, 0x0, 0x0⟩
/-! SNS_DIE (14_cadence_and_thermal.md, R394) -/

def Reg.SNS_DIE.BAND : Fld := ⟨0x720000, 31, 30, 0x0, 0x0⟩
def Reg.SNS_DIE.TGRADE : Fld := ⟨0x720000, 29, 29, 0x0, 0x0⟩
def Reg.SNS_DIE.SENSOR : Fld := ⟨0x720000, 28, 24, 0x0, 0x0⟩
def Reg.SNS_DIE.TEMP : Fld := ⟨0x720000, 9, 0, 0x0, 0x0⟩
/-! SNS_DIMM (14_cadence_and_thermal.md, R394) -/

def Reg.SNS_DIMM.BAND : Fld := ⟨0x720004, 31, 30, 0x0, 0x0⟩
def Reg.SNS_DIMM.DIMM : Fld := ⟨0x720004, 28, 24, 0x0, 0x0⟩
def Reg.SNS_DIMM.TEMP : Fld := ⟨0x720004, 9, 0, 0x0, 0x0⟩
/-! SNS_RATE (14_cadence_and_thermal.md, R394) -/

def Reg.SNS_RATE.DIE_RATE : Fld := ⟨0x720008, 31, 16, 0x0, 0x0⟩
def Reg.SNS_RATE.DIMM_RATE : Fld := ⟨0x720008, 15, 0, 0x0, 0x0⟩
/-! SNS_FAIL (14_cadence_and_thermal.md, R394) -/

def Reg.SNS_FAIL.FAILED : Fld := ⟨0x72000C, 27, 0, 0x0, 0x0⟩
/-! HSW_CFG (15_sled_power_and_hot_swap.md, R412) -/

def Reg.HSW_CFG.ILIM_DMV : Fld := ⟨0x730000, 31, 24, 0x0, 0x0⟩
def Reg.HSW_CFG.PLIM_W : Fld := ⟨0x730000, 23, 16, 0x0, 0x0⟩
def Reg.HSW_CFG.FAULT_MS : Fld := ⟨0x730000, 15, 12, 0x0, 0x0⟩
def Reg.HSW_CFG.RAMP_DVMS : Fld := ⟨0x730000, 11, 4, 0x0, 0x0⟩
/-! HSW_SENSE (15_sled_power_and_hot_swap.md, R412) -/

def Reg.HSW_SENSE.RSENSE_UOHM : Fld := ⟨0x730004, 15, 0, 0x0, 0x0⟩
/-! HSW_RETRY (15_sled_power_and_hot_swap.md, R412) -/

def Reg.HSW_RETRY.RETRY_MAX : Fld := ⟨0x730008, 19, 16, 0x0, 0x0⟩
def Reg.HSW_RETRY.COOL_MS : Fld := ⟨0x730008, 15, 0, 0x0, 0x0⟩
/-! HSW_CTL (15_sled_power_and_hot_swap.md, R412) -/

def Reg.HSW_CTL.CYCLE : Fld := ⟨0x73000C, 1, 1, 0x0, 0x0⟩
def Reg.HSW_CTL.UNLATCH : Fld := ⟨0x73000C, 0, 0, 0x0, 0x0⟩
/-! HSW_STATUS (15_sled_power_and_hot_swap.md, R412) -/

def Reg.HSW_STATUS.GATE : Fld := ⟨0x730010, 31, 29, 0x0, 0x0⟩
def Reg.HSW_STATUS.PG : Fld := ⟨0x730010, 28, 28, 0x0, 0x0⟩
def Reg.HSW_STATUS.EN_SEEN : Fld := ⟨0x730010, 27, 27, 0x0, 0x0⟩
def Reg.HSW_STATUS.VIN_OK : Fld := ⟨0x730010, 26, 26, 0x0, 0x0⟩
def Reg.HSW_STATUS.COOL_HELD : Fld := ⟨0x730010, 25, 25, 0x0, 0x0⟩
def Reg.HSW_STATUS.THERM_HELD : Fld := ⟨0x730010, 24, 24, 0x0, 0x0⟩
def Reg.HSW_STATUS.LAST_CAUSE : Fld := ⟨0x730010, 23, 20, 0x0, 0x0⟩
def Reg.HSW_STATUS.TRIPS : Fld := ⟨0x730010, 15, 8, 0x0, 0x0⟩
/-! HSW_TRIP_LOG (15_sled_power_and_hot_swap.md, R412) -/

def Reg.HSW_TRIP_LOG.VALID : Fld := ⟨0x730014, 31, 31, 0x0, 0x0⟩
def Reg.HSW_TRIP_LOG.CAUSE : Fld := ⟨0x730014, 30, 27, 0x0, 0x0⟩
def Reg.HSW_TRIP_LOG.PEAK_A : Fld := ⟨0x730014, 26, 16, 0x0, 0x0⟩
def Reg.HSW_TRIP_LOG.LIMIT_US : Fld := ⟨0x730014, 15, 0, 0x0, 0x0⟩
/-! HSW_MEAS (15_sled_power_and_hot_swap.md, R412) -/

def Reg.HSW_MEAS.IIN_DA : Fld := ⟨0x730018, 31, 16, 0x0, 0x0⟩
def Reg.HSW_MEAS.VIN_MV : Fld := ⟨0x730018, 15, 0, 0x0, 0x0⟩
/-! HSW_VOUT (15_sled_power_and_hot_swap.md, R412) -/

def Reg.HSW_VOUT.VOUT_MV : Fld := ⟨0x73001C, 31, 16, 0x0, 0x0⟩
def Reg.HSW_VOUT.COOL_MV : Fld := ⟨0x73001C, 15, 0, 0x0, 0x0⟩
/-! PMU_CTL (16_counters_and_pannier.md, R430) -/

def Reg.PMU_CTL.USER_EN : Fld := ⟨0x740000, 7, 0, 0x0, 0x0⟩
/-! PMU_OVF_SUM (16_counters_and_pannier.md, R430) -/

def Reg.PMU_OVF_SUM.GROUPS : Fld := ⟨0x740004, 15, 0, 0x0, 0x0⟩
/-! PMU_OVF_CLR (16_counters_and_pannier.md, R430) -/

def Reg.PMU_OVF_CLR.ALL : Fld := ⟨0x740008, 31, 31, 0x0, 0x0⟩
def Reg.PMU_OVF_CLR.GROUP : Fld := ⟨0x740008, 15, 12, 0x0, 0x0⟩
def Reg.PMU_OVF_CLR.INDEX : Fld := ⟨0x740008, 6, 0, 0x0, 0x0⟩
/-! PMU_USER_MASKh (16_counters_and_pannier.md, R430) -/

def Reg.PMU_USER_MASKh.GRP_MASK : Fld := ⟨0x740010, 15, 0, 0x4, 0x0⟩
/-! PMU_GSELg (16_counters_and_pannier.md, R430) -/

def Reg.PMU_GSELg.EN : Fld := ⟨0x740100, 31, 31, 0x4, 0x0⟩
def Reg.PMU_GSELg.CLR : Fld := ⟨0x740100, 30, 30, 0x4, 0x0⟩
def Reg.PMU_GSELg.MODE : Fld := ⟨0x740100, 29, 29, 0x4, 0x0⟩
def Reg.PMU_GSELg.FILT_EN : Fld := ⟨0x740100, 28, 28, 0x4, 0x0⟩
def Reg.PMU_GSELg.FILT : Fld := ⟨0x740100, 21, 16, 0x4, 0x0⟩
def Reg.PMU_GSELg.SRC_GRP : Fld := ⟨0x740100, 15, 12, 0x4, 0x0⟩
def Reg.PMU_GSELg.SRC_IDX : Fld := ⟨0x740100, 6, 0, 0x4, 0x0⟩
/-! BBX_STATUS (16_counters_and_pannier.md, R430) -/

def Reg.BBX_STATUS.READY : Fld := ⟨0x750000, 31, 31, 0x0, 0x0⟩
def Reg.BBX_STATUS.PIN_FULL : Fld := ⟨0x750000, 30, 30, 0x0, 0x0⟩
def Reg.BBX_STATUS.ERASING : Fld := ⟨0x750000, 29, 29, 0x0, 0x0⟩
def Reg.BBX_STATUS.DROPPED : Fld := ⟨0x750000, 28, 28, 0x0, 0x0⟩
def Reg.BBX_STATUS.TORN : Fld := ⟨0x750000, 27, 27, 0x0, 0x0⟩
def Reg.BBX_STATUS.QUEUE : Fld := ⟨0x750000, 6, 0, 0x0, 0x0⟩
/-! BBX_HEAD (16_counters_and_pannier.md, R430) -/

def Reg.BBX_HEAD.SLOT : Fld := ⟨0x750004, 15, 0, 0x0, 0x0⟩
/-! BBX_SEQ_LO (16_counters_and_pannier.md, R430) -/

def Reg.BBX_SEQ_LO.SEQ : Fld := ⟨0x750008, 31, 0, 0x0, 0x0⟩
/-! BBX_SEQ_HI (16_counters_and_pannier.md, R430) -/

def Reg.BBX_SEQ_HI.SEQ : Fld := ⟨0x75000C, 31, 0, 0x0, 0x0⟩
/-! BBX_EPOCH (16_counters_and_pannier.md, R430) -/

def Reg.BBX_EPOCH.EPOCH : Fld := ⟨0x750010, 31, 0, 0x0, 0x0⟩
/-! BBX_PIN (16_counters_and_pannier.md, R430) -/

def Reg.BBX_PIN.COUNT : Fld := ⟨0x750014, 8, 0, 0x0, 0x0⟩
/-! BBX_RD_CTL (16_counters_and_pannier.md, R430) -/

def Reg.BBX_RD_CTL.AREA : Fld := ⟨0x750018, 31, 31, 0x0, 0x0⟩
def Reg.BBX_RD_CTL.DONE : Fld := ⟨0x750018, 30, 30, 0x0, 0x0⟩
def Reg.BBX_RD_CTL.RESULT : Fld := ⟨0x750018, 29, 28, 0x0, 0x0⟩
def Reg.BBX_RD_CTL.SLOT : Fld := ⟨0x750018, 15, 0, 0x0, 0x0⟩
/-! BBX_RD_DATA (16_counters_and_pannier.md, R430) -/

def Reg.BBX_RD_DATA.DATA : Fld := ⟨0x75001C, 31, 0, 0x0, 0x0⟩
/-! BBX_CTL (16_counters_and_pannier.md, R430) -/

def Reg.BBX_CTL.PIN_CLEAR : Fld := ⟨0x750020, 0, 0, 0x0, 0x0⟩
/-! GEN_ID (18_register_space.md, R453) -/

def Reg.GEN_ID.PART : Fld := ⟨0x0, 31, 16, 0x0, 0x0⟩
def Reg.GEN_ID.STEP : Fld := ⟨0x0, 15, 0, 0x0, 0x0⟩
/-! GEN_STATUS (18_register_space.md, R453) -/

def Reg.GEN_STATUS.MEM_READY : Fld := ⟨0x4, 31, 31, 0x0, 0x0⟩
def Reg.GEN_STATUS.NONOWN_DROP : Fld := ⟨0x4, 1, 1, 0x0, 0x0⟩
def Reg.GEN_STATUS.LOCK_DROP : Fld := ⟨0x4, 0, 0, 0x0, 0x0⟩
/-! GEN_SETUP_LOCK (18_register_space.md, R453) -/

def Reg.GEN_SETUP_LOCK.LOCK : Fld := ⟨0x8, 0, 0, 0x0, 0x0⟩
/-! GEN_STRAP (18_register_space.md, R453) -/

def Reg.GEN_STRAP.DIFF : Fld := ⟨0xC, 31, 31, 0x0, 0x0⟩
def Reg.GEN_STRAP.OWNER_HEAD : Fld := ⟨0xC, 14, 12, 0x0, 0x0⟩
def Reg.GEN_STRAP.HEADS : Fld := ⟨0xC, 11, 8, 0x0, 0x0⟩
def Reg.GEN_STRAP.LEAN : Fld := ⟨0xC, 7, 7, 0x0, 0x0⟩
def Reg.GEN_STRAP.OWNER : Fld := ⟨0xC, 6, 4, 0x0, 0x0⟩
def Reg.GEN_STRAP.X16 : Fld := ⟨0xC, 3, 3, 0x0, 0x0⟩
def Reg.GEN_STRAP.HEADS_STRAP : Fld := ⟨0xC, 1, 0, 0x0, 0x0⟩
/-! GEN_WHO (18_register_space.md, R453) -/

def Reg.GEN_WHO.SIDEBAND : Fld := ⟨0x10, 4, 4, 0x0, 0x0⟩
def Reg.GEN_WHO.OWNER : Fld := ⟨0x10, 3, 3, 0x0, 0x0⟩
def Reg.GEN_WHO.HEAD : Fld := ⟨0x10, 2, 0, 0x0, 0x0⟩
/-! TB_NOW_LO (18_register_space.md, R454) -/

def Reg.TB_NOW_LO.TB_LO : Fld := ⟨0x810000, 31, 0, 0x0, 0x0⟩
/-! TB_NOW_HI (18_register_space.md, R454) -/

def Reg.TB_NOW_HI.TB_HI : Fld := ⟨0x810004, 31, 0, 0x0, 0x0⟩

/-- Registers of the tables, part 0. -/
def regs0 : List RegInfo := [
  ⟨0x24010, 0x0, 0, 0, 0x0, 0, 0x830820, 0x0, 0xFFFFFFF, 0x0, 0x0, 0x0, 0x0⟩ /- RTK_INT_PART -/,
  ⟨0x24000, 0x0, 0, 0, 0x0, 0, 0x0, 0x0, 0x0, 0x0, 0x2, 0x0, 0x0⟩ /- RTK_STATUS -/,
  ⟨0x20040, 0x0, 0, 0, 0x0, 0, 0x5A3C19, 0x0, 0xFFFFFF, 0x0, 0x0, 0x0, 0x0⟩ /- FAB_DLD_OCC -/,
  ⟨0x20044, 0x0, 0, 0, 0x0, 0, 0x1F425832, 0x0, 0x3FFFFFFF, 0x0, 0x0, 0x0, 0x0⟩ /- FAB_DLD_DLY -/,
  ⟨0x220000, 0x0, 0, 0, 0x0, 0, 0x5, 0x0, 0xF, 0x0, 0x0, 0x0, 0x0⟩ /- XLT_CFG -/,
  ⟨0x220004, 0x0, 0, 0, 0x0, 0, 0x0, 0x0, 0x0, 0x0, 0xC, 0x0, 0x0⟩ /- XLT_STATUS -/,
  ⟨0x220008, 0x0, 0, 0, 0x0, 0, 0x0, 0x0, 0x0, 0x0, 0x0, 0x0, 0x0⟩ /- XLT_TOUCHED -/,
  ⟨0x22000C, 0x0, 0, 0, 0x0, 0, 0x0, 0x0, 0x0, 0x0, 0x80000000, 0x0, 0x0⟩ /- XLT_MAPLOSS -/,
  ⟨0x220080, 0x0, 0, 0, 0x0, 0, 0x2, 0x0, 0xFF01, 0x6, 0x0, 0x0, 0x0⟩ /- XLT_CAP_CFG -/,
  ⟨0x220084, 0x0, 0, 0, 0x0, 0, 0x1030, 0x0, 0xFF, 0x0, 0x0, 0x0, 0x0⟩ /- XLT_CAP_RATIO -/,
  ⟨0x220088, 0x0, 0, 0, 0x0, 0, 0x0, 0x0, 0x0, 0x0, 0x0, 0x0, 0x0⟩ /- XLT_CAP_FIRM -/,
  ⟨0x22008C, 0x0, 0, 0, 0x0, 0, 0x0, 0x0, 0x0, 0x0, 0xFF0020, 0x0, 0x0⟩ /- XLT_CAP_STATUS -/]

/-- Registers of the tables, part 1. -/
def regs1 : List RegInfo := [
  ⟨0x220090, 0x0, 0, 0, 0x0, 0, 0x0, 0x0, 0x0, 0x0, 0x0, 0x0, 0x0⟩ /- XLT_CAP_POOL -/,
  ⟨0x220094, 0x0, 0, 0, 0x0, 0, 0x0, 0x0, 0x0, 0x0, 0x0, 0x0, 0x0⟩ /- XLT_CAP_HEADS -/,
  ⟨0x230000, 0x0, 0, 0, 0x0, 0, 0x7, 0x0, 0x7, 0x0, 0x0, 0x0, 0x0⟩ /- CDC_CFG -/,
  ⟨0x230004, 0x0, 0, 0, 0x0, 0, 0x0, 0x0, 0x0, 0x0, 0x1, 0x0, 0x0⟩ /- CDC_STATUS -/,
  ⟨0x230040, 0x0, 0, 0, 0x0, 0, 0xA1000, 0x0, 0xFFFF00, 0x0, 0x0, 0x0, 0x0⟩ /- DEEP_CFG -/,
  ⟨0x230044, 0x0, 0, 0, 0x0, 0, 0x0, 0x0, 0x0, 0x0, 0x1, 0x0, 0x0⟩ /- DEEP_STATUS -/,
  ⟨0x230048, 0x0, 0, 0, 0x0, 0, 0x0, 0x0, 0x0, 0x0, 0x0, 0x0, 0x0⟩ /- DEEP_DICT_STATE -/,
  ⟨0x230100, 0x10, 1, 15, 0x0, 0, 0x0, 0x0, 0x0, 0x0, 0x0, 0x0, 0x0⟩ /- DEEP_DICTn_INFO -/,
  ⟨0x230104, 0x10, 1, 15, 0x0, 0, 0x0, 0x0, 0x0, 0x0, 0x0, 0x0, 0x0⟩ /- DEEP_DICTn_REFS_LO -/,
  ⟨0x230108, 0x10, 1, 15, 0x0, 0, 0x0, 0x0, 0x0, 0x0, 0x0, 0x0, 0x0⟩ /- DEEP_DICTn_REFS_HI -/,
  ⟨0x240000, 0x0, 0, 0, 0x0, 0, 0xF, 0x0, 0xF, 0x0, 0x0, 0x0, 0x0⟩ /- DRL_CFG -/,
  ⟨0x240004, 0x0, 0, 0, 0x0, 0, 0x5A5F32, 0x0, 0xFFFFFF, 0x0, 0x0, 0x0, 0x0⟩ /- DRL_TARGET -/]

/-- Registers of the tables, part 2. -/
def regs2 : List RegInfo := [
  ⟨0x240008, 0x0, 0, 0, 0x0, 0, 0xA020, 0x0, 0x0, 0x0, 0x0, 0x0, 0x0⟩ /- DRL_THR_EXT -/,
  ⟨0x24000C, 0x0, 0, 0, 0x0, 0, 0x4001804, 0x0, 0x0, 0x0, 0x0, 0x0, 0x0⟩ /- DRL_THR_PAGE -/,
  ⟨0x240010, 0x0, 0, 0, 0x0, 0, 0x100, 0x0, 0xFFFF, 0x0, 0x0, 0x0, 0x0⟩ /- DRL_SWEEP -/,
  ⟨0x240014, 0x0, 0, 0, 0x0, 0, 0x1, 0x0, 0xF, 0x0, 0x0, 0x0, 0x0⟩ /- DRL_PARK -/,
  ⟨0x240018, 0x0, 0, 0, 0x0, 0, 0x1405, 0x0, 0xFFFF, 0x0, 0x0, 0x0, 0x0⟩ /- DRL_COMP -/,
  ⟨0x24001C, 0x0, 0, 0, 0x0, 0, 0x0, 0x0, 0x0, 0x0, 0x1C, 0x0, 0x0⟩ /- DRL_STATUS -/,
  ⟨0x100800, 0x10000, 0, 7, 0x10, 8, 0x0, 0x0, 0x1FFFFFF, 0x0, 0x0, 0x0, 0x0⟩ /- PRTn_RGNe_HBASE -/,
  ⟨0x100804, 0x10000, 0, 7, 0x10, 8, 0x0, 0x0, 0x1FFFFFF, 0x0, 0x0, 0x0, 0x0⟩ /- PRTn_RGNe_DBASE -/,
  ⟨0x100808, 0x10000, 0, 7, 0x10, 8, 0x0, 0x0, 0x1FFFFFF, 0x0, 0x0, 0x0, 0x0⟩ /- PRTn_RGNe_SIZE -/,
  ⟨0x10080C, 0x10000, 0, 7, 0x10, 8, 0x0, 0x0, 0x3FF000F, 0x0, 0x0, 0x0, 0x0⟩ /- PRTn_RGNe_CTL -/,
  ⟨0x100890, 0x10000, 0, 7, 0x0, 0, 0x0, 0x0, 0x0, 0x0, 0x100, 0x0, 0x0⟩ /- PRTn_RGN_STATUS -/,
  ⟨0x210000, 0x0, 0, 0, 0x0, 0, 0x1, 0x0, 0x1, 0x0, 0x0, 0x0, 0x0⟩ /- DIR_CFG -/]

/-- Registers of the tables, part 3. -/
def regs3 : List RegInfo := [
  ⟨0x210004, 0x0, 0, 0, 0x0, 0, 0xC8, 0x0, 0x1FFFF, 0x0, 0x0, 0x0, 0x0⟩ /- DIR_SNP_TMO -/,
  ⟨0x210008, 0x0, 0, 0, 0x0, 0, 0x0, 0x0, 0x0, 0x0, 0xF8, 0x0, 0x0⟩ /- DIR_STATUS -/,
  ⟨0x21000C, 0x0, 0, 0, 0x0, 0, 0x0, 0x0, 0x0, 0x0, 0x80000000, 0x0, 0x0⟩ /- DIR_TMO_LOG -/,
  ⟨0x100000, 0x10000, 0, 7, 0x0, 0, 0xA320, 0x0, 0x330, 0xEC00, 0x0, 0x8, 0x0⟩ /- PRTn_LINK_CFG -/,
  ⟨0x100004, 0x10000, 0, 7, 0x0, 0, 0x0, 0x0, 0x0, 0x0, 0x0, 0x0, 0x0⟩ /- PRTn_LINK_STATUS -/,
  ⟨0x100008, 0x10000, 0, 7, 0x0, 0, 0x0, 0x0, 0x0, 0x0, 0x7FC, 0x0, 0x0⟩ /- PRTn_LINK_ERR -/,
  ⟨0x10000C, 0x10000, 0, 7, 0x0, 0, 0x0, 0x0, 0x0, 0x0, 0x0, 0x0, 0x0⟩ /- PRTn_CRD_STATUS -/,
  ⟨0x100010, 0x10000, 0, 7, 0x0, 0, 0xFF20, 0xFF37, 0x0, 0x0, 0x0, 0x0, 0x0⟩ /- PRTn_TEST_CTL -/,
  ⟨0x100014, 0x10000, 0, 7, 0x0, 0, 0x0, 0x0, 0x0, 0x0, 0x0, 0x0, 0x0⟩ /- PRTn_TEST_STATUS -/,
  ⟨0x400000, 0x0, 0, 0, 0x0, 0, 0x6E, 0x0, 0x6, 0xF8, 0x0, 0x0, 0x0⟩ /- DRC_GLB_CFG -/,
  ⟨0x400004, 0x0, 0, 0, 0x0, 0, 0x0, 0x0, 0x0, 0x0, 0x0, 0x0, 0x0⟩ /- DRC_GLB_STATUS -/,
  ⟨0x400010, 0x20000, 0, 15, 0x0, 0, 0x0, 0x0, 0x0, 0x0, 0x0, 0x0, 0x0⟩ /- DRCn_POP -/]

/-- Registers of the tables, part 4. -/
def regs4 : List RegInfo := [
  ⟨0x400014, 0x20000, 0, 15, 0x0, 0, 0x0, 0x0, 0x0, 0x0, 0x0, 0x0, 0x0⟩ /- DRCn_STATE -/,
  ⟨0x400018, 0x20000, 0, 15, 0x0, 0, 0xA3E8064, 0x0, 0xFFFFFFFF, 0x0, 0x0, 0x0, 0x0⟩ /- DRCn_PWR_CFG -/,
  ⟨0x40001C, 0x20000, 0, 15, 0x0, 0, 0x0, 0x0, 0x0, 0x0, 0xFF, 0x0, 0x0⟩ /- DRCn_ERR -/,
  ⟨0x250000, 0x0, 0, 0, 0x0, 0, 0x40181, 0x0, 0xFFFFF1, 0x0, 0x0, 0x0, 0x0⟩ /- TRM_CFG -/,
  ⟨0x250004, 0x0, 0, 0, 0x0, 0, 0x0, 0x0, 0x0, 0x0, 0x0, 0x0, 0x0⟩ /- TRM_STATUS -/,
  ⟨0x250008, 0x0, 0, 0, 0x0, 0, 0x0, 0x0, 0x0, 0x0, 0x3C, 0x0, 0x0⟩ /- TRM_EVENTS -/,
  ⟨0x25000C, 0x0, 0, 0, 0x0, 0, 0x0, 0x0, 0x0, 0x0, 0x0, 0x0, 0x0⟩ /- TRM_LOST -/,
  ⟨0x250010, 0x0, 0, 0, 0x0, 0, 0x0, 0x0, 0x0, 0x0, 0x0, 0x0, 0x0⟩ /- TRM_RESYNC -/,
  ⟨0x400020, 0x20000, 0, 15, 0x0, 0, 0x0, 0x0, 0x0, 0x0, 0x0, 0x0, 0x0⟩ /- DRCn_MARK -/,
  ⟨0x610000, 0x0, 0, 0, 0x0, 0, 0x8000, 0x0, 0x0, 0x0, 0x0, 0x0, 0x0⟩ /- CRY_STATUS -/,
  ⟨0x610010, 0x0, 0, 0, 0x0, 0, 0x0, 0x3FF, 0x0, 0x0, 0x0, 0x0, 0x0⟩ /- CRY_SLOT_SEL -/,
  ⟨0x610014, 0x0, 0, 0, 0x0, 0, 0x0, 0x0, 0x0, 0x0, 0x0, 0x0, 0x0⟩ /- CRY_SLOT_INFO -/]

/-- Registers of the tables, part 5. -/
def regs5 : List RegInfo := [
  ⟨0x610018, 0x0, 0, 0, 0x0, 0, 0x0, 0x0, 0x0, 0x0, 0x0, 0x0, 0x0⟩ /- CRY_SLOT_REFS -/,
  ⟨0x610020, 0x0, 0, 0, 0x0, 0, 0x0, 0x0, 0x0, 0x0, 0x0, 0x0, 0x0⟩ /- CRY_FW -/,
  ⟨0x600000, 0x0, 0, 0, 0x0, 0, 0x0, 0x0, 0x0, 0x0, 0x0, 0x0, 0x0⟩ /- XTS_STATUS -/,
  ⟨0x600004, 0x0, 0, 0, 0x0, 0, 0x0, 0x0, 0x0, 0x0, 0x7, 0x0, 0x0⟩ /- XTS_EVENTS -/,
  ⟨0x800000, 0x0, 0, 0, 0x0, 0, 0x0, 0x0, 0x0, 0x0, 0x80000000, 0x0, 0x0⟩ /- CMD_STATUS -/,
  ⟨0x800010, 0x4, 0, 7, 0x0, 0, 0x0, 0x0, 0xFFFFFF, 0x0, 0x0, 0x0, 0x0⟩ /- CMD_OWNk -/,
  ⟨0x800040, 0x8, 0, 7, 0x0, 0, 0x0, 0x81FFFFFF, 0x0, 0x0, 0x0, 0x0, 0x0⟩ /- CMD_WINh -/,
  ⟨0x800044, 0x8, 0, 7, 0x0, 0, 0x1010A, 0xFF7FFFFF, 0x0, 0x0, 0x0, 0x0, 0x0⟩ /- CMD_HEADh -/,
  ⟨0x800100, 0x4, 0, 63, 0x0, 0, 0x0, 0xFFFFFFFF, 0x0, 0x0, 0x0, 0x0, 0x0⟩ /- CMD_SQr -/,
  ⟨0x800200, 0x4, 0, 63, 0x0, 0, 0x0, 0xFFF1FFFF, 0x0, 0x0, 0x0, 0x0, 0x0⟩ /- CMD_CQr -/,
  ⟨0x700000, 0x0, 0, 0, 0x0, 0, 0x15015, 0x0, 0x1FFFF, 0x0, 0x0, 0x0, 0x0⟩ /- PWR_POLICY -/,
  ⟨0x700004, 0x0, 0, 0, 0x0, 0, 0xA0A0A64, 0x0, 0xFFFFFFFF, 0x0, 0x0, 0x0, 0x0⟩ /- PWR_IDLE -/]

/-- Registers of the tables, part 6. -/
def regs6 : List RegInfo := [
  ⟨0x700008, 0x0, 0, 0, 0x0, 0, 0xA01, 0x0, 0xFFFF, 0x0, 0x0, 0x0, 0x0⟩ /- PWR_TMO -/,
  ⟨0x70000C, 0x0, 0, 0, 0x0, 0, 0xC, 0x0, 0xFF, 0x0, 0x0, 0x0, 0x0⟩ /- PWR_SENT -/,
  ⟨0x700010, 0x4, 0, 3, 0x0, 0, 0x0, 0x0, 0x0, 0x0, 0x0, 0x0, 0x0⟩ /- PWR_STATEk -/,
  ⟨0x700020, 0x0, 0, 0, 0x0, 0, 0x0, 0x0, 0x0, 0x0, 0x1E, 0x0, 0x0⟩ /- PWR_STATUS -/,
  ⟨0x700024, 0x0, 0, 0, 0x0, 0, 0x0, 0x0, 0x0, 0x0, 0x80000000, 0x0, 0x0⟩ /- PWR_REFUSE_LOG -/,
  ⟨0x700028, 0x0, 0, 0, 0x0, 0, 0x0, 0x0, 0x0, 0x0, 0x80000000, 0x0, 0x0⟩ /- PWR_WAKE_LOG -/,
  ⟨0x70002C, 0x0, 0, 0, 0x0, 0, 0x0, 0x0, 0x0, 0x0, 0x80000000, 0x0, 0x0⟩ /- PWR_WAKE_FAIL -/,
  ⟨0x710000, 0x0, 0, 0, 0x0, 0, 0x148C, 0x0, 0x3FFFFFF, 0x0, 0x0, 0x0, 0x0⟩ /- CAD_CAP -/,
  ⟨0x710004, 0x0, 0, 0, 0x0, 0, 0x140A0423, 0x0, 0xFFFFFFF3, 0x0, 0x0, 0x0, 0x0⟩ /- CAD_CFG -/,
  ⟨0x710008, 0x0, 0, 0, 0x0, 0, 0x14640A, 0x0, 0xFFFFFF, 0x0, 0x0, 0x0, 0x0⟩ /- CAD_RATE -/,
  ⟨0x71000C, 0x0, 0, 0, 0x0, 0, 0x6419, 0x0, 0xFF, 0x0, 0x0, 0x0, 0x0⟩ /- CAD_PACE -/,
  ⟨0x710010, 0x0, 0, 0, 0x0, 0, 0x0, 0x0, 0x0, 0x0, 0xF, 0x0, 0x0⟩ /- CAD_STATUS -/]

/-- Registers of the tables, part 7. -/
def regs7 : List RegInfo := [
  ⟨0x710014, 0x0, 0, 0, 0x0, 0, 0x0, 0x0, 0x0, 0x0, 0x0, 0x0, 0x0⟩ /- CAD_GRANT -/,
  ⟨0x710018, 0x0, 0, 0, 0x0, 0, 0x0, 0x0, 0x0, 0x0, 0x0, 0x0, 0x0⟩ /- CAD_POWER -/,
  ⟨0x720000, 0x0, 0, 0, 0x0, 0, 0x0, 0x0, 0x0, 0x0, 0x0, 0x0, 0x0⟩ /- SNS_DIE -/,
  ⟨0x720004, 0x0, 0, 0, 0x0, 0, 0x0, 0x0, 0x0, 0x0, 0x0, 0x0, 0x0⟩ /- SNS_DIMM -/,
  ⟨0x720008, 0x0, 0, 0, 0x0, 0, 0x0, 0x0, 0x0, 0x0, 0x0, 0x0, 0x0⟩ /- SNS_RATE -/,
  ⟨0x72000C, 0x0, 0, 0, 0x0, 0, 0x0, 0x0, 0x0, 0x0, 0x0, 0x0, 0x0⟩ /- SNS_FAIL -/,
  ⟨0x730000, 0x0, 0, 0, 0x0, 0, 0xDC96A0C0, 0xFFFFFFF0, 0x0, 0x0, 0x0, 0x0, 0x0⟩ /- HSW_CFG -/,
  ⟨0x730004, 0x0, 0, 0, 0x0, 0, 0xFA, 0xFFFF, 0x0, 0x0, 0x0, 0x0, 0x0⟩ /- HSW_SENSE -/,
  ⟨0x730008, 0x0, 0, 0, 0x0, 0, 0x3E8, 0xFFFFF, 0x0, 0x0, 0x0, 0x0, 0x0⟩ /- HSW_RETRY -/,
  ⟨0x73000C, 0x0, 0, 0, 0x0, 0, 0x0, 0x0, 0x0, 0x0, 0x0, 0x3, 0x0⟩ /- HSW_CTL -/,
  ⟨0x730010, 0x0, 0, 0, 0x0, 0, 0x0, 0x0, 0x0, 0x0, 0x0, 0x0, 0x0⟩ /- HSW_STATUS -/,
  ⟨0x730014, 0x0, 0, 0, 0x0, 0, 0x0, 0x0, 0x0, 0x0, 0x80000000, 0x0, 0x0⟩ /- HSW_TRIP_LOG -/]

/-- Registers of the tables, part 8. -/
def regs8 : List RegInfo := [
  ⟨0x730018, 0x0, 0, 0, 0x0, 0, 0x0, 0x0, 0x0, 0x0, 0x0, 0x0, 0x0⟩ /- HSW_MEAS -/,
  ⟨0x73001C, 0x0, 0, 0, 0x0, 0, 0x0, 0x0, 0x0, 0x0, 0x0, 0x0, 0x0⟩ /- HSW_VOUT -/,
  ⟨0x740000, 0x0, 0, 0, 0x0, 0, 0x0, 0x0, 0xFF, 0x0, 0x0, 0x0, 0x0⟩ /- PMU_CTL -/,
  ⟨0x740004, 0x0, 0, 0, 0x0, 0, 0x0, 0x0, 0x0, 0x0, 0x0, 0x0, 0x0⟩ /- PMU_OVF_SUM -/,
  ⟨0x740008, 0x0, 0, 0, 0x0, 0, 0x0, 0x0, 0x0, 0x0, 0x0, 0x8000F07F, 0x0⟩ /- PMU_OVF_CLR -/,
  ⟨0x740010, 0x4, 0, 7, 0x0, 0, 0x6, 0x0, 0xFFFF, 0x0, 0x0, 0x0, 0x0⟩ /- PMU_USER_MASKh -/,
  ⟨0x740100, 0x4, 0, 63, 0x0, 0, 0x0, 0xB03FF07F, 0x0, 0x0, 0x0, 0x40000000, 0x0⟩ /- PMU_GSELg -/,
  ⟨0x750000, 0x0, 0, 0, 0x0, 0, 0x0, 0x0, 0x0, 0x0, 0x18000000, 0x0, 0x0⟩ /- BBX_STATUS -/,
  ⟨0x750004, 0x0, 0, 0, 0x0, 0, 0x0, 0x0, 0x0, 0x0, 0x0, 0x0, 0x0⟩ /- BBX_HEAD -/,
  ⟨0x750008, 0x0, 0, 0, 0x0, 0, 0x0, 0x0, 0x0, 0x0, 0x0, 0x0, 0x0⟩ /- BBX_SEQ_LO -/,
  ⟨0x75000C, 0x0, 0, 0, 0x0, 0, 0x0, 0x0, 0x0, 0x0, 0x0, 0x0, 0x0⟩ /- BBX_SEQ_HI -/,
  ⟨0x750010, 0x0, 0, 0, 0x0, 0, 0x0, 0x0, 0x0, 0x0, 0x0, 0x0, 0x0⟩ /- BBX_EPOCH -/]

/-- Registers of the tables, part 9. -/
def regs9 : List RegInfo := [
  ⟨0x750014, 0x0, 0, 0, 0x0, 0, 0x0, 0x0, 0x0, 0x0, 0x0, 0x0, 0x0⟩ /- BBX_PIN -/,
  ⟨0x750018, 0x0, 0, 0, 0x0, 0, 0x0, 0x8000FFFF, 0x0, 0x0, 0x0, 0x0, 0x0⟩ /- BBX_RD_CTL -/,
  ⟨0x75001C, 0x0, 0, 0, 0x0, 0, 0x0, 0x0, 0x0, 0x0, 0x0, 0x0, 0xFFFFFFFF⟩ /- BBX_RD_DATA -/,
  ⟨0x750020, 0x0, 0, 0, 0x0, 0, 0x0, 0x0, 0x0, 0x0, 0x0, 0x1, 0x0⟩ /- BBX_CTL -/,
  ⟨0x0, 0x0, 0, 0, 0x0, 0, 0x1600B1, 0x0, 0x0, 0x0, 0x0, 0x0, 0x0⟩ /- GEN_ID -/,
  ⟨0x4, 0x0, 0, 0, 0x0, 0, 0x0, 0x0, 0x0, 0x0, 0x3, 0x0, 0x0⟩ /- GEN_STATUS -/,
  ⟨0x8, 0x0, 0, 0, 0x0, 0, 0x0, 0x0, 0x1, 0x0, 0x0, 0x0, 0x0⟩ /- GEN_SETUP_LOCK -/,
  ⟨0xC, 0x0, 0, 0, 0x0, 0, 0x0, 0x0, 0x0, 0x0, 0x0, 0x0, 0x0⟩ /- GEN_STRAP -/,
  ⟨0x10, 0x0, 0, 0, 0x0, 0, 0x0, 0x0, 0x0, 0x0, 0x0, 0x0, 0x0⟩ /- GEN_WHO -/,
  ⟨0x810000, 0x0, 0, 0, 0x0, 0, 0x0, 0x0, 0x0, 0x0, 0x0, 0x0, 0x0⟩ /- TB_NOW_LO -/,
  ⟨0x810004, 0x0, 0, 0, 0x0, 0, 0x0, 0x0, 0x0, 0x0, 0x0, 0x0, 0x0⟩ /- TB_NOW_HI -/]

/-- Every register of the spec's tables. -/
def regs : List RegInfo :=
  regs0 ++ regs1 ++ regs2 ++ regs3 ++ regs4 ++ regs5 ++ regs6 ++ regs7 ++ regs8 ++ regs9

/-- Does `r` have an instance at offset `off`? -/
def RegInfo.covers (r : RegInfo) (off : Nat) : Bool :=
  (List.range (r.hi1 + 1)).any fun i => decide (r.lo1 ≤ i) && (List.range (r.hi2 + 1)).any fun j => off == r.off + r.s1 * i + r.s2 * j

/-- The register at offset `off`, if one is defined there (R7). -/
def regAt (off : Nat) : Option RegInfo := regs.find? (·.covers off)

/-- The reset word of the register at `off`; CMD_OWNk, CMD_SQr and CMD_CQr depend on their number (R327, R328, R350). -/
def resetWord (off : Nat) : Word :=
  if 0x800010 ≤ off ∧ off < 0x800030 then BitVec.ofNat 32 ((off - 0x800010) / 4 * 0x249249)
  else
    match regAt off with
    | none => 0
    | some r =>
      if 0x800100 ≤ off ∧ off < 0x800200 then r.reset ||| BitVec.ofNat 32 (((off - 0x800100) / 4) <<< 25)
      else if 0x800200 ≤ off ∧ off < 0x800300 then r.reset ||| BitVec.ofNat 32 ((2 + (off - 0x800200) / 4 % 8) <<< 24)
      else r.reset

end Sys2Proof.Machine
end

