-- ==== Sys2Proof/Machine/Ops.lean ====
section
/-! DEFINITION. The named operations over tables, memory, lines, registers and ports. -/

namespace Sys2Proof

/-! ## Tables -/

/-- The value at key `k`, if listed. -/
def Tbl.look {α : Type} : Tbl α → Nat → Option α
  | [], _ => none
  | (j, v) :: t, k => if j = k then some v else Tbl.look t k

/-- Put `v` at key `k`, keeping keys strictly rising. -/
def Tbl.put {α : Type} : Tbl α → Nat → α → Tbl α
  | [], k, v => [(k, v)]
  | (j, w) :: t, k, v =>
    if k < j then (k, v) :: (j, w) :: t
    else if k = j then (k, v) :: t
    else (j, w) :: Tbl.put t k v

/-- Remove key `k`. -/
def Tbl.del {α : Type} : Tbl α → Nat → Tbl α
  | [], _ => []
  | (j, w) :: t, k => if j = k then Tbl.del t k else (j, w) :: Tbl.del t k

/-- The value at `k`, or the default. -/
def Tbl.get {α : Type} (d : α) (t : Tbl α) (k : Nat) : α := (t.look k).getD d

/-- Put `v` at `k`; the default is not listed. -/
def Tbl.set {α : Type} [DecidableEq α] (d : α) (t : Tbl α) (k : Nat) (v : α) : Tbl α :=
  if v = d then t.del k else t.put k v

/-- Is `k` listed? -/
def Tbl.has {α : Type} (t : Tbl α) (k : Nat) : Bool := (t.look k).isSome

/-- Keys strictly rising. -/
def Tbl.sorted {α : Type} : Tbl α → Bool
  | [] => true
  | [_] => true
  | (j, _) :: (k, w) :: t => decide (j < k) && Tbl.sorted ((k, w) :: t)

/-- The canonical form of a table with default `d`: keys strictly rising, no default listed. -/
def Tbl.wf {α : Type} [DecidableEq α] (d : α) (t : Tbl α) : Bool :=
  t.sorted && t.all fun p => decide (p.2 ≠ d)

/-- Change every listed value. -/
def Tbl.mapVals {α : Type} (f : Nat → α → α) (t : Tbl α) : Tbl α := t.map fun p => (p.1, f p.1 p.2)

namespace Machine

/-- The canonical form of the stored memory: addresses strictly rising, no zero byte listed. -/
abbrev Memory.wf (m : List Host.Cell) : Bool := Tbl.wf (0 : BitVec 8) m

/-- One stored byte; an unlisted byte is zero (R16, R72). -/
def Memory.read (m : List Host.Cell) (a : Nat) : Byte := Tbl.get (0 : BitVec 8) m a

/-- Store one byte. -/
def Memory.write (m : List Host.Cell) (a : Nat) (b : Byte) : List Host.Cell := Tbl.set (0 : BitVec 8) m a b

/-- Store the bytes of a list at rising addresses. -/
def Memory.writeBytes (m : List Host.Cell) (a : Nat) : List Byte → List Host.Cell
  | [] => m
  | b :: bs => Memory.writeBytes (Memory.write m a b) (a + 1) bs

/-! ## Lines -/

/-- Byte `i` of a line. -/
def lineByte (d : LineData) (i : Nat) : Byte := d.extractLsb' (8 * i) 8

/-- The line whose bytes are listed, byte 0 first. -/
def lineOf : List Byte → LineData
  | [] => 0
  | b :: bs => (lineOf bs <<< 8) ||| b.zeroExtend 512

/-- The bits of the bytes that a mask enables (R43). -/
def maskBits (m : Mask) : LineData :=
  (List.range 64).foldl (fun acc i => if m.getLsbD i then acc ||| ((0xFF : LineData) <<< (8 * i)) else acc) 0

/-- `new` merged over `old` under a byte mask (R15, R43). -/
def mergeLine (old new : LineData) (m : Mask) : LineData :=
  (old &&& ~~~ maskBits m) ||| (new &&& maskBits m)

/-- All 64 bytes. -/
abbrev fullMask : Mask := BitVec.allOnes 64

/-- Store the enabled bytes of line number `l` (R15), bytes `i` to 63. -/
def Memory.writeLineFrom (m : List Host.Cell) (l : Nat) (d : LineData) (k : Mask) : Nat → List Host.Cell
  | 0 => m
  | i + 1 =>
    let m' := Memory.writeLineFrom m l d k i
    if k.getLsbD i then Memory.write m' (64 * l + i) (lineByte d i) else m'

/-- Store the enabled bytes of line number `l`. -/
def Memory.writeLine (m : List Host.Cell) (l : Nat) (d : LineData) (k : Mask) : List Host.Cell :=
  Memory.writeLineFrom m l d k 64

/-- The stored bytes of line number `l`. -/
def Memory.readLine (m : List Host.Cell) (l : Nat) : LineData :=
  lineOf ((List.range 64).map fun i => Memory.read m (64 * l + i))

/-- Drop every byte of the addresses `a` to `a + n - 1`: they then read zero. -/
def Memory.clear (m : List Host.Cell) (a n : Nat) : List Host.Cell :=
  m.filter fun p => !(decide (a ≤ p.1) && decide (p.1 < a + n))

/-- The listed bytes of a range. -/
def Memory.slice (m : List Host.Cell) (a n : Nat) : List Host.Cell :=
  m.filter fun p => decide (a ≤ p.1) && decide (p.1 < a + n)

/-- Put listed bytes back at their addresses. -/
def Memory.putCells (m : List Host.Cell) : List Host.Cell → List Host.Cell
  | [] => m
  | c :: cs => Memory.putCells (Memory.write m c.1 c.2) cs

/-! ## Registers (R4, R9) -/

/-- The word a register holds. -/
def State.word (s : State) (off : Nat) : Word := (s.csr.look off).getD (resetWord off)

/-- Set the word of a register; a word at its reset value is not listed. -/
def State.setWord (s : State) (off : Nat) (w : Word) : State :=
  { s with csr := if w = resetWord off then s.csr.del off else s.csr.put off w }

/-- The mask of bits `hi` to `lo`. -/
def fieldMask (hi lo : Nat) : Word := BitVec.ofNat 32 (2 ^ (hi - lo + 1) - 1) <<< lo

/-- A field's value. -/
def State.f (s : State) (x : Fld) : Nat := (s.word x.off >>> x.lo).toNat % 2 ^ (x.hi - x.lo + 1)

/-- Is a one-bit field set? -/
def State.fb (s : State) (x : Fld) : Bool := (s.word x.off).getLsbD x.lo

/-- Put a value into a field of a word. -/
def putField (w : Word) (hi lo : Nat) (v : Nat) : Word :=
  (w &&& ~~~ fieldMask hi lo) ||| ((BitVec.ofNat 32 v <<< lo) &&& fieldMask hi lo)

/-- Set a field. -/
def State.setF (s : State) (x : Fld) (v : Nat) : State :=
  s.setWord x.off (putField (s.word x.off) x.hi x.lo v)

/-- Set a one-bit field. -/
def State.flag (s : State) (x : Fld) : State := s.setF x 1

/-- Bit `i` of a field. -/
def State.fbit (s : State) (x : Fld) (i : Nat) : Bool := (s.word x.off).getLsbD (x.lo + i)

/-- Set bit `i` of a field. -/
def State.setBit (s : State) (x : Fld) (i : Nat) (b : Bool) : State :=
  s.setF { x with hi := x.lo + i, lo := x.lo + i } (if b then 1 else 0)

/-! ## Ports, channels, domains -/

/-- The engine and head `h`. -/
def State.port (s : State) (h : Head) : Port := (s.ports.look h.val).getD Port.reset

/-- Change engine `h`. -/
def State.updPort (s : State) (h : Head) (g : Port → Port) : State :=
  { s with ports := s.ports.set Port.reset h.val (g (s.port h)) }

/-- Channel `c`. -/
def State.chan (s : State) (c : Chan) : Channel := (s.chans.look c.val).getD Channel.reset

/-- Change channel `c`. -/
def State.updChan (s : State) (c : Chan) (g : Channel → Channel) : State :=
  { s with chans := s.chans.set Channel.reset c.val (g (s.chan c)) }

/-- Power domain `d`. -/
def State.dom (s : State) (d : Nat) : Domain := (s.doms.look d).getD Domain.reset

/-- Change domain `d`. -/
def State.updDom (s : State) (d : Nat) (g : Domain → Domain) : State :=
  { s with doms := s.doms.set Domain.reset d (g (s.dom d)) }

/-- Is domain `d` ON (R357)? -/
def State.domOn (s : State) (d : Nat) : Bool := (s.dom d).st == .on

/-- Send a message. -/
def State.send (s : State) (m : Msg) : State := { s with out := s.out ++ [m] }

/-- Take a free value: the counter advances. -/
def State.takeFree (s : State) : State := { s with free := s.free + 1 }

/-! ## Straps, heads and the owner (R200, R201) -/

/-- The straps in effect; zero before they are latched. -/
def State.strap (s : State) : Straps := s.aon.straps.getD ⟨0, false, 0, false⟩

/-- Lean mode (R434). -/
def State.lean (s : State) : Bool := s.strap.lean

/-- The heads that *Heads by strap* presents, ascending. -/
def headsOf (t : Straps) : List Head :=
  if t.x16 then
    match t.heads.toNat with
    | 0 => [0]
    | 1 => [0, 2]
    | _ => [0, 2, 4, 6]
  else
    match t.heads.toNat with
    | 0 => [0]
    | 1 => [0, 1]
    | 2 => [0, 1, 2, 3]
    | _ => [0, 1, 2, 3, 4, 5, 6, 7]

/-- The heads presented; none before the straps are latched. -/
def State.heads (s : State) : List Head :=
  match s.aon.straps with
  | none => []
  | some t => headsOf t

/-- The owner head in effect (R201). -/
def ownerOf (t : Straps) : Head :=
  let o : Head := ⟨t.owner.toNat % 8, Nat.mod_lt _ (by decide)⟩
  if o ∈ headsOf t then o
  else if t.x16 then
    let l : Head := ⟨(t.owner.toNat % 8) / 2 * 2 % 8, Nat.mod_lt _ (by decide)⟩
    if l ∈ headsOf t then l else 0
  else 0

def State.owner (s : State) : Head := ownerOf s.strap

/-- Is engine `p` the upper engine of a tandem (R201)? -/
def State.upper (s : State) (p : Head) : Bool :=
  s.strap.x16 && p.val % 2 == 1 && s.heads.any fun h => h.val + 1 == p.val

/-- Does link `h` use two engines (R203)? -/
def State.tandem (s : State) (h : Head) : Bool := s.strap.x16 && decide (h ∈ s.heads)

/-- Credits of each channel that a link has (R54). -/
def State.linkCredits (s : State) (h : Head) : Nat := if s.tandem h then 512 else 256

/-- Link down ends at Detect; the link carries CXL.mem. -/
def State.linkUp (s : State) (h : Head) : Bool := (s.port h).up

/-! ## Numbers -/

/-- Ceiling division. -/
def ceilDiv (a b : Nat) : Nat := (a + b - 1) / b

/-- Clamp to a range. -/
def clamp (lo hi x : Nat) : Nat := if x < lo then lo else if hi < x then hi else x

/-- Little-endian bytes of a number. -/
def leBytes (n v : Nat) : List Byte := (List.range n).map fun i => BitVec.ofNat 8 (v >>> (8 * i))

/-- The number that little-endian bytes spell. -/
def ofLe : List Byte → Nat
  | [] => 0
  | b :: bs => b.toNat + 256 * ofLe bs

/-- Bytes `i` to `i + n - 1` of a line as a number. -/
def lineNat (d : LineData) (i n : Nat) : Nat := (d >>> (8 * i)).toNat % 2 ^ (8 * n)

/-- Remove the first element that satisfies `p`. -/
def dropFirst {α : Type} (p : α → Bool) : List α → List α
  | [] => []
  | a :: l => if p a then l else a :: dropFirst p l

/-- Change the elements that satisfy `p`. -/
def updWhere {α : Type} (p : α → Bool) (g : α → α) (l : List α) : List α := l.map fun a => if p a then g a else a

/-! ## Tree pseudo-LRU (R44, R93, R188)

Bits of a tree over `2^n` ways: node 1 is the root, node `i` has children `2i` and `2i+1`; a bit 0 points to the lower half. -/

/-- The way the tree names. -/
def plruVictim (bits : Nat) : Nat → Nat → Nat → Nat
  | 0, _, way => way
  | n + 1, node, way =>
    let b := if bits.testBit node then 1 else 0
    plruVictim bits n (2 * node + b) (2 * way + b)

/-- The way the tree names among those allowed: a subtree with no allowed way is passed over. -/
def plruPick (bits : Nat) (ok : Nat → Bool) : Nat → Nat → Nat → Option Nat
  | 0, _, way => if ok way then some way else none
  | n + 1, node, way =>
    let b := if bits.testBit node then 1 else 0
    match plruPick bits ok n (2 * node + b) (2 * way + b) with
    | some w => some w
    | none => plruPick bits ok n (2 * node + (1 - b)) (2 * way + (1 - b))

/-- Set or clear a bit of a number. -/
def setNatBit (x i : Nat) (b : Bool) : Nat := if b then x ||| (1 <<< i) else x - (x &&& (1 <<< i))

/-- Point the tree away from `way` at each node on its path: `n` levels, from the root. -/
def plruTouch (bits way : Nat) : Nat → Nat → Nat
  | 0, _ => bits
  | n + 1, node =>
    let b := way.testBit n
    setNatBit (plruTouch bits way n (2 * node + (if b then 1 else 0))) node (!b)

end Machine
end Sys2Proof
end

