-- ==== Sys2Proof/Machine/Layout.lean ====
section
/-! DEFINITION. Where copies and parity lie: positions, slots and mirror blocks (R269 to R273), and which frames an allocator may take. -/

namespace Sys2Proof.Machine

/-- A place in DRAM: channel, rank set, subchannel B, row, bank digit, bank group, frame column (R269). -/
structure Place where
  chan : Nat
  rankSet : Nat
  subB : Bool
  row : Nat
  bank : Nat
  bankGroup : Nat
  column : Nat
  deriving DecidableEq, Repr

/-- Half the positions of a mirror block (R271): 2 for W = 8, 4 for W = 12, 1 for W = 16. -/
def mirrorK (w : Nat) : Nat := if w = 8 then 2 else if w = 12 then 4 else 1

/-- Positions in one row of every bank, column and subchannel (R269): bank group, subchannel, bank digit, frame column. -/
def positionsPerRow (bankDigits : Nat) : Nat := 8 * 2 * bankDigits * 16

/-- Positions of one rank set (R269). -/
def positionsPerRankSet (bankDigits rows : Nat) : Nat := positionsPerRow bankDigits * rows

/-- The place of absolute position `q` on channel slot `c` (R269). -/
def placeOf (bankDigits rows q c : Nat) : Place :=
  { chan := c
    bankGroup := q % 8
    subB := q / 8 % 2 == 1
    bank := q / 16 % bankDigits
    column := q / (16 * bankDigits) % 16
    row := q / positionsPerRow bankDigits % rows
    rankSet := q / positionsPerRankSet bankDigits rows }

/-- A position and channel slot, counted from the first position of an area. -/
structure PosSlot where
  pos : Nat
  slot : Nat
  deriving DecidableEq, Repr

/-- Frame index `n` of the frame area (R270). -/
def framePos (w n : Nat) : PosSlot := ⟨n / w, n % w⟩

/-- Direct-area offset `m` in guarded mode (R272). -/
def directPos (w m : Nat) : PosSlot :=
  let k := mirrorK w
  ⟨m / (k * w) * (2 * k) + m % (k * w) / w, m % w⟩

/-- Direct-area offset `m` in lean mode (R273). -/
def directPosLean (w m : Nat) : PosSlot := ⟨m / w, m % w⟩

/-- The copy of a data frame at position `q`, slot `c` (R271). -/
def copyPos (w : Nat) (p : PosSlot) : PosSlot := ⟨p.pos + mirrorK w, (p.slot + w / 2) % w⟩

/-- Is a position in the data half of its mirror block (R271)? -/
def dataHalf (w q : Nat) : Bool := decide (q % (2 * mirrorK w) < mirrorK w)

/-- The slot that holds a stripe's parity frame (R270). -/
def paritySlot (w q : Nat) : Nat := q % w

/-- Positions that the direct area takes: D / 512 frames in mirror blocks of k positions of data (R272), or in plain positions in lean mode. -/
def directPositions (lean : Bool) (w dirFrames : Nat) : Nat :=
  if lean then ceilDiv dirFrames w
  else ceilDiv dirFrames (mirrorK w * w) * (2 * mirrorK w)

/-! ## The state's own geometry -/

/-- The number of channels in use. -/
def State.w (s : State) : Nat := s.cap.chans.length

/-- Frames of the direct area's data capacity: 512 B each. -/
def State.dirFrames (s : State) : Nat := s.cap.dirMib * 2048

/-- Direct slots: 2 MiB each. -/
def State.dirSlots (s : State) : Nat := s.cap.dirMib / 2

/-- First position of the frame area (R272). -/
def State.frameBase (s : State) : Nat := directPositions s.lean s.w s.dirFrames

/-- The channel of a slot. -/
def State.slotChan (s : State) (c : Nat) : Option Chan := s.cap.chans[c]?

/-- The rank set of an absolute position. -/
def State.rankSetOf (s : State) (q : Nat) : Nat := q / positionsPerRankSet s.cap.bankDigits s.cap.rows

/-- The absolute position and slot of a frame of the frame area. -/
def State.frameAt (s : State) (n : Nat) : PosSlot :=
  let p := framePos s.w n
  ⟨s.frameBase + p.pos, p.slot⟩

/-- The absolute position and slot of frame `m` of the direct area. -/
def State.directAt (s : State) (m : Nat) : PosSlot :=
  if s.lean then directPosLean s.w m else directPos s.w m

/-- Extents of the advertised space (R77, R102). -/
def State.extents (s : State) : Nat := min (3 * s.cap.rawMib) 50331648 / 2

/-- Bytes of the fixed arrays (R77, R138, R140, R167, R270, R272): the extent table of 8 B a record, the position map of 2 bits a position (LOG 9), two bitmaps of one bit a frame, 15 dictionary areas of 32 KiB and the training buffer of 64 MiB. -/
def State.fixedBytes (s : State) : Nat :=
  8 * s.extents + s.cap.rankSets * positionsPerRankSet s.cap.bankDigits s.cap.rows / 4 + 2 * (s.cap.rawMib * 256) + 15 * 32768 + 67108864

/-- Positions of the mirror blocks that hold the fixed arrays (R272); in lean mode they are stored once (R273). -/
def State.fixedPositions (s : State) : Nat :=
  if s.lean then ceilDiv s.fixedBytes (512 * s.w) else ceilDiv s.fixedBytes (512 * mirrorK s.w * s.w) * (2 * mirrorK s.w)

/-- Is position `q` of the frame area one of the highest of rank set 0, where the fixed arrays lie (R272)? -/
def State.fixedPos (s : State) (q : Nat) : Bool :=
  let p := positionsPerRankSet s.cap.bankDigits s.cap.rows
  decide (s.frameBase + q < p) && decide (p ≤ s.frameBase + q + s.fixedPositions)

/-! ## Allocation (R106, R166, R167, R270, R273) -/

/-- Is a run stored as mirrored pairs? -/
def RunKind.mirrored : RunKind → Bool
  | .stripe => false
  | _ => true

/-- Does a run hold frame `n`? -/
def runHas (n : Nat) (r : Nat × Run) : Bool := decide (r.1 ≤ n) && decide (n < r.1 + r.2.len)

/-- Does a run touch a position of the mirror block of position `q`? -/
def runInBlock (w q : Nat) (r : Nat × Run) : Bool :=
  let b := q / (2 * mirrorK w)
  decide (r.1 / w / (2 * mirrorK w) ≤ b) && decide (b ≤ (r.1 + r.2.len - 1) / w / (2 * mirrorK w))

/-- Is the channel of a slot FAILED? -/
def State.slotFailed (s : State) (c : Nat) : Bool := (s.slotChan c).any fun x => (s.chan x).st == .failed

/-- May a run of kind `k` hold frame `n` (R270, R271, R273)? New stripes leave a FAILED slot unwritten (R280), and in lean mode nothing is allocated on a lost channel (R284). -/
def State.frameOk (s : State) (k : RunKind) (n : Nat) : Bool :=
  decide (n < s.cap.frames) && !s.fixedPos (n / s.w) &&
  !(s.cap.runs.any (runHas n)) && !(s.cap.dead.any (runHas n)) &&
  !(s.slotFailed (n % s.w) && (s.lean || !k.mirrored)) &&
  (s.lean || s.w == 0 ||
    (let q := n / s.w
     match k.mirrored with
     | true => dataHalf s.w q && !((s.cap.runs ++ s.cap.dead).any fun r => !r.2.kind.mirrored && runInBlock s.w q r)
     | false => !((s.cap.runs ++ s.cap.dead).any fun r => r.2.kind.mirrored && runInBlock s.w q r)))

/-- Is frame `n` the parity frame of its position? -/
def State.isParity (s : State) (n : Nat) : Bool := !s.lean && s.w != 0 && n % s.w == paritySlot s.w (n / s.w)

/-- The span of frame indices from `n` that holds `len` data frames of a stripe run: parity slots are passed over. -/
def State.stripeSpan (s : State) : Nat → Nat → Nat → Nat
  | 0, _, _ => 0
  | _ + 1, _, 0 => 0
  | fuel + 1, n, len + 1 =>
    if s.isParity n then 1 + s.stripeSpan fuel (n + 1) (len + 1)
    else 1 + s.stripeSpan fuel (n + 1) len

/-- The span of a run of `len` frames of kind `k` at `n`. -/
def State.span (s : State) (k : RunKind) (n len : Nat) : Nat :=
  match k with
  | .stripe => s.stripeSpan (2 * len + 2) n len
  | _ => len

/-- May a run of kind `k` with `len` frames start at `n`? Blocks and share blocks lie in the record zone (R80). -/
def State.runOk (s : State) (k : RunKind) (n len : Nat) : Bool :=
  (match k with
   | .slot => n % 8 == 0 && (s.w == 0 || !s.fbit Reg.DRL_PARK.DESIGNATED (s.rankSetOf (s.frameBase + n / s.w)))
   | .stripe => !s.isParity n
   | .block => n % 16 == 0 && decide (n + len ≤ 2 ^ 31)
   | .share => n % 16 == 0 && decide (n + len ≤ 2 ^ 31)) &&
  (List.range (s.span k n len)).all fun i => s.frameOk k (n + i)

/-- Does a run touch position `q` of the frame area? -/
def touchesPos (w q : Nat) (r : Nat × Run) : Bool := decide (r.1 / w ≤ q) && decide (q ≤ (r.1 + r.2.len - 1) / w)

/-- Does position `q` hold a live stripe frame? -/
def State.posLive (s : State) (q : Nat) : Bool := s.cap.runs.any fun r => !r.2.kind.mirrored && touchesPos s.w q r

/-- Keep as unusable only the freed frames whose stripe still holds a live frame; stripes without one are free (R167). -/
def State.reclaim (s : State) : State :=
  { s with
    cap := { s.cap with dead := s.cap.dead.filter (fun d => s.posLive (d.1 / s.w)), zeroed := s.cap.zeroed.filter fun d => s.posLive (d.1 / s.w) }
    drl := { s.drl with stripes := s.drl.stripes.filter fun t => !t.written || s.posLive t.pos } }

/-- Free the run at `n`: a frame of a written stripe stays unusable until every frame of its stripe is free (R167). Lost-line entries of the run go (R287). -/
def State.freeRun (s : State) (n : Nat) : State :=
  match s.cap.runs.look n with
  | none => s
  | some r =>
    let dead := match r.kind with
      | .stripe => ((List.range r.len).filter fun i => !s.isParity (n + i)).foldl (fun (d : Tbl Run) i => d.put (n + i) (Run.mk 1 .stripe true false)) s.cap.dead
      | _ => s.cap.dead
    State.reclaim { s with
      cap := { s.cap with runs := s.cap.runs.del n, dead := dead }
      trm := { s.trm with lost := s.trm.lost.filter fun sa => !(decide (s.dirFrames ≤ sa / 512) && runHas (sa / 512 - s.dirFrames) (n, r)) } }

/-! ## Log heads (R166, R169) -/

/-- Is position `q` of the frame area in a park set (R169)? -/
def State.inPark (s : State) (q : Nat) : Bool := s.fbit Reg.DRL_PARK.DESIGNATED (s.rankSetOf (s.frameBase + q))

/-- Positions of the frame area. -/
def State.positions (s : State) : Nat := if s.w = 0 then 0 else s.cap.frames / s.w

/-- Is position `q` free: no run, no freed frame of a written stripe, and no mirror block (R270)? -/
def State.posFree (s : State) (q : Nat) : Bool :=
  decide (q < s.positions) && !s.fixedPos q &&
  !((s.cap.runs ++ s.cap.dead).any (touchesPos s.w q)) &&
  (s.lean || !((s.cap.runs ++ s.cap.dead).any fun r => r.2.kind.mirrored && runInBlock s.w q r))

/-- The role of a position of the frame area in guarded mode, as the position map gives it (R270, R271). -/
inductive PosRole where
  | stripe
  | mirrorData
  | mirrorCopy
  | free
  deriving DecidableEq, Repr

/-- The role of position `q`: its mirror block holds a live frame or a fixed array, its stripe a frame that is not free again, or it has none. -/
def State.posRole (s : State) (q : Nat) : PosRole :=
  if s.fixedPos q || s.cap.runs.any (fun r => r.2.kind.mirrored && runInBlock s.w q r) then (if dataHalf s.w q then .mirrorData else .mirrorCopy)
  else if s.posFree q then .free else .stripe

/-- Put a number into an ascending list, once. -/
def insertNat (x : Nat) : List Nat → List Nat
  | [] => [x]
  | y :: ys => if x < y then x :: y :: ys else if x = y then y :: ys else y :: insertNat x ys

/-- The numbers of some ranges, given by first and last, ascending and once each. -/
def rangeSet (l : List (Nat × Nat)) : List Nat :=
  l.foldr (fun r acc => (List.range (r.2 + 1 - r.1)).foldr (fun i acc => insertNat (r.1 + i) acc) acc) []

/-- The positions that a run keeps from being free, first and last: those it touches, and for a mirrored run those of their mirror blocks. -/
def State.keptBy (s : State) (r : Nat × Run) : Nat × Nat :=
  let a := r.1 / s.w
  let b := (r.1 + r.2.len - 1) / s.w
  if !s.lean && r.2.kind.mirrored then
    let k := 2 * mirrorK s.w
    (a / k * k, b / k * k + k - 1)
  else (a, b)

/-- The positions that are not free, ascending: those for which posFree is false. -/
def State.busyPositions (s : State) : List Nat :=
  if s.w = 0 then [] else (rangeSet ((s.cap.runs ++ s.cap.dead).map s.keptBy)).filter fun q => decide (q < s.positions)

/-- Free stripes of the frame area (R168). -/
def State.freeStripes (s : State) : Nat := s.positions - s.busyPositions.length - s.fixedPositions

/-- Positions that a run at `n` would take from the free stripes. -/
def State.takesFree (s : State) (n : Nat) (r : Run) : Nat :=
  if s.w = 0 then 0
  else
    let (a, b) := s.keptBy (n, r)
    ((List.range (b + 1 - a)).filter fun i => s.posFree (a + i)).length

/-- Does a run at `n` leave the 256 free stripes that only compaction may write (R168)? -/
def State.reserveOk (s : State) (k : RunKind) (n len : Nat) : Bool :=
  let t := s.takesFree n ⟨s.span k n len, k, true, false⟩
  t == 0 || decide (t + 256 ≤ s.freeStripes)

/-- The first frame at or after `n` where the run may start, looking at `fuel` frames. -/
def State.findRun (s : State) (k : RunKind) (len : Nat) : Nat → Nat → Option Nat
  | 0, _ => none
  | fuel + 1, n => if s.runOk k n len && s.reserveOk k n len then some n else s.findRun k len fuel (n + 1)

/-- Allocate a run: where the spec leaves the place open the hint is tried first, then the first place that may hold it (LOG 9). A block that finds its place is no longer wanted (R80). -/
def State.alloc (s : State) (k : RunKind) (len : Nat) : Option (Nat × State) :=
  let h := Config.allocHint s.free % (s.cap.frames + 1)
  let at_ := if s.runOk k h len && s.reserveOk k h len then some h else s.findRun k len s.cap.frames 0
  at_.map fun n =>
    (n, { s with
      free := s.free + 1
      cap := { s.cap with runs := s.cap.runs.put n ⟨s.span k n len, k, true, false⟩ }
      drl := { s.drl with blockWanted := s.drl.blockWanted && k != .block } })

/-- Positions of the frame area in rank set `j`. -/
def State.setPositions (s : State) (j : Nat) : Nat :=
  let p := positionsPerRankSet s.cap.bankDigits s.cap.rows
  min (s.frameBase + s.positions) ((j + 1) * p) - max s.frameBase (j * p)

/-- Positions of the frame area outside the park sets. -/
def State.warmPositions (s : State) : Nat :=
  s.positions - ((List.range 8).map fun j => if s.fbit Reg.DRL_PARK.DESIGNATED j then s.setPositions j else 0).sum

/-- The positions that a run of `len` data frames at `n` touches. -/
def State.runPositions (s : State) (n len : Nat) : List Nat :=
  if s.w = 0 then [] else
    (List.range ((n + s.span .stripe n len - 1) / s.w - n / s.w + 1)).map fun i => n / s.w + i

/-- May a log head place `len` frames at `n`: every position is the head's open stripe or free, on the head's side of the park sets, and 256 stripes stay free but for compaction (R166, R168, R169)? -/
def State.headOk (s : State) (cold comp : Bool) (n len : Nat) : Bool :=
  s.runOk .stripe n len && (comp || s.reserveOk .stripe n len) && (s.runPositions n len).all fun q =>
    (s.posFree q || s.drl.stripes.any fun t => t.pos == q && t.cold == cold && !t.written) && s.inPark q == cold

/-- The first place at or after `n` that a head may take. -/
def State.findHead (s : State) (cold comp : Bool) (len : Nat) : Nat → Nat → Option Nat
  | 0, _ => none
  | fuel + 1, n => if s.headOk cold comp n len then some n else s.findHead cold comp len fuel (n + 1)

/-- Note frames placed at a head: its stripes are opened or filled, and a stripe whose data frames are full is written (R166). -/
def State.placeAt (s : State) (cold : Bool) (n len : Nat) : State :=
  (s.runPositions n len).foldl (fun (s : State) q =>
    let full (s : State) := (List.range s.w).all fun i =>
      let n := q * s.w + i
      s.isParity n || s.slotFailed i || s.cap.runs.any (runHas n) || s.cap.dead.any (runHas n)
    if s.drl.stripes.any (fun t => t.pos == q) then
      { s with drl := { s.drl with stripes := updWhere (fun t => t.pos == q) (fun t => { t with placed := t.placed + len, written := t.written || full s }) s.drl.stripes } }
    else
      { s with drl := { s.drl with stripes := s.drl.stripes ++ [Stripe.mk s.drl.nextStripe cold s.now q len (full s)], nextStripe := s.drl.nextStripe + 1 } }) s

/-- Write a stripe: its unused frames are written as zero, and left free but unusable until the stripe is free (R166, R167, R275). -/
def State.closeStripe (s : State) (q : Nat) : State :=
  let gaps := ((List.range s.w).map fun i => q * s.w + i).filter fun n => !s.isParity n && !(s.cap.runs.any (runHas n)) && !(s.cap.dead.any (runHas n))
  { s with
    cap := { s.cap with dead := gaps.foldl (fun (d : Tbl Run) n => d.put n (Run.mk 1 .stripe true false)) s.cap.dead, zeroed := gaps.foldl (fun (d : Tbl Unit) n => d.put n ()) s.cap.zeroed }
    drl := { s.drl with stripes := updWhere (fun t => t.pos == q) (fun t => { t with written := true }) s.drl.stripes } }

/-- Allocate `len` frames at a log head from frame `lo` on, the hint first, then the first place (LOG 9). Only compaction takes the last 256 free stripes (R168). -/
def State.allocHead (s : State) (cold comp : Bool) (len : Nat) (lo : Nat := 0) : Option (Nat × State) :=
  let h := Config.allocHint s.free % (s.cap.frames + 1)
  let n := if lo ≤ h && s.headOk cold comp h len then some h else s.findHead cold comp len (s.cap.frames - lo) lo
  n.map fun n =>
    (n, State.placeAt { s with free := s.free + 1, cap := { s.cap with runs := s.cap.runs.put n (Run.mk (s.span .stripe n len) .stripe true false) } } cold n len)

/-- Close every stripe of a run at once, as a rewrite forced by a write-back does (R166). -/
def State.closeRun (s : State) (n len : Nat) : State := (s.runPositions n len).foldl (fun s q => s.closeStripe q) s

/-- Data frames of a run: what R106 counts. -/
def State.runFrames (s : State) (r : Nat × Run) : Nat :=
  if r.2.orphan then 0
  else match r.2.kind with
  | .slot => 8
  | .stripe => ((List.range r.2.len).filter fun i => !s.isParity (r.1 + i)).length
  | .block => 0
  | .share => 0

/-- Frames in use (R106). -/
def State.framesUsed (s : State) : Nat :=
  4096 * s.cap.slots.length + (s.cap.runs.map s.runFrames).sum

/-- Free frames (R106). -/
def State.freeFrames (s : State) : Nat := s.cap.usable - s.framesUsed

/-- OPEN pages in the frame area, stored copies behind share records included (R128). -/
def State.openUsed (s : State) : Nat := (s.cap.runs.filter fun r => r.2.kind == .slot).length

/-- The mirror allowance, or in lean mode the same budget (R128, R154): Raw/32 in 4 KiB pages. -/
def State.openBudget (s : State) : Nat := s.cap.rawMib * 256 / 32

/-- Is there room for one more OPEN page in the mirror allowance (R128)? Lean mode has none to fill. -/
def State.openRoom (s : State) : Bool := s.lean || decide (s.openUsed < s.openBudget)

/-- The lowest free direct slot. -/
def State.freeSlot (s : State) : Option Nat :=
  (List.range (s.cap.slots.length + 1)).find? fun i => !s.cap.slots.has i && decide (i < s.dirSlots)

/-! ## Positions in use (R282, R285) -/

/-- Is absolute position `q` in use: a mirror block with a slot in use or a live frame, or a written stripe (R285)? -/
def State.posInUse (s : State) (q : Nat) : Bool :=
  if s.w = 0 then false
  else if q < s.frameBase then
    s.cap.slots.any fun t =>
      let a := 4096 * t.1
      let b := a + 4095
      if s.lean then decide (a / s.w ≤ q) && decide (q ≤ b / s.w)
      else
        let k := mirrorK s.w
        decide (a / (k * s.w) ≤ q / (2 * k)) && decide (q / (2 * k) ≤ b / (k * s.w))
  else
    let q' := q - s.frameBase
    (s.cap.runs.any fun r => r.2.kind.mirrored && (if s.lean then touchesPos s.w q' r else runInBlock s.w q' r)) ||
      s.drl.stripes.any fun t => t.written && t.pos == q'

/-- The absolute positions that direct slot `i` can be in, first and last. -/
def State.slotPositions (s : State) (i : Nat) : Nat × Nat :=
  let a := 4096 * i
  let b := a + 4095
  if s.lean then (a / s.w, b / s.w)
  else
    let k := mirrorK s.w
    (a / (k * s.w) * (2 * k), b / (k * s.w) * (2 * k) + 2 * k - 1)

/-- Positions in use, ascending: those of slots, of mirrored runs and of written stripes for which posInUse holds. -/
def State.positionsInUse (s : State) : List Nat :=
  if s.w = 0 then []
  else
    let frames := (s.cap.runs.filter fun r => r.2.kind.mirrored).map fun r => let k := s.keptBy r; (s.frameBase + k.1, s.frameBase + k.2)
    let stripes := (s.drl.stripes.filter (·.written)).map fun t => (s.frameBase + t.pos, s.frameBase + t.pos)
    (rangeSet (s.cap.slots.map (fun t => s.slotPositions t.1) ++ frames ++ stripes)).filter fun q => s.posInUse q && decide (q < s.frameBase + s.positions)

end Sys2Proof.Machine
end

