-- ==== Sys2Proof/Machine/Status.lean ====
section
/-! DEFINITION. Status registers: what the fields that report state read at present (R9, R423). -/

namespace Sys2Proof.Machine

/-! ## Fields -/

/-- Replace a field of a word. -/
def withF (w : Word) (x : Fld) (v : Nat) : Word := putField w x.hi x.lo v

/-- A list of flags as bits. -/
def bitsOf (l : List Bool) : Nat := ((List.range l.length).map fun i => if l[i]? == some true then 2 ^ i else 0).sum

/-! ## Links and domains -/

/-- The head numbers. -/
def heads8 : List Head := [0, 1, 2, 3, 4, 5, 6, 7]

/-- Is a stream Secure: both directions have been switched to a loaded key set, and the port's GCM engine has passed (R310)? -/
def Port.secure (p : Port) (tx rx : IdeDir) : Bool := tx.go && rx.go && p.gcm == some true
def Port.ioSecure (p : Port) : Bool := p.secure p.ioTx p.ioRx
def Port.cmSecure (p : Port) : Bool := p.secure p.cmTx p.cmRx

/-- LTSSM as PRTn_LINK_STATUS encodes it. -/
def Ltssm.code : Ltssm → Nat
  | .detect => 0
  | .polling => 1
  | .configuration => 2
  | .l0 => 3
  | .recovery => 4
  | .loopback => 5
  | .hotReset => 6
  | .disabled => 7

/-- The word of PRTn_LINK_STATUS: on an engine that carries no head only TANDEM (R446). -/
def State.linkStatus (s : State) (p : Head) : Word :=
  let q := s.port p
  let tandem := s.tandem p || s.upper p
  if p ∉ s.heads then BitVec.ofNat 32 (tandem.toNat * 2 ^ 29)
  else BitVec.ofNat 32 (q.up.toNat * 2 ^ 31 + q.mem.toNat * 2 ^ 30 + tandem.toNat * 2 ^ 29 + q.flit256.toNat * 2 ^ 28 + q.loflit.toNat * 2 ^ 27 +
    q.rate % 8 * 2 ^ 24 + q.width % 32 * 2 ^ 19 + q.txWidth % 32 * 2 ^ 14 + q.rxWidth % 32 * 2 ^ 9 + q.sris.toNat * 2 ^ 8 +
    q.ioSecure.toNat * 2 ^ 7 + q.cmSecure.toNat * 2 ^ 6 + q.ltssm.code)

/-- State of a domain as PWR_STATEk shows it. -/
def DomState.code : DomState → Nat
  | .off => 0
  | .ret => 1
  | .on => 2
  | _ => 3

/-- The word of PWR_STATEk. -/
def State.pwrState (s : State) (k : Nat) : Word :=
  BitVec.ofNat 32 ((List.range 16).map fun j => if 58 ≤ 16 * k + j then 0 else (s.dom (16 * k + j)).st.code * 4 ^ j).sum

/-! ## DRAM channels -/

/-- Is a rank asleep? -/
def Rank.asleep (r : Rank) : Bool := r.st == .selfRefresh || r.st == .parked

/-- The word of DRCn_STATE. -/
def State.chanWord (s : State) (c : Chan) : Word :=
  let x := s.chan c
  let st := match x.st with | .off => 0 | .active => 1 | .quiet => 2 | .ret => 3 | .failed => 4
  let ranks (f : Rank → Bool) : Nat := (x.ranks.map fun r => if r.1 < 8 ∧ f r.2 then 2 ^ r.1 else 0).sum
  BitVec.ofNat 32 (st * 2 ^ 29 + x.trained.toNat * 2 ^ 28 + x.band % 4 * 2 ^ 26 + x.ref2x.toNat * 2 ^ 25 + ranks (·.st == .parked) * 256 + ranks Rank.asleep)

/-- Is rank set `j` parked: every rank of it on every channel in use stands in PARKED? -/
def State.parked (s : State) (j : Nat) : Bool :=
  !s.cap.chans.isEmpty && s.cap.chans.all fun c => ((s.chan c).ranks.look j).any fun r => r.st == .parked

/-! ## Entries of RTK (R52, R57) -/

/-- Is a command a CLONE_RANGE, whose copies hold entries of their own partition (R52)? -/
def Cmd.clones (c : Cmd) : Bool := lineNat c.desc 0 1 == 0x02

/-- Is a command running its steps, so that it holds an entry? -/
def Cmd.busy (c : Cmd) : Bool := c.phase == .running

/-- Is a copy made by compaction or for a park set? -/
def PageCopy.compacts (c : PageCopy) : Bool := c.kind == .compact || c.kind == .park || c.kind == .unpark

/-- Entries in use in a partition: 0 to 7 the ports, 8 DRL, 9 CMD, 10 compaction and cloning, 11 TRM (R52). -/
def State.partUsed (s : State) (i : Nat) : Nat :=
  if i < 8 then (s.rtk.filter fun r => r.head.val == i && r.chan != .inner).length
  else if i = 8 then (s.drl.copies.filter fun c => !c.compacts).length + s.drl.extCopies.length
  else if i = 9 then (s.cmd.cmds.filter fun c => c.busy && !c.clones).length + (s.rtk.filter fun r => r.chan == .inner && r.phase != .part).length
  else if i = 10 then (s.drl.copies.filter (·.compacts)).length + (s.cmd.cmds.filter fun c => c.busy && c.clones).length
  else 0

/-- Entries of an engine's partition of RTK: 8 DRL, 9 CMD, 10 compaction and cloning, 11 TRM (R52, R57). -/
def State.partSize (s : State) : Nat → Nat
  | 8 => 16 * s.f Reg.RTK_INT_PART.DRL_UNITS
  | 9 => 16 * s.f Reg.RTK_INT_PART.CMD_UNITS
  | 10 => 16 * s.f Reg.RTK_INT_PART.COPY_UNITS
  | _ => 16 * s.f Reg.RTK_INT_PART.TRM_UNITS

/-- Does a head's port withhold RwD credits: a write of it waits for the pool (R119)? -/
def State.rwdHeld (s : State) (h : Head) : Bool := s.rtk.any fun r => r.head == h && r.chan == .rwd && r.phase == .poolFull

/-! ## Capacity and compaction -/

/-- Are free frames below the firm floor of 0.25 % of usable frames (R117)? -/
def State.belowFirmFloor (s : State) : Bool := decide (400 * s.freeFrames < s.cap.usable)

/-- LOW_PM and URGENT_PM in effect: reset values while out of order (DRL_COMP). -/
def State.compMarks (s : State) : Nat × Nat :=
  let l := s.f Reg.DRL_COMP.LOW_PM
  let u := s.f Reg.DRL_COMP.URGENT_PM
  if u < l then (l, u) else (0x14, 5)

/-- Is the share of free stripes below a mark, per mille (R168)? -/
def State.stripesBelow (s : State) (pm : Nat) : Bool := decide (s.freeStripes * 1000 < pm * s.positions)

/-- Is compaction urgent (R168)? -/
def State.compUrgent (s : State) : Bool := s.stripesBelow s.compMarks.2

/-! ## The cryptographic module -/

/-- Was the key set in use loaded without a role? -/
def IdeDir.noRole (d : IdeDir) : Bool := (if d.useK1 then d.k1 else d.k0).any (·.2)

/-- A head has a Secure stream keyed in a session that held no role (R324). -/
def Port.unauth (p : Port) : Bool :=
  (p.ioSecure && (p.ioTx.noRole || p.ioRx.noRole)) || (p.cmSecure && (p.cmTx.noRole || p.cmRx.noRole))

/-- The approved mode (R324). -/
def State.approved (s : State) : Bool :=
  s.cry.st == .operational && !s.cry.debugOpen && !(heads8.any fun h => (s.port h).unauth)

/-- The word of CRY_STATUS. -/
def State.cryStatus (s : State) : Word :=
  let st := match s.cry.st with | .selfTest => 0 | .operational => 1 | .error => 2
  let cause := if s.cry.st != .error then 0 else match s.cry.errCause with
    | none => 0
    | some .entropy => 1
    | some .drbg => 2
    | some .keyStore => 3
    | some .aesGcm => 4
    | some .sha => 5
    | some .ecdsa => 6
    | some .mldsa => 7
    | some .mlkem => 8
    | some .pairwise => 9
  let un := heads8.foldl (fun n h => n + (if (s.port h).unauth then 2 ^ h.val else 0)) 0
  let kat := (s.word Reg.CRY_STATUS.STATE.off).toNat / 2 ^ 14 % 2
  BitVec.ofNat 32 (st * 2 ^ 30 + s.approved.toNat * 2 ^ 29 + s.cry.debugOpen.toNat * 2 ^ 28 + cause * 2 ^ 24 + un * 2 ^ 16 +
    s.aon.ideAny.toNat * 2 ^ 15 + kat * 2 ^ 14 + s.cry.slots.length)

/-! ## Governor, sled and straps -/

/-- Cadence's DevLoad floor (R388). -/
def State.devFloor (s : State) : Nat := match s.cad.stage.val with | 0 => 0 | 1 => 2 | _ => 3

/-- The word of CAD_STATUS. -/
def State.cadWord (s : State) : Word :=
  let h := match s.cad.heat with | .cool => 0 | .warm => 1 | .hot => 2
  (s.word 0x710010 &&& 0xF) ||| BitVec.ofNat 32 (s.devFloor * 2 ^ 10 + h * 2 ^ 8 + min 3 s.cad.stage.val * 2 ^ 6)

/-- The word of HSW_STATUS. -/
def State.hswWord (s : State) : Word :=
  let g := match s.hsw.gate with | .off => 0 | .wait => 1 | .ramp => 2 | .on => 3 | .cool => 4 | .latched => 5
  let kept := s.word 0x730010 &&& 0x04F0FF00
  kept ||| BitVec.ofNat 32 (g * 2 ^ 29 + s.hsw.pg.toNat * 2 ^ 28 + s.hsw.en.toNat * 2 ^ 27 + s.hsw.cell.toNat * 2 ^ 25 + s.hsw.thermHeld.toNat * 2 ^ 24)

/-- The word of GEN_STRAP; DIFF compares the latched straps with the balls of the last SENSE round (R434). -/
def State.strapWord (s : State) : Word :=
  match s.aon.straps with
  | none => 0
  | some t => BitVec.ofNat 32 ((t != s.aon.balls).toNat * 2 ^ 31 + s.owner.val * 2 ^ 12 + s.heads.length * 2 ^ 8 + t.lean.toNat * 2 ^ 7 + t.owner.toNat * 16 + t.x16.toNat * 8 + t.heads.toNat)

/-! ## The status registers -/

/-- The present word of a status register that lies outside the ports: its stored fields, and those that report state (R9). -/
def State.statusWord (s : State) (off : Nat) : Word :=
  let d := s.word off
  match off with
  | 0x4 => withF d Reg.GEN_STATUS.MEM_READY (s.fb Reg.XLT_STATUS.READY && s.aon.boot == .ready).toNat
  | 0xC => s.strapWord
  | 0x24000 => withF d Reg.RTK_STATUS.PART_BUSY (if [8, 9, 10, 11].any fun i => decide (s.partSize i < s.partUsed i) then 1 else 0)
  | 0x220004 => withF d Reg.XLT_STATUS.BMP_REBUILD (if s.xlt.rebuilds.isEmpty then 0 else 1)
  | 0x22008C => withF (withF d Reg.XLT_CAP_STATUS.POOL_FULL (if heads8.any s.rwdHeld then 1 else 0)) Reg.XLT_CAP_STATUS.FIRM_HELD s.belowFirmFloor.toNat
  | 0x230044 => withF d Reg.DEEP_STATUS.TRAIN_STATE (match s.cdc.train.st with | .idle => 0 | .sampling => 1 | .building => 2 | .validating => 3 | .waiting => 4)
  | 0x24001C => withF (withF d Reg.DRL_STATUS.COMP_URGENT s.compUrgent.toNat) Reg.DRL_STATUS.ACTIVE (if s.drl.copies.isEmpty && s.drl.extCopies.isEmpty then 0 else 1)
  | 0x250008 => withF (withF d Reg.TRM_EVENTS.LOST_FULL (if 1024 ≤ s.trm.lost.length then 1 else 0)) Reg.TRM_EVENTS.ACTIVE
      (if s.fb Reg.TRM_CFG.TRM_EN || !s.trm.walks.isEmpty || s.chans.any (·.2.resync) then 1 else 0)
  | 0x610000 => s.cryStatus
  | 0x700010 => s.pwrState 0
  | 0x700014 => s.pwrState 1
  | 0x700018 => s.pwrState 2
  | 0x70001C => s.pwrState 3
  | 0x700020 => withF d Reg.PWR_STATUS.BUSY (if (List.range 58).any fun j => (s.dom j).st.code == 3 then 1 else 0)
  | 0x710010 => s.cadWord
  | 0x720000 => withF d Reg.SNS_DIE.TGRADE Config.tgrade.toNat
  | 0x730010 => s.hswWord
  | 0x750000 =>
    withF (withF (withF (withF d Reg.BBX_STATUS.READY s.pan.ready.toNat) Reg.BBX_STATUS.PIN_FULL (if 256 ≤ s.pan.nextPin then 1 else 0)) Reg.BBX_STATUS.ERASING s.pan.erasing.toNat)
      Reg.BBX_STATUS.QUEUE s.pan.queue.length
  | _ =>
    if 0x100000 ≤ off ∧ off < 0x180000 ∧ off % 0x10000 = 4 then s.linkStatus ⟨(off - 0x100000) / 0x10000 % 8, Nat.mod_lt _ (by decide)⟩
    else if 0x400000 ≤ off ∧ off < 0x600000 ∧ off % 0x20000 = 0x14 then s.chanWord ⟨(off - 0x400000) / 0x20000 % 16, Nat.mod_lt _ (by decide)⟩
    else d

end Sys2Proof.Machine
end

