-- ==== Sys2Proof/Machine/Flags.lean ====
section
/-! DEFINITION. What commands record: counters, interrupts, CXL event records and Pannier records. -/

namespace Sys2Proof.Machine

/-! ## Counters (R413, R416) -/

/-- Add to a 48-bit counter; a wrap sets OVF in the same step (R413). -/
def Counter.add (c : Counter) (n : Nat) : Counter :=
  ⟨c.val + BitVec.ofNat 48 n, c.ovf || decide (2 ^ 48 ≤ c.val.toNat + n)⟩

/-- The key of always-running counter `i` of group `g`. -/
def pmuKey (g i : Nat) : Nat := g * 128 + i

/-- Does general counter word `w` count source `g`, `i` for unit `u` (R416)? -/
def gselMatches (w : Word) (g i : Nat) (u : Option Nat) : Bool :=
  w.getLsbD 31 && (w >>> 12 &&& 0xF).toNat == g && (w &&& 0x7F).toNat == i &&
    (!w.getLsbD 28 || u == some (w >>> 16 &&& 0x3F).toNat)

/-- May events of source `g`, `i` be attributed to a unit (R416)? -/
def attributed (g i : Nat) : Bool := decide (g ≤ 4) || g == 13 || g == 14 || (g == 15 && decide (29 ≤ i) && decide (i ≤ 38))

/-- The general counters after an event of source `g`, `i` that carries `n` and lasts `lvl` CCLK cycles: edge mode adds `n`, level mode the cycles (R416). -/
def bumpGeneral (s : State) (g i n lvl : Nat) (u : Option Nat) : List Nat → Tbl Counter → Tbl Counter
  | [], t => t
  | j :: js, t =>
    let w := s.word (0x740100 + 4 * j)
    let t' := if gselMatches w g i (if attributed g i then u else none) then
        t.set Counter.zero j ((t.get Counter.zero j).add (if w.getLsbD 29 then lvl else n))
      else t
    bumpGeneral s g i n lvl u js t'

/-- Count `n` on always-running counter `i` of group `g`, attributed to `u`, and on the general counters that name it (R413, R416). -/
def State.count (s : State) (g i : Nat) (n : Nat := 1) (u : Option Nat := none) : State :=
  { s with pmu := { s.pmu with
      always := s.pmu.always.set Counter.zero (pmuKey g i) ((s.pmu.always.get Counter.zero (pmuKey g i)).add n)
      general := bumpGeneral s g i n 1 u (List.range 64) s.pmu.general } }

/-- Count one microsecond of a time counter while its condition holds: 2,500 CCLK cycles in level mode (R413, R416). -/
def State.countWhile (s : State) (b : Bool) (g i : Nat) (u : Option Nat := none) : State :=
  if b then
    { s with pmu := { s.pmu with
        always := s.pmu.always.set Counter.zero (pmuKey g i) ((s.pmu.always.get Counter.zero (pmuKey g i)).add 1)
        general := bumpGeneral s g i 1 2500 u (List.range 64) s.pmu.general } }
  else s

/-- Count on a counter of a port or head (R415, groups 0 and 1). -/
def State.countPort (s : State) (g : Nat) (h : Head) (k : Nat) (n : Nat := 1) : State :=
  s.count g (9 * h.val + k) n (some h.val)

/-! ## Interrupts (R350, R352) -/

/-- Send vector `v` of head `h`: a masked vector sets its pending bit (R350); while the link is down the interrupt is held (R352). -/
def State.msix (s : State) (h : Head) (v : Nat) : State :=
  let p := s.port h
  if p.msixMask.getLsbD v then s.updPort h fun p => { p with msixPend := p.msixPend ||| ((1 : BitVec 128) <<< v) }
  else if p.up then (s.send (.msix h v)).count 13 34 1 (some h.val)
  else { s with cmd := { s.cmd with heldMsix := s.cmd.heldMsix ++ [(h, v)] } }

/-! ## Event records (R33, R35, R469) -/

/-- The vector that a head's event policy gives a log (R350, R353). -/
def policyVec (p : EventPolicy) : EventLog → Option (Fin 128)
  | .informational => p.informational
  | .warning => p.warning
  | .failure => p.failure
  | .fatal => p.fatal
  | .dynamicCapacity => p.dynamicCapacity

/-- Write one event record on one head (R33, R469) and signal its log's vector. -/
def State.event1 (s : State) (h : Head) (l : EventLog) (c : Cause) (addr : Nat) (scrub : Bool) (sl : Option (Fin 16)) : State :=
  let s := { s with events := s.events ++ [⟨h, l, c, addr, s.tb, s.nextHandle, scrub, sl⟩], nextHandle := s.nextHandle + 1 }
  match policyVec (s.port h).evtPolicy l with
  | none => s
  | some v => s.msix h v.val

/-- Write one event record on each head of a list (R469). -/
def State.event (s : State) (hs : List Head) (l : EventLog) (c : Cause) (addr : Nat) (scrub : Bool := false) (sl : Option (Fin 16) := none) : State :=
  hs.foldl (fun s h => s.event1 h l c addr scrub sl) s

/-- The owner head and others, each once (R469). -/
def withOwner (s : State) (hs : List Head) : List Head := s.owner :: hs.filter (· ≠ s.owner)

/-- Write an event record once per head per second (R70, R199, R228): `k` names the kind of record. -/
def State.eventPerSecond (s : State) (h : Head) (k : Nat) (l : EventLog) (c : Cause) (addr : Nat) (sl : Option (Fin 16) := none) : State :=
  let due := match (s.port h).lastEvt.look k with
    | none => true
    | some t => decide (t + 1000000000 ≤ s.now)
  if due then
    (s.updPort h fun p => { p with lastEvt := p.lastEvt.put k s.now }).event (withOwner s [h]) l c addr false sl
  else s

/-! ## State sensors (R442) -/

/-- The state sensors: die band, heat state, host stage, pressure level, CRY state. -/
def State.stateSensors (s : State) : List Nat :=
  [s.cad.band, (match s.cad.heat with | .cool => 0 | .warm => 1 | .hot => 2), s.cad.stage.val, s.f Reg.XLT_CAP_STATUS.LEVEL,
   (match s.cry.st with | .selfTest => 0 | .operational => 1 | .error => 2)]

/-- Send a PlatformEventMessage for each state sensor that has changed from `old`, while an event receiver is set (R442). -/
def State.notify (s old : State) : State :=
  if s.aon.receiver.isNone then s
  else (List.range 5).foldl (fun (s : State) i =>
    match s.stateSensors[i]?, old.stateSensors[i]? with
    | some v, some w => if v = w then s else s.send (.platformEvent i v)
    | _, _ => s) s

/-! ## Pannier records (R422 to R427) -/

/-- Is a record exempt from the write budget (R426)? -/
def PanRec.exempt (r : PanRec) : Bool :=
  r.sev == 3 || (r.code >>> 12) == 0xC || r.code == 0x0001 || r.code == 0x0002 || r.code == 0x0003

/-- Insert a record: exempt records stand ahead of the others (R424). -/
def panInsert (q : List (PanRec × Bool)) (r : PanRec) : List (PanRec × Bool) :=
  if r.exempt then q.takeWhile (·.2) ++ [(r, true)] ++ q.dropWhile (·.2) else q ++ [(r, false)]

/-- Count a record dropped by its kind (R426). -/
def State.panDrop (s : State) (r : PanRec) : State :=
  let k := (r.code >>> 12).toNat
  ({ s with pan := { s.pan with drops := s.pan.drops.set 0 k (s.pan.drops.get 0 k + 1) } }.flag Reg.BBX_STATUS.DROPPED).count 15 27

/-- Start the next queued record when Kickstand is free to program (R422, R429). -/
def State.panStart (s : State) : State :=
  if !s.pan.ready || s.pan.erasing || s.pan.programming.isSome || s.aon.holding then s
  else match s.pan.queue with
    | [] => s
    | (r, _) :: q =>
      let pin := r.sev == 3 && decide (s.pan.nextPin < 256)
      let r := if pin then { r with flags := r.flags ||| 1 } else r
      let s := if r.sev == 3 && !pin then s.flag Reg.BBX_STATUS.PIN_FULL else s
      { s with pan := { s.pan with queue := q, programming := some (r, pin, s.pan.next) } }

/-- The record that a block raises for an event (R423): SEQ is given at entry to the queue. -/
def State.panRec (s : State) (dom unit kind : Nat) (event : BitVec 12) (sev : Nat) (addr addrKind reg : Nat) (cxl : Bool) (detail : List Byte) : PanRec :=
  { seq := 0, time := s.tb, epoch := s.pan.epoch, domain := BitVec.ofNat 8 dom, unit := BitVec.ofNat 8 unit
    code := (BitVec.ofNat 16 kind <<< 12) ||| event.zeroExtend 16, sev := BitVec.ofNat 8 sev
    flags := if cxl then 2 else 0, addr := BitVec.ofNat 64 addr, addrKind := BitVec.ofNat 8 addrKind
    regOff := BitVec.ofNat 32 reg, regVal := s.statusWord reg, detail := detail.take 204 }

/-- A record enters the queue and takes the next SEQ (R424). -/
def State.panPut (s : State) (r : PanRec) : State :=
  State.panStart { s with pan := { s.pan with queue := panInsert s.pan.queue { r with seq := s.pan.seq }, seq := s.pan.seq + 1 } }

/-- The DROPPED record: sixteen counts by kind since the last one (R423). -/
def State.droppedRec (s : State) : PanRec :=
  s.panRec 0 2 0 2 0 0 0 0x750000 false ((List.range 16).flatMap fun k => leBytes 4 (s.pan.drops.get 0 k))

/-- Is a DROPPED record due: drops are counted, a token is free, and 10 s have passed since the last one (R426)? -/
def State.droppedDue (s : State) : Bool :=
  !s.pan.drops.isEmpty && s.pan.tokens != 0 && decide (s.pan.queue.length < 64) &&
    (match s.pan.droppedAt with
      | none => true
      | some t => decide (t + 10000000000 ≤ s.now))

/-- DROPPED is written where it is due (R426). -/
def State.dropReport (s : State) : State :=
  if s.droppedDue then State.panPut { s with pan := { s.pan with drops := [], droppedAt := some s.now } } s.droppedRec else s

/-- A record enters the Kickstand queue against a write token, or is dropped; records without exemption leave 8 of its 64 places free (R424, R426; DEDUCED, LOG 63). -/
def State.panEnter (s : State) (r : PanRec) : State :=
  if !s.aon.kick || s.aon.holding then s
  else
    let n := s.pan.queue.length
    if r.exempt then (if n < 64 then s.panPut r else (s.panDrop r).dropReport)
    else if s.pan.tokens = 0 ∨ 56 ≤ n then (s.panDrop r).dropReport
    else { s with pan := { s.pan with tokens := s.pan.tokens - 1 } }.panPut r

/-- Write a Pannier record of a cause: the event number within the kind and the DETAIL are open (LOG 13). A record that names a line names its home slice, and one of failed training its step, in the first byte of DETAIL (R38, R237; the place is LOG 13's choice). -/
def State.pannier (s : State) (dom unit kind : Nat) (c : Cause) (sev addr addrKind reg : Nat) (cxl : Bool) (sl : Option (Fin 16) := none) : State :=
  let detail := (sl.map fun i => BitVec.ofNat 8 i.val).toList ++ Config.panDetail s.free
  (s.panEnter (s.panRec dom unit kind (Config.panEvent c) sev addr addrKind reg cxl detail)).takeFree

/-- CRC-32C of a byte list (R423). -/
def crc32c (bs : List Byte) : Word :=
  let step1 (c : Word) : Word := if c.getLsbD 0 then (c >>> 1) ^^^ 0x82F63B78 else c >>> 1
  let stepB (c : Word) (b : Byte) : Word := (List.range 8).foldl (fun c _ => step1 c) (c ^^^ b.zeroExtend 32)
  ~~~ (bs.foldl stepB (BitVec.allOnes 32))

/-- Pad a byte list with zeros to `n`. -/
def padTo (n : Nat) (l : List Byte) : List Byte := l.take n ++ List.replicate (n - l.length) 0

/-- The 256 bytes of a record (R423). -/
def PanRec.bytes (r : PanRec) : List Byte :=
  let body := leBytes 8 r.seq.toNat ++ leBytes 8 r.time.toNat ++ leBytes 4 r.epoch.toNat ++ [r.domain, r.unit] ++
    leBytes 2 r.code.toNat ++ [r.sev, r.flags] ++ leBytes 2 (20 + r.detail.length) ++ leBytes 8 r.addr.toNat ++
    [r.addrKind, 0, 0, 0] ++ leBytes 4 r.regOff.toNat ++ leBytes 4 r.regVal.toNat ++ padTo 204 r.detail
  body ++ leBytes 4 (crc32c body).toNat

end Sys2Proof.Machine
end

