-- ==== Sys2Proof/Machine/Operands.lean ====
section
/-! DEFINITION. The operand forms of commands: host addresses, regions, the fields of a DPA, and what a line and a record hold. -/

namespace Sys2Proof.Machine

/-! ## Fields of a DPA (R71), from its line number DPA / 64 -/

/-- Extent index, DPA[45:21]. -/
def extOf (l : Nat) : Nat := l / 32768
/-- Page within the extent, DPA[20:12]. -/
def pageOf (l : Nat) : Nat := l / 64 % 512
/-- Segment within the page, DPA[11:8]. -/
def segOf (l : Nat) : Nat := l / 4 % 16
/-- Line within the page. -/
def lineInPage (l : Nat) : Nat := l % 64
/-- Key of the page: extent × 512 + page. -/
def pageKey (l : Nat) : Nat := l / 64
/-- First line of a page key. -/
def pageLine (p : Nat) : Nat := 64 * p
/-- First line of an extent. -/
def extLine (e : Nat) : Nat := 32768 * e

/-! ## HDM decoders (R67) -/

/-- Bytes of HDPA that a decoder takes. -/
def HdmDecoder.dpaSize (d : HdmDecoder) : Nat := if d.ways = 0 then 0 else d.size / d.ways

/-- The HDPA of an HPA inside decoder `d` whose HDPA range starts at `b`: the interleave selection is removed (R67). -/
def HdmDecoder.map (d : HdmDecoder) (b hpa : Nat) : Nat :=
  let o := hpa - d.base
  b + o / (d.ways * d.gran) * d.gran + o % d.gran

/-- Decode through decoders `i` and up, whose HDPA ranges follow one another from `b`. -/
def hdmDecode (t : Tbl HdmDecoder) (hpa : Nat) : List Nat → Nat → Option Nat
  | [], _ => none
  | i :: is, b =>
    match t.look i with
    | none => hdmDecode t hpa is b
    | some d =>
      if d.committed && decide (d.base ≤ hpa) && decide (hpa < d.base + d.size) then some (d.map b hpa)
      else hdmDecode t hpa is (b + (if d.committed then d.dpaSize else 0))

/-- The HDPA of a host's address (R67). -/
def State.hdpaOf (s : State) (h : Head) (hpa : Nat) : Option Nat := hdmDecode (s.port h).hdm hpa [0, 1, 2, 3] 0

/-! ## Region tables (R68) -/

/-- A region entry as its registers hold it, in 2 MiB units. -/
structure Region where
  head : Head
  e : Fin 9
  hbase : Nat
  dbase : Nat
  size : Nat
  key : Nat
  origin : Bool
  cls : Nat
  db : Bool
  valid : Bool
  deriving DecidableEq, Repr

/-- Region entry `e` of head `h`. -/
def State.region (s : State) (h : Head) (e : Fin 9) : Region where
  head := h
  e := e
  hbase := s.f (Reg.PRTn_RGNe_HBASE.HBASE_2M.nth2 h.val e.val)
  dbase := s.f (Reg.PRTn_RGNe_DBASE.DBASE_2M.nth2 h.val e.val)
  size := s.f (Reg.PRTn_RGNe_SIZE.SIZE_2M.nth2 h.val e.val)
  key := s.f (Reg.PRTn_RGNe_CTL.KEY.nth2 h.val e.val)
  origin := s.fb (Reg.PRTn_RGNe_CTL.ORIGIN.nth2 h.val e.val)
  cls := s.f (Reg.PRTn_RGNe_CTL.CLASS.nth2 h.val e.val)
  db := s.fb (Reg.PRTn_RGNe_CTL.KIND.nth2 h.val e.val)
  valid := s.fb (Reg.PRTn_RGNe_CTL.VALID.nth2 h.val e.val)

def entries9 : List (Fin 9) := [0, 1, 2, 3, 4, 5, 6, 7, 8]

/-- The valid entries of head `h`. -/
def State.regionsOf (s : State) (h : Head) : List Region := (entries9.map (s.region h)).filter (·.valid)

/-- The valid entries of every presented head. -/
def State.allRegions (s : State) : List Region := s.heads.flatMap s.regionsOf

/-- The 2 MiB unit that holds HDPA `a`. -/
def unitOf (a : Nat) : Nat := a / 2 ^ 21

/-- Does the entry take HDPA `a`? -/
def Region.hasHdpa (r : Region) (a : Nat) : Bool := decide (r.hbase ≤ unitOf a) && decide (unitOf a < r.hbase + r.size)

/-- Does the entry take extent `e`? -/
def Region.hasExt (r : Region) (e : Nat) : Bool := decide (r.dbase ≤ e) && decide (e < r.dbase + r.size)

/-- The DPA of HDPA `a` through the entry. -/
def Region.dpa (r : Region) (a : Nat) : Nat := a - r.hbase * 2 ^ 21 + r.dbase * 2 ^ 21

/-- The entry of head `h` that takes HDPA `a` (R68). -/
def State.regionAt (s : State) (h : Head) (a : Nat) : Option Region := (s.regionsOf h).find? (·.hasHdpa a)

/-- The entry of head `h` that takes extent `e`. -/
def State.regionOfExt (s : State) (h : Head) (e : Nat) : Option Region := (s.regionsOf h).find? (·.hasExt e)

/-- The heads that map extent `e`. -/
def State.headsMapping (s : State) (e : Nat) : List Head := s.heads.filter fun h => (s.regionsOf h).any (·.hasExt e)

/-- The heads that map extent `e` as HDM-DB. -/
def State.dbHeads (s : State) (e : Nat) : List Head := s.heads.filter fun h => (s.regionsOf h).any fun r => r.hasExt e && r.db

/-- Does any head have a valid HDM-DB entry (R359)? -/
def State.anyDb (s : State) : Bool := s.allRegions.any (·.db)

/-! ## Slices (R38, R71) -/

/-- The home slice of a line. -/
def slice (l : Nat) : Fin 16 := Config.homeSlice l
/-- Its directory slice: the home slice modulo 4. -/
def dirSlice (l : Nat) : Nat := (slice l).val % 4
/-- The near-cache set of a line, over all slices. -/
def setKey (l : Nat) : Nat := (slice l).val * 4096 + (Config.ncSet l).val
/-- The directory set of a line, over all slices: DPA[21:6] in its slice. -/
def dirSetKey (l : Nat) : Nat := dirSlice l * 65536 + l % 65536
/-- The set of an extent record in the extent caches. -/
def extSetKey (e : Nat) : Nat := (Config.xltSlice e).val * 65536 + (Config.extSet e).val
/-- The set of a sector in the page-record caches; `x` is the extent it is served with. -/
def prSetKey (x : Nat) (sec : Nat) : Nat := (Config.xltSlice x).val * 4096 + (Config.prSet sec).val
/-- The sector number of a page record: four records. -/
def pageSector (p : Nat) : Nat := p / 4
/-- The sector number of a share record. -/
def shareSector (i : Nat) : Nat := 2 ^ 48 + i / 4

/-! ## Records -/

/-- The extent record of `e` (R77). -/
def State.extRec (s : State) (e : Nat) : ExtRec := s.xlt.ext.get ExtRec.zero e
/-- Write the extent record of `e`. -/
def State.setExt (s : State) (e : Nat) (r : ExtRec) : State := { s with xlt := { s.xlt with ext := s.xlt.ext.set ExtRec.zero e r } }
/-- The page record of page key `p` (R81). -/
def State.pageRec (s : State) (p : Nat) : PageRec := s.xlt.page.get PageRec.zero p
/-- Write a page record as it stands. -/
def State.setPage (s : State) (p : Nat) (r : PageRec) : State := { s with xlt := { s.xlt with page := s.xlt.page.set PageRec.zero p r } }
/-- The share record `i` (R86). -/
def State.shareRec (s : State) (i : Nat) : ShareRec := s.xlt.share.get ShareRec.zero i
/-- Write a share record. -/
def State.setShare (s : State) (i : Nat) (r : ShareRec) : State := { s with xlt := { s.xlt with share := s.xlt.share.set ShareRec.zero i r } }

/-- Commit a page record: GEN advances by one when a field other than HEAT and DSC changes (R89). -/
def State.commitPage (s : State) (p : Nat) (r : PageRec) : State :=
  let o := s.pageRec p
  let same : Bool := { r with heat := o.heat, dsc := o.dsc, gen := o.gen } == o
  s.setPage p { r with gen := if same then o.gen else o.gen + 1 }

/-- The SEGV value of segment `k` (R81, R82). -/
def segvAt (v : BitVec 48) (k : Nat) : Nat := (v >>> (3 * k)).toNat % 8

/-- Set the SEGV value of segment `k`. -/
def segvSet (v : BitVec 48) (k n : Nat) : BitVec 48 :=
  (v &&& ~~~((7 : BitVec 48) <<< (3 * k))) ||| ((BitVec.ofNat 48 (n % 8)) <<< (3 * k))

/-- Granules of a SEGV value: 0 and 7 count as none (R82). -/
def segGranules (n : Nat) : Nat := if n = 7 then 0 else n

/-- Total granules of a PACKED page (R82). -/
def segvTotal (v : BitVec 48) : Nat := ((List.range 16).map fun k => segGranules (segvAt v k)).sum

/-- The granule at which segment `k` begins (R82). -/
def segvStart (v : BitVec 48) (k : Nat) : Nat := ((List.range k).map fun j => segGranules (segvAt v j)).sum

/-- Frames of a PACKED page (R82): 1 to 7, also where every segment left is poisoned. -/
def packedFrames (v : BitVec 48) : Nat := max 1 (ceilDiv (segvTotal v) 8)

/-- A raw-stored page (R129): DEEP, DICT 0, GCOUNT 64. -/
def PageRec.raw (r : PageRec) : Bool := r.state == .deep && r.dict == 0 && r.gcount == 64

/-- A raw-stored copy behind a share record. -/
def ShareRec.raw (r : ShareRec) : Bool := r.state == .deep && r.dict == 0 && r.gcount == 64

/-- The state a share record stores, with the fields of a page record (R86). -/
def ShareRec.asPage (r : ShareRec) : PageRec := ⟨r.state, r.loc, r.segv, r.gcount, r.dict, 0, 0, false, 0⟩

/-- Frames in use of a stored form (R106). -/
def PageRec.frames (r : PageRec) : Nat :=
  match r.state with
  | .open => 8
  | .packed => packedFrames r.segv
  | .deep => ceilDiv r.gcount 8
  | _ => 0

/-! ## Stored lines -/

/-- Is the stored line recorded poisoned by itself? -/
def State.isBad (s : State) (l : Nat) : Bool := s.bad.has l

/-- Write a line into storage: its enabled bytes, and its poison (R17, R98, R99). -/
def State.storeLine (s : State) (l : Nat) (v : LineVal) (m : Mask) : State :=
  let mem := Memory.writeLine s.mem l v.data m
  let bad := if v.poison then s.bad.put l () else if m = fullMask then s.bad.del l else s.bad
  { s with mem := mem, bad := bad }

/-- The value that storage gives for a line, from its records (R72 to R87): zero for memory never written, poison where a record or the stored pattern says so. -/
def State.stored (s : State) (l : Nat) : LineVal :=
  let e := extOf l
  if !s.xlt.touched.has e then LineVal.zero
  else
    let data : LineVal := ⟨Memory.readLine s.mem l, s.isBad l⟩
    let byPage (p : PageRec) : LineVal :=
      match p.state with
      | .zero => LineVal.zero
      | .poisoned => ⟨0, true⟩
      | .packed => if segvAt p.segv (segOf l) = 7 then ⟨0, true⟩ else if segvAt p.segv (segOf l) = 0 then LineVal.zero else data
      | _ => data
    let byRec (p : PageRec) : LineVal :=
      let p := if p.state == .busy then s.xlt.shadow.get PageRec.zero (pageKey l) else p
      if p.state == .shared then
        let r := s.shareRec p.loc
        if r.poison.getLsbD (lineInPage l) then ⟨0, true⟩ else byPage r.asPage
      else byPage p
    let byMode (m : ExtMode) : LineVal :=
      match m with
      | .untouched => LineVal.zero
      | .poisoned => ⟨0, true⟩
      | .direct => if s.xlt.zeroing.has (pageKey l) then LineVal.zero else data
      | .mapped => byRec (s.pageRec (pageKey l))
      | .migrating => data
    match (s.extRec e).mode with
    | .migrating =>
      match (s.drl.extCopies.find? (·.ext == e)).map (·.srcMode) with
      | some m => byMode (if m == .mapped then .mapped else .direct)
      | none => byMode .direct
    | m => byMode m

/-- Clear a range of lines in storage: they then read zero, without poison. -/
def State.clearLines (s : State) (l n : Nat) : State :=
  { s with mem := Memory.clear s.mem (64 * l) (64 * n), bad := s.bad.filter fun p => !(decide (l ≤ p.1) && decide (p.1 < l + n)) }

/-- The 64 lines of a page as storage gives them. -/
def State.pageLines (s : State) (p : Nat) : List LineVal := (List.range 64).map fun i => s.stored (pageLine p + i)

/-! ## Near cache -/

/-- The near cache's copy of a line with all bytes present. -/
def State.ncFull (s : State) (l : Nat) : Option NcLine :=
  match s.nc.lines.look l with
  | none => none
  | some n => if n.mask = fullMask ∧ !n.filling then some n else none

/-- The write-back buffer's copy of a line (R97): the youngest. -/
def State.wbbLine (s : State) (l : Nat) : Option WbLine := (s.nc.wbb.filter (·.line == l)).getLast?

/-- The current value of a line: near cache over write-back buffer over storage (R16, R97). -/
def State.current (s : State) (l : Nat) : LineVal :=
  let below : LineVal :=
    match s.wbbLine l with
    | none => s.stored l
    | some w => let b := s.stored l; ⟨mergeLine b.data w.data w.mask, w.poison || (b.poison && w.mask != fullMask)⟩
  match s.nc.lines.look l with
  | none => below
  | some n => ⟨mergeLine below.data n.data n.mask, n.poison || (below.poison && n.mask != fullMask)⟩

end Sys2Proof.Machine
end

