-- ==== Sys2Proof/Machine/Xlt.lean ====
section
/-! DEFINITION. The translation units: caches of records, translation of a read, and where a line's storage lies (R92 to R98). -/

namespace Sys2Proof.Machine

/-! ## Caches (R92 to R95) -/

/-- Count on an XLT slice's counter (R415, group 5). -/
def State.countXlt (s : State) (e k : Nat) (n : Nat := 1) : State := s.count 5 (12 * (Config.xltSlice e).val + k) n

/-- The set of a sector. -/
def sectorSet (sec : Nat) : Nat := if 2 ^ 48 ≤ sec then prSetKey sec sec else prSetKey (sec / 128) sec

/-- The extent that a sector's counts belong to. -/
def sectorExt (sec : Nat) : Nat := if 2 ^ 48 ≤ sec then sec else sec / 128

/-- The map-area read that fetches a sector. -/
def sectorKey (sec : Nat) : MapKey :=
  if 2 ^ 48 ≤ sec then .share (BitVec.ofNat 38 (4 * (sec - 2 ^ 48)))
  else .sector (BitVec.ofNat 25 (sec / 128)) ⟨sec % 128, Nat.mod_lt _ (by decide)⟩

/-- The sector that a map-area read fetches, if it fetches one. -/
def MapKey.sec : MapKey → Option Nat
  | .ext _ => none
  | .sector e k => some (e.toNat * 128 + k.val)
  | .share i => some (shareSector i.toNat)

/-- Is a map-area read outstanding? -/
def State.reading (s : State) (k : MapKey) : Bool := s.xlt.reads.any (· == k)

/-- Start a map-area read unless it is outstanding (R93). -/
def State.startRead (s : State) (k : MapKey) (e : Nat) : State :=
  if s.reading k then s
  else ({ s with xlt := { s.xlt with reads := s.xlt.reads ++ [k] } }).countXlt e 10

/-- Touch an extent-cache entry's place in its set. -/
def State.touchExt (s : State) (e way : Nat) : State :=
  let k := extSetKey e
  let b := (s.xlt.extPlru.get 0 k).toNat * 2
  { s with xlt := { s.xlt with extPlru := s.xlt.extPlru.set 0 k (BitVec.ofNat 7 (plruTouch b way 3 1 / 2)) } }

/-- Touch a sector's place in its set. -/
def State.touchSec (s : State) (sec way : Nat) : State :=
  let k := sectorSet sec
  let b := (s.xlt.prPlru.get 0 k).toNat * 2
  { s with xlt := { s.xlt with prPlru := s.xlt.prPlru.set 0 k (BitVec.ofNat 15 (plruTouch b way 4 1 / 2)) } }

/-- Look an extent record up: a hit touches the set, a miss starts the map-area read (R93). -/
def State.lookExt (s : State) (e : Nat) : Bool × State :=
  match s.xlt.extCache.look e with
  | some c => (true, (s.countXlt e 0).touchExt e c.way)
  | none => (false, (s.countXlt e 1).startRead (.ext (BitVec.ofNat 25 e)) e)

/-- Is a sector the last of its block: page-record blocks and share blocks hold 128 (R80, R86)? -/
def lastSector (sec : Nat) : Bool := (if 2 ^ 48 ≤ sec then sec - 2 ^ 48 else sec) % 128 == 127

/-- Look a sector up; with PRC_PREFETCH a miss also fetches the next sector of the block (R95, R101). -/
def State.lookSec (s : State) (sec : Nat) : Bool × State :=
  match s.xlt.prCache.look sec with
  | some c => (true, (s.countXlt (sectorExt sec) 2).touchSec sec c.1.val)
  | none =>
    let s := (s.countXlt (sectorExt sec) 3).startRead (sectorKey sec) (sectorExt sec)
    let next := sec + 1
    if s.fb Reg.XLT_CFG.PRC_PREFETCH && !lastSector sec && !s.xlt.prCache.has next then
      (false, (s.startRead (sectorKey next) (sectorExt sec)).countXlt (sectorExt sec) 5)
    else (false, s)

/-- EXT_DIRECT_WAYS; 5 to 7 are taken as 4 (R101). -/
def State.directWays (s : State) : Nat := min (s.f Reg.XLT_CFG.EXT_DIRECT_WAYS) 4

/-- Cached extents of a set. -/
def State.extSetMembers (s : State) (k : Nat) : List (Nat × ExtCached) := s.xlt.extCache.filter fun p => extSetKey p.1 == k

/-- May a cached extent be the victim of a fill of `e` (R93)? -/
def State.extEvictable (s : State) (e v : Nat) : Bool :=
  let m := (s.extRec v).mode
  let directs := ((s.extSetMembers (extSetKey e)).filter fun p => (s.extRec p.1).mode == .direct).length
  m != .migrating && !s.reading (.ext (BitVec.ofNat 25 v)) &&
    ((s.extRec e).mode == .direct || m != .direct || decide (s.directWays < directs))

/-- Choose the way for a fill of extent `e`: an empty way, else the pseudo-LRU victim (R93). -/
def State.extWay (s : State) (e : Nat) : Option Nat :=
  let k := extSetKey e
  let ms := s.extSetMembers k
  match (List.range 8).find? fun w => !(ms.any fun p => p.2.way == w) with
  | some w => some w
  | none => plruPick ((s.xlt.extPlru.get 0 k).toNat * 2)
      (fun w => (ms.find? fun p => p.2.way == w).any fun p => s.extEvictable e p.1) 3 1 0

/-- Fill the extent cache with the record of `e`; none when every way is skipped (R93). -/
def State.fillExt (s : State) (e : Nat) : Option State :=
  if s.xlt.extCache.has e then some s
  else
    (s.extWay e).map fun w =>
      let cache := s.xlt.extCache.filter fun p => !(extSetKey p.1 == extSetKey e && p.2.way == w)
      ({ s with xlt := { s.xlt with extCache := Tbl.put cache e ⟨w, 0, (s.extRec e).heat⟩ } }).touchExt e w

/-- Cached sectors of a set. -/
def State.secSetMembers (s : State) (k : Nat) : List (Nat × (Fin 16 × List Nat)) := s.xlt.prCache.filter fun p => sectorSet p.1 == k

/-- May a cached sector be a victim: none of its records is BUSY and no read of it is outstanding (R93)? -/
def State.secEvictable (s : State) (v : Nat) : Bool :=
  !s.reading (sectorKey v) && (decide (2 ^ 48 ≤ v) || (List.range 4).all fun i => (s.pageRec (4 * v + i)).state != .busy)

/-- Choose the way for a fill of a sector. -/
def State.secWay (s : State) (sec : Nat) : Option Nat :=
  let k := sectorSet sec
  let ms := s.secSetMembers k
  match (List.range 16).find? fun w => !(ms.any fun p => p.2.1.val == w) with
  | some w => some w
  | none => plruPick ((s.xlt.prPlru.get 0 k).toNat * 2)
      (fun w => (ms.find? fun p => p.2.1.val == w).any fun p => s.secEvictable p.1) 4 1 0

/-- HEAT of the four records of a sector, as the map area then holds them. -/
def State.secHeats (s : State) (sec : Nat) : List Nat :=
  if 2 ^ 48 ≤ sec then [] else (List.range 4).map fun i => (s.pageRec (4 * sec + i)).heat

/-- Fill the page-record cache with a sector; none when every way is skipped. -/
def State.fillSec (s : State) (sec : Nat) : Option State :=
  if s.xlt.prCache.has sec then some s
  else
    (s.secWay sec).map fun w =>
      let cache := s.xlt.prCache.filter fun p => !(sectorSet p.1 == sectorSet sec && p.2.1.val == w)
      ({ s with xlt := { s.xlt with prCache := Tbl.put cache sec (⟨w % 16, Nat.mod_lt _ (by decide)⟩, s.secHeats sec) } }).touchSec sec w

/-- Bring the extent record of `e` into the cache if a way can take it. -/
def State.cacheExt (s : State) (e : Nat) : State := (s.fillExt e).getD s
/-- Bring a sector into the cache if a way can take it. -/
def State.cacheSec (s : State) (sec : Nat) : State := (s.fillSec sec).getD s

/-- An uncorrectable cache entry is discarded: a HEAT change not yet in the map area is lost (R95). -/
def State.dropExtEntry (s : State) (e : Nat) : State :=
  match s.xlt.extCache.look e with
  | none => s
  | some c =>
    let r := s.extRec e
    (({ s with xlt := { s.xlt with extCache := s.xlt.extCache.del e } }).setExt e { r with heat := c.mapHeat }).countXlt e 11

/-- A BUSY record goes back to the record in its shadow: BUSY stands only in the page-record cache (R84). -/
def State.unbusyPage (s : State) (p : Nat) : State :=
  if (s.pageRec p).state == .busy then
    { s.setPage p { s.xlt.shadow.get PageRec.zero p with heat := (s.pageRec p).heat, dsc := (s.pageRec p).dsc } with
      xlt := { (s.setPage p { s.xlt.shadow.get PageRec.zero p with heat := (s.pageRec p).heat, dsc := (s.pageRec p).dsc }).xlt with shadow := s.xlt.shadow.del p } }
  else s

/-- The same for a sector of the page-record cache (R95): a BUSY record falls back to what the map area holds. -/
def State.dropSecEntry (s : State) (sec : Nat) : State :=
  match s.xlt.prCache.look sec with
  | none => s
  | some c =>
    let s := { s with xlt := { s.xlt with prCache := s.xlt.prCache.del sec } }
    ((List.range c.2.length).foldl (fun (s : State) i =>
      let p := 4 * sec + i
      let s := s.unbusyPage p
      s.setPage p { s.pageRec p with heat := (c.2[i]?).getD 0 }) s).countXlt (sectorExt sec) 11

/-- The record of page `p` is cached. -/
def State.pageCached (s : State) (p : Nat) : Bool := s.xlt.prCache.has (pageSector p)

/-! ## Translation of a read -/

/-- What translation gives a near-cache miss. -/
inductive XRes where
  | zeros
  | poison
  | storage
  /-- The request waits: a map read, a bitmap rebuild, a dictionary reload. -/
  | wait (p : Phase)
  deriving DecidableEq, Repr

/-- An extent as its storage stands: a MIGRATING extent is resolved through its migration entry to its source (R78). -/
def State.extView (s : State) (e : Nat) : ExtMode × Nat :=
  let x := s.extRec e
  if x.mode == .migrating then ((s.drl.extCopies.find? (·.ext == e)).map fun c => (c.srcMode, c.srcLoc)).getD (.direct, x.loc)
  else (x.mode, x.loc)

/-- The record that stands for a page: the shadow while it is BUSY (R84). -/
def State.standing (s : State) (p : Nat) : PageRec :=
  let r := s.pageRec p
  if r.state == .busy then s.xlt.shadow.get PageRec.zero p else r

/-- Does the DEEP page buffer answer for line `l`: its page record is DEEP, and the buffer holds the page as that record stands (R136)? -/
def State.bufferHit (s : State) (l : Nat) : Bool :=
  let r := s.standing (pageKey l)
  (s.extView (extOf l)).1 == .mapped && r.state == .deep && !r.raw && s.cdc.buffer.contains (pageKey l, r.gen)

/-- The result for a page in a stored state (R83): ZERO, POISONED, SEGV 0 and SEGV 7 need no DRAM access (R37). A page in the DEEP page buffer waits for no dictionary (R136). -/
def State.byState (s : State) (p : PageRec) (l : Nat) : XRes :=
  match p.state with
  | .zero => .zeros
  | .poisoned => .poison
  | .packed =>
    if segvAt p.segv (segOf l) = 0 then .zeros
    else if segvAt p.segv (segOf l) = 7 then .poison
    else .storage
  | .deep => if p.dict ≠ 0 ∧ (s.cdc.dicts.get Dict.free p.dict).reloading ∧ !s.bufferHit l then .wait (.dict p.dict) else .storage
  | _ => .storage

/-- Translate within a mapped extent: the page record, its shadow while BUSY, and the share record of a SHARED page (R83, R84, R86). -/
def State.xlatePage (s : State) (l : Nat) : XRes × State :=
  let p := pageKey l
  let (hit, s) := s.lookSec (pageSector p)
  if !hit then (.wait (.map (sectorKey (pageSector p))), s)
  else
    let r := s.standing p
    if r.state == .shared then
      let (hit, s) := s.lookSec (shareSector r.loc)
      if !hit then (.wait (.map (sectorKey (shareSector r.loc))), s)
      else (s.byState (s.shareRec r.loc).asPage l, s)
    else (s.byState r l, s)

/-- Translation of a read (R72 to R86): the bitmap, the extent record and, for a mapped extent, the page record. -/
def State.xlate (s : State) (l : Nat) : XRes × State :=
  let e := extOf l
  if s.xlt.rebuilds.contains (e / 64) then (.wait (.bitmap (e / 64)), s)
  else if !s.xlt.touched.has e then (.zeros, s)
  else
    let (hit, s) := s.lookExt e
    if !hit then (.wait (.map (.ext (BitVec.ofNat 25 e))), s)
    else
      match (s.extView e).1 with
      | .untouched => (.zeros, s)
      | .poisoned => (.poison, s)
      | .mapped => s.xlatePage l
      | _ => if s.xlt.zeroing.has (pageKey l) then (.zeros, s) else (.storage, s)

/-! ## Where a line's storage lies -/

/-- The `k`-th data frame of a run that starts at `n`, parity frames passed over. -/
def State.dataFrame (s : State) : Nat → Nat → Nat → Nat
  | 0, n, _ => n
  | fuel + 1, n, k => if s.isParity n then s.dataFrame fuel (n + 1) k else if k = 0 then n else s.dataFrame fuel (n + 1) (k - 1)

/-- Frames, relative to the start of a stored page, that a read of line `i` of the page touches (R83, R129). -/
def PageRec.lineFrames (r : PageRec) (i : Nat) : List Nat :=
  match r.state with
  | .open => [i / 8]
  | .packed =>
    let g := segvStart r.segv (i / 4)
    (List.range (segGranules (segvAt r.segv (i / 4)))).map fun j => (g + j) / 8
  | .deep => if r.raw then [i / 8] else List.range (ceilDiv r.gcount 8)
  | _ => []

/-- The record that says where the data of page `p` lies: the shadow while BUSY, the share record when SHARED. -/
def State.storageRec (s : State) (p : Nat) : PageRec :=
  let r := s.standing p
  if r.state == .shared then (s.shareRec r.loc).asPage else r

/-- The primary places that a read of line `l` touches, as positions and slots (R270, R272). -/
def State.lineAt (s : State) (l : Nat) : List PosSlot :=
  let (m, loc) := s.extView (extOf l)
  match m with
  | .direct => [s.directAt (loc * 4096 + l % 32768 / 8)]
  | .mapped =>
    let r := s.storageRec (pageKey l)
    let mirrored := r.state == .open
    (r.lineFrames (lineInPage l)).map fun k =>
      s.frameAt (if mirrored then r.loc + k else s.dataFrame (2 * k + 4) r.loc k)
  | _ => []

/-- Is the storage of line `l` mirrored: a direct slot or an OPEN page (R278)? -/
def State.lineMirrored (s : State) (l : Nat) : Bool :=
  match (s.extView (extOf l)).1 with
  | .direct => true
  | .mapped => (s.storageRec (pageKey l)).state == .open
  | _ => false

/-- The place of the primary copy of line `l`'s storage, or of the second copy of mirrored data, which lean mode does not keep (R271, R273). -/
def State.copyAt (s : State) (l : Nat) (second : Bool) : Option PosSlot :=
  if second then (if s.lean || !s.lineMirrored l then none else (s.lineAt l).head?.map (copyPos s.w))
  else (s.lineAt l).head?

/-- The channel of a copy of line `l`'s storage. -/
def State.copyChan (s : State) (l : Nat) (second : Bool) : Option Chan := (s.copyAt l second).bind fun q => s.slotChan q.slot

/-- Are reads of a channel served from the other sources: it is FAILED in guarded mode, or returning (R280, R282)? -/
def State.redirected (s : State) (c : Chan) : Bool := !s.lean && ((s.chan c).st == .failed || (s.chan c).resync)

/-- Is the rank of a place on a channel parked (R248)? -/
def State.asleep (s : State) (c : Chan) (pos : Nat) : Bool := ((s.chan c).ranks.look (s.rankSetOf pos)).any fun r => r.st == .parked

/-- Is a channel lost: FAILED in lean mode (R284)? -/
def State.chanLost (s : State) (c : Chan) : Bool := s.lean && (s.chan c).st == .failed

/-- Does a read of line `l` need a lost channel (R284)? -/
def State.lineLost (s : State) (l : Nat) : Bool :=
  s.lean && (s.lineAt l).any fun p => (s.slotChan p.slot).any s.chanLost

/-- Granules of a stored page that a read of line `i` of the page touches (R83, R129). -/
def PageRec.lineGranules (r : PageRec) (i : Nat) : List Nat :=
  match r.state with
  | .open => [i]
  | .packed => (List.range (segGranules (segvAt r.segv (i / 4)))).map fun j => segvStart r.segv (i / 4) + j
  | .deep => if r.raw then [i] else List.range r.gcount
  | _ => []

/-- The SAs, in lines of 64 bytes, that a read of line `l` touches: direct area first, then the frame area (R272). -/
def State.lineSas (s : State) (l : Nat) : List Nat :=
  let (m, loc) := s.extView (extOf l)
  match m with
  | .direct => [loc * 32768 + l % 32768]
  | .mapped =>
    let r := s.storageRec (pageKey l)
    (r.lineGranules (lineInPage l)).map fun g =>
      let k := g / 8
      let n := if r.state == .open then r.loc + k else s.dataFrame (2 * k + 4) r.loc k
      (s.dirFrames + n) * 8 + g % 8
  | _ => []

/-- Does the lost-line table name storage that a read of line `l` touches (R287)? -/
def State.lostHere (s : State) (l : Nat) : Bool := (s.lineSas l).any fun a => s.trm.lost.any fun x => x / 64 == a

/-- Drop lost-line entries that lie in line `l`'s storage (R287). -/
def State.dropLost (s : State) (l : Nat) : State :=
  if s.trm.lost.isEmpty then s
  else { s with trm := { s.trm with lost := s.trm.lost.filter fun x => !((s.lineSas l).contains (x / 64)) } }

end Sys2Proof.Machine
end

