-- ==== Sys2Proof/Machine/Path.lean ====
section
/-! DEFINITION. The home slices: near cache, directory and snoops, and how a request is ordered, served and answered (R14 to R21, R37 to R48, R173 to R195). -/

namespace Sys2Proof.Machine

/-! ## RTK entries (R52, R55) -/

/-- The entry numbered `id`. -/
def State.entry (s : State) (id : Nat) : Option RtkEntry := s.rtk.find? (·.id == id)

/-- Change the entry numbered `id`. -/
def State.updEntry (s : State) (id : Nat) (g : RtkEntry → RtkEntry) : State := { s with rtk := updWhere (·.id == id) g s.rtk }

/-- Does the request ask for data? -/
def ReqOp.isRead : ReqOp → Bool
  | .rd _ => true
  | .rdData => true
  | .specRd => true
  | .rdFwd => true
  | _ => false

/-- Does the request bring data? -/
def ReqOp.isWrite : ReqOp → Bool
  | .wr _ => true
  | _ => false

/-- Is the entry still open at its home slice (R46)? An answered or held completion is not, nor is an access that has no entry yet. -/
def RtkEntry.isOpen (r : RtkEntry) : Bool :=
  match r.phase with
  | .respond => false
  | .part => false
  | .pool _ => false
  | _ => true

/-- Does an open request make a later one of its line wait (R46)? A crossing write-back, and a write of the line's owner (R184, R190), waits only behind requests whose coherence is settled, and over an open fill it lands at once (R47). -/
def RtkEntry.holdsUp (q r : RtkEntry) : Bool :=
  q.line == r.line && q.isOpen && (!r.crossing || (q.coherent && q.phase != .fill))

/-- Has the line an open request placed before the entry that makes it wait (R46)? -/
def State.blocked (s : State) (r : RtkEntry) : Bool := (s.rtk.takeWhile (·.id != r.id)).any fun q => q.holdsUp r

/-- Has the line any open request? -/
def State.lineOpen (s : State) (l : Nat) : Bool := s.rtk.any fun q => q.line == l && q.isOpen

/-- Entries of a head on a credit channel (R54). -/
def State.heldBy (s : State) (h : Head) (c : CreditChan) : Nat := (s.rtk.filter fun r => r.head == h && r.chan == c).length

/-- One credit of a channel is freed (R54, R213). -/
def State.freeCredit (s : State) (h : Head) (c : CreditChan) : State :=
  s.updPort h fun p =>
    match c with
    | .req => { p with freedReq := p.freedReq + 1 }
    | .rwd => { p with freedRwd := p.freedRwd + 1 }
    | .inner => p

/-- The key that flits sent now are encrypted under: that of the transmit direction of a Secure CXL.cachemem stream (R225). -/
def Port.txKey (p : Port) : Option (BitVec 256) :=
  if p.cmSecure then (if p.cmTx.useK1 then p.cmTx.k1 else p.cmTx.k0).map (·.1) else none

/-- Has the replay buffer room for a flit: 512 flits with 256-byte flits, 256 with 68-byte flits (R210)? -/
def Port.txRoom (p : Port) : Bool := decide (p.replay.length < (if p.flit256 then 512 else 256))

/-- A flit is built and enters the replay buffer (R210, R213). -/
def Port.pushFlit (p : Port) (req rwd : Nat) (m : Option Msg) : Port :=
  { p with replay := p.replay ++ [⟨p.txSeq, req, rwd, 0, m, p.txKey⟩], txSeq := p.txSeq + 1 }

/-- Send a CXL.mem message: it goes in a flit of its own, for how the link layer packs messages is CXL's (DESIGN CHOICE, LOG 58). -/
def State.emit (s : State) (h : Head) (m : Msg) : State :=
  ((s.updPort h fun p => p.pushFlit 0 0 (some m)).send m).countPort 0 h 1

/-- Is the port loop in effect at a port (R229, R230)? -/
def State.portLoop (s : State) (h : Head) : Bool :=
  s.f (Reg.PRTn_TEST_CTL.LOOP.nth h.val) == 4 && s.fb (Reg.PRTn_TEST_STATUS.ACTIVE.nth h.val)

/-- The DevLoad value that a port's responses carry (R64); Light Load in the port loop (R230). -/
def State.devloadOf (s : State) (h : Head) : BitVec 2 := if s.portLoop h then 0 else (s.port h).devload

/-- Write a BIConflictAck: it takes an NDR credit (R217) and carries DevLoad as every NDR does (R64), and its Req credit returns when it is written (R54, R187). With no NDR credit it waits at the port. -/
def State.ackConflict (s : State) (h : Head) (tag : BitVec 16) : State :=
  if (s.port h).ndr = 0 || !(s.port h).txRoom then s.updPort h fun p => { p with acks := p.acks ++ [tag] }
  else (((s.updPort h fun p => { p with ndr := p.ndr - 1 }).emit h (.biConflictAck h tag (s.devloadOf h))).count 2 47 1 (some h.val)).freeCredit h .req

/-! ## Responses (R48, R55, R177, R217) -/

/-- Does the response need a data slot, an NDR slot (R177, R199)? -/
def RtkEntry.needs (r : RtkEntry) : Bool × Bool :=
  match r.op with
  | .specRd => (false, false)
  | .rdFwd => (true, true)
  | op => if op.isRead then (true, r.grant != .none) else (false, true)

/-- Send an entry's response: the data, the NDR, and what they count (R55, R415). -/
def State.sendResponse (s : State) (r : RtkEntry) : State :=
  let h := r.head
  let (d, n) := r.needs
  let dl := s.devloadOf h
  let s := s.updPort h fun p => { p with drs := p.drs - d.toNat, ndr := p.ndr - n.toNat }
  let s := if d then
      (((s.emit h (.data h r.tag (r.kept.getD LineVal.zero) r.grant dl)).countPort 1 h 0).countPort 1 h 2 (s.now - r.born)).count 2 48 1 (some h.val)
    else s
  let s := if n && (!d || r.op == .rdFwd) then s.emit h (.cmp h r.tag r.grant dl) else s
  let s := if n then s.count 2 47 1 (some h.val) else s
  if r.op.isWrite then s.countPort 1 h 1 else s

/-- May a response go now: its S2M credits stand (R217), the replay buffer has room (R210), and none that became ready before it at the port still waits (R48)? -/
def State.maySend (s : State) (r : RtkEntry) : Bool :=
  let p := s.port r.head
  (p.ready.isEmpty || p.ready.head? == some r.id) && p.txRoom && !(r.needs.1 && p.drs == 0) && !(r.needs.2 && p.ndr == 0)

/-- A response waits at its port, behind those that became ready before it (R48, R217). -/
def State.waitCredit (s : State) (r : RtkEntry) : State :=
  (s.updEntry r.id fun r => { r with phase := .respond }).updPort r.head fun p => if p.ready.contains r.id then p else { p with ready := p.ready ++ [r.id] }

/-- An entry leaves RTK: it waits for no credit any more, and its credit returns (R54, R55). -/
def State.dropEntry (s : State) (r : RtkEntry) : State :=
  let s := if (s.port r.head).ready.isEmpty then s else s.updPort r.head fun p => { p with ready := p.ready.filter (· != r.id) }
  ({ s with rtk := s.rtk.filter (·.id != r.id) }).freeCredit r.head r.chan

/-- A violation of *Port violations*: counted, with one event record per head per second for each kind `k` (R228). -/
def State.portViolation (s : State) (h : Head) (k : Nat) (c : Cause) : State :=
  (s.countPort 1 h 7).eventPerSecond h k .informational c h.val

/-- The 64 bytes of a line in the port loop: each 8-byte word holds its own HDPA (R230). -/
def loopPattern (a : Nat) : LineData :=
  (List.range 8).foldl (fun d i => d ||| (BitVec.ofNat 512 (a / 64 * 64 + 8 * i) <<< (64 * i))) 0

/-- What the port loop makes of a request that has waited for it: the pattern as its answer, and a differing write counted (R229, R230); an address that no decoder takes is answered as R228 gives. -/
def State.loopEntry (s : State) (r : RtkEntry) : State :=
  let a := s.hdpaOf r.head r.hdpa
  let pat := loopPattern (a.getD 0)
  let s := if a.isNone then (s.flag (Reg.PRTn_LINK_ERR.HDM_MISS.nth r.head.val)).portViolation r.head 4 .hdmMiss
    else if r.op.isWrite && mergeLine pat r.data r.mask != pat then s.countPort 0 r.head 6 else s
  let r := { r with coherent := true, kept := some (if a.isNone then ⟨0, true⟩ else ⟨pat, false⟩) }
  if r.synthetic then s.dropEntry r
  else if s.maySend r then (s.sendResponse r).dropEntry r
  else (s.updEntry r.id fun _ => r).waitCredit r

/-- Does an entry wait for the port loop to take effect? Its line is not decoded. -/
def RtkEntry.loopWaits (r : RtkEntry) : Bool := r.phase == .domain && r.line == 2 ^ 46

/-- The port loop takes effect once the partition holds no earlier request (R230). -/
def State.loopStart (s : State) (h : Head) : State :=
  if !(s.port h).loopWait || s.rtk.any (fun r => r.head == h && r.chan != .inner && !r.loopWaits) then s
  else
    let s := (s.updPort h fun p => { p with loopWait := false }).flag (Reg.PRTn_TEST_STATUS.ACTIVE.nth h.val)
    (s.rtk.filter fun r => r.head == h && r.loopWaits).foldl (fun s r => s.loopEntry r) s

/-- The result of a mailbox command: held for the next mailbox read while the link is down (R223). -/
def State.mbxReply (s : State) (h : Head) (r : Reply) : State :=
  if (s.port h).up then s.send (.mailbox h r) else s.updPort h fun p => { p with mbxHeld := some r }

/-- Free an entry: its credit returns, a mailbox command that it served completes (R353), and the BIConflicts that waited for its response are answered (R55, R186). -/
def State.closeEntry (s : State) (r : RtkEntry) : State :=
  let s := s.dropEntry r
  let s := if r.chan == .inner then s.mbxReply r.head .ok else s
  (r.conflicts.foldl (fun s t => s.ackConflict r.head t) s).loopStart r.head

/-- Answer an entry whose work is done: against the host's S2M credits (R217), or with no response under a synthetic completion (R223). -/
def State.respond (s : State) (id : Nat) : State :=
  match s.entry id with
  | none => s
  | some r =>
    if r.synthetic then s.closeEntry r
    else if s.maySend r then (s.sendResponse r).closeEntry r
    else s.waitCredit r

/-- Answer a read with a value as it stands. -/
def State.reply (s : State) (id : Nat) (v : LineVal) : State := (s.updEntry id fun r => { r with kept := some v }).respond id

/-- Answer a read with a value. The data bytes of poison are not defined (R268). -/
def State.answer (s : State) (id : Nat) (v : LineVal) : State :=
  if v.poison then s.takeFree.reply id ⟨Config.freeLine s.free, true⟩ else s.reply id v

/-! ## Waking of ranks (R171, R248, R368) -/

/-- A rank of a channel. -/
def State.rank (s : State) (c : Chan) (r : RankSet) : Option Rank := (s.chan c).ranks.look r.val

/-- Change a rank. -/
def State.updRank (s : State) (c : Chan) (r : RankSet) (g : Rank → Rank) : State :=
  match s.rank c r with
  | none => s
  | some x => s.updChan c fun ch => { ch with ranks := ch.ranks.put r.val (g x) }

/-- Wake a rank: the first pause after the wake does what fell due while it slept (R243); a rank of a released set that wakes returns to PARKED by itself (R248). -/
def State.wakeRank (s : State) (c : Chan) (r : RankSet) : State :=
  let s := s.updRank c r fun x => { x with st := .active, retrainDue := false }
  if (s.chan c).st == .quiet then s.updChan c fun x => { x with st := .active } else s

/-- Latch a wake source of a domain that is not ON (R368). -/
def State.latchWake (s : State) (d : Nat) (src : WakeSource) : State :=
  if (s.dom d).st == .on || (s.dom d).latch.any (·.1 == src) then s
  else s.updDom d fun x => { x with latch := x.latch ++ [(src, s.tb)] }

/-- A command is queued at a place: its rank wakes, with the PHY of a QUIET channel; a channel in RET is woken with its domain first (R171, R248, R249). -/
def State.wakePlace (s : State) (q : PosSlot) (src : WakeSource := .hostRequest) : State :=
  match s.slotChan q.slot with
  | none => s
  | some c =>
    match (s.chan c).st with
    | .ret => s.latchWake (12 + c.val) src
    | .active => s.wakeRank c ⟨s.rankSetOf q.pos % 8, Nat.mod_lt _ (by decide)⟩
    | .quiet => s.wakeRank c ⟨s.rankSetOf q.pos % 8, Nat.mod_lt _ (by decide)⟩
    | _ => s

/-- The places that a write of line `l` goes to: both copies where they are mirrored, and the stripe's parity (R275, R276). -/
def State.writePlaces (s : State) (l : Nat) : List PosSlot :=
  let qs := s.lineAt l
  qs ++ (if s.lean then [] else if s.lineMirrored l then qs.map (copyPos s.w) else qs.map fun q => PosSlot.mk q.pos (paritySlot s.w (q.pos - s.frameBase)))

/-! ## Channel queues (R239, R251) -/

/-- Data rates in MT/s, as SPEED_MAX encodes them (R233). -/
def rateMts (r : Nat) : Nat := [4800, 5200, 5600, 6000, 6400, 8000, 8800][r]?.getD 8800

/-- 256 DCLK cycles in ns: DCLK is an eighth of the data rate (R233, R251). -/
def Channel.retryNs (x : Channel) : Nat := 256 * 8 * 1000 / rateMts x.rate

/-- Is a position on subchannel B (R269)? -/
def subOf (pos : Nat) : Bool := pos / 8 % 2 == 1

/-- The counter of a command in group 9 (R415), and whether its data pass through the XTS engine: parity is ciphertext (R306). -/
def ChanCmd.counter : ChanCmd → Nat
  | .read _ => 0
  | .write _ => 1
  | .parity _ w => w.toNat
  | .refresh _ => 3
  | .engine _ w => w.toNat

def ChanCmd.crypts : ChanCmd → Bool
  | .parity _ _ => false
  | .refresh _ => false
  | _ => true

/-- Count `n` commands of a channel as issued: column commands with their activates, of which up to 4 of one row share one (R240), or refreshes (R415). -/
def State.countIssue (s : State) (c : Chan) (x : ChanCmd) (n : Nat) : State :=
  let s := s.count 9 (4 * c.val + x.counter) n
  if x.counter = 3 then s else s.count 9 (4 * c.val + 2) (ceilDiv n 4)

/-- Count `n` commands of a channel, and the data units through the channel's XTS engine or the spare in its place (R306, R317, R415). -/
def State.countCmd (s : State) (c : Chan) (x : ChanCmd) (n : Nat) : State :=
  let s := s.countIssue c x n
  if x.crypts then s.count 12 (if s.fb Reg.XTS_STATUS.SPARE_ACTIVE && s.f Reg.XTS_STATUS.SPARE_CH == c.val then 16 else c.val) n else s

/-- Issue `n` commands at a place of a channel that runs: they are counted, they enter the retry buffer, which keeps the last 256 DCLK cycles and stands still while ALERT_n is low (at most 32 bursts of 8 cycles fit in it), and they count in the share of internal engines, whose accesses are C0 messages (R59, R231, R239, R251). -/
def State.chanIssue (s : State) (q : PosSlot) (x : ChanCmd) (n : Nat := 1) : State :=
  match s.slotChan q.slot with
  | none => s
  | some c =>
    if n = 0 || (s.chan c).st == .failed || (s.chan c).st == .off then s
    else
      let s := s.updChan c fun ch => { ch with
        retry := (ch.retry.filter fun e => (if e.2.1 then ch.alertB else ch.alertA) || decide (s.now < e.1 + ch.retryNs)) ++ List.replicate (min n 32) (s.now, subOf q.pos, x)
        c0Gap := match x with | .engine _ _ => 0 | .refresh _ => ch.c0Gap | _ => min 31 (ch.c0Gap + n) }
      let s := match x with | .engine _ _ => s.count 2 44 n | _ => s
      s.countCmd c x n

/-- Frames that hold granules of line `l`'s storage, with the number of its granules in each (R83, R129). -/
def State.lineRuns (s : State) (l : Nat) : List (PosSlot × Nat) :=
  match (s.extView (extOf l)).1 with
  | .mapped =>
    let r := s.storageRec (pageKey l)
    let gs := r.lineGranules (lineInPage l)
    (s.lineAt l).zip ((r.lineFrames (lineInPage l)).map fun k => (gs.filter fun g => g / 8 == k).length)
  | _ => (s.lineAt l).map fun q => (q, 1)

/-- Frames of a page stored as `r`, with the number of granules in each; with `both` the mirror copies of an OPEN page too (R273). -/
def State.pagePlaces (s : State) (r : PageRec) (both : Bool) : List (PosSlot × Nat) :=
  let g := match r.state with
    | .open => 64
    | .packed => segvTotal r.segv
    | .deep => r.gcount
    | _ => 0
  let ps := (List.range r.frames).map fun k => (s.frameAt (if r.state == .open then r.loc + k else s.dataFrame (2 * k + 4) r.loc k), min 8 (g - 8 * k))
  ps ++ (if both && r.state == .open && !s.lean then ps.map fun p => (copyPos s.w p.1, p.2) else [])

/-- An internal engine reads or writes the stored frames of a page: their ranks wake, and the commands are issued (R171, R248). -/
def State.enginePage (s : State) (r : PageRec) (write : Bool) : State :=
  (s.pagePlaces r write).foldl (fun (s : State) p => (s.wakePlace p.1 .engineRequest).chanIssue p.1 (.engine p.1.pos write) p.2) s

/-- The page of line `l` has been written anew for a write-back: its frames' ranks wake, and the writes are issued. -/
def State.writePage (s : State) (l : Nat) (r : PageRec) : State :=
  (s.pagePlaces r true).foldl (fun (s : State) p => (s.wakePlace p.1).chanIssue p.1 (.write l) p.2) s

/-- The reads of every other line at a place's offset of its stripe, from which the place's line is rebuilt (R279, R280). -/
def State.rebuildReads (s : State) (l : Nat) (q : PosSlot) (n : Nat) : State :=
  ((List.range s.w).filter (· != q.slot)).foldl (fun (s : State) j => s.chanIssue ⟨q.pos, j⟩ (.parity l false) n) s

/-- The writes of a write-back in place (R274 to R276): of both copies where they are mirrored; in a stripe the old data and parity are read, then both are written. With the data's channel FAILED the parity is made from the other data lines, and it alone is written; with the parity's FAILED the data alone (R280). -/
def State.writeLine (s : State) (l : Nat) : State :=
  let mirrored := s.lineMirrored l
  (s.lineRuns l).foldl (fun (s : State) p =>
    if s.lean then s.chanIssue p.1 (.write l) p.2
    else if mirrored then (s.chanIssue p.1 (.write l) p.2).chanIssue (copyPos s.w p.1) (.write l) p.2
    else
      let q := PosSlot.mk p.1.pos (paritySlot s.w (p.1.pos - s.frameBase))
      if s.slotFailed p.1.slot then
        (((List.range s.w).filter fun j => j != p.1.slot && j != q.slot).foldl (fun (s : State) j => s.chanIssue ⟨q.pos, j⟩ (.parity l false) p.2) s).chanIssue q (.parity l true) p.2
      else if s.slotFailed q.slot then s.chanIssue p.1 (.write l) p.2
      else (((s.chanIssue p.1 (.parity l false) p.2).chanIssue q (.parity l false) p.2).chanIssue p.1 (.write l) p.2).chanIssue q (.parity l true) p.2) s

/-- The lines whose writes stand in a channel's write queue; 64 lines in each slice's buffer make at most the 1,024 that the queue holds (R60, R239, R274). -/
def State.writeQueue (s : State) (c : Chan) : List WbLine :=
  s.nc.wbb.filter fun w => w.issued && (s.writePlaces w.line).any fun q => s.slotChan q.slot == some c

/-- Does a read wait on a queued write to the same granules (R239, R241)? -/
def State.readWaits (s : State) (c : Chan) : Bool :=
  (s.writeQueue c).any fun w => s.nc.fills.any fun f => f.value.isSome && (s.lineSas f.line).any (s.lineSas w.line).contains

/-- The drain of a channel's write queue: entered at 768 lines or when a read waits on a queued write, left at 512 (R239). -/
def State.noteDrain (s : State) (c : Chan) : State :=
  let n := (s.writeQueue c).length
  let d := decide (768 ≤ n) || s.readWaits c || ((s.chan c).drain && decide (512 < n))
  if d == (s.chan c).drain then s else s.updChan c fun x => { x with drain := d }

/-- The drain of every channel that holds line `l`. -/
def State.noteDrains (s : State) (l : Nat) : State :=
  ((s.writePlaces l).filterMap fun q => s.slotChan q.slot).foldl (fun s c => s.noteDrain c) s

/-- Commands that may wait at a channel, as the classes of R239 name them. -/
inductive ChanWait where
  | refresh (r : RankSet)
  | replay
  /-- A map-area read for a request in its RTK entry, a held-attempt copy, or a read that a write-back waits on. -/
  | urgent
  | fill (line : Nat)
  | write (line : Nat)
  | engine
  deriving DecidableEq, Repr

/-- The class from which the scheduler takes a waiting command, 1 first (R239): a host read of 2 µs is in class 2, a write has a class only while its queue is in drain, and 0 stands for the one column command in 32 that an internal engine is given. Which of the commands that are ready goes is the order of the rows (LOG 59). -/
def State.waitClass (s : State) (c : Chan) : ChanWait → Option Nat
  | .refresh r => if (s.rank c r).any fun x => decide (4 ≤ x.postponed) then some 1 else none
  | .replay => some 1
  | .urgent => some 2
  | .fill l => (s.nc.fills.find? (·.line == l)).map fun f => if f.since + 2000 ≤ s.now then 2 else 3
  | .write _ => if (s.chan c).drain then some 4 else none
  | .engine => some (if 31 ≤ (s.chan c).c0Gap then 0 else 5)

/-- A read of line `l` from storage wakes the ranks that it touches, and no other (R171). -/
def State.wakeRead (s : State) (l : Nat) (second : Bool) : State :=
  (if second then (s.copyAt l true).toList else s.lineAt l).foldl (fun s q => s.wakePlace q) s

/-- A write into line `l`'s storage wakes the ranks of the data: of both copies where they are mirrored, and of the stripe's parity (R171, R275). -/
def State.wakeWrite (s : State) (l : Nat) : State := (s.writePlaces l).foldl (fun s q => s.wakePlace q) s

/-! ## Near-cache ways (R44, R45) -/

/-- Lines of a set. -/
def State.ncMembers (s : State) (k : Nat) : List (Nat × NcLine) := s.nc.lines.filter fun p => setKey p.1 == k

/-- Set a line of the near cache. -/
def State.setNc (s : State) (l : Nat) (n : NcLine) : State := { s with nc := { s.nc with lines := s.nc.lines.put l n } }

/-- Drop a line of the near cache. -/
def State.delNc (s : State) (l : Nat) : State := { s with nc := { s.nc with lines := s.nc.lines.del l } }

/-- Touch a line's way. -/
def State.touchNc (s : State) (l : Nat) (w : Fin 16) : State :=
  let k := setKey l
  let b := (s.nc.plru.get 0 k).toNat * 2
  { s with nc := { s.nc with plru := s.nc.plru.set 0 k (BitVec.ofNat 15 (plruTouch b w.val 4 1 / 2)) } }

/-- Lines in a slice's write-back buffer. -/
def State.wbbUsed (s : State) (sl : Fin 16) : Nat := (s.nc.wbb.filter fun w => slice w.line == sl).length

/-- The pressure level: 0 GREEN to 3 FLOOR (R107). -/
def State.level (s : State) : Nat := s.f Reg.XLT_CAP_STATUS.LEVEL

/-- Is an extent elastic: by its record, or by its region while UNTOUCHED (R74, R77)? -/
def State.elastic (s : State) (e : Nat) : Bool :=
  if (s.extRec e).mode == .untouched then s.allRegions.any fun r => r.hasExt e && r.cls == 1
  else (s.extRec e).cls == 1

/-- Are backing write-backs into extent `e` held (R117)? -/
def State.backingHeld (s : State) (e : Nat) : Bool := s.level == 3 && (s.elastic e || s.belowFirmFloor)

/-- The stored size of a segment in granules (R123). -/
def segSize (ls : List LineData) : Nat :=
  if ls.all (· == 0) then 0
  else
    let b := Config.segBytes ls
    if b ≤ 64 then 1 else if b ≤ 128 then 2 else if b ≤ 192 then 3 else 4

/-- The four lines of the segment of line `l` as storage gives them, with `v` merged in. -/
def State.segWith (s : State) (l : Nat) (v : LineData) (m : Mask) : List LineData :=
  (List.range 4).map fun i =>
    let j := l / 4 * 4 + i
    if j = l then mergeLine (s.stored j).data v m else (s.stored j).data

/-- Is any segment compressor in service (R147)? -/
def State.anyCompressor (s : State) : Bool := s.f Reg.CDC_STATUS.COMP_OOS != 0xFF

/-- Would a line written back into a PACKED segment fit its granules (R131, R147)? -/
def State.segFits (s : State) (r : PageRec) (l : Nat) (v : LineData) (m : Mask) : Bool :=
  let z := segvAt r.segv (segOf l)
  if z = 4 then true
  else if z = 0 then v &&& maskBits m == 0
  else if z = 7 then false
  else s.anyCompressor && decide (segSize (s.segWith l v m) ≤ z)

/-- Would the write-back of this line be a backing write-back (R116)? `bad`: the compressor's output for its segment fails verification, so that a compressed segment no longer fits (R124, R132). -/
def State.isBacking (s : State) (l : Nat) (v : LineData) (m : Mask) (poison : Bool) (bad : Bool := false) : Bool :=
  match (s.extView (extOf l)).1 with
  | .untouched => true
  | .mapped =>
    let r := s.standing (pageKey l)
    match r.state with
    | .zero => poison || (v &&& maskBits m) != 0
    | .shared => true
    | .deep => !r.raw
    | .packed => poison || (segvAt r.segv (segOf l) != 7 && !(s.segFits r l v m && (segvAt r.segv (segOf l) == 4 || !bad)))
    | _ => false
  | _ => false

/-- Pool lines held (R119). -/
def State.poolCount (s : State) : Nat := (s.nc.lines.filter fun p => p.2.pool.isSome).length

/-- Is there room for one more pool line in the pool and in the line's set (R119)? -/
def State.poolRoom (s : State) (l : Nat) : Bool :=
  decide (s.poolCount < 524288) && decide (((s.ncMembers (setKey l)).filter fun p => p.2.pool.isSome).length < 8)

/-- Make a line a pool line (R117, R118). -/
def State.makePool (s : State) (l : Nat) : State :=
  match s.nc.lines.look l with
  | none => s
  | some n =>
    if n.pool.isSome then s
    else { s with nc := { s.nc with lines := s.nc.lines.put l { n with pool := some (s.nc.poolSeq, !s.elastic (extOf l)) }, poolSeq := s.nc.poolSeq + 1 } }

/-- Outcome of asking for a way. -/
inductive WayRes where
  | got (w : Fin 16) (s : State)
  /-- All 16 ways are busy (R45). -/
  | busy (s : State)
  /-- The slice's write-back buffer is full (R44). -/
  | full (s : State)

/-- Take a way for line `l`: an invalid way, else the pseudo-LRU way that is not filling and not a pool line; a dirty victim goes to the write-back buffer (R44). At FLOOR a dirty victim whose write-back is held becomes a pool line instead (R117); with no room for it in the pool or in its set, which the rule does not treat, it goes to the write-back buffer (DESIGN CHOICE, LOG 55). -/
def State.takeWay (s : State) (l : Nat) : Nat → WayRes
  | 0 => .busy (s.count 3 65)
  | fuel + 1 =>
    let k := setKey l
    let ms := s.ncMembers k
    match (List.range 16).find? fun w => !(ms.any fun p => p.2.way.val == w) with
    | some w => .got ⟨w % 16, Nat.mod_lt _ (by decide)⟩ s
    | none =>
      let ok (w : Nat) : Bool := ms.any fun p => p.2.way.val == w && !p.2.filling && p.2.pool.isNone
      match (plruPick ((s.nc.plru.get 0 k).toNat * 2) ok 4 1 0).bind fun w => ms.find? fun p => p.2.way.val == w with
      | none => .busy (s.count 3 65)
      | some (v, n) =>
        if !n.dirty then .got n.way (s.delNc v)
        else if s.backingHeld (extOf v) && s.isBacking v n.data n.mask n.poison && s.poolRoom v then (s.makePool v).takeWay l fuel
        else if 64 ≤ s.wbbUsed (slice l) then .full (s.count 3 64)
        else
          let s := (s.delNc v).count 3 (4 * (slice l).val + 2)
          .got n.way { s with nc := { s.nc with wbb := s.nc.wbb ++ [⟨v, n.data, n.mask, n.poison, false, false, none⟩] } }

/-- Does a FAB queue take one more message of a class, `own` giving what it holds of each class: the class's own 4 entries first, then a shared entry, for C0 and C1 only while 8 are free (R61)? -/
def fabTakes (c : MsgClass) (own : MsgClass → Nat) : Bool :=
  let shared := ([MsgClass.background, .request, .snoop, .response, .data].map fun k => own k - 4).sum
  let free := Config.fabPool - shared
  decide (own c < 4) ||
    (match c with
     | .background => decide (8 ≤ free)
     | .request => decide (8 ≤ free)
     | _ => decide (0 < free))

/-- What the FAB queue toward the XLT slice of extent `e` holds of each class between steps: heat events, which are C0 (R149), and requests that wait for the slice's domain, which are C1 (R356). Messages of the other classes pass within the step that sends them (R59; LOG 53). -/
def State.fabHolds (s : State) (e : Nat) (c : MsgClass) : Nat :=
  let here (l : Nat) : Bool := Config.xltSlice (extOf l) == Config.xltSlice e
  match c with
  | .background => (s.nc.heatQ.filter here).length
  | .request => if s.domOn (48 + (Config.xltSlice e).val) then 0 else (s.rtk.filter fun r => r.phase == .domain && !r.loopWaits && here r.line).length
  | _ => 0

/-- A heat event for the page of line `l` waits for XLT as a C0 message (R148); one that finds the queue full is dropped and counted (R149). -/
def State.heat (s : State) (l : Nat) : State :=
  if fabTakes .background (s.fabHolds (extOf l)) then { s with nc := { s.nc with heatQ := s.nc.heatQ ++ [l] } }.count 2 44
  else s.countXlt (extOf l) 7

/-- Count a near-cache hit: every sixteenth at a slice makes a heat event (R148). Accesses by the device's own engines make none. -/
def State.ncHit (s : State) (l : Nat) (host : Bool := true) : State :=
  let k := (slice l).val
  if host then
    let c := s.nc.hits.get 0 k + 1
    let s := ({ s with nc := { s.nc with hits := s.nc.hits.set 0 k c } }).count 3 (4 * k)
    if c = 0 then s.heat l else s
  else s.count 3 (4 * k)

/-- Count a miss. -/
def State.ncMiss (s : State) (l : Nat) : State := s.count 3 (4 * (slice l).val + 1)

/-- Is a fill open for line `l`? -/
def State.fillOpen (s : State) (l : Nat) : Bool := s.nc.fills.any fun f => f.line == l && !f.stale

/-- Merge fill data under the byte-valid mask: bytes already written win (R43); poison stays, as no one write covered the line (R17). -/
def NcLine.filled (n : NcLine) (v : LineVal) : NcLine :=
  { n with data := mergeLine v.data n.data n.mask, poison := n.poison || v.poison, mask := fullMask, filling := false }

/-- Resolve a line that waits for fill data with a known value (R37, R43). -/
def State.resolveFill (s : State) (l : Nat) (v : LineVal) : State :=
  match s.nc.lines.look l with
  | none => s
  | some n => s.setNc l (n.filled v)

/-- The value under a line that the near cache does not hold: the write-back buffer's, or none (R97). -/
def State.fromWbb (s : State) (l : Nat) : Option LineVal :=
  (s.wbbLine l).map fun w =>
    let b := s.stored l
    ⟨mergeLine b.data w.data w.mask, w.poison || (b.poison && w.mask != fullMask)⟩

/-- The channel that an open fill reads. -/
def State.fillChan (s : State) (f : Fill) : Option Chan := s.copyChan f.line f.second

/-- Reads that stand in a channel's queue: 192 on each subchannel, and what is beyond them waits in its RTK entry (R239). -/
def State.readsOn (s : State) (c : Chan) : Nat := (s.nc.fills.filter fun f => s.fillChan f == some c).length

/-- Is a place on a channel in a pause (R242)? -/
def State.paused (s : State) (c : Chan) (pos : Nat) : Bool := if subOf pos then (s.chan c).pauseB else (s.chan c).pauseA

/-- Does a read of line `l` take the second copy (R192)? The copy that is not parked or waking goes first, then the one that no pause holds (R242), then the one whose channel has fewer reads queued; a tie goes to the primary copy. A copy on a FAILED or returning channel is not available. -/
def State.takesSecond (s : State) (l : Nat) : Bool :=
  match s.copyAt l false, s.copyAt l true with
  | some a, some b =>
    match s.slotChan a.slot, s.slotChan b.slot with
    | some c, some d =>
      if s.redirected d then false
      else if s.redirected c then true
      else if s.asleep d b.pos != s.asleep c a.pos then s.asleep c a.pos
      else if s.paused d b.pos != s.paused c a.pos then s.paused c a.pos
      else decide (s.readsOn d < s.readsOn c)
    | _, _ => false
  | _, _ => false

/-- Is a read of line `l` from storage a codec read: of a segment stored encoded, or of a page that an engine decodes (R381)? -/
def State.codecRead (s : State) (l : Nat) : Bool :=
  let r := s.storageRec (pageKey l)
  (s.extView (extOf l)).1 == .mapped && (r.state == .packed || (r.state == .deep && !r.raw))

/-- Record an open fill; `v` is none while its translation waits. A read of storage, not of the page buffer (R136), wakes its ranks (R171). -/
def State.addFill (s : State) (l : Nat) (v : Option LineVal) (host : Bool := true) : State :=
  let second := s.takesSecond l
  let reads := v.isSome && !s.bufferHit l
  let places : List (PosSlot × Nat) := if reads then (if second then (s.copyAt l true).toList.map (·, 1) else s.lineRuns l) else []
  let s := if reads then s.wakeRead l second else s
  let s : State := places.foldl (fun (s : State) p =>
    if !second && !s.lineMirrored l && ((s.slotChan p.1.slot).any s.redirected) then s.rebuildReads l p.1 p.2 else s.chanIssue p.1 (.read l) p.2) s
  let s : State := if v.isSome && s.codecRead l then { s with cad := { s.cad with codecWork := true } } else s
  let s : State := { s with nc := { s.nc with fills := s.nc.fills ++ [Fill.mk l v false [] second host s.now] } }
  if s.nc.wbb.any (·.issued) then places.foldl (fun (s : State) p => ((s.slotChan p.1.slot).map s.noteDrain).getD s) s else s

/-- Open the fill of a line that holds a way (R43): zeros, poison, lines on a lost channel (R29) and buffered lines resolve at once, stored lines when their data arrives. -/
def State.openFill (s : State) (l : Nat) (host : Bool := true) : State :=
  match s.fromWbb l with
  | some v => s.resolveFill l v
  | none =>
    let (x, s) := s.xlate l
    match x with
    | .zeros => s.resolveFill l LineVal.zero
    | .poison => s.resolveFill l ⟨0, true⟩
    | .storage => if s.lineLost l && !s.bufferHit l then s.resolveFill l ⟨0, true⟩ else s.addFill l (some (s.stored l)) host
    | .wait _ => s.addFill l none host

/-- The reads of line `l` that wait for its open fill and stand before entry `id` keep the value at their own place: the line as it is now over the fill (R47). -/
def State.freezeReaders (s : State) (l id : Nat) : State :=
  match s.nc.lines.look l with
  | none => s
  | some n =>
    let old := s.nc.fills.flatMap fun f => f.readers.map (·.id)
    let rs := ((s.rtk.takeWhile (·.id != id)).filter fun r => r.line == l && r.phase == .fill && !old.contains r.id).map fun r => FillReader.mk r.id n.data n.mask n.poison
    { s with nc := { s.nc with fills := updWhere (fun f => f.line == l && !f.stale) (fun f => { f with readers := f.readers ++ rs }) s.nc.fills } }

/-- A full write has replaced line `l`: its fill goes on only for the reads that it still owes a value (R47). -/
def State.endFill (s : State) (l : Nat) : State :=
  { s with nc := { s.nc with fills := (s.nc.fills.filter fun f => f.line != l || f.stale || !f.readers.isEmpty).map fun f => if f.line == l then { f with stale := true } else f } }

/-! ## Doorbells (R325, R326) -/

/-- The head's ring window as DPA line numbers, while it is enabled: base and size (R325). -/
def State.window (s : State) (h : Head) : Option (Nat × Nat) :=
  if s.fb (Reg.CMD_WINh.EN.nth h.val) then
    (s.regionAt h (s.f (Reg.CMD_WINh.BASE_2M.nth h.val) * 2 ^ 21)).map fun r =>
      (r.dpa (s.f (Reg.CMD_WINh.BASE_2M.nth h.val) * 2 ^ 21) / 64, (s.f (Reg.CMD_HEADh.WIN_SIZE.nth h.val) + 1) * 32768)
  else none

/-- The head that owns ring `r` (R327). -/
def State.ringOwner (s : State) (r : Ring) : Head :=
  let w := s.word (0x800010 + 4 * (r.val / 8))
  ⟨(w >>> (3 * (r.val % 8))).toNat % 8, Nat.mod_lt _ (by decide)⟩

/-- Pass a doorbell line's bytes 0 to 7 to CMD if its ring is enabled and its head owns it (R326). -/
def State.doorbell (s : State) (l : Nat) : State :=
  let v := lineNat (s.current l).data 0 8
  s.heads.foldl (fun s h =>
    match s.window h with
    | none => s
    | some (b, _) =>
      if b ≤ l ∧ l < b + 128 then
        let i := l - b
        let r : Ring := ⟨i % 64, Nat.mod_lt _ (by decide)⟩
        let cq := decide (64 ≤ i)
        let en := if cq then s.fb (Reg.CMD_CQr.EN.nth r.val) else s.fb (Reg.CMD_SQr.EN.nth r.val)
        if en && s.ringOwner r == h then { s with cmd := { s.cmd with bells := s.cmd.bells ++ [⟨cq, r, v⟩] } } else s
      else s) s

/-! ## Landing of writes (R15, R17, R20, R42, R43) -/

/-- The first write to any line of an extent sets its bitmap bit (R73). -/
def State.touch (s : State) (l : Nat) : State :=
  if s.xlt.touched.has (extOf l) then s
  else { s with xlt := { s.xlt with touched := s.xlt.touched.put (extOf l) () } }

/-- A line with a write merged into it: only a write of all 64 bytes ends its fill and clears its poison (R17, R43). -/
def NcLine.written (n : NcLine) (d : LineData) (m : Mask) (p : Bool) : NcLine :=
  { n with data := mergeLine n.data d m, mask := n.mask ||| m, dirty := true,
           poison := if m = fullMask then p else n.poison || p, filling := n.filling && m != fullMask }

/-- Outcome of a landing. -/
inductive LandRes where
  | landed (s : State)
  | wait (p : Phase) (s : State)

/-- Land a write at its home slice: into the line's way, or into a way taken for it, with a fill opened for the rest of a partial write (R42, R43). Writes of the device's own engines make no heat event (R148). -/
def State.land (s : State) (l : Nat) (d : LineData) (m : Mask) (p : Bool) (host : Bool := true) : LandRes :=
  let s := s.touch l
  if m = 0 then .landed s
  else
    match s.nc.lines.look l with
    | some n =>
      let n' := n.written d m p
      let s := ((s.setNc l n').touchNc l n.way).ncHit l host
      .landed ((if n.filling && !n'.filling then s.endFill l else s).doorbell l)
    | none =>
      match s.takeWay l 17 with
      | .busy s => .wait .way s
      | .full s => .wait .wbb s
      | .got w s =>
        let n : NcLine := ⟨w, d, m, true, p, m != fullMask, none⟩
        let s := (s.setNc l n).touchNc l w
        .landed ((if m = fullMask then s else s.openFill l host).doorbell l)

/-! ## The directory (R179, R180, R188) -/

/-- Presence bit of a host. -/
def presBit (h : Head) : BitVec 8 := (1 : BitVec 8) <<< h.val

/-- Does the directory show host `h` holding line `l`? -/
def State.holds (s : State) (l : Nat) (h : Head) : Bool := (s.dir.entries.look l).any fun d => d.pres.getLsbD h.val

/-- Does host `h` hold line `l` in E/M? -/
def State.holdsEm (s : State) (l : Nat) (h : Head) : Bool := (s.dir.entries.look l).any fun d => d.pres.getLsbD h.val && d.state == .em

/-- Hosts in a presence vector, ascending. -/
def presHosts (p : BitVec 8) : List Head := heads8.filter fun h => p.getLsbD h.val

/-- Hosts other than `h` that hold line `l`. -/
def State.others (s : State) (l : Nat) (h : Head) : List Head :=
  ((s.dir.entries.look l).map fun d => presHosts d.pres).getD [] |>.filter (· ≠ h)

/-- The E/M owner of line `l`, if it is not `h`. -/
def State.emOther (s : State) (l : Nat) (h : Head) : Option Head :=
  match s.dir.entries.look l with
  | none => none
  | some d => if d.state == .em then (presHosts d.pres).find? (· ≠ h) else none

/-- Set an entry's presence and state; an entry with no presence returns to I (R180), a BUSY one when its snoops are answered. -/
def State.setDir (s : State) (l : Nat) (p : BitVec 8) (st : DirState) : State :=
  match s.dir.entries.look l with
  | none => s
  | some d =>
    { s with dir := { s.dir with entries :=
        if p = 0 ∧ !d.busy then s.dir.entries.del l else s.dir.entries.put l { d with pres := p, state := st } } }

/-- Clear a host's presence bit. -/
def State.clearPres (s : State) (l : Nat) (h : Head) : State :=
  match s.dir.entries.look l with
  | none => s
  | some d => if d.pres.getLsbD h.val then s.setDir l (d.pres &&& ~~~ presBit h) (if d.pres &&& ~~~ presBit h = 0 then .s else d.state) else s

/-- Clear BUSY: an entry left with no presence returns to I. -/
def State.unbusy (s : State) (l : Nat) : State :=
  match s.dir.entries.look l with
  | none => s
  | some d => { s with dir := { s.dir with entries := if d.pres = 0 then s.dir.entries.del l else s.dir.entries.put l { d with busy := false } } }

/-- Mark an entry BUSY or not. -/
def State.setBusy (s : State) (l : Nat) (b : Bool) : State :=
  match s.dir.entries.look l with
  | none => s
  | some d => { s with dir := { s.dir with entries := s.dir.entries.put l { d with busy := b } } }

/-- Entries of a directory set. -/
def State.dirMembers (s : State) (k : Nat) : List (Nat × DirEntry) := s.dir.entries.filter fun p => dirSetKey p.1 == k

/-- Touch an entry's way. -/
def State.touchDir (s : State) (l : Nat) (w : Fin 16) : State :=
  let k := dirSetKey l
  let b := (s.dir.plru.get 0 k).toNat * 2
  { s with dir := { s.dir with plru := s.dir.plru.set 0 k (BitVec.ofNat 15 (plruTouch b w.val 4 1 / 2)) } }

/-- The victim of a full set: not BUSY and with no open request; S entries first, pseudo-LRU among each (R188). -/
def State.dirVictim (s : State) (l : Nat) : Option Nat :=
  let k := dirSetKey l
  let ms := (s.dirMembers k).filter fun p => !p.2.busy && !s.lineOpen p.1
  let bits := (s.dir.plru.get 0 k).toNat * 2
  let pick (st : DirState) := (plruPick bits (fun w => ms.any fun p => p.2.way.val == w && p.2.state == st) 4 1 0).bind fun w =>
    (ms.find? fun p => p.2.way.val == w).map (·.1)
  match pick .s with
  | some v => some v
  | none => pick .em

/-- A free way of a directory set. -/
def State.dirFree (s : State) (l : Nat) : Option (Fin 16) :=
  let ms := s.dirMembers (dirSetKey l)
  ((List.range 16).find? fun w => !(ms.any fun p => p.2.way.val == w)).map fun w => ⟨w % 16, Nat.mod_lt _ (by decide)⟩

/-! ## Snoops (R181 to R184) -/

/-- Slots a directory slice has free, of 1,024 (R182). -/
def State.slotsFree (s : State) (l : Nat) : Nat := 1024 - (s.dir.snoops.filter fun q => dirSlice q.line == dirSlice l).length

/-- The snoop that invalidates host `h`'s copy of line `l`: a block snoop when the host holds two or more lines of the segment and one slice serves them (R181). -/
def State.invSnoop (s : State) (h : Head) (l : Nat) : SnoopOp :=
  let held := ((List.range 4).map fun i => l / 4 * 4 + i).filter fun j => s.holds j h
  if s.fb Reg.DIR_CFG.BLK_SNP_EN && decide (2 ≤ held.length) && held.all (fun j => dirSlice j == dirSlice l) then .invBlk else .inv

/-- Counter of a snoop type (R415, group 4). -/
def SnoopOp.idx : SnoopOp → Nat
  | .cur => 2
  | .data => 3
  | .inv => 4
  | .invBlk => 5

/-- Does the head use back-invalidation: BI Enable is set and the link runs in 256-byte flit mode (R175, R205)? -/
def State.biOn (s : State) (h : Head) : Bool := (s.port h).biEnable && (s.port h).flit256

/-- Send a snoop whose slot is taken, if the host's BISnp credit allows (R182) and the head has BI Enable set (R175). -/
def State.trySend (s : State) (q : Snoop) : State :=
  if q.sent || !s.biOn q.host || (s.port q.host).bisnp == 0 || !(s.port q.host).txRoom then s
  else
    let s := { s with dir := { s.dir with snoops := updWhere (·.id == q.id) (fun x => { x with sent := true }) s.dir.snoops } }
    ((((s.updPort q.host fun p => { p with bisnp := p.bisnp - 1 }).emit q.host (.snoop q.host q.op q.line)).count 4 (8 * dirSlice q.line + q.op.idx) 1 (some q.host.val)).countPort 1 q.host 3).count 2 46 1 (some q.host.val)

/-- The lines whose answers a new snoop awaits (R182). -/
def State.coveredBy (s : State) (h : Head) (op : SnoopOp) (l : Nat) : List Nat :=
  if op == .invBlk then ((List.range 4).map fun i => l / 4 * 4 + i).filter fun j => s.holds j h else [l]

/-- Take a slot for a snoop, start its timer and send it (R182, R183). -/
def State.snoop (s : State) (h : Head) (op : SnoopOp) (l : Nat) (c : SnoopCause) (place : Nat) : State :=
  let q : Snoop := ⟨s.dir.nextSnoop, h, l, s.coveredBy h op l, op, c, s.now, place, false, []⟩
  let s := { s with dir := { s.dir with snoops := s.dir.snoops ++ [q], nextSnoop := s.dir.nextSnoop + 1 } }
  (q.lines.foldl (fun s j => s.setBusy j true) s).trySend q

/-- A violation of the coherence rules: counted, VIOL set, one event record per head per second (R199). -/
def State.violation (s : State) (h : Head) (l : Nat) : State :=
  ((s.countPort 1 h 7).flag Reg.DIR_STATUS.VIOL).eventPerSecond h 1 .informational .violation (64 * l) (some (slice l))

/-- Is a head fenced (R194)? -/
def State.fenced (s : State) (h : Head) : Bool := s.fbit Reg.DIR_STATUS.FENCED h.val

/-! ## Serving an entry -/

/-- Is the line's directory slice lost to a wake failure (R370)? -/
def State.dirLost (s : State) (l : Nat) : Bool := (s.dom (44 + dirSlice l)).failed

/-- The MetaValue that a request is handled by (R175, R177, R195, R370). -/
def State.effective (s : State) (h : Head) (l : Nat) (v : MetaVal) : MetaVal :=
  if !s.biOn h || s.fenced h || s.dirLost l then .i else v

/-- The snoops a request needs in an HDM-DB region (R177). -/
def State.neededSnoops (s : State) (r : RtkEntry) : List (Head × SnoopOp) :=
  let inv := (s.others r.line r.head).map fun h => (h, s.invSnoop h r.line)
  let own (op : SnoopOp) := ((s.emOther r.line r.head).map fun h => (h, op)).toList
  match r.op with
  | .rd v =>
    match s.effective r.head r.line v with
    | .noOp => own .cur
    | .i => own .cur
    | .s => own .data
    | .a => inv
  | .rdData => if s.effective r.head r.line .s == .i then own .cur else own .data
  | .wr _ => if s.holdsEm r.line r.head then [] else inv
  | .inv _ => inv
  | _ => []

/-- Does the request leave its host with S or E/M, so that it needs an entry (R188)? -/
def State.needsEntry (s : State) (r : RtkEntry) : Bool :=
  match r.op with
  | .rd v => s.effective r.head r.line v == .s || s.effective r.head r.line v == .a
  | .rdData => s.effective r.head r.line .s == .s
  | .wr v => s.effective r.head r.line v == .s
  | .inv v => s.effective r.head r.line v == .a
  | _ => false

/-- The directory after a request whose snoops are done, and the state it grants (R177, R180). -/
def State.settleDir (s : State) (r : RtkEntry) : State :=
  let l := r.line
  let b := presBit r.head
  let p := ((s.dir.entries.look l).map (·.pres)).getD 0
  let grant (s : State) (g : Grant) := s.updEntry r.id fun r => { r with grant := g, coherent := true }
  match r.op with
  | .rd v =>
    match s.effective r.head r.line v with
    | .s => grant (s.setDir l (p ||| b) .s) .s
    | .a => grant (s.setDir l b .em) .e
    | _ => grant s .none
  | .rdData =>
    if s.effective r.head r.line .s == .i then grant s .none
    else if (p &&& ~~~ b) ≠ 0 then grant (s.setDir l (p ||| b) .s) .s
    else grant (s.setDir l b .em) .e
  | .wr v => if s.effective r.head r.line v == .s then grant (s.setDir l b .s) .none else grant (s.clearPres l r.head) .none
  | .inv v => if s.effective r.head r.line v == .a then grant (s.setDir l b .em) .e else grant (s.clearPres l r.head) .none
  | .clnEvct => grant (s.clearPres l r.head) .none
  | _ => grant s .none

/-- Set an entry's phase. -/
def State.setPhase (s : State) (id : Nat) (p : Phase) : State := s.updEntry id fun r => { r with phase := p }

/-- The read of a line of a set whose tag copies are both lost gives poison (R17, R290). -/
def State.setLost (s : State) (l : Nat) : Bool := s.nc.lost.contains (setKey l)

/-- Did the entry wait for a resource in the near cache or in translation, so that its miss is already counted? -/
def Phase.counted : Phase → Bool
  | .way => true
  | .wbb => true
  | .map _ => true
  | .dict _ => true
  | .poolFull => true
  | .guard => true
  | _ => false

/-- Note a decoded DEEP page in the page buffer, most recent first, 64 pages (R136). -/
def State.bufferPage (s : State) (p : Nat) (gen : BitVec 16) : State :=
  { s with cdc := { s.cdc with buffer := ((p, gen) :: s.cdc.buffer.filter fun b => b.1 != p).take 64 } }

/-- Open a fill for a read that missed: a way is taken (R44, R45); the page buffer gives its data at once (R136), storage when it arrives. -/
def State.startFill (s : State) (id l : Nat) : State :=
  match s.takeWay l 17 with
  | .busy s => s.setPhase id .way
  | .full s => s.setPhase id .wbb
  | .got w s =>
    let s := s.touchNc l w
    if s.bufferHit l then
      let v := s.stored l
      let s := (s.setNc l (NcLine.mk w v.data fullMask false v.poison false none)).bufferPage (pageKey l) (s.pageRec (pageKey l)).gen
      ((s.count 7 12).heat l).answer id v
    else
      ((s.setNc l (NcLine.mk w 0 0 false false true none)).addFill l (some (s.stored l))).setPhase id .fill

/-- Answer a read from the first source that holds its line (R37, R97, R192): kept data, the near cache, the write-back buffer, translation, a fill. -/
def State.accessRead (s : State) (r : RtkEntry) : State :=
  let l := r.line
  let id := r.id
  match r.kept with
  | some v => s.answer id v
  | none =>
    if s.setLost l then s.answer id ⟨0, true⟩
    else
      match s.nc.lines.look l with
      | some n =>
        if n.filling then s.setPhase id .fill
        else ((s.touchNc l n.way).ncHit l).answer id (LineVal.mk n.data n.poison)
      | none =>
        match s.fromWbb l with
        | some v => State.answer (s.ncHit l) id v
        | none =>
          let (x, s) := (if r.phase.counted then s else s.ncMiss l).xlate l
          match x with
          | .zeros => s.answer id LineVal.zero
          | .poison => s.answer id ⟨0, true⟩
          | .wait p => s.setPhase id p
          | .storage => if s.lineLost l && !s.bufferHit l then s.answer id ⟨0, true⟩ else s.startFill id l

/-- Does a write at FLOOR make its line a pool line: would the dirty line that it leaves need a backing write-back (R117, R118)? -/
def State.poolsWrite (s : State) (r : RtkEntry) : Bool :=
  let n := ((s.nc.lines.look r.line).getD ⟨0, 0, 0, false, false, false, none⟩).written r.data r.mask r.poison
  r.mask != 0 && s.backingHeld (extOf r.line) && s.isBacking r.line n.data n.mask n.poison

/-- Land a write and complete it; at FLOOR its Cmp may be held, and with no room in the pool it waits (R42, R118, R119). -/
def State.accessWrite (s : State) (r : RtkEntry) : State :=
  let l := r.line
  let id := r.id
  if s.setLost l then (s.touch l).respond id
  else if s.poolsWrite r && !((s.nc.lines.look l).any (·.pool.isSome)) && !s.poolRoom l then s.setPhase id .poolFull
  else
    let s := if (s.nc.lines.has l) || r.phase.counted then s else s.ncMiss l
    match (if r.crossing then s.freezeReaders l id else s).land l r.data r.mask r.poison with
    | .wait p s => s.setPhase id p
    | .landed s =>
      let s := if r.crossing then { s with rtk := updWhere (fun q => q.line == l && q.id != id && q.isOpen) (fun q => { q with kept := none }) s.rtk } else s
      if s.poolsWrite r then (s.makePool l).setPhase id (.pool s.now) else s.respond id

/-- Make the access of a coherent entry (R37, R42, R177). -/
def State.access (s : State) (id : Nat) : State :=
  match s.entry id with
  | none => s
  | some r =>
    match r.op with
    | .specRd => s.closeEntry r
    | .inv _ => s.respond id
    | .clnEvct => s.respond id
    | .wrFwd => s.respond id
    | .wr _ => s.accessWrite r
    | _ => s.accessRead r

/-- Keep the near cache's data for a read that waits on snoops (R41). -/
def State.keepData (s : State) (r : RtkEntry) : State :=
  match s.ncFull r.line with
  | some n => if r.op.isRead then s.updEntry r.id fun r => { r with kept := some (LineVal.mk n.data n.poison) } else s
  | none => s

/-- Does an earlier request wait on the entry's directory set (R189)? -/
def State.dirSetAhead (s : State) (r : RtkEntry) : Bool :=
  (s.rtk.takeWhile (·.id != r.id)).any fun q => q.phase == .dirSet && dirSetKey q.line == dirSetKey r.line

/-- Rebuild an entry whose PRES, STATE or BUSY was uncorrectable: BISnpInv goes to every unfenced head that maps the line's region and is not already snooped, once slots allow (R60, R182, R198). The request that waits on the line's snoops waits for these answers too; an entry that no head can hold returns to I. -/
def State.rebuildDir (s : State) (l : Nat) : State :=
  match s.dir.entries.look l with
  | none => s
  | some d =>
    if !d.rebuild then s
    else
      let hs := (s.dbHeads (extOf l)).filter fun h => !s.fenced h && !(s.dir.snoops.any fun q => q.host == h && q.lines.contains l)
      if s.slotsFree l < hs.length then s
      else
        let s := { s with dir := { s.dir with entries := if hs.isEmpty && !d.busy then s.dir.entries.del l else s.dir.entries.put l { d with rebuild := false } } }
        let waiter := (s.rtk.find? fun r => r.line == l && r.phase == .snoops).map (·.id)
        hs.foldl (fun s h => s.snoop h .inv l (waiter.elim .fault .request) (waiter.getD s.nextEntry)) s

/-- Does an entry that is BUSY, or still to be rebuilt, make a request wait (R180, R188, R198)? -/
def State.dirWaits (s : State) (l : Nat) : Option Phase :=
  match s.dir.entries.look l with
  | none => none
  | some d => if d.rebuild then some .slot else if d.busy then some .line else none

/-- Order an HDM-DB entry against the directory: snoops are sent together, an entry is made or evicted for it (R41, R42, R182, R188, R189). -/
def State.cohere (s : State) (id : Nat) : State :=
  match s.entry id with
  | none => s
  | some r =>
    let l := r.line
    let s := s.rebuildDir l
    match s.dirWaits l with
    | some p => s.setPhase id p
    | none =>
    if r.op == .clnEvct && !s.holds l r.head then ((s.violation r.head l).updEntry id fun r => { r with coherent := true }).access id
    else if (match r.op with | .inv v => s.effective r.head r.line v != .a | _ => false) && !s.holds l r.head then
      ((s.violation r.head l).updEntry id fun r => { r with coherent := true }).access id
    else
      match s.dir.entries.look l with
      | none =>
        if !s.needsEntry r then (s.settleDir r).access id
        else
          match if s.dirSetAhead r then none else s.dirFree l with
          | some w =>
            let s := { s with dir := { s.dir with entries := s.dir.entries.put l ⟨w, 0, .s, false, false⟩ } }
            (((s.touchDir l w)).settleDir r).access id
          | none =>
            match if s.dirSetAhead r then none else s.dirVictim l with
            | none => s.setPhase id .dirSet
            | some v =>
              let hs := ((s.dir.entries.look v).map fun d => presHosts d.pres).getD []
              if s.slotsFree l < hs.length then s.setPhase id .slot
              else
                let em := (s.dir.entries.look v).any (·.state == .em)
                let s := (s.setBusy v true).count 4 (8 * dirSlice v + (if em then 1 else 0))
                (hs.foldl (fun s h => s.snoop h .inv v (.evict id) s.nextEntry) s).setPhase id .dirSet
      | some d =>
        let qs := s.neededSnoops r
        if qs.isEmpty then ((s.touchDir l d.way).settleDir r).access id
        else if s.slotsFree l < qs.length then s.setPhase id .slot
        else (qs.foldl (fun s q => s.snoop q.1 q.2 l (.request id) id) ((s.touchDir l d.way).keepData r)).setPhase id .snoops

/-- The domains a line's slices stand in: its near-cache, directory and XLT slice (R355). -/
def lineDomains (l : Nat) (db : Bool) : List Nat :=
  [28 + (slice l).val, 48 + (Config.xltSlice (extOf l)).val] ++ (if db then [44 + dirSlice l] else [])

/-- Serve an entry in its place: it waits behind an earlier open request of its line (R46), on slices that are not ON (R356), and while its bitmap word is being rebuilt (R76); then coherence, then the access. -/
def State.serve (s : State) (id : Nat) : State :=
  match s.entry id with
  | none => s
  | some r =>
    if s.blocked r then s.setPhase id .line
    else
      let off := (lineDomains r.line r.db).filter fun d => !s.domOn d && !(s.dom d).failed
      if !off.isEmpty then (off.foldl (fun s d => s.latchWake d .hostRequest) s).setPhase id .domain
      else if s.xlt.rebuilds.contains (extOf r.line / 64) then s.setPhase id (.bitmap (extOf r.line / 64))
      else if r.db && !r.coherent then s.cohere id
      else s.access id

/-! ## Snoop answers (R41, R42, R181 to R185) -/

/-- Every line that a snoop may cover: its segment for a block snoop, else its line. -/
def Snoop.covers (q : Snoop) : List Nat :=
  if q.op == .invBlk then (List.range 4).map fun i => q.line / 4 * 4 + i else [q.line]

/-- Has a cause no snoop left? -/
def State.causeDone (s : State) (c : SnoopCause) : Bool := !(s.dir.snoops.any (·.cause == c))

/-- Resume what a snoop was sent for once its last snoop has been answered (R182, R188). -/
def State.resumeCause (s : State) (c : SnoopCause) (l : Nat) : State :=
  if !s.causeDone c then s
  else
    match c with
    | .request id =>
      match s.entry id with
      | some r => if r.phase == .snoops then ((s.settleDir r).setPhase id .line).serve id else s
      | none => s
    | .evict id =>
      let s := { s with dir := { s.dir with entries := s.dir.entries.del l } }
      match s.entry id with
      | some r => if r.phase == .dirSet then (s.setPhase id .line).serve id else s
      | none => s
    | _ => s

/-- Close a snoop: its slot frees, what waited on it resumes, and BUSY clears with the last snoop of a line. -/
def State.closeSnoop (s : State) (q : Snoop) : State :=
  let s := { s with dir := { s.dir with snoops := s.dir.snoops.filter (·.id != q.id) } }
  let s := s.resumeCause q.cause q.line
  q.covers.foldl (fun s j => if s.dir.snoops.any fun x => x.lines.contains j then s else s.unbusy j) s

/-- The outstanding snoop to host `h` that awaits an answer for line `l`: the oldest. -/
def State.snoopTo (s : State) (h : Head) (l : Nat) : Option Snoop :=
  s.dir.snoops.find? fun q => q.host == h && q.lines.contains l

/-! ## Accepting a request (R52, R54, R68, R70, R208, R228) -/

/-- The entry of a new request. -/
def State.newEntry (s : State) (h : Head) (c : CreditChan) (op : ReqOp) (tag : BitVec 16) (hdpa line : Nat) (db : Bool) (m : Mask) (d : LineData) (p : Bool) : RtkEntry :=
  { id := s.nextEntry, head := h, chan := c, op := op, tag := tag, hdpa := hdpa, line := line, db := db, mask := m, data := d, poison := p
    phase := .line, coherent := false, grant := .none, kept := none, synthetic := false, detached := false, crossing := false, conflicts := [], born := s.now }

/-- Note the entries that a head uses, for the peak of the interval (R64). -/
def State.noteOcc (s : State) (h : Head) : State :=
  s.updPort h fun p => { p with occPeak := max p.occPeak (s.rtk.filter fun r => r.head == h && r.chan != .inner).length }

/-- Put an entry into RTK. -/
def State.pushEntry (s : State) (r : RtkEntry) : State :=
  { s with rtk := s.rtk ++ [r], nextEntry := s.nextEntry + 1 }.noteOcc r.head

/-- Answer a request that touches no memory: reads with the given value, others with Cmp. -/
def State.answerNoMemory (s : State) (r : RtkEntry) (v : LineVal) : State :=
  let s := s.pushEntry { r with line := 2 ^ 46, db := false, coherent := true }
  if r.op.isRead then s.reply r.id v else s.respond r.id

end Sys2Proof.Machine
end

