-- ==== Sys2Proof/Machine/Tick.lean ====
section
/-! DEFINITION. What the passing of a nanosecond does with no command waiting: the timebase, the time and sum counters, and the zeroing of pages of a DIRECT extent (R33, R413, R415, R454, R471; LOG 3). -/

namespace Sys2Proof.Machine

/-! ## Entries in use (R52, R415) -/

/-- Has an engine's partition of RTK a free entry (R56, R57)? -/
def State.partRoom (s : State) (i : Nat) : Bool := decide (s.partUsed i < s.partSize i)

/-- Are a head's responses starved of S2M credits (R217)? -/
def State.starved (s : State) (h : Head) : Bool :=
  (s.port h).up && (!(s.port h).acks.isEmpty || s.rtk.any fun r => r.head == h && r.phase == .respond)

/-! ## Time counters (R415) -/

/-- Time counters of a port and head. -/
def State.tickPort (s : State) (h : Head) : State :=
  let p := s.port h
  let n := h.val
  let s := s.countWhile (p.ltssm == .l0 && decide (p.txWidth < p.width)) 0 (9 * n + 7) (some n)
  let s := s.countWhile (p.ltssm == .l0 && decide (p.rxWidth < p.width)) 0 (9 * n + 8) (some n)
  let s := s.countWhile (s.starved h) 1 (9 * n + 5) (some n)
  let s := s.countWhile (s.rwdHeld h) 1 (9 * n + 6) (some n)
  s.countWhile p.up 2 (12 + 4 * n + p.devload.toNat) (some n)

/-- One microsecond of TB on every time counter and per-microsecond sum counter. -/
def State.tickUs (s : State) : State :=
  let s := heads8.foldl (fun s h => s.tickPort h) s
  let s := (List.range 12).foldl (fun (s : State) i => if s.partUsed i = 0 then s else s.count 2 i (s.partUsed i) (if i < 8 then some i else none)) s
  let s := s.countWhile (s.fb Reg.XLT_STATUS.READY) 6 s.level
  let s := if s.poolCount = 0 then s else s.count 6 9 s.poolCount
  let s := (List.range 8).foldl (fun (s : State) j => s.countWhile (s.parked j) 8 (15 + j)) s
  let s := s.chans.foldl (fun (s : State) c => (s.countWhile (c.2.st == .quiet || c.2.st == .ret) 10 (4 * c.1)).countWhile (c.2.pauseA || c.2.pauseB) 10 (4 * c.1 + 2)) s
  let s := (List.range 58).foldl (fun (s : State) d => s.countWhile (!s.domOn d) 14 d (some d)) s
  let heat := match s.cad.heat with | .cool => 0 | .warm => 1 | .hot => 2
  let s := (s.countWhile true 15 heat).countWhile true 15 (3 + s.cad.stage.val)
  let s := s.countWhile (decide (s.f Reg.CAD_PACE.PACE < 100)) 15 7
  s.countWhile (s.hsw.cell && s.hsw.gate != .on) 15 25

/-- Do the main domains run, so that the monitor counts? -/
def State.mainRuns (s : State) : Bool := s.aon.boot != .off && s.aon.boot != .standby && !s.aon.inReset && !s.aon.railFault

/-- One nanosecond. -/
def State.tick (s : State) : State :=
  let s := { s with now := s.now + 1, xlt := { s.xlt with zeroing := [] } }
  if !s.aon.kick then s
  else
    let s := { s with tb := s.tb + 1 }
    if s.mainRuns && s.tb.toNat % 1000 == 0 then s.tickUs else s

end Sys2Proof.Machine
end

