-- ==== Sys2Proof/Machine/Link.lean ====
section
/-! DEFINITION. Snoop timeouts, fences, link down and port reset: what ends a host's part in the device (R110, R113, R193 to R197, R222 to R224, R311, R352). -/

namespace Sys2Proof.Machine

/-! ## Poison by the device (R31, R35, R279) -/

/-- Report a line that the device poisons: a General Media event record on every head that maps it, and its place in the poison list (R35, R353, R469). -/
def State.mediaEvent (s : State) (l : Nat) (c : Cause) (scrub : Bool := false) : State :=
  let hs := s.headsMapping (extOf l)
  let s := { s with poisonList := if s.poisonList.contains l then s.poisonList else s.poisonList ++ [l] }
  s.event (if hs.isEmpty then [s.owner] else hs) .failure c (64 * l) scrub (some (slice l))

/-- Report the loss of records of extents: a Failure event record on the owner head and on every head that maps one of them, for the first lost line (R100, R469). -/
def State.mapLossEvent (s : State) (es : List Nat) (l : Nat) : State :=
  let hs := s.heads.filter fun h => es.any fun e => (s.regionsOf h).any (·.hasExt e)
  ({ s with poisonList := if s.poisonList.contains l then s.poisonList else s.poisonList ++ [l] }).event (withOwner s hs) .failure .mapLoss (64 * l) false (some (slice l))

/-- The poison pattern lands in a line at its home slice (R193): every earlier byte is replaced, reads of an open fill that stand before it keep their value (R47), and data kept for a waiting read is replaced (R41). Without a free way it lands in the write-back buffer. -/
def State.poisonLine (s : State) (l : Nat) : State :=
  let s := { s.touch l with rtk := updWhere (fun r => r.line == l && r.isOpen && r.kept.isSome) (fun r => { r with kept := none }) s.rtk }
  match s.nc.lines.look l with
  | some n => ((s.freezeReaders l s.nextEntry).setNc l { n with mask := fullMask, dirty := true, poison := true, filling := false }).endFill l
  | none =>
    match s.takeWay l 17 with
    | .got w s => (s.setNc l ⟨w, 0, fullMask, true, true, false, none⟩).touchNc l w
    | .busy s => { s with nc := { s.nc with wbb := s.nc.wbb ++ [⟨l, 0, fullMask, true, false, false, none⟩] } }
    | .full s => { s with nc := { s.nc with wbb := s.nc.wbb ++ [⟨l, 0, fullMask, true, false, false, none⟩] } }

/-! ## Settling snoops and fencing (R193 to R197) -/

/-- Settle one line by the state host `h` held: S, or E/M with its data delivered, clears presence; E/M otherwise lands poison (R193). -/
def State.settleLine (s : State) (h : Head) (l : Nat) (crossed : Bool) : Nat × State :=
  if s.holdsEm l h && !crossed then (1, ((s.poisonLine l).clearPres l h).mediaEvent l .poisonCommitted)
  else (0, s.clearPres l h)

/-- Settle the lines of a snoop (R193). -/
def State.settleSnoop (s : State) (q : Snoop) : Nat × State :=
  q.lines.foldl (fun a l =>
    let b := a.2.settleLine q.host l (q.crossed.contains l)
    (a.1 + b.1, b.2)) (0, s)

/-- Lines whose snoop to `h` is outstanding. -/
def State.snoopedLines (s : State) (h : Head) : List Nat := (s.dir.snoops.filter (·.host == h)).flatMap (·.lines)

/-- The purge walk over the entries that no snoop to the host covers: S bits clear, E/M lines are poisoned (R194). -/
def State.purge (s : State) (h : Head) : Nat × State :=
  let skip := s.snoopedLines h
  let ls := (s.dir.entries.filter fun p => p.2.pres.getLsbD h.val && !skip.contains p.1).map (·.1)
  ls.foldl (fun a l =>
    let b := a.2.settleLine h l false
    (a.1 + b.1, b.2)) (0, s)

/-- Settle every outstanding snoop to a host, then close them and resume what waited. -/
def State.settleAll (s : State) (h : Head) : Nat × State :=
  let qs := s.dir.snoops.filter (·.host == h)
  let (n, s) := qs.foldl (fun a q =>
    let b := a.2.settleSnoop q
    (a.1 + b.1, b.2)) (0, s)
  (n, qs.foldl (fun s q => s.closeSnoop q) s)

/-- Heads that map an HDM-DB range that head `h` maps too (R194). -/
def State.sharingHeads (s : State) (h : Head) : List Head :=
  let mine := (s.regionsOf h).filter (·.db)
  s.heads.filter fun g => g != h && (s.regionsOf g).any fun r => r.db && mine.any fun m => decide (m.dbase < r.dbase + r.size) && decide (r.dbase < m.dbase + m.size)

/-- Fence a head (R194): FENCED, the purge, the settling of its other snoops, DIR_TMO_LOG, the event record and the Pannier record. `n0` lines were poisoned before. -/
def State.fence (s : State) (h : Head) (linkDown : Bool) (n0 : Nat) : State :=
  if s.fenced h then (s.settleAll h).2
  else
    let s := (s.setBit Reg.DIR_STATUS.FENCED h.val true).count 4 (40 + h.val) 1 (some h.val)
    let (n1, s) := s.purge h
    let (n2, s) := s.settleAll h
    let s := (((s.flag Reg.DIR_TMO_LOG.VALID).setF Reg.DIR_TMO_LOG.LINKDOWN (if linkDown then 1 else 0)).setF Reg.DIR_TMO_LOG.HEAD h.val).setF Reg.DIR_TMO_LOG.EM_LINES (min (n0 + n1 + n2) (2 ^ 24 - 1))
    let s := s.event (withOwner s (h :: s.sharingHeads h)) .failure .headFenced h.val
    s.pannier 44 0xFF 2 .headFenced 2 0 0 0x21000C true

/-- The poisoned lines and the state after a snoop's timer runs out (R193), before the fence. -/
def State.expire (s : State) (q : Snoop) : State :=
  let (n, s) := s.settleSnoop q
  let s := ((s.flag Reg.DIR_STATUS.TMO).count 4 (32 + q.host.val) 1 (some q.host.val)).closeSnoop q
  s.fence q.host false n

/-! ## Rings of a head (R352) -/

/-- Return the registers of a range of offsets to their reset words. -/
def State.resetRegs (s : State) (off : List Nat) : State := { s with csr := s.csr.filter fun p => !off.contains p.1 }

/-- Rings that a head owns. -/
def State.ringsOf (s : State) (h : Head) : List Ring := ((List.range 64).map fun i => (⟨i % 64, Nat.mod_lt _ (by decide)⟩ : Ring)).filter fun r => s.ringOwner r == h

/-- Disable a head's window and rings and return their registers to reset; fetched commands run on and their completions are discarded (R352). -/
def State.resetRings (s : State) (h : Head) : State :=
  let rs := s.ringsOf h
  let offs := [0x800040 + 8 * h.val, 0x800044 + 8 * h.val] ++ rs.map (fun r => 0x800100 + 4 * r.val) ++ rs.map (fun r => 0x800200 + 4 * r.val)
  let s := s.resetRegs offs
  { s with cmd := { s.cmd with
      sqs := s.cmd.sqs.filter fun p => !(rs.any (·.val == p.1))
      cqs := s.cmd.cqs.filter fun p => !(rs.any (·.val == p.1))
      bells := s.cmd.bells.filter fun b => !rs.contains b.ring
      cmds := updWhere (fun c => c.head == h && c.sq.isSome) (fun c => { c with discard := true }) s.cmd.cmds
      heldMsix := s.cmd.heldMsix.filter (·.1 != h) } }

/-! ## Elastic state of a head (R110, R113) -/

/-- The pending offer of a head lapses and its region stays free (R113). -/
def State.lapseOffer (s : State) (h : Head) : State :=
  if (s.port h).offer.isSome then (s.updPort h fun p => { p with offer := none }).count 6 5 else s

/-- Clear a head's acceptance of the pressure contract (R110). -/
def State.clearAcceptance (s : State) (h : Head) : State :=
  (s.lapseOffer h).updPort h fun p => { p with accepted := false, elasticMax := 0 }

/-! ## Link down (R222 to R224) -/

/-- Both IDE streams of a head become Insecure and its keys are overwritten (R311). -/
def State.ideClear (s : State) (h : Head) : State :=
  s.updPort h fun p => { p with ioTx := .clear, ioRx := .clear, cmTx := .clear, cmRx := .clear, gcm := none, ideHeld := [], ideFlits := 0, goDue := [] }

/-- End the sessions over a head's DOE (R296). -/
def State.endSessions (s : State) (v : Via) : State := { s with cry := { s.cry with sessions := s.cry.sessions.filter (·.via != v) } }

/-- Every RTK entry of a head gets a synthetic completion: requests not yet ordered are discarded, answered ones are freed, the others finish inside (R223). -/
def State.synthesize (s : State) (h : Head) : State :=
  let mine := s.rtk.filter fun r => r.head == h && r.chan != .inner
  let s := mine.foldl (fun s r => if r.phase == .domain || r.phase == .respond then s.closeEntry { r with conflicts := [] } else s) s
  { s with rtk := updWhere (·.head == h) (fun r => { r with synthetic := true, conflicts := [] }) s.rtk }

/-- The port as a link down leaves it: the CXL.io configuration space is reset too, here its error flags and its power state (R223). -/
def Port.down (p : Port) : Port :=
  { p with up := false, mem := false, active := false, ltssm := .detect, rate := 0, width := 0, txWidth := 0, rxWidth := 0
           flit256 := false, loflit := false, sris := false
           reqHost := 0, rwdHost := 0, freedReq := 0, sentReq := 0, freedRwd := 0, sentRwd := 0, ndr := 0, drs := 0, bisnp := 0
           acks := [], ready := [], rxSeq := 0, halfDone := none, txSeq := 0, replay := [], replayDue := false, io := ⟨0, 0, 0, 0⟩
           aerPoisoned := false, aerUnsupported := false, d3hot := false }

/-- Take a link down: every operation of the head ends with synthetic completions, its snoops expire and fence it, its IDE streams become Insecure (R197, R222, R223, R224). -/
def State.linkDown (s : State) (h : Head) (perst : Bool) : State :=
  if !(s.port h).up then s
  else
    let s := (s.updPort h Port.down).ideClear h
    let s := s.endSessions (.head h)
    let s := s.synthesize h
    let s := if s.dir.snoops.any (·.host == h) then s.fence h true 0 else s
    let s := if perst then s else s.flag (Reg.PRTn_LINK_ERR.SURPRISE_DOWN.nth h.val)
    let s := s.event [s.owner] .warning .linkDown h.val
    s.pannier (4 + h.val) 1 1 .linkDown 1 0 0 (0x100008 + 0x10000 * h.val) true

/-- What a port reset does beside the link down (R110, R224, R296, R352, R452): the head's CXL registers, HDM decoders included, its rings, its acceptance and its sessions. -/
def State.portResetState (s : State) (h : Head) : State :=
  let s := (s.clearAcceptance h).resetRings h
  let s := (s.endSessions (.head h)).ideClear h
  s.updPort h fun p =>
    { p with resetSeen := true, hdm := [], cxlRegs := [], msixWords := [], biEnable := false, ideContain := false, ideAgg := 1, eqFailed := false, goodLanes := BitVec.allOnes 16
             rasOverflow := false, rasIde := false, rasMalformed := false, aerPoisoned := false, aerUnsupported := false
             msixMask := BitVec.allOnes 128, msixPend := 0, evtPolicy := ⟨none, none, none, none, none⟩, alertCfg := 0, mbxHeld := none }

/-- Hold every link down and every port in Detect (R318, R371). -/
def State.holdPorts (s : State) : State :=
  heads8.foldl (fun s h => (s.linkDown h false).updPort h fun p => { p with held := true, waiting := none }) s

/-! ## The error state (R318) -/

/-- Every IDE key of every head is overwritten and both streams are Insecure (R311). -/
def State.ideClearAll (s : State) : State := heads8.foldl (fun s h => s.ideClear h) s

/-- Every key of the store is overwritten with zeros. -/
def State.zeroKeys (s : State) : State :=
  { s with cry := { s.cry with slots := s.cry.slots.mapVals fun _ x => { x with dataKey := 0, tweakKey := 0 }, metaKey := none, identity := false, drbgState := 0 } }

/-- Enter the error state: keys are overwritten, links go down, ports are held in Detect, a pinned record is written (R311, R318). -/
def State.cryError (s : State) (c : ErrCause) : State :=
  if s.cry.st == .error then s
  else
    let s := s.zeroKeys.ideClearAll.holdPorts
    let s := State.notify { s with cry := { s.cry with st := .error, errCause := some c } } s
    s.pannier 57 0xFF 8 .errorState 3 0 0 0x610000 false

end Sys2Proof.Machine
end

