-- ==== Sys2Proof/Machine/Guard.lean ====
section
/-! DEFINITION. Stored forms of pages and extents and their commits, corrections and sparing, failed channels, and losses (R84 to R100, R143, R146, R254 to R258, R265 to R268, R278 to R284, R290). -/

namespace Sys2Proof.Machine

/-! ## Dictionary reference counts (R143, R144) -/

/-- A running command ends: its completion is to be written (R337). -/
def State.endCmd (s : State) (id : Nat) (status : BitVec 8) (result : Nat) : State :=
  { s with cmd := { s.cmd with cmds := updWhere (fun c => c.id == id && c.phase != .ended) (fun c => { c with phase := .ended, status := status, result := BitVec.ofNat 64 result, waits := false }) s.cmd.cmds } }

/-- Is a command's abort flag set (R349)? -/
def State.aborted (s : State) (id : Nat) : Bool := s.cmd.cmds.any fun c => c.id == id && c.abort

/-- The training round ends, and with it the command that asked for it: RESULT 1 and the slot in bits 7 to 4 when its candidate was admitted (R346), ABORTED when its abort flag is set (R349). -/
def State.endRound (s : State) (status : BitVec 8) (result : Nat) : State :=
  let c := s.cdc.train.cmd
  let s := { s with cdc := { s.cdc with train := ⟨.idle, 0, [], 0, 0, 0, none⟩ } }
  match c with
  | none => s
  | some id => s.endCmd id (if s.aborted id then 8 else status) result

/-- Clear a slot: its store entry and map-area copies go and it is FREE (R144). -/
def State.freeDict (s : State) (d : Nat) : State :=
  { s with cdc := { s.cdc with dicts := s.cdc.dicts.del d, trainRetiring := if s.cdc.trainRetiring = some d then none else s.cdc.trainRetiring } }

/-- A slot's record. -/
def State.dict (s : State) (d : Nat) : Dict := s.cdc.dicts.get Dict.free d

/-- Write a slot's record. -/
def State.setDict (s : State) (d : Nat) (x : Dict) : State := { s with cdc := { s.cdc with dicts := s.cdc.dicts.set Dict.free d x } }

/-- A candidate is admitted into a FREE slot: content and signature written, REFS 0, then ACTIVE (R141). A set abort flag of its command stops the commit (R349). -/
def State.admitCandidate (s : State) : State :=
  if s.cdc.train.cmd.any s.aborted then (s.endRound 0 0).count 7 14
  else match (List.range 15).find? fun i => (s.dict (i + 1)).state == .free with
  | none => s
  | some i =>
    let t := s.cdc.train
    let s := s.setDict (i + 1) ⟨.active, t.key, t.size, t.signature, 0, false, false⟩
    (s.endRound 0 (1 + 16 * (i + 1))).count 7 13

/-- A commit that stops a record naming a dictionary: a RETIRING slot with no reference left becomes FREE, and a candidate that waits takes it (R141, R143, R144). -/
def State.dictDec (s : State) (d : Nat) : State :=
  if d = 0 then s
  else
    let x := s.dict d
    let s := s.setDict d { x with refs := x.refs - 1 }
    if x.state == .retiring && decide (x.refs ≤ 1) then
      let s := s.freeDict d
      if s.cdc.train.st == .waiting then s.admitCandidate else s
    else s

/-- A commit that makes a record name a dictionary (R143). -/
def State.dictInc (s : State) (d : Nat) : State := if d = 0 then s else s.setDict d { s.dict d with refs := (s.dict d).refs + 1 }

/-! ## Commits of page records (R85 to R90) -/

/-- Free the frames and the dictionary reference of a stored form. -/
def State.releaseForm (s : State) (r : PageRec) : State :=
  match r.state with
  | .open => s.freeRun r.loc
  | .packed => s.freeRun r.loc
  | .deep => (s.freeRun r.loc).dictDec r.dict
  | _ => s

/-- One page record stops naming share record `i`: REFS falls; with none left the stored copy is freed (R86, R88). -/
def State.shareDec (s : State) (i : Nat) : State :=
  let x := s.shareRec i
  if x.refs ≤ 1 then (s.releaseForm x.asPage).setShare i ShareRec.zero
  else s.setShare i { x with refs := x.refs - 1 }

/-- The record that stands for a page now (R84). -/
def State.effRec (s : State) (p : Nat) : PageRec := s.standing p

/-- Give up what a page's record names. -/
def State.releasePage (s : State) (p : Nat) : State :=
  let r := s.effRec p
  if r.state == .shared then s.shareDec r.loc else s.releaseForm r

/-- GEN of a record that a commit makes of the record `o`: it advances by one when a field other than HEAT and DSC changes (R89). -/
def nextGen (o n : PageRec) : BitVec 16 := if { n with heat := o.heat, dsc := o.dsc, gen := o.gen } == o then o.gen else o.gen + 1

/-- Commit a new storage for a page: what the old record named is freed at the commit, HEAT stays, as the cached record counts it (R89, R106, R143, R149). -/
def State.replacePage (s : State) (p : Nat) (n : PageRec) : State :=
  let heat := (s.pageRec p).heat
  let o := s.effRec p
  let s := s.releasePage p
  let s := if n.state == .deep then s.dictInc n.dict else s
  let s := { s with xlt := { s.xlt with shadow := s.xlt.shadow.del p } }
  s.setPage p { n with heat := heat, gen := nextGen o n, dsc := false }

/-- A page of a share record with one reference left takes its location fields over at its next commit, and the share record is freed (R88). -/
def State.takeOver (s : State) (p : Nat) : State :=
  let r := s.effRec p
  if r.state == .shared && (s.shareRec r.loc).refs == 1 then
    let x := s.shareRec r.loc
    let s := (List.range 64).foldl (fun (s : State) i => if x.poison.getLsbD i then { s with bad := s.bad.put (pageLine p + i) () } else s) s
    let s := s.setShare r.loc ShareRec.zero
    if x.state == .poisoned then s.setPage p { PageRec.zero with state := .poisoned, heat := r.heat, pin := r.pin, gen := r.gen }
    else s.setPage p { x.asPage with heat := r.heat, pin := r.pin, gen := r.gen, dsc := r.dsc }
  else s

/-- Commit a page's pin: a page left alone with a share record takes its fields over at this commit (R88), and GEN advances when a field changes (R89, R163). -/
def State.commitPin (s : State) (p : Nat) (pin : BitVec 2) : State :=
  let o := s.effRec p
  let busy := (s.pageRec p).state == .busy
  let s := if busy then s else s.takeOver p
  let n := { s.effRec p with pin := pin }
  let n := { n with gen := nextGen o n }
  if busy then { s with xlt := { s.xlt with shadow := s.xlt.shadow.set PageRec.zero p n } } else s.setPage p n

/-- Commit a page to ZERO: its storage is freed and its lines read zero (R85, R89). -/
def State.zeroPage (s : State) (p : Nat) : State := (s.replacePage p { PageRec.zero with pin := (s.effRec p).pin }).clearLines (pageLine p) 64

/-- Commit a page to POISONED. -/
def State.poisonPage (s : State) (p : Nat) : State :=
  (s.replacePage p { PageRec.zero with state := .poisoned, pin := (s.effRec p).pin }).clearLines (pageLine p) 64

/-- Store a page's poisoned lines as the poison pattern before it becomes OPEN (R98, R278): lines that its present records give as poison. -/
def State.spreadPoison (s : State) (p : Nat) : State :=
  (List.range 64).foldl (fun (s : State) i =>
    let l := pageLine p + i
    if (s.stored l).poison then { s with bad := s.bad.put l () } else s) s

/-- Bring the data bytes of a page's lines into plain storage: lines that its records give as zero or poison hold no stale bytes. -/
def State.flatten (s : State) (p : Nat) : State :=
  (List.range 64).foldl (fun (s : State) i =>
    let l := pageLine p + i
    let v := s.stored l
    if (Memory.readLine s.mem l) = v.data && s.isBad l == v.poison then s else s.storeLine l v fullMask) s

/-- Commit a page OPEN in a new page slot with its present contents, poison as the pattern (R132, R278); none when no frames are left. -/
def State.openPage (s : State) (p : Nat) : Option State :=
  (s.alloc .slot 8).map fun a =>
    let s := a.2.flatten p
    s.replacePage p { PageRec.zero with state := .open, loc := a.1, pin := (s.effRec p).pin }

/-! ## Extents -/

/-- Cached near-cache lines of an extent are marked dirty (R100, R279). -/
def State.dirtyRange (s : State) (l n : Nat) : State :=
  { s with nc := { s.nc with lines := s.nc.lines.map fun q => if decide (l ≤ q.1) && decide (q.1 < l + n) then (q.1, { q.2 with dirty := true }) else q } }

/-- The page keys of an extent that have records. -/
def State.extPages (s : State) (e : Nat) : List Nat := (s.xlt.page.filter fun q => q.1 / 512 == e).map (·.1)

/-- Give up every page record of an extent and the block that held them. -/
def State.dropPages (s : State) (e : Nat) (loc : Nat) : State :=
  let s := (s.extPages e).foldl (fun s p => s.releasePage p) s
  let s := s.freeRun (loc * 16)
  { s with xlt := { s.xlt with
      page := s.xlt.page.filter fun q => q.1 / 512 != e
      shadow := s.xlt.shadow.filter fun q => q.1 / 512 != e
      prCache := s.xlt.prCache.filter fun q => q.1 / 128 != e
      zeroing := s.xlt.zeroing.filter fun q => q.1 / 512 != e } }

/-- Close the page copies of an extent's pages: their GEN check would fail; destinations are freed (R90). -/
def State.closeCopies (s : State) (f : Nat → Bool) : State :=
  let gone := s.drl.copies.filter fun c => f c.page
  let s := gone.foldl (fun (s : State) c => s.freeRun c.dst) s
  { s with drl := { s.drl with copies := s.drl.copies.filter fun c => !f c.page } }

/-- Free the frames taken for the records of a destination. -/
def State.freeRecs (s : State) (rs : Tbl PageRec) : State := rs.foldl (fun (s : State) q => s.releaseForm { q.2 with dict := 0 }) s

/-- Close the extent copy of an extent and free its destination. -/
def State.closeExtCopy (s : State) (e : Nat) : State :=
  let s := (s.drl.extCopies.filter (·.ext == e)).foldl (fun (s : State) c =>
    let s := s.freeRecs c.recs
    match c.kind with
    | .promote => { s with cap := { s.cap with slots := s.cap.slots.del c.dst } }
    | .demote => s.freeRun (c.dst * 16)
    | .rekey _ => if c.srcMode == .direct then { s with cap := { s.cap with slots := s.cap.slots.del c.dst } } else s.freeRun (c.dst * 16)) s
  { s with drl := { s.drl with extCopies := s.drl.extCopies.filter (·.ext != e) } }

/-- Give up an extent's storage, whatever its mode. -/
def State.releaseExt (s : State) (e : Nat) : State :=
  let (m, loc) := s.extView e
  let s := (s.closeExtCopy e).closeCopies fun p => p / 512 == e
  match m with
  | .direct => { s with cap := { s.cap with slots := s.cap.slots.del loc } }
  | .mapped => s.dropPages e loc
  | _ => s

/-- Commit an extent to UNTOUCHED with its bitmap bit cleared: every line then reads zero (R23, R72). -/
def State.untouchExt (s : State) (e : Nat) : State :=
  let s := (s.releaseExt e).setExt e ExtRec.zero
  ({ s with xlt := { s.xlt with touched := s.xlt.touched.del e } }).clearLines (extLine e) 32768

/-- A block is needed and finds no room: compaction moves data pages out of the record zone for it (R80). -/
def State.wantBlock (s : State) : State := { s with drl := { s.drl with blockWanted := true } }

/-- First-touch initialization: the bit, which a rebuild may have cleared (R76), a page-record block, all records ZERO with GEN 0, then the extent MAPPED with the region's KEY and CLASS (R74, R301); none when no block can be taken. -/
def State.firstTouch (s : State) (e : Nat) : Option State :=
  (s.alloc .block 16).map fun a =>
    let r := s.allRegions.find? (·.hasExt e)
    let s := { a.2 with xlt := { a.2.xlt with touched := a.2.xlt.touched.put e () } }
    ((s.setExt e ⟨.mapped, (r.map (·.key)).getD 0, a.1 / 16, 0, BitVec.ofNat 2 ((r.map (·.cls)).getD 0), 0⟩).cacheExt e).countXlt e 9

/-- Re-create a POISONED extent as MAPPED with every page POISONED (R98, R470). -/
def State.recreate (s : State) (e : Nat) : Option State :=
  (s.alloc .block 16).map fun a =>
    let x := s.extRec e
    let s := a.2.setExt e { x with mode := .mapped, loc := a.1 / 16, heat := 0, pin := 0 }
    (List.range 512).foldl (fun (s : State) i => s.setPage (512 * e + i) { PageRec.zero with state := .poisoned }) s

/-! ## Losses (R100, R145, R146, R279, R472) -/

/-- A run of frames that a lost record named counts no more; the frame-area sweep reclaims it (R100, R106). -/
def State.orphanRun (s : State) (loc : Nat) : State :=
  { s with cap := { s.cap with runs := s.cap.runs.map fun (q : Nat × Run) => if q.1 = loc then (q.1, { q.2 with orphan := true }) else q } }

/-- The frames that a page's record names count no more, its record being lost (R100, R106); a dictionary and a share record it named have one reference less (R88, R143). -/
def State.orphan (s : State) (r : PageRec) : State :=
  match r.state with
  | .open => s.orphanRun r.loc
  | .packed => s.orphanRun r.loc
  | .deep => (s.orphanRun r.loc).dictDec r.dict
  | .shared => s.shareDec r.loc
  | _ => s

/-- Commit an extent POISONED after both copies of its records were lost (R100): frames the lost records named are no more in use, and the frame-area sweep reclaims them. KEY and CLASS stay as they were: the rule does not say where the new record takes them from (DESIGN CHOICE, LOG 54). -/
def State.loseExtent (s : State) (e : Nat) : State :=
  let s := s.dirtyRange (extLine e) 32768
  let (m, loc) := s.extView e
  let s := (s.closeExtCopy e).closeCopies fun p => p / 512 == e
  let s := if m == .direct then { s with cap := { s.cap with slots := s.cap.slots.del loc } } else s
  let s := (s.extPages e).foldl (fun (s : State) p => s.orphan (s.effRec p)) s
  let s := { s with xlt := { s.xlt with page := s.xlt.page.filter fun q => q.1 / 512 != e, shadow := s.xlt.shadow.filter fun q => q.1 / 512 != e, prCache := s.xlt.prCache.filter fun q => q.1 / 128 != e } }
  let s := (s.setExt e { s.extRec e with mode := .poisoned, loc := 0, heat := 0, pin := 0 }).clearLines (extLine e) 32768
  let s := ((s.flag Reg.XLT_STATUS.MAP_UE).setF Reg.XLT_MAPLOSS.EXT_IDX e).flag Reg.XLT_MAPLOSS.VALID
  let s := s.mapLossEvent [e] (extLine e)
  s.pannier (48 + (Config.xltSlice e).val) 0xFF 3 .mapLoss 2 (2097152 * e) 1 0x220004 true

/-- Commit every page that names a lost share record as POISONED; the extents stay MAPPED (R100). The frames that the lost share records named count no more and wait for the sweep, and a dictionary they named has one reference less (R106, R143). -/
def State.loseShares (s : State) (is : List Nat) : State :=
  let ps := (s.xlt.page.filter fun q => q.2.state == .shared && is.contains q.2.loc).map (·.1)
  let s := is.foldl (fun (s : State) i => s.orphan (s.shareRec i).asPage) s
  let s := ps.foldl (fun (s : State) p => ((s.dirtyRange (pageLine p) 64).setPage p { PageRec.zero with state := .poisoned, pin := (s.pageRec p).pin, gen := (s.pageRec p).gen + 1 }).clearLines (pageLine p) 64) s
  let s := is.foldl (fun (s : State) i => s.setShare i ShareRec.zero) s
  let s := match ps with
    | [] => s
    | p :: _ => s.mapLossEvent (ps.map (· / 512)) (pageLine p)
  s.pannier 48 0xFF 3 .mapLoss 2 0 0 0x220004 true

/-- Rewrite a stored copy behind a share record as OPEN with a line poisoned (R472). With no frame free for it the rule is silent: the copy stays raw-stored and the line is recorded poisoned beside it (DESIGN CHOICE, LOG 54). -/
def State.shareOpen (s : State) (i : Nat) (bad : BitVec 64) : State :=
  let x := s.shareRec i
  match s.alloc .slot 8 with
  | none => s.setShare i { x with poison := x.poison ||| bad }
  | some a => (a.2.releaseForm x.asPage).setShare i { ShareRec.zero with state := .open, loc := a.1, refs := x.refs, poison := x.poison ||| bad }

/-- A loss in a share-stored copy is recorded once, in the copy or its share record (R472). -/
def State.loseShared (s : State) (i l : Nat) : State :=
  let x := s.shareRec i
  let b : BitVec 64 := (1 : BitVec 64) <<< lineInPage l
  match x.state with
  | .packed => s.setShare i { x with segv := segvSet x.segv (segOf l) 7 }
  | .deep => if x.raw then s.shareOpen i b else (s.releaseForm x.asPage).setShare i { ShareRec.zero with state := .poisoned, refs := x.refs }
  | _ => s.setShare i { x with poison := x.poison ||| b }

/-- Commit the loss of a stored line for which nothing good is left (R146, R279). Lines of the lost range that the near cache holds are marked dirty there. -/
def State.loseLine (s : State) (l : Nat) (scrub : Bool) : State :=
  let e := extOf l
  let p := pageKey l
  let s := s.dropLost l
  let s :=
    match (s.extView e).1 with
    | .mapped =>
      let r := s.effRec p
      match r.state with
      | .open => (s.dirtyRange l 1).storeLine l ⟨0, true⟩ fullMask
      | .packed =>
        let s := s.dirtyRange (l / 4 * 4) 4
        ((s.clearLines (l / 4 * 4) 4).commitPage p { r with segv := segvSet r.segv (segOf l) 7 }).count 7 5
      | .deep =>
        if r.raw then
          let s := (s.dirtyRange l 1).storeLine l ⟨0, true⟩ fullMask
          (s.openPage p).getD s
        else if s.cdc.buffer.contains (p, r.gen) then s.commitPage p r
        else (s.dirtyRange (pageLine p) 64).poisonPage p
      | .shared => (s.dirtyRange l 1).loseShared r.loc l
      | _ => s
    | .poisoned => s
    | .untouched => s
    | _ => (s.dirtyRange l 1).storeLine l ⟨0, true⟩ fullMask
  let s := (s.mediaEvent l .generalMedia scrub).count 11 18
  s.pannier (12 + (((s.lineAt l).head?.bind fun q => s.slotChan q.slot).map (·.val)).getD 0) 5 7 .generalMedia 2 (64 * l) 1 0x250008 true

/-! ## Failed channels (R280) and corrections (R254 to R258, R266, R267) -/

/-- The channel that a read of a line uses first. -/
def State.lineChan (s : State) (l : Nat) : Option Chan := (s.lineAt l).head?.bind fun q => s.slotChan q.slot

/-- Does a channel have an engine: its own, or XTS_SP (R316, R317)? -/
def State.hasEngine (s : State) (c : Nat) : Bool :=
  !s.fbit Reg.XTS_STATUS.ENGINE_OOS c || (s.fb Reg.XTS_STATUS.SPARE_ACTIVE && s.f Reg.XTS_STATUS.SPARE_CH == c)

/-- Returns of a channel in the last 24 h (R281). -/
def State.returnsIn24h (s : State) (c : Chan) : Nat := ((s.chan c).returns.filter fun t => decide (s.now < t + 86400000000000)).length

/-- A channel enters FAILED: its bit, a Failure event record on every head, a Pannier record; in lean mode its data is lost and a loss walk starts (R280, R284). After a third return in 24 h it is locked out (R281). -/
def State.failChan (s : State) (c : Chan) (cause : FailCause) : State :=
  if (s.chan c).st == .failed then s
  else
    let s := s.updChan c fun x => { x with st := .failed, failCause := some cause, failedAt := s.now, resync := false, cursor := 0, resyncing := [], retraining := false, pauseA := false, pauseB := false, alertA := false, alertB := false, alerts := [], drain := false, c0Gap := 0, retry := [] }
    let s := s.setBit Reg.DRC_GLB_STATUS.FAILED c.val true
    let s := s.event s.heads .failure .channelFailed c.val
    let s := s.pannier (12 + c.val) 0xFF 6 .channelFailed 2 0 0 (0x400014 + 0x20000 * c.val) true
    let s := s.updDom (12 + c.val) fun d => { d with st := .off }
    let s := (s.setBit Reg.TRM_RESYNC.RESYNC c.val false).setBit Reg.TRM_RESYNC.LOCKED_OUT c.val (s.fbit Reg.TRM_RESYNC.LOCKED_OUT c.val || decide (3 ≤ (s.returnsIn24h c)))
    if s.lean && decide (c ∈ s.cap.chans) && s.fb Reg.XLT_STATUS.READY then { s with trm := { s.trm with walks := s.trm.walks ++ [c] } } else s

/-- Note an uncorrectable burst: 32 within 100 µs over at least two ranks fail the channel (R280). -/
def State.noteBurst (s : State) (c : Chan) (r : RankSet) : State :=
  let recent := ((s.chan c).bursts.filter fun b => decide (s.now < b.1 + 100000)) ++ [(s.now, r)]
  let s := s.updChan c fun x => { x with bursts := recent }
  if 32 ≤ recent.length && recent.any (fun b => b.2 != r) then s.failChan c .detected else s

/-- Is a device marked on a channel (R266)? -/
def State.marked (s : State) (c : Chan) (d : DevRow) : Bool := (s.chan c).marks.contains (d.rank, d.subB, d.dev)

/-- Does the rank and subchannel of a device hold a mark? -/
def State.rankMarked (s : State) (c : Chan) (d : DevRow) : Bool := (s.chan c).marks.any fun m => m.1 == d.rank && m.2.1 == d.subB

/-- Rank sets of one DIMM slot (R235). -/
def slotWidth (p : ChanPop) : Nat := if p.kind == .mrdimm then 2 else p.ranks.val + 1

/-- The SPD serial number of the DIMM that holds a rank set of a channel (R235, R257). -/
def State.dimmSerial (s : State) (c : Chan) (r : RankSet) : BitVec 32 :=
  match (s.chan c).pop with
  | some p => if r.val < slotWidth p then p.serial0 else p.serial1
  | none => 0

/-- List a repair or a mark (R257): the list holds 1,024 entries. -/
def State.listRepair (s : State) (c : Chan) (d : DevRow) (mark : Bool) : State :=
  if s.repairs.length < 1024 then { s with repairs := s.repairs ++ [Repair.mk c (s.dimmSerial c d.rank) d mark] } else s

/-- A device in repair-list form, as ADDR of a Pannier record with ADDR_KIND 3 gives it (R423); the places of its fields are LOG 13's choice. -/
def State.repairForm (s : State) (c : Chan) (d : DevRow) : Nat :=
  (s.dimmSerial c d.rank).toNat + 2 ^ 32 * (d.rank.val % 4) + 2 ^ 34 * d.subB.toNat + 2 ^ 35 * d.dev.val + 2 ^ 39 * (d.bank.toNat % 32) + 2 ^ 44 * d.row.toNat

/-- Mark a device (R266): the repair list, DRCn_MARK, the event record that ends recovery, a Pannier record. A second device fails the channel in guarded mode and is reported in lean mode (R267). -/
def State.markDevice (s : State) (c : Chan) (d : DevRow) : State :=
  if s.marked c d then s
  else if s.rankMarked c d then
    if s.lean then
      let s := s.event [s.owner] .failure .secondDevice c.val
      s.pannier (12 + c.val) 5 7 .secondDevice 2 (s.repairForm c d) 3 (0x400020 + 0x20000 * c.val) true
    else s.failChan c .detected
  else
    let s := s.updChan c fun x => { x with marks := x.marks ++ [(d.rank, d.subB, d.dev)] }
    let s := s.setBit (if d.subB then Reg.DRCn_MARK.MARK_B.nth c.val else Reg.DRCn_MARK.MARK_A.nth c.val) d.rank.val true
    let s := s.listRepair c d true
    let s := (s.event [s.owner] .warning .deviceMarked c.val).count 11 24
    s.pannier (12 + c.val) 5 7 .deviceMarked 1 (s.repairForm c d) 3 (0x400020 + 0x20000 * c.val) true

/-- Same device and row. -/
def sameRow (a b : DevRow) : Bool := a == b

/-- Same device. -/
def sameDev (a b : DevRow) : Bool := a.rank == b.rank && a.subB == b.subB && a.dev == b.dev

/-- Distinct elements of a list. -/
def distinct {α : Type} [DecidableEq α] : List α → List α
  | [] => []
  | a :: l => a :: (distinct l).filter (· ≠ a)

/-- Offer a row as a repair candidate, once. -/
def State.offerRepair (s : State) (c : Chan) (d : DevRow) : State :=
  s.updChan c fun x => { x with cands := if x.cands.any (fun q => q.1 == d) then x.cands else x.cands ++ [(d, s.now)] }

/-- The outer code (R265, R266, R268): the devices it corrects in a burst, none of them where it cannot. It corrects any errors of one device; where a device of the rank and subchannel is marked, that device's symbols are erasures, and up to 4 symbols more are corrected. Poison is decoded in the same way after the offset. -/
def State.outerCode (s : State) (c : Chan) (b : BurstErrors) : Option (List DevRow) :=
  let es := b.errs.filter fun e => e.2.val != 0
  let ds := distinct (es.map (·.1))
  let row (d : Fin 10) : DevRow := ⟨b.rank, b.subB, ⟨d.val, by omega⟩, b.bank, b.row⟩
  match (s.chan c).marks.find? fun m => m.1 == b.rank && m.2.1 == b.subB with
  | none => if ds.length ≤ 1 then some (ds.map row) else none
  | some m => if ((es.filter fun e => e.1.val != m.2.2.val).map (·.2.val)).sum ≤ 4 then some (ds.map row) else none

/-- A device was corrected in the line at SA `l`, in lines (R256, R266): 8 distinct lines of one row within 24 h make a repair candidate, 16 distinct rows within 1 h a mark. -/
def State.tally (s : State) (c : Chan) (l : Nat) (d : DevRow) : State :=
  let day := ((s.chan c).tallies.filter fun t => decide (s.now < t.2.2 + 86400000000000)) ++ [(d, l, s.now)]
  let s := s.updChan c fun x => { x with tallies := day }
  let rows := distinct ((day.filter fun t => sameDev t.1 d && decide (s.now < t.2.2 + 3600000000000)).map fun t => (t.1.bank, t.1.row))
  let lines := distinct ((day.filter fun t => sameRow t.1 d).map fun t => t.2.1)
  let s := if 8 ≤ lines.length then s.offerRepair c d else s
  if 16 ≤ rows.length then s.markDevice c d else s

/-- The outer code corrected a line: it is counted, and each device that was corrected in it is noted (R256, R266, R415). -/
def State.corrected (s : State) (c : Chan) (l : Nat) (ds : List DevRow) : State :=
  if ds.isEmpty then s else ds.foldl (fun s d => s.tally c l d) (s.count 11 c.val)

/-! ## Codec units (R124, R146, R147) -/

/-- Is a unit out of service? -/
def State.unitOos (s : State) : CodecUnit → Bool
  | .comp i => s.fbit Reg.CDC_STATUS.COMP_OOS i.val
  | .decomp i => s.fbit Reg.CDC_STATUS.DECOMP_OOS i.val
  | .engine i => s.fbit Reg.DEEP_CFG.ENGINE_OOS i.val

/-- The domain and participant of a unit (R355). -/
def unitPlace : CodecUnit → Nat × Nat
  | .comp i => (52 + i.val / 2, 4 + i.val % 2)
  | .decomp i => (52 + i.val / 4, i.val % 4)
  | .engine i => (56, i.val)

/-- Take a unit out of service: its bit, an event record and a Pannier record (R124, R146). -/
def State.unitOut (s : State) (u : CodecUnit) : State :=
  let s := match u with
    | .comp i => s.setBit Reg.CDC_STATUS.COMP_OOS i.val true
    | .decomp i => s.setBit Reg.CDC_STATUS.DECOMP_OOS i.val true
    | .engine i => s.setBit Reg.DEEP_CFG.ENGINE_OOS i.val true
  let s := s.event [s.owner] .warning .unitOutOfService (unitPlace u).2
  s.pannier (unitPlace u).1 (unitPlace u).2 4 .unitOutOfService 1 0 0 0x230004 true

/-- Is the unit the last of its kind in service, which is never taken out (R147)? -/
def State.lastUnit (s : State) : CodecUnit → Bool
  | .comp _ => false
  | .decomp i => (List.range 16).all fun j => j == i.val || s.fbit Reg.CDC_STATUS.DECOMP_OOS j
  | .engine i => (List.range 4).all fun j => j == i.val || s.fbit Reg.DEEP_CFG.ENGINE_OOS j

/-- The last unit of a kind is kept in service: CODEC_LAST, and once for each kind a Failure event record on the owner head and a Pannier record (R147). -/
def State.keepLast (s : State) (u : CodecUnit) : State :=
  let s := s.flag Reg.CDC_STATUS.CODEC_LAST
  let told := match u with
    | .engine _ => s.cdc.lastEngine
    | _ => s.cdc.lastDecomp
  if told then s
  else
    let s := match u with
      | .engine _ => { s with cdc := { s.cdc with lastEngine := true } }
      | _ => { s with cdc := { s.cdc with lastDecomp := true } }
    let s := s.event [s.owner] .failure .codecLast (unitPlace u).2
    s.pannier (unitPlace u).1 (unitPlace u).2 4 .codecLast 2 0 0 0x230004 true

/-- The faults of one sort within the last 1 s, with a new one of unit `u`. -/
def State.lastSecond (s : State) (l : List (CodecUnit × Nat)) (u : CodecUnit) : List (CodecUnit × Nat) :=
  (l.filter fun f => decide (s.now < f.2 + 1000000000)) ++ [(u, s.now)]

/-- A unit with 16 faults of one sort within 1 s is taken out of service; the last of its kind stays (R124, R146, R147). -/
def State.judgeUnit (s : State) (u : CodecUnit) (recent : List (CodecUnit × Nat)) : State :=
  if 16 ≤ (recent.filter fun f => f.1 == u).length && !s.unitOos u then
    if s.lastUnit u then s.keepLast u else s.unitOut u
  else s

/-- A decode failure counted against a unit (R146). -/
def State.unitFault (s : State) (u : CodecUnit) : State :=
  let recent := s.lastSecond s.cdc.faults u
  { s with cdc := { s.cdc with faults := recent } }.judgeUnit u recent

/-- A verify mismatch of a unit: counted, and VERIFY_ERR set; mismatches are counted apart from decode failures (R124, R133). -/
def State.verifyMismatch (s : State) (u : CodecUnit) : State :=
  let s := (s.flag Reg.CDC_STATUS.VERIFY_ERR).count 7 10
  let recent := s.lastSecond s.cdc.mismatches u
  { s with cdc := { s.cdc with mismatches := recent } }.judgeUnit u recent

/-! ## What a read of stored data meets (R145, R146, R254, R279) -/

/-- A line that was uncorrectable where it was read has been read from its other copy, or rebuilt from the other lines of its stripe, and is rewritten (R279). -/
def State.mend (s : State) (l : Nat) (second : Bool) : State :=
  if s.lineMirrored l then
    let s := ((s.copyAt l (!second)).map fun q => s.chanIssue q (.read l)).getD s
    ((s.copyAt l second).map fun q => s.chanIssue q (.write l)).getD s
  else
    match s.lineAt l with
    | [] => s
    | q :: _ => (s.rebuildReads l q 1).chanIssue q (.write l)

/-- The value a read of storage returns and the state after what it met, on the primary copy's channel or the second's: `none` when it waits for a dictionary reload. -/
def State.meet (s : State) (l : Nat) (v : LineVal) (o : DramOutcome) (second : Bool := false) : Option LineVal × State :=
  let c := (s.copyChan l second).getD 0
  let bad (s : State) (recovered : Bool) (rank : RankSet) : Option LineVal × State :=
    let s := s.noteBurst c rank
    if recovered && !s.lean then (some v, (s.mend l second).count 11 (if s.lineMirrored l then 16 else 17))
    else (some ⟨v.data, true⟩, s.loseLine l false)
  if s.lostHere l then (some ⟨v.data, true⟩, (s.loseLine l true).count 11 22)
  else if (s.storageRec (pageKey l)).state == .deep && (s.dict (s.storageRec (pageKey l)).dict).lost then (some ⟨v.data, true⟩, s.loseLine l false)
  else match o with
  | .good => (some v, if s.redirected c then s.count 11 (if s.lineMirrored l then 16 else 17) else s)
  | .errors b rec =>
    match s.outerCode c b with
    | some ds => (some v, s.corrected c ((s.lineSas l).headD l) ds)
    | none => bad s rec b.rank
  | .decodeFailure u ok rec =>
    let s := s.count 7 11
    if ok then (some v, s.unitFault u)
    else if rec && !s.lean then (some v, s.count 11 17)
    else (some ⟨v.data, true⟩, s.loseLine l false)
  | .dictStore =>
    let d := (s.storageRec (pageKey l)).dict
    if d = 0 then (some v, s)
    else (none, (s.setDict d { s.dict d with reloading := true }).flag Reg.DEEP_STATUS.DICT_RELOAD)

/-- Resolve the lost-line entries in a page's storage, as a read would (R287, R288). -/
def State.resolveLost (s : State) (l n : Nat) : State :=
  if s.trm.lost.isEmpty then s
  else (List.range n).foldl (fun (s : State) i => if s.lostHere (l + i) then (s.loseLine (l + i) true).count 11 22 else s) s

end Sys2Proof.Machine
end

