-- ==== Sys2Proof/Machine/Requests.lean ====
section
/-! DEFINITION. Host requests, snoop answers, and the events that let waiting requests go on (chapters "The request path and the express path" and "Multi-host coherence and the directory"). -/

namespace Sys2Proof.Machine

/-! ## Faults found at lookup (R41, R95, R76, R198, R290) -/

/-- The Pannier record that every row of *Uncorrectable errors by memory kind* writes (R290). -/
def State.sramRecord (s : State) (dom unit : Nat) (l : Nat) (cxl : Bool) : State :=
  s.pannier dom unit 7 .sramError 2 (64 * l) 1 0 cxl (some (slice l))

/-- Both tag copies of a near-cache set are lost: its lines read as poison until the next device reset, and a Fatal event record goes to every head (R17, R290). -/
def State.loseSet (s : State) (l : Nat) : State :=
  let k := setKey l
  if s.nc.lost.contains k then s
  else
    let waiting := s.rtk.filter fun r => setKey r.line == k && r.phase == .fill
    let s := { s with nc := { s.nc with
        lost := s.nc.lost ++ [k]
        lines := s.nc.lines.filter fun p => setKey p.1 != k
        fills := s.nc.fills.filter fun f => setKey f.line != k } }
    let s := (s.count 3 67).event s.heads .fatal .tagLoss (64 * l) false (some (slice l))
    let s := s.sramRecord (28 + (slice l).val) 0xFF l true
    waiting.foldl (fun s r => s.answer r.id ⟨0, true⟩) s

/-- The line's data in the near cache is uncorrectable: a clean line is refetched, a dirty line is poisoned (R31, R41, R290). -/
def State.ncDataError (s : State) (l : Nat) : State :=
  match s.nc.lines.look l with
  | none => s
  | some n =>
    let s := (s.count 3 67).sramRecord (28 + (slice l).val) 0xFF l n.dirty
    if n.dirty then (s.setNc l { n with poison := true }).mediaEvent l .generalMedia
    else if n.filling then s
    else s.delNc l

/-- PRES, STATE or BUSY of the line's entry is uncorrectable: it is rebuilt from the answers to a broadcast (R198). -/
def State.dirBroadcast (s : State) (l : Nat) : State :=
  match s.dir.entries.look l with
  | none => s
  | some d =>
    let s := (s.flag Reg.DIR_STATUS.BCAST).sramRecord (44 + dirSlice l) 0xFF l false
    State.rebuildDir { s with dir := { s.dir with entries := s.dir.entries.put l { d with rebuild := true } } } l

/-- Both TAG copies of a way are uncorrectable: the way is freed and every head with a valid HDM-DB entry is fenced (R198). -/
def State.dirWayLost (s : State) (l : Nat) : State :=
  let s := { s with dir := { s.dir with entries := s.dir.entries.del l } }
  let s := (s.flag Reg.DIR_STATUS.SET_LOST).sramRecord (44 + dirSlice l) 0xFF l false
  (s.heads.filter fun h => (s.regionsOf h).any (·.db)).foldl (fun s h => s.fence h false 0) s

/-- A fault found as line `l` is looked up. -/
def State.lookupFault (s : State) (l : Nat) (db : Bool) (f : LookupFault) : State :=
  match f with
  | .none => s
  | .rtkEntry => s
  | .ncTagOne => s.sramRecord (28 + (slice l).val) 0xFF l false
  | .ncTagBoth => s.loseSet l
  | .ncData => s.ncDataError l
  | .ncCorrected => s.count 3 66
  | .dirTagOne => if db then (s.flag Reg.DIR_STATUS.DUP_FIX).sramRecord (44 + dirSlice l) 0xFF l false else s
  | .dirState => if db then s.dirBroadcast l else s
  | .dirTags v => if db then s.dirWayLost v.toNat else s
  | .bitmapWord =>
    let w := extOf l / 64
    if s.xlt.rebuilds.contains w then s
    else (({ s with xlt := { s.xlt with rebuilds := s.xlt.rebuilds ++ [w] } }).countXlt (extOf l) 8).sramRecord (48 + (Config.xltSlice (extOf l)).val) 0xFF l false
  | .xltEntry k =>
    let s := s.sramRecord (48 + (Config.xltSlice (extOf l)).val) 0xFF l false
    match k with
    | .ext => s.dropExtEntry (extOf l)
    | .page => s.dropSecEntry (pageSector (pageKey l))
    | .share => if (s.standing (pageKey l)).state == .shared then s.dropSecEntry (shareSector (s.standing (pageKey l)).loc) else s
  | .pageBuffer => ({ s with cdc := { s.cdc with buffer := s.cdc.buffer.filter fun b => b.1 != pageKey l } }).sramRecord 56 0xFF l false
  | .message => s.sramRecord 3 0xFF l false
  | .keyShadow lost => if lost then s.cryError .keyStore else s

/-! ## Credits (R54, R228) -/

/-- Credits of a channel that the host holds. -/
def Port.credits (p : Port) : CreditChan → Nat
  | .req => p.reqHost
  | .rwd => p.rwdHost
  | .inner => 1

/-- The host spends a credit. -/
def Port.spend (p : Port) : CreditChan → Port
  | .req => { p with reqHost := p.reqHost - 1 }
  | .rwd => { p with rwdHost := p.rwdHost - 1 }
  | .inner => p

/-- A message sent with no credit held: discarded, Receiver Overflow, link down (R228). -/
def State.overflow (s : State) (h : Head) : State :=
  let s := (s.flag (Reg.PRTn_LINK_ERR.RX_OVERFLOW.nth h.val)).updPort h fun p => { p with rasOverflow := true }
  (s.portViolation h 2 .rxOverflow).linkDown h false

/-! ## Accepting a request -/

/-- Is a combination of MetaValue and SnpType listed in *Requests in an HDM-DB region* (R177)? -/
def listed (op : ReqOp) (mv : MetaVal) (snp : SnpType) : Bool :=
  match op with
  | .rd _ => (match mv with
      | .s => snp == .data
      | .a => snp == .inv
      | _ => true)
  | .wr _ => mv == .i || mv == .s
  | .inv _ => mv == .i || mv == .a
  | _ => true

/-- The MetaValue by which an unlisted combination is handled: a write with A as with I (R177); a write or invalidation with no MetaValue, or an invalidation with S, as with I. -/
def handledAs (op : ReqOp) : ReqOp :=
  match op with
  | .wr .s => .wr .s
  | .wr _ => .wr .i
  | .inv .a => .inv .a
  | .inv _ => .inv .i
  | o => o

/-- Is the request one that a fenced head has completed and discarded (R195)? -/
def ReqOp.discarded : ReqOp → Bool
  | .wr _ => true
  | .inv _ => true
  | .clnEvct => true
  | .wrFwd => true
  | _ => false

/-- The entry, if any, before which a write-back from head `h` is ordered: a snoop's place when a snoop to the host is outstanding (R184), or, for a line the host holds in E/M, the first request of the line whose coherence is not settled (R190). -/
def State.crossPlace (s : State) (h : Head) (l : Nat) : Option Nat :=
  match s.snoopTo h l with
  | some q => some q.place
  | none =>
    if s.holdsEm l h then (s.rtk.find? fun r => r.line == l && r.isOpen && !r.coherent).map (·.id) else none

/-- Does an entry stand at or after the place before entry `place`? Entries that were put out of their order count with what follows them. -/
def RtkEntry.after (place : Nat) (q : RtkEntry) : Bool := !q.crossing && decide (place ≤ q.id)

/-- Insert an entry before those at or after `place`. -/
def insertAt (place : Nat) (r : RtkEntry) (l : List RtkEntry) : List RtkEntry :=
  l.takeWhile (fun q => !q.after place) ++ [r] ++ l.dropWhile fun q => !q.after place

/-- Order a crossing write-back or MemClnEvct at the snoop's place (R184), or a write of the line's owner before the requests that would snoop it (R190): it lands at once, and its Cmp does not wait for a snoop. -/
def State.cross (s : State) (r : RtkEntry) (place : Nat) : State :=
  let r := { r with crossing := true, coherent := true }
  let open_ := (s.snoopTo r.head r.line).isSome
  let s := { s with rtk := insertAt place r s.rtk, nextEntry := s.nextEntry + 1 }.noteOcc r.head
  let s := if r.op.isWrite then
      if open_ then
        let s := { s with dir := { s.dir with snoops := updWhere (fun q => q.host == r.head && q.lines.contains r.line) (fun q => { q with crossed := q.crossed ++ [r.line] }) s.dir.snoops } }
        s.count 4 (8 * dirSlice r.line + 6) 1 (some r.head.val)
      else s
    else if s.holds r.line r.head then s else s.violation r.head r.line
  (s.settleDir r).serve r.id

/-- A MemSpecRd orders nothing; a fill begins if the line misses (R177). -/
def State.specFill (s : State) (l : Nat) : State :=
  if s.nc.lines.has l || (s.wbbLine l).isSome || s.setLost l || (lineDomains l false).any (fun d => !s.domOn d) then s
  else
    let (x, s) := (s.ncMiss l).xlate l
    match x with
    | .storage =>
      if s.lineLost l then s
      else match s.takeWay l 17 with
        | .got w s => ((s.setNc l (NcLine.mk w 0 0 false false true none)).touchNc l w).addFill l (some (s.stored l))
        | .busy s => s
        | .full s => s
    | _ => s

/-- The first write ordered to a line of an extent sets its bitmap bit (R23, R73). -/
def State.firstTouched (s : State) (r : RtkEntry) : State := if r.op.isWrite then s.touch r.line else s

/-- Order a request of an HDM-DB region: fenced heads (R195), BI Enable (R175), violations (R199), crossing write-backs (R184), then service in its place. -/
def State.orderDb (s : State) (r : RtkEntry) (ok : Bool) (f : LookupFault) : State :=
  let h := r.head
  let l := r.line
  let fwd := r.op == .rdFwd || r.op == .wrFwd
  let s := if !s.biOn h || s.fenced h || s.dirLost r.line || !ok || fwd then s.violation h l else s
  if s.fenced h && r.op.discarded then s.answerNoMemory r LineVal.zero
  else
    let s := (s.firstTouched r).lookupFault l true f
    match if r.op.isWrite || r.op == .clnEvct then s.crossPlace h l else none with
    | some place => s.cross r place
    | none => (s.pushEntry r).serve r.id

/-- Order a request of an HDM-H region: no metadata, no directory (R178). -/
def State.orderH (s : State) (r : RtkEntry) (f : LookupFault) : State :=
  (((s.firstTouched r).lookupFault r.line false f).pushEntry r).serve r.id

/-- Answer a request in the port loop: a read with the pattern; a write is compared with it and each line that differs is counted (R229, R230). -/
def State.loopAnswer (s : State) (r : RtkEntry) : State :=
  let pat := loopPattern r.hdpa
  let s := if r.op.isWrite && mergeLine pat r.data r.mask != pat then s.countPort 0 r.head 6 else s
  s.answerNoMemory r ⟨pat, false⟩

/-- A request whose entry is bound is decoded and ordered (R68, R70, R208, R228, R230). -/
def State.order (s : State) (r : RtkEntry) (hpa : Nat) (mv : MetaVal) (snp : SnpType) (f : LookupFault) : State :=
  let h := r.head
  if !(s.port h).memActive then
    (((s.flag (Reg.PRTn_LINK_ERR.PRE_ACTIVE.nth h.val)).portViolation h 3 .preActive).countPort 1 h 8).answerNoMemory r LineVal.zero
  else
    match s.hdpaOf h hpa with
    | none => ((s.flag (Reg.PRTn_LINK_ERR.HDM_MISS.nth h.val)).portViolation h 4 .hdmMiss).answerNoMemory r ⟨0, true⟩
    | some a =>
      let r := { r with hdpa := a }
      if s.portLoop h then s.loopAnswer r
      else
        match s.regionAt h a with
        | none => ((s.countPort 1 h 8).eventPerSecond h 5 .informational .unmapped a).answerNoMemory r LineVal.zero
        | some g =>
          let l := g.dpa a / 64
          let r := { r with line := l, db := g.db }
          match r.op with
          | .specRd =>
            let s := if g.db && (!s.biOn h || s.fenced h || s.dirLost l) then s.violation h l else s
            ((s.pushEntry r).closeEntry r).specFill l
          | _ =>
            if g.db then s.orderDb { r with op := handledAs r.op } (listed r.op mv snp) f
            else
              let fwd := r.op == .rdFwd || r.op == .wrFwd
              let s := if mv != .noOp || fwd then s.violation h l else s
              s.orderH r f

/-- Violations that are served all the same (R228): a tag that is still outstanding, a MemWrPtl with no byte enabled. -/
def State.hostSlips (s : State) (h : Head) (op : ReqOp) (tag : BitVec 16) (m : Mask) : State :=
  let s := if op != .specRd && s.rtk.any (fun q => q.head == h && q.chan != .inner && !q.synthetic && q.tag == tag) then s.portViolation h 9 .violation else s
  if op.isWrite && m == 0 then s.portViolation h 10 .violation else s

/-- A request of `op` arrives at head `h`: a credit and an entry are taken (R52, R54); with no credit held the link goes down (R228), and so it does when the entry is uncorrectable (R290). While the port loop waits for an empty partition the request waits (R230). -/
def State.request (s : State) (h : Head) (c : CreditChan) (op : ReqOp) (hpa : BitVec 52) (tag : BitVec 16) (mv : MetaVal) (snp : SnpType) (m : Mask) (d : LineData) (p : Bool) (f : LookupFault) : State :=
  if !(s.port h).active then s
  else if (s.port h).credits c = 0 then s.overflow h
  else
    let s := ((s.updPort h fun q => q.spend c).count 2 45 1 (some h.val)).hostSlips h op tag m
    if f == .rtkEntry then
      let s := (s.event (withOwner s [h]) .warning .rtkLoss h.val).pannier (4 + h.val) 0xFF 7 .rtkLoss 2 0 0 (0x100008 + 0x10000 * h.val) true
      s.linkDown h false
    else
      let r := s.newEntry h c op tag hpa.toNat 0 false m d p
      if (s.port h).loopWait then s.pushEntry { r with phase := .domain, line := 2 ^ 46, hdpa := hpa.toNat }
      else s.order r hpa.toNat mv snp f

/-! ## MEM rows -/

/-- MEM_RD (R37, R177). -/
def execMemRd (h : Head) (hpa : BitVec 52) (tag : BitVec 16) (mv : MetaVal) (snp : SnpType) (f : LookupFault) (s : State) : Host.Outcome State Fault Refusal :=
  .next (s.request h .req (.rd mv) hpa tag mv snp 0 0 false f)

/-- MEM_RD_DATA (R177). -/
def execMemRdData (h : Head) (hpa : BitVec 52) (tag : BitVec 16) (f : LookupFault) (s : State) : Host.Outcome State Fault Refusal :=
  .next (s.request h .req .rdData hpa tag .noOp .data 0 0 false f)

/-- MEM_SPEC_RD (R177). -/
def execMemSpecRd (h : Head) (hpa : BitVec 52) (tag : BitVec 16) (s : State) : Host.Outcome State Fault Refusal :=
  .next (s.request h .req .specRd hpa tag .noOp .noOp 0 0 false .none)

/-- MEM_WR (R42, R177). -/
def execMemWr (h : Head) (hpa : BitVec 52) (tag : BitVec 16) (mv : MetaVal) (data : LineData) (poison : Bool) (f : LookupFault) (s : State) : Host.Outcome State Fault Refusal :=
  .next (s.request h .rwd (.wr mv) hpa tag mv .noOp fullMask data poison f)

/-- MEM_WR_PTL (R43, R177): poisoned data poisons the bytes written. -/
def execMemWrPtl (h : Head) (hpa : BitVec 52) (tag : BitVec 16) (mv : MetaVal) (mask : Mask) (data : LineData) (poison : Bool) (f : LookupFault) (s : State) : Host.Outcome State Fault Refusal :=
  .next (s.request h .rwd (.wr mv) hpa tag mv .noOp mask data poison f)

/-- MEM_INV (R177): MemInv and MemInvNT. -/
def execMemInv (h : Head) (hpa : BitVec 52) (tag : BitVec 16) (nt : Bool) (mv : MetaVal) (s : State) : Host.Outcome State Fault Refusal :=
  let _ := nt
  .next (s.request h .req (.inv mv) hpa tag mv .inv 0 0 false .none)

/-- MEM_CLN_EVCT (R177, R184). -/
def execMemClnEvct (h : Head) (hpa : BitVec 52) (tag : BitVec 16) (s : State) : Host.Outcome State Fault Refusal :=
  .next (s.request h .req .clnEvct hpa tag .noOp .noOp 0 0 false .none)

/-- MEM_RD_FWD (R199). -/
def execMemRdFwd (h : Head) (hpa : BitVec 52) (tag : BitVec 16) (s : State) : Host.Outcome State Fault Refusal :=
  .next (s.request h .req .rdFwd hpa tag .noOp .noOp 0 0 false .none)

/-- MEM_WR_FWD (R199): its data is discarded. -/
def execMemWrFwd (h : Head) (hpa : BitVec 52) (tag : BitVec 16) (data : LineData) (s : State) : Host.Outcome State Fault Refusal :=
  .next (s.request h .rwd .wrFwd hpa tag .noOp .noOp fullMask data false .none)

/-! ## Snoop answers (R181, R182, R195, R199) -/

/-- A BIRsp arrives: a fenced head's is discarded (R195), one that answers no snoop is a violation (R199), else `g` handles it. -/
def State.birsp (s : State) (h : Head) (l : Nat) (find : Option Snoop) (g : State → Snoop → State) : State :=
  if !(s.port h).active then s
  else
    let s := s.count 2 47 1 (some h.val)
    if s.fenced h then s.violation h l
    else
      match find with
      | none => s.violation h l
      | some q => g s q

/-- One line of a snoop is answered: with the last one the snoop closes. -/
def State.lineAnswered (s : State) (q : Snoop) (l : Nat) : State :=
  let q' := { q with lines := q.lines.filter (· != l) }
  if q'.lines.isEmpty then s.closeSnoop q
  else { s with dir := { s.dir with snoops := updWhere (·.id == q.id) (fun _ => q') s.dir.snoops } }

/-- The host keeps no copy of the line. -/
def State.answeredI (s : State) (q : Snoop) (l : Nat) : State := (s.clearPres l q.host).lineAnswered q l

/-- The host keeps the line in S. -/
def State.answeredS (s : State) (q : Snoop) (l : Nat) : State :=
  (match s.dir.entries.look l with
   | none => s
   | some d => if d.pres.getLsbD q.host.val then s.setDir l d.pres .s else s).lineAnswered q l

/-- BIRSP_I (R181). -/
def execBirspI (h : Head) (line : BitVec 40) (s : State) : Host.Outcome State Fault Refusal :=
  .next (s.birsp h line.toNat (s.snoopTo h line.toNat) fun s q => s.answeredI q line.toNat)

/-- BIRSP_S (R181, R199): an answer to BISnpInv or BISnpInvBlk is taken as BIRspI. -/
def execBirspS (h : Head) (line : BitVec 40) (s : State) : Host.Outcome State Fault Refusal :=
  .next (s.birsp h line.toNat (s.snoopTo h line.toNat) fun s q =>
    match q.op with
    | .cur => s.answeredS q line.toNat
    | .data => s.answeredS q line.toNat
    | _ => (s.violation h line.toNat).answeredI q line.toNat)

/-- BIRSP_E (R181, R199): an answer to BISnpData is taken as BIRspS, one to BISnpInv or BISnpInvBlk as BIRspI. -/
def execBirspE (h : Head) (line : BitVec 40) (s : State) : Host.Outcome State Fault Refusal :=
  .next (s.birsp h line.toNat (s.snoopTo h line.toNat) fun s q =>
    match q.op with
    | .cur => s.lineAnswered q line.toNat
    | .data => (s.violation h line.toNat).answeredS q line.toNat
    | _ => (s.violation h line.toNat).answeredI q line.toNat)

/-- The outstanding block snoop to host `h` for the segment of line `l`, else the snoop for the line. -/
def State.snoopBlk (s : State) (h : Head) (l : Nat) : Option Snoop :=
  match s.dir.snoops.find? fun q => q.host == h && q.op == .invBlk && q.line / 4 == l / 4 with
  | some q => some q
  | none => s.snoopTo h l

/-- BIRSP_I_BLK (R182, R199): it answers every line of a block snoop; for another snoop it is taken as BIRspI for the one line. -/
def execBirspIBlk (h : Head) (line : BitVec 40) (s : State) : Host.Outcome State Fault Refusal :=
  .next (s.birsp h line.toNat (s.snoopBlk h line.toNat) fun s q =>
    if q.op == .invBlk then (q.lines.foldl (fun s j => s.clearPres j h) s).closeSnoop q
    else (s.violation h line.toNat).answeredI q line.toNat)

/-- BI_CONFLICT (R186, R187, R195): it takes a Req credit and no entry; its ack waits for the response of a request ordered before the snoop's place. -/
def execBiConflict (h : Head) (line : BitVec 40) (tag : BitVec 16) (s : State) : Host.Outcome State Fault Refusal :=
  if !(s.port h).active then .next s
  else if (s.port h).reqHost = 0 then .next (s.overflow h)
  else
    let s := ((s.updPort h fun p => p.spend .req).countPort 1 h 4).count 2 47 1 (some h.val)
    if s.fenced h then .next ((s.violation h line.toNat).freeCredit h .req)
    else
      match s.snoopTo h line.toNat with
      | none => .next (s.ackConflict h tag)
      | some q =>
        match s.rtk.find? fun r => r.head == h && r.line == line.toNat && !r.crossing && decide (r.id < q.place) with
        | none => .next (s.ackConflict h tag)
        | some r => .next (s.updEntry r.id fun r => { r with conflicts := r.conflicts ++ [tag] })

/-- Is the snoop's timer stopped: a crossing write-back from its host waits for its Cmp under the pressure rules (R183)? -/
def State.timerStopped (s : State) (q : Snoop) : Bool :=
  s.rtk.any fun r => r.crossing && r.head == q.host && q.covers.contains r.line &&
    (match r.phase with
     | .pool _ => true
     | .poolFull => true
     | _ => false)

/-- SNOOP_TIMEOUT (R183, R193, R194). -/
def execSnoopTimeout (snoop : Nat) (s : State) : Host.Outcome State Fault Refusal :=
  match s.dir.snoops.find? (·.id == snoop) with
  | none => .next s
  | some q => if s.timerStopped q then .next s else .next (s.expire q)

/-! ## Fills and waiting requests (R43 to R47) -/

/-- Serve the reads that wait behind a closed request of line `l`, in order, until one stays open or a write is next (R46, R47). -/
def State.drainReads (s : State) (l : Nat) : Nat → State
  | 0 => s
  | fuel + 1 =>
    match s.rtk.find? fun r => r.line == l && r.isOpen && !r.crossing with
    | none => s
    | some r =>
      if r.phase == .line && r.op.isRead then (s.serve r.id).drainReads l fuel
      else s

/-- Is an entry a read that a fill owes its value at an earlier place (R47)? -/
def State.frozen (s : State) (id : Nat) : Bool := s.nc.fills.any fun f => f.readers.any (·.id == id)

/-- Answer the reads that later writes have passed, each with the fill's value under the bytes that stood at its place (R47). -/
def State.answerReaders (s : State) (rs : List FillReader) (v : LineVal) : State :=
  rs.foldl (fun s r => s.answer r.id ⟨mergeLine v.data r.data r.mask, r.poison || v.poison⟩) s

/-- Answer the reads that wait for the fill of line `l` with a value, then those joined to it. -/
def State.answerFill (s : State) (l : Nat) (v : LineVal) : State :=
  let ids := (s.rtk.filter fun r => r.line == l && r.phase == .fill && !s.frozen r.id).map (·.id)
  (ids.foldl (fun s id => s.answer id v) s).drainReads l s.rtk.length

/-- Open a fill again whose translation had to wait; what resolves at once answers the reads joined to it, those that later writes have passed first. -/
def State.reopenFill (s : State) (l : Nat) : State :=
  match s.nc.fills.find? fun f => f.line == l && f.value.isNone with
  | none => s
  | some f =>
    let under := s.stored l
    let s := State.openFill { s with nc := { s.nc with fills := s.nc.fills.filter fun f => !(f.line == l && f.value.isNone) } } l f.host
    match s.nc.lines.look l with
    | none => s
    | some n =>
      if n.filling then { s with nc := { s.nc with fills := updWhere (fun g => g.line == l && !g.stale) (fun g => { g with readers := f.readers }) s.nc.fills } }
      else (s.answerReaders f.readers under).answerFill l (LineVal.mk n.data n.poison)

/-- What a fill that no longer fills the near cache returns to its readers: its data, or poison where nothing good is left of it. -/
def State.staleValue (s : State) (c : Chan) (v : LineVal) : DramOutcome → LineVal
  | .errors b rec => if (s.outerCode c b).isSome || (rec && !s.lean) then v else ⟨v.data, true⟩
  | .decodeFailure _ ok rec => if ok || (rec && !s.lean) then v else ⟨v.data, true⟩
  | _ => v

/-- FILL_DATA_ARRIVAL (R43, R47, R145, R146, R279): the data, with what its read met, is merged under the byte-valid mask and answers the reads joined to the fill; reads that later writes have passed get the value at their own place. -/
def execFillDataArrival (line : BitVec 40) (o : DramOutcome) (s : State) : Host.Outcome State Fault Refusal :=
  let l := line.toNat
  match s.nc.fills.find? fun f => f.line == l with
  | none => .next s
  | some f =>
    match (if s.cry.st == .error then none else f.value) with
    | none => .next s
    | some v0 =>
      let drop (s : State) := { s with nc := { s.nc with fills := dropFirst (fun g => g.line == l) s.nc.fills } }
      if f.stale then .next (((drop s).answerReaders f.readers (s.staleValue ((s.copyChan l f.second).getD 0) v0 o)).drainReads l s.rtk.length)
      else
        match s.meet l v0 o f.second with
        | (none, s) => .next s
        | (some v, s) =>
          let r := s.storageRec (pageKey l)
          let deep := (s.extView (extOf l)).1 == .mapped && r.state == .deep && !r.raw && !v.poison
          let s := if deep then s.bufferPage (pageKey l) (s.standing (pageKey l)).gen else s
          let s := (drop s).resolveFill l v
          let s := (if f.host then s.heat l else s).answerReaders f.readers v
          .next (s.answerFill l (match s.nc.lines.look l with
            | some n => LineVal.mk n.data n.poison
            | none => v))

/-- The first access of MGT to line `l` that waits for an entry of the CMD partition takes one that is free, and is ordered (R56). -/
def State.partResume (s : State) (l : Nat) : State :=
  match s.rtk.find? fun r => r.line == l && r.phase == .part with
  | none => s
  | some r =>
    if !s.partRoom 9 then s
    else
      let s := { s with rtk := s.rtk.filter (·.id != r.id) }
      let r := { r with id := s.nextEntry, phase := .line }
      (s.pushEntry r).serve r.id

/-- WAITING_REQUEST_SERVED (R46, R56): the first request waiting on the line is served once no earlier one is open; with none open, an access of MGT that waits for an entry of its partition. -/
def execWaitingRequestServed (line : BitVec 40) (s : State) : Host.Outcome State Fault Refusal :=
  match s.rtk.find? fun r => r.line == line.toNat && r.isOpen with
  | none => .next (s.partResume line.toNat)
  | some r => if r.phase == .line then .next (s.serve r.id) else .next s

/-- Can a way of the line's set be taken now? -/
def State.wayFree (s : State) (l : Nat) : Bool :=
  match s.takeWay l 17 with
  | .busy _ => false
  | _ => true

/-- WAY_FREED_RESUME (R45). -/
def execWayFreedResume (entry : Nat) (s : State) : Host.Outcome State Fault Refusal :=
  match s.entry entry with
  | none => .next s
  | some r => if r.phase == .way && s.wayFree r.line then .next (s.serve entry) else .next s

/-- WRITE_BACK_BUFFER_RESUME (R44). -/
def execWriteBackBufferResume (entry : Nat) (s : State) : Host.Outcome State Fault Refusal :=
  match s.entry entry with
  | none => .next s
  | some r => if r.phase == .wbb && decide (s.wbbUsed (slice r.line) < 64) then .next (s.serve entry) else .next s

/-- SNOOP_SLOT_RESUME (R182): a slot lets a waiting request order its snoops; a BISnp credit lets a snoop whose slot is held be sent. -/
def execSnoopSlotResume (entry : Nat) (s : State) : Host.Outcome State Fault Refusal :=
  match s.entry entry with
  | none => .next s
  | some r =>
    if r.phase == .slot && decide (0 < s.slotsFree r.line) then .next (s.serve entry)
    else
      let mine := s.dir.snoops.filter fun q => !q.sent && (q.cause == .request entry || q.cause == .evict entry)
      .next (mine.foldl (fun s q => s.trySend q) s)

/-- DIRECTORY_SET_RESUME (R189): in its place among the requests waiting on the set. -/
def execDirectorySetResume (entry : Nat) (s : State) : Host.Outcome State Fault Refusal :=
  match s.entry entry with
  | none => .next s
  | some r =>
    if r.phase == .dirSet && !s.dirSetAhead r && s.causeDone (.evict entry) then .next (s.serve entry) else .next s

end Sys2Proof.Machine
end

