-- ==== Sys2Proof/Machine/Store.lean ====
section
/-! DEFINITION. Stored forms: what the codecs give for a page, the choice of a form, its frames and its commit (R85, R123 to R137, R142, R147, R158), and the walk that moves pages off a lost channel (R284). -/

namespace Sys2Proof.Machine

/-! ## What the codecs give -/

/-- Is any line of a page poison? -/
def anyPoison (ls : List LineVal) : Bool := ls.any (·.poison)

/-- Is a page all zero, without poison? -/
def allZero (ls : List LineVal) : Bool := ls.all fun v => v.data == 0 && !v.poison

/-- The 16 segment sizes of a page (R123). -/
def segSizes (ls : List LineVal) : List Nat :=
  (List.range 16).map fun k => segSize (((ls.drop (4 * k)).take 4).map (·.data))

/-- T, the sum of the segment sizes (R127). -/
def totalGranules (ls : List LineVal) : Nat := (segSizes ls).sum

/-- SEGV of a list of segment sizes. -/
def segvOf (zs : List Nat) : BitVec 48 :=
  (List.range zs.length).foldl (fun v k => segvSet v k ((zs[k]?).getD 0)) 0

/-- Bits in which two words differ. -/
def hamming (a b : BitVec 64) : Nat := ((List.range 64).filter fun i => (a ^^^ b).getLsbD i).length

/-- The ACTIVE dictionary that a page tries: bound to its key, fewest differing bits, the lower slot on a tie (R142). -/
def State.chooseDict (s : State) (key : Nat) (ls : List LineVal) : Nat :=
  let k := Config.sketch (ls.map (·.data))
  let cs := (List.range 15).filter fun i => (s.dict (i + 1)).state == .active && (s.dict (i + 1)).key == key
  (cs.foldl (fun (b : Option (Nat × Nat)) i =>
    let n := hamming k (s.dict (i + 1)).signature
    match b with
    | none => some (i + 1, n)
    | some (j, m) => if n < m then some (i + 1, n) else some (j, m)) none).elim 0 (·.1)

/-- A page's encoding: GCOUNT and DICT (R133). -/
def State.encode (s : State) (key : Nat) (ls : List LineVal) : Nat × Nat :=
  let ds := ls.map (·.data)
  let g0 := (Config.pageGranules ds).val + 1
  match s.chooseDict key ls with
  | 0 => (g0, 0)
  | d =>
    let g1 := (Config.pageGranulesDict ds (s.dict d).signature).val + 1
    if g1 < g0 then (g1, d) else (g0, 0)

/-- May pages be packed: PACK_EN, and a compressor in service (R147)? -/
def State.mayPack (s : State) : Bool := s.fb Reg.CDC_CFG.PACK_EN && s.anyCompressor

/-- Is only one page-codec engine left, kept in service as the last (R147)? -/
def State.lastEngineHeld (s : State) : Bool := s.cdc.lastEngine

/-- May new DEEP encodings be made (R147)? -/
def State.mayEncode (s : State) : Bool := s.fb Reg.CDC_CFG.DEEP_EN && !s.lastEngineHeld

/-! ## Forms -/

/-- A stored form of a page; a PACKED page by its SEGV values (R82). -/
inductive Form where
  | zero
  | open
  | packed (segv : List Nat)
  | deep (g d : Nat)
  | raw
  deriving DecidableEq, Repr

/-- Count the segments and pages of a stored form (R415, group 7). -/
def State.countForm (s : State) (f : Form) : State :=
  match f with
  | .packed zs => ((zs.filter (· ≤ 4)).foldl (fun s z => s.count 7 z) s).count 7 6
  | .deep _ _ => s.count 7 7
  | .raw => s.count 7 9
  | _ => s

/-- Write the 64 lines of a page to storage. -/
def State.putLines (s : State) (p : Nat) (ls : List LineVal) : State :=
  (List.range 64).foldl (fun (s : State) i =>
    let l := pageLine p + i
    let v := (ls[i]?).getD LineVal.zero
    if Memory.readLine s.mem l = v.data && s.isBad l == v.poison then s else s.storeLine l v fullMask) s

/-- The page record of a form whose frames stand at `n` (R81, R129). -/
def Form.asRec (f : Form) (n : Nat) (pin : BitVec 2) : PageRec :=
  match f with
  | .zero => { PageRec.zero with pin := pin }
  | .open => { PageRec.zero with state := .open, loc := n, pin := pin }
  | .packed zs => { PageRec.zero with state := .packed, loc := n, segv := segvOf zs, pin := pin }
  | .deep g d => { PageRec.zero with state := .deep, loc := n, gcount := g, dict := d, pin := pin }
  | .raw => { PageRec.zero with state := .deep, loc := n, gcount := 64, dict := 0, pin := pin }

/-- The lines that a form stores: a poisoned segment of a PACKED page stores none (R82, R278). -/
def Form.held (f : Form) (ls : List LineVal) : List LineVal :=
  match f with
  | .packed zs => (List.range 64).map fun i => if (zs[i / 4]?).getD 0 = 7 then LineVal.zero else (ls[i]?).getD LineVal.zero
  | _ => ls

/-- Commit a page in a form whose frames stand at `n` (R85, R89). -/
def State.commitForm (s : State) (p : Nat) (f : Form) (n : Nat) (ls : List LineVal) : State :=
  match f with
  | .zero => s.zeroPage p
  | f => ((s.putLines p (f.held ls)).replacePage p (f.asRec n (s.effRec p).pin)).countForm f

/-- Frames that a form takes at a log head; 0 for the forms that take none there. -/
def Form.stripeFrames : Form → Nat
  | .packed zs => max 1 (ceilDiv (zs.map segGranules).sum 8)
  | .deep g _ => ceilDiv g 8
  | .raw => 8
  | _ => 0

/-- Allocate the frames of a form for a rewrite forced by a write-back: a stripe form closes its stripes at once (R166). -/
def State.allocForm (s : State) (f : Form) : Option (Nat × State) :=
  match f with
  | .zero => some (0, s)
  | .open => s.alloc .slot 8
  | f => (s.allocHead false false f.stripeFrames).map fun a => (a.1, a.2.closeRun a.1 f.stripeFrames)

/-- Store a page in a form, forced by a write-back, and issue its writes; none when no frames can be taken. -/
def State.storeForm (s : State) (p : Nat) (f : Form) (ls : List LineVal) : Option State :=
  (s.allocForm f).map fun a => (a.2.commitForm p f a.1 ls).writePage (pageLine p) (f.asRec a.1 0)

/-- The key slot under which a page is stored. -/
def State.keyOf (s : State) (p : Nat) : Nat := (s.extRec (p / 512)).key

/-! ## The choice of a form -/

/-- A form chosen, and the unit whose output failed its verify pass on the way (R124, R133). -/
structure Choice where
  form : Form
  blame : Option CodecUnit
  deriving DecidableEq, Repr

/-- A form chosen with no codec at fault. -/
def Form.clean (f : Form) : Choice := ⟨f, none⟩

/-- The engine at fault in a run, if it is in service. -/
def State.engineBad (s : State) (b : Option VerifyBad) : Option CodecUnit :=
  (b.map fun b => CodecUnit.engine b.engine).filter fun u => !s.unitOos u

/-- The compressor at fault in a run, if it is in service. -/
def State.compBad (s : State) (b : Option VerifyBad) : Option CodecUnit :=
  (b.map fun b => CodecUnit.comp b.comp).filter fun u => !s.unitOos u

/-- The segment that a run's compressor leaves raw (R124). -/
def State.rawSeg (s : State) (b : Option VerifyBad) : Option Nat := if (s.compBad b).isSome then b.map (·.seg.val) else none

/-- The segment sizes that a pack gives: a segment whose compressor fails its verify pass is stored raw, with SEGV 4 (R123, R124). -/
def packSizes (ls : List LineVal) (raw : Option Nat) : List Nat :=
  let zs := segSizes ls
  match raw with
  | none => zs
  | some k => (List.range zs.length).map fun i => if i = k && (zs[i]?).getD 0 != 0 then 4 else (zs[i]?).getD 0

/-- PACKED, when T is at most 56 (R127); all zero gives ZERO (R85). -/
def packForm (ls : List LineVal) (raw : Option Nat := none) : Option Form :=
  let zs := packSizes ls raw
  if zs.sum = 0 then some .zero else if zs.sum ≤ 56 then some (.packed zs) else none

/-- PACKED where packing may be made now, with a segment that its compressor leaves raw. -/
def State.packWith (s : State) (ls : List LineVal) (raw : Option Nat) : Option Form := if s.mayPack then packForm ls raw else none

/-- PACKED where packing may be made now. -/
def State.packNow (s : State) (ls : List LineVal) (b : Option VerifyBad := none) : Option Form := s.packWith ls (s.rawSeg b)

/-- The compressor to blame where a page is passed through the compressors. -/
def State.packBlame (s : State) (b : Option VerifyBad) : Option CodecUnit := if s.mayPack then s.compBad b else none

/-- PACKED when the page packs, else another form. -/
def State.packOr (s : State) (ls : List LineVal) (b : Option VerifyBad) (other : Form) : Choice :=
  ⟨(s.packNow ls b).getD other, s.packBlame b⟩

/-- The form of a page pinned keep-deep (R133, R134, R147, R158): its encoding, or raw-stored where GCOUNT exceeds 56 and where the last engine is held; none where no encoding may be made or its verify pass fails, with the engine to blame. -/
def State.deepForm (s : State) (p : Nat) (ls : List LineVal) (b : Option VerifyBad) : Option Form × Option CodecUnit :=
  if s.lastEngineHeld then (some .raw, none)
  else if !s.mayEncode then (none, none)
  else if allZero ls then (some .zero, none)
  else match s.engineBad b with
    | some u => (none, some u)
    | none =>
      let (g, d) := s.encode (s.keyOf p) ls
      (some (if g ≤ 56 then .deep g d else .raw), none)

/-- The first form of a page pinned keep-deep, else the rest of its list. -/
def State.deepFirst (s : State) (p : Nat) (ls : List LineVal) (b : Option VerifyBad) (rest : Option VerifyBad → Choice) : Choice :=
  if (s.effRec p).pin != 3 then rest b
  else match s.deepForm p ls b with
    | (some f, u) => ⟨f, u⟩
    | (none, none) => rest b
    | (none, some u) => ⟨(rest none).form, some u⟩

/-- *Rewriting a PACKED page* (R132); a page pinned keep-packed takes the PACKED row whenever T is at most 56 (R163). -/
def State.rewriteForm (s : State) (p : Nat) (ls : List LineVal) (b : Option VerifyBad) : Choice :=
  if anyPoison ls then Form.open.clean
  else if (s.effRec p).pin == 2 && (s.packNow ls b).isSome then s.packOr ls b .raw
  else if s.openRoom then Form.open.clean
  else s.packOr ls b .raw

/-- The form that a write-back into a DEEP page leaves (R137). -/
def State.promoteForm (s : State) (p : Nat) (ls : List LineVal) (b : Option VerifyBad) : Choice :=
  if anyPoison ls then Form.open.clean
  else s.deepFirst p ls b fun b => s.packOr ls b (if s.openRoom then .open else .raw)

/-- May a write-back promote a raw-stored page to OPEN (R130)? -/
def State.rawOpens (s : State) (p : Nat) : Bool := !s.lean && s.openRoom && decide (s.level ≤ 1) && (s.effRec p).pin != 3

/-- *First storage for a ZERO page* (R158). -/
def State.firstForm (s : State) (p : Nat) (ls : List LineVal) (b : Option VerifyBad) : Choice :=
  if anyPoison ls then Form.open.clean
  else s.deepFirst p ls b fun b =>
    if ((s.effRec p).pin == 2 || decide (2 ≤ s.level)) && (s.packNow ls b).isSome then s.packOr ls b .raw
    else if s.openRoom then Form.open.clean
    else s.packOr ls b .raw

/-! ## Share-stored pages (R87, R88) -/

/-- The form of a copy of an OPEN stored page: OPEN while the mirror allowance lasts, else PACKED when T is at most 56, else raw-stored (R88). -/
def State.openCopyForm (s : State) (ls : List LineVal) (b : Option VerifyBad) : Choice :=
  if s.openRoom then Form.open.clean else s.packOr ls b .raw

/-- The form of a copy of a PACKED stored page that keeps its segments, poisoned ones included: ZERO when every SEGV is 0 (R82, R85). -/
def packedAs (v : BitVec 48) : Form :=
  let zs := (List.range 16).map fun k => segvAt v k
  if zs.sum = 0 then .zero else .packed zs

/-- The compressor to blame for the recompression of the segment of line `l` (R124, R131). -/
def State.segBlame (s : State) (l : Nat) (b : Option VerifyBad) : Option CodecUnit :=
  if s.rawSeg b = some (segOf l) then s.compBad b else none

/-- Does a line written back fit its PACKED segment in place: a segment of SEGV 4 takes it raw, one of SEGV 1 to 3 as recompressed (R124, R131)? -/
def State.fitsInPlace (s : State) (r : PageRec) (l : Nat) (v : LineData) (m : Mask) (b : Option VerifyBad) : Bool :=
  s.segFits r l v m && (segvAt r.segv (segOf l) == 4 || (s.segBlame l b).isNone)

/-- The form that copy-on-write of a SHARED page leaves (R88). -/
def State.cowForm (s : State) (p l : Nat) (ls : List LineVal) (x : ShareRec) (v : LineData) (m : Mask) (b : Option VerifyBad) : Choice :=
  if anyPoison ls || x.state == .poisoned then Form.open.clean
  else match x.state with
    | .open => s.openCopyForm ls b
    | .packed =>
      if s.fitsInPlace x.asPage l v m b then ⟨packedAs x.segv, s.segBlame l b⟩
      else
        let c := s.rewriteForm p ls b
        ⟨c.form, if c.blame.isSome then c.blame else s.segBlame l b⟩
    | .deep => if x.raw then (if s.rawOpens p then Form.open.clean else Form.raw.clean) else s.promoteForm p ls b
    | _ => Form.open.clean

/-! ## The loss walk (R284) -/

/-- Lines of a page whose stored place needs a lost channel (R284). -/
def State.lostLines (s : State) (p : Nat) : List Nat := ((List.range 64).map fun i => pageLine p + i).filter s.lineLost

/-- Move one page off a lost channel: its lost lines are poisoned as its form holds poison, except those that the near cache holds, which are written back from there (R29, R284). With no frames free the page stays as it is for the next walk: its lost lines read as poison, and the others as they are. -/
def State.walkPage (s : State) (p : Nat) : State :=
  let lost := s.lostLines p
  if lost.isEmpty then s
  else
    let s := lost.foldl (fun (s : State) l => s.dirtyRange l 1) s
    let r := s.effRec p
    if r.state == .shared then lost.foldl (fun (s : State) l => s.loseShared r.loc l) s
    else
      let ls := (List.range 64).map fun i =>
        let l := pageLine p + i
        if lost.contains l then LineVal.mk 0 true else s.stored l
      if r.state == .deep && !r.raw then s.poisonPage p
      else if r.state == .packed then
        let zs := (List.range 16).map fun k =>
          if lost.any (fun l => segOf l == k) then 7 else segvAt r.segv k
        let keep := (zs.map segGranules).sum
        if keep = 0 then s.commitPage p { r with segv := segvOf zs }
        else match s.allocHead false false (ceilDiv keep 8) with
          | none => s
          | some a => (a.2.closeRun a.1 (ceilDiv keep 8)).replacePage p { r with loc := a.1, segv := segvOf zs }
      else (s.storeForm p .open ls).getD s

/-- Store pages OPEN in order; none when frames run out. -/
def State.openPages (s : State) : List (Nat × List LineVal) → Option State
  | [] => some s
  | (p, ls) :: rest => if allZero ls then s.openPages rest else (s.storeForm p .open ls).bind fun s => s.openPages rest

/-- Demote a direct extent with storage on a lost channel to MAPPED with OPEN pages (R284): lost lines that the near cache holds are written back from there (R29). With no frames free it stays as it is for the next walk. -/
def State.walkExt (s : State) (e : Nat) : State :=
  let x := s.extRec e
  let moved := (s.alloc .block 16).bind fun a =>
    let lost := ((List.range 32768).map fun i => extLine e + i).filter a.2.lineLost
    let s := lost.foldl (fun (s : State) l => s.dirtyRange l 1) a.2
    let vals := (List.range 512).map fun i => (512 * e + i, (List.range 64).map fun j =>
      let l := extLine e + 64 * i + j
      if lost.contains l then LineVal.mk 0 true else s.stored l)
    let s := { s with cap := { s.cap with slots := s.cap.slots.del x.loc } }
    ((s.setExt e { x with mode := .mapped, loc := a.1 / 16 }).clearLines (extLine e) 32768).openPages vals
  moved.getD s

/-- The walk takes the page or direct extent of line `l` next. -/
def State.walkLine (s : State) (l : Nat) : State :=
  if (s.extRec (extOf l)).mode == .direct then s.walkExt (extOf l) else s.walkPage (pageKey l)

end Sys2Proof.Machine
end

