-- ==== Sys2Proof/Machine/WriteBack.lean ====
section
/-! DEFINITION. Write-backs, pool lines, and what map-area reads and bitmap rebuilds let go on (R74, R76, R79, R84, R91, R93, R97 to R100, R117, R118, R130 to R137, R158, R274, R277). -/

namespace Sys2Proof.Machine

/-! ## Stripe guards (R277) -/

/-- The guard entry of an update in place of line `l` in a stripe: the parity frame's channel slot, and the stripe's position with the line offset (R276, R277). -/
def State.guardOf (s : State) (l : Nat) : Option (Nat × Nat) :=
  if s.lean || s.w == 0 then none
  else
    let r := s.storageRec (pageKey l)
    if (s.extRec (extOf l)).mode == .direct || r.state == .open then none
    else
      (s.lineAt l).head?.map fun p =>
        let off := match r.state with
          | .packed => segvStart r.segv (segOf l) % 8
          | _ => l % 8
        (paritySlot s.w (p.pos - s.frameBase), p.pos * 8 + off)

/-- Is a guard entry free: fewer than 128 entries on its channel, and none for the same line offset of the stripe? -/
def State.guardFree (s : State) (g : Nat × Nat) : Bool :=
  let used := s.nc.wbb.filterMap (·.guard)
  decide ((used.filter fun u => u.1 == g.1).length < 128) && !(used.contains g)

/-! ## One write-back (R98) -/

/-- What a write-back attempt comes to. -/
inductive WbRes where
  /-- The line is in storage. -/
  | made (s : State)
  /-- The line is discarded: no storage changes (R98, R99, R131, R158). -/
  | dropped (s : State)
  /-- It waits. -/
  | waits (s : State)

/-- Change the state of a result that stored the line. -/
def WbRes.onMade (g : State → State) : WbRes → WbRes
  | .made s => .made (g s)
  | x => x

/-- Count a verify mismatch against the unit to blame, if any (R124, R133). -/
def State.blame (s : State) (u : Option CodecUnit) : State := u.elim s s.verifyMismatch

/-- The lines of a page with one line merged in, as a rewrite stores them (R131, R132). -/
def State.mergedLines (s : State) (l : Nat) (w : WbLine) : List LineVal :=
  (List.range 64).map fun i =>
    let j := pageLine (pageKey l) + i
    let v := s.stored j
    if j = l then ⟨mergeLine v.data w.data w.mask, w.poison || (v.poison && w.mask != fullMask)⟩ else v

/-- Write a line in place (R98, R99). -/
def State.inPlace (s : State) (l : Nat) (w : WbLine) : State :=
  (s.storeLine l (LineVal.mk w.data w.poison) w.mask).dropLost l

/-- Store the page of `l` in a form that a write-back forces; with no frames it waits. -/
def State.force (s : State) (l : Nat) (w : WbLine) (c : Choice) : WbRes :=
  match s.storeForm (pageKey l) c.form (s.mergedLines l w) with
  | some s' => .made (s'.blame c.blame)
  | none => .waits s

/-- A write-back into a PACKED page (R131, R132). Where the compressor's output of the line's segment fails verification the segment would be stored raw, which fits only a segment of SEGV 4 (R124). -/
def State.wbPacked (s : State) (l : Nat) (w : WbLine) (b : Option VerifyBad) : WbRes :=
  let p := pageKey l
  let r := s.effRec p
  let z := segvAt r.segv (segOf l)
  if z = 7 then s.force l w Form.open.clean
  else if w.poison then s.force l w Form.open.clean
  else if z = 0 ∧ w.data &&& maskBits w.mask = 0 then .dropped s
  else if s.fitsInPlace r l w.data w.mask b then .made (((s.inPlace l w).count 7 z).blame (s.segBlame l b))
  else
    let c := s.rewriteForm p (s.mergedLines l w) b
    (s.force l w ⟨c.form, if c.blame.isSome then c.blame else s.segBlame l b⟩).onMade fun s => if (s.effRec p).state == .open then s.count 8 2 else s

/-- A write-back into a DEEP page: in place or to OPEN when raw-stored (R130, R278), else promotion (R137), whose decode enters the page buffer (R136). -/
def State.wbDeep (s : State) (l : Nat) (w : WbLine) (b : Option VerifyBad) : WbRes :=
  let p := pageKey l
  let r := s.effRec p
  if r.raw then
    if w.poison || s.rawOpens p then
      match (s.force l w Form.open.clean).onMade fun s => s.count 8 2 with
      | .made s => .made s
      | x => if w.poison then x else .made (s.inPlace l w)
    else .made (s.inPlace l w)
  else ((s.bufferPage p r.gen).force l w (s.promoteForm p (s.mergedLines l w) b)).onMade fun s => (s.count 7 8).count 8 3

/-- A write-back into a ZERO page (R158). -/
def State.wbZero (s : State) (l : Nat) (w : WbLine) (b : Option VerifyBad) : WbRes :=
  if w.data &&& maskBits w.mask = 0 ∧ !w.poison then .dropped s
  else (s.force l w (s.firstForm (pageKey l) (s.mergedLines l w) b)).onMade fun s => s.count 8 8

/-- A write-back into a page by the state found (R98). -/
def State.wbPage (s : State) (l : Nat) (w : WbLine) (b : Option VerifyBad) : WbRes :=
  let p := pageKey l
  let r := s.pageRec p
  match r.state with
  | .busy => .waits s
  | .zero => s.wbZero l w b
  | .open => .made (s.inPlace l w)
  | .packed => s.wbPacked l w b
  | .deep => s.wbDeep l w b
  | .poisoned => s.force l w Form.open.clean
  | .shared =>
    let x := s.shareRec r.loc
    let s := if x.state == .deep && !x.raw then s.bufferPage p r.gen else s
    s.force l w (s.cowForm p l (s.mergedLines l w) x w.data w.mask b)

/-- Does a write-back of line `l` read all of its page: for a rewrite, a promotion or a copy on write (R88, R130, R132, R137)? -/
def State.readsPage (s : State) (l : Nat) (w : WbLine) (b : Option VerifyBad) : Bool :=
  let r := s.pageRec (pageKey l)
  match r.state with
  | .packed => w.poison || segvAt r.segv (segOf l) == 7 || !s.fitsInPlace r l w.data w.mask b
  | .deep => !r.raw || w.poison || s.rawOpens (pageKey l)
  | .shared => true
  | _ => false

/-- Does it read the stored line `x` of its page: all that is stored for a rewrite, and the line's own segment for a recompression in place (R131)? -/
def State.wbReads (s : State) (l x : Nat) (w : WbLine) (b : Option VerifyBad) : Bool :=
  let r := s.pageRec (pageKey l)
  !(s.lineAt x).isEmpty &&
    (if r.state == .packed && segvAt r.segv (segOf l) == 0 && w.data &&& maskBits w.mask == 0 && !w.poison then false
     else s.readsPage l w b || (r.state == .packed && segOf x == segOf l))

/-- What a write-back meets as it reads storage (R145, R146, R279, R287): false when it must wait for a dictionary reload. -/
def State.wbMeets (s : State) (l : Nat) (w : WbLine) (run : CodecRun) : Bool × State :=
  let p := pageKey l
  let x := pageLine p + run.line.val
  if !s.wbReads l x w run.bad then (true, s)
  else
    let s := if s.readsPage l w run.bad then s.resolveLost (pageLine p) 64 else s
    match s.meet x (s.stored x) run.read with
    | (v, s) => (v.isSome, s)

/-- A write-back that meets a copy entry of its page sets DSC (R98, R160). -/
def State.setDsc (s : State) (p : Nat) : State :=
  if s.drl.copies.any (fun c => !c.share && c.page == p) then
    let r := s.pageRec p
    if r.state == .busy then s else s.setPage p { r with dsc := true }
  else s

/-- A write-back during an extent copy marks its page (R98, R162). -/
def State.markPage (s : State) (l : Nat) : State :=
  { s with drl := { s.drl with extCopies := updWhere (fun c => c.ext == extOf l) (fun c => { c with mask := c.mask ||| ((1 : BitVec 512) <<< pageOf l) }) s.drl.extCopies } }

/-- A write-back into a mapped extent: the page record, and the share record of a SHARED page, are looked up first. -/
def State.wbMapped (s : State) (l : Nat) (w : WbLine) (run : CodecRun) : WbRes :=
  let p := pageKey l
  let (hit, s) := s.lookSec (pageSector p)
  if !hit then .waits s
  else
    let r := s.pageRec p
    let (hit, s) := if r.state == .shared then s.lookSec (shareSector r.loc) else (true, s)
    if !hit then .waits s
    else
      let d := s.storageRec p
      if d.state == .deep && d.dict != 0 && (s.dict d.dict).reloading then .waits s
      else
        match s.wbMeets l w run with
        | (false, s) => .waits s
        | (true, s) => (s.wbPage l w run.bad).onMade fun s => s.setDsc p

/-- Do page copies in an extent pause write-backs: the hold of an extent copy's commit (R162)? -/
def State.extHeld (s : State) (e : Nat) : Bool := s.drl.extCopies.any fun c => c.ext == e && c.paused.isSome

/-- A write-back translated by its extent's state (R74, R98, R99). -/
def State.wbExt (s : State) (l : Nat) (w : WbLine) (run : CodecRun) : WbRes :=
  let e := extOf l
  if s.xlt.rebuilds.contains (e / 64) then .waits s
  else
    let (hit, s) := s.lookExt e
    if !hit then .waits s
    else
      match (s.extRec e).mode with
      | .untouched =>
        match s.firstTouch e with
        | none => .waits s.wantBlock
        | some s => (s.cacheSec (pageSector (pageKey l))).wbPage l w run.bad
      | .direct => if s.xlt.zeroing.has (pageKey l) then .waits s else .made (s.inPlace l w)
      | .mapped => s.wbMapped l w run
      | .poisoned =>
        if w.mask = fullMask then
          match s.recreate e with
          | none => .waits s.wantBlock
          | some s => (s.cacheSec (pageSector (pageKey l))).wbPage l w run.bad
        else .dropped s
      | .migrating =>
        if s.extHeld e then .waits s
        else
          (if (s.extView e).1 == .mapped then s.wbMapped l w run
           else if s.xlt.zeroing.has (pageKey l) then .waits s
           else .made (s.inPlace l w)).onMade fun s => s.markPage l

/-- Is a backing write-back of this line held at FLOOR (R117)? A segment whose compressor fails is rewritten, and that is a backing write-back too (R132). -/
def State.wbHeld (s : State) (w : WbLine) (b : Option VerifyBad := none) : Bool :=
  s.backingHeld (extOf w.line) && s.isBacking w.line w.data w.mask w.poison (s.segBlame w.line b).isSome

/-- Is an earlier read or write-back of the granules that line `l` stands in still unfinished: an open fill of them, or writes in the channels' queues (R97)? -/
def State.granulesBusy (s : State) (l : Nat) : Bool :=
  let mine := s.lineSas l
  !mine.isEmpty &&
    ((s.nc.fills.any fun f => f.value.isSome && (s.lineSas f.line).any mine.contains) ||
     s.nc.wbb.any fun w => w.issued && w.line != l && (s.lineSas w.line).any mine.contains)

/-- Is a place of line `l` one that a returning channel is resynchronizing (R283)? -/
def State.resyncBusy (s : State) (l : Nat) : Bool :=
  (s.writePlaces l).any fun q => (s.slotChan q.slot).any fun c => (s.chan c).resync && (s.chan c).resyncing.contains q.pos

/-- The writes of a write-back of line `l` made from `s`: one into the storage that its page already had wakes the ranks of the data and of the parity (R171) and writes its granules (R274 to R276); one that stored the page anew has written it. -/
def State.wroteBack (t s : State) (l : Nat) : State :=
  if (t.storageRec (pageKey l)).loc == (s.storageRec (pageKey l)).loc then (t.wakeWrite l).writeLine l else t

/-- Make one write-back: held at FLOOR, behind earlier accesses of its granules (R97), behind a resynchronization cursor's write of the line (R283) and a full stripe guard, or until the loss walk has moved its page (R284), else translated; a write-back into storage is a heat event (R148). -/
def State.writeBack (s : State) (w : WbLine) (run : CodecRun) : WbRes :=
  let l := w.line
  if s.wbHeld w run.bad || !s.domOn (48 + (Config.xltSlice (extOf l)).val) || s.granulesBusy l || s.resyncBusy l then .waits s
  else if s.lineLost l then .waits (s.walkLine l)
  else if (s.guardOf l).any fun g => !s.guardFree g then .waits s
  else (s.wbExt l w run).onMade fun t => (t.heat l).wroteBack s l

/-- Change the oldest write-back-buffer entry of a line that has not been issued. -/
def updWbb (l : Nat) (g : WbLine → WbLine) : List WbLine → List WbLine
  | [] => []
  | w :: ws => if w.line = l ∧ !w.issued then g w :: ws else w :: updWbb l g ws

/-- Take a write-back-buffer entry through its write-back: it is issued with its stripe-guard entry, freed when the line is discarded, or left to wait. -/
def State.issueWb (s : State) (w : WbLine) (run : CodecRun) : State :=
  let l := w.line
  let g := s.guardOf l
  match s.writeBack w run with
  | .made t =>
    let g' := if t.storageRec (pageKey l) == s.storageRec (pageKey l) then g else none
    State.noteDrains (l := l) { t with nc := { t.nc with wbb := updWbb l (fun w => { w with issued := true, held := false, guard := g' }) t.nc.wbb } }
  | .dropped t => { t with nc := { t.nc with wbb := dropFirst (fun w => w.line == l && !w.issued) t.nc.wbb } }
  | .waits t => { t with nc := { t.nc with wbb := updWbb l (fun w => { w with held := true }) t.nc.wbb } }

/-- WRITE_BACK (R97, R98): the oldest entry of the line that has not been issued is translated and written; one that must wait stays in its buffer. -/
def execWriteBack (line : BitVec 40) (run : CodecRun) (s : State) : Host.Outcome State Fault Refusal :=
  match (if s.cry.st == .error then none else s.nc.wbb.find? fun w => w.line == line.toNat && !w.issued) with
  | none => .next s
  | some w => .next (s.issueWb w run)

/-- WRITE_BACK_DONE (R274): the channels have issued the writes, and the buffer line frees with its stripe-guard entry. -/
def execWriteBackDone (line : BitVec 40) (s : State) : Host.Outcome State Fault Refusal :=
  .next (State.noteDrains { s with nc := { s.nc with wbb := dropFirst (fun w => w.line == line.toNat && w.issued) s.nc.wbb } } line.toNat)

/-- STRIPE_GUARD_RESUME (R277): a guard entry has cleared, and what waits for it on the line goes on. -/
def execStripeGuardResume (line : BitVec 40) (run : CodecRun) (s : State) : Host.Outcome State Fault Refusal :=
  let l := line.toNat
  if !(s.guardOf l).all s.guardFree then .next s
  else
    let ids := (s.rtk.filter fun r => r.line == l && r.phase == .guard).map (·.id)
    let s := ids.foldl (fun s id => s.serve id) s
    match s.nc.wbb.find? fun w => w.line == l && !w.issued && w.held with
    | none => .next s
    | some w => .next (s.issueWb w run)

/-! ## Pool lines (R117 to R119) -/

/-- POOL_HOLD_TIMEOUT (R118): Cmp is sent after 100 µs, and the line stays a pool line. -/
def execPoolHoldTimeout (entry : Nat) (s : State) : Host.Outcome State Fault Refusal :=
  match s.entry entry with
  | none => .next s
  | some r =>
    match r.phase with
    | .pool _ => .next (s.respond entry)
    | _ => .next s

/-- The next pool line to write back: firm lines first, then the order in which they became pool lines (R117). One whose fill is open waits for it. -/
def State.nextPool (s : State) : Option (Nat × NcLine) :=
  let ps := s.nc.lines.filter fun p => p.2.pool.isSome && !p.2.filling && !s.wbHeld ⟨p.1, p.2.data, p.2.mask, p.2.poison, false, false, none⟩
  ps.foldl (fun (b : Option (Nat × NcLine)) p =>
    match b with
    | none => some p
    | some q =>
      match p.2.pool, q.2.pool with
      | some (i, f), some (j, g) => if (f && !g) || (f == g && decide (i < j)) then some p else some q
      | _, _ => some q) none

/-- A pool line has been written back: it is clean and a pool line no more, the writes whose Cmp was held for it complete, and those that waited for the pool go on (R118, R119). -/
def State.poolDone (s : State) (l : Nat) (n : NcLine) : State :=
  let s := s.setNc l { n with dirty := false, pool := none }
  let held := (s.rtk.filter fun r => r.line == l && (match r.phase with | .pool _ => true | _ => false)).map (·.id)
  let s := held.foldl (fun s id => s.respond id) s
  let waits := (s.rtk.filter fun r => r.phase == .poolFull).map (·.id)
  waits.foldl (fun s id => s.serve id) s

/-- POOL_LINE_WRITE_BACK (R117, R118, R119): the line is written back and is a pool line no more; the writes whose Cmp was held for it complete, and writes that waited for the pool go on. -/
def execPoolLineWriteBack (run : CodecRun) (s : State) : Host.Outcome State Fault Refusal :=
  match s.nextPool with
  | none => .next s
  | some (l, n) =>
    match s.writeBack ⟨l, n.data, n.mask, n.poison, false, false, none⟩ run with
    | .waits t => .next t
    | .made t => .next (t.poolDone l n)
    | .dropped t => .next (t.poolDone l n)

/-! ## Map-area reads and bitmap rebuilds (R76, R79, R84, R91, R93, R100) -/

/-- Resume what waits in a phase, and open again the fills whose translation waited. -/
def State.resumePhase (s : State) (p : Phase) (f : Nat → Bool) : State :=
  let ids := (s.rtk.filter fun r => r.phase == p).map (·.id)
  let s := ids.foldl (fun s id => s.serve id) s
  let ls := (s.nc.fills.filter fun x => x.value.isNone && f x.line).map (·.line)
  ls.foldl (fun s l => s.reopenFill l) s

/-- Extent record of the bits of a map-area copy; none where it is bad (R77, R79). -/
def extOfBits (w : BitVec 128) : Option ExtRec :=
  let v := w.toNat % 2 ^ 64
  let f (lo n : Nat) := v / 2 ^ lo % 2 ^ n
  let mode : Option ExtMode := match f 61 3 with
    | 0 => some .untouched
    | 1 => some .direct
    | 2 => some .mapped
    | 3 => some .migrating
    | 4 => some .poisoned
    | _ => none
  if f 0 12 ≠ 0 then none
  else mode.map fun m => ⟨m, f 51 10, f 24 27, f 16 8, BitVec.ofNat 2 (f 14 2), BitVec.ofNat 2 (f 12 2)⟩

/-- State field of a page or share record. -/
def stateOfBits : Nat → Option PageState
  | 0 => some .zero
  | 1 => some .open
  | 2 => some .packed
  | 3 => some .deep
  | 4 => some .shared
  | 5 => some .poisoned
  | _ => none

/-- Page record of the bits of a map-area copy; none where it is bad (R81, R84). -/
def pageOfBits (w : BitVec 128) : Option PageRec :=
  let v := w.toNat
  let f (lo n : Nat) := v / 2 ^ lo % 2 ^ n
  if f 0 12 ≠ 0 then none
  else (stateOfBits (f 125 3)).map fun st =>
    let packed := st == .packed
    let deep := st == .deep
    ⟨st, f 87 38, if packed then BitVec.ofNat 48 (f 39 48) else 0, if deep then f 80 7 else 0, if deep then f 76 4 else 0,
      f 31 8, BitVec.ofNat 2 (f 29 2), (f 28 1) == 1, BitVec.ofNat 16 (f 12 16)⟩

/-- Share record of the bits of a map-area copy; none where it is bad (R86). -/
def shareOfBits (w : BitVec 128) : Option ShareRec :=
  let v := w.toNat
  let f (lo n : Nat) := v / 2 ^ lo % 2 ^ n
  if f 0 23 ≠ 0 then none
  else (stateOfBits (f 125 3)).map fun st =>
    let packed := st == .packed
    let deep := st == .deep
    ⟨st, f 87 38, if packed then BitVec.ofNat 48 (f 39 48) else 0, if deep then f 80 7 else 0, if deep then f 76 4 else 0, f 23 16, 0⟩

/-- What a copy gives: the record, as last written or by its bits. -/
def takeCopy {α : Type} (cur : α) (dec : BitVec 128 → Option α) : MapCopy → Option α
  | .current => some cur
  | .raw w => dec w
  | .uncorrectable => none

/-- Is GEN `a` newer than `b` (R91)? -/
def newerGen (a b : BitVec 16) : Bool := decide (1 ≤ (a - b).toNat) && decide ((a - b).toNat ≤ 32767)

/-- The record that two copies of a page record give (R91). -/
def pickPage (a b : Option PageRec) : Option PageRec :=
  match a, b with
  | some x, some y => if newerGen y.gen x.gen then some y else some x
  | some x, none => some x
  | none, y => y

/-- The first of two copies that is good (R79). -/
def pickFirst {α : Type} (a b : Option α) : Option α :=
  match a with
  | some x => some x
  | none => b

/-- Does a map-area read bear on line `l`? -/
def bearsOn (k : MapKey) (s : State) (l : Nat) : Bool :=
  match k with
  | .ext e => extOf l == e.toNat
  | .sector e i => pageSector (pageKey l) == e.toNat * 128 + i.val
  | .share i => (s.pageRec (pageKey l)).state == .shared && shareSector (s.pageRec (pageKey l)).loc == shareSector i.toNat

/-- A record now names another dictionary than the one it replaces (R143). -/
def State.moveDict (s : State) (a b : PageRec) : State :=
  let d (r : PageRec) := if r.state == .deep then r.dict else 0
  if d a = d b then s else (s.dictInc (d b)).dictDec (d a)

/-- Take the record that a map-area read gives, or the loss of both copies (R79, R84, R91, R100). -/
def State.takeRecord (s : State) (k : MapKey) (a b : MapCopy) : State :=
  match k with
  | .ext e =>
    let cur := s.extRec e.toNat
    match pickFirst (takeCopy cur extOfBits a) (takeCopy cur extOfBits b) with
    | some r => s.setExt e.toNat r
    | none => s.loseExtent e.toNat
  | .sector e i =>
    let p := e.toNat * 512 + 4 * i.val
    let cur := s.pageRec p
    match pickPage (takeCopy cur pageOfBits a) (takeCopy cur pageOfBits b) with
    | some r => (s.moveDict cur r).setPage p r
    | none => s.loseExtent e.toNat
  | .share i =>
    let j := i.toNat / 4 * 4
    let cur := s.shareRec j
    match pickFirst (takeCopy cur shareOfBits a) (takeCopy cur shareOfBits b) with
    | some r => (s.moveDict cur.asPage r.asPage).setShare j { r with poison := if r.state == cur.state && r.loc == cur.loc then cur.poison else 0 }
    | none => s.loseShares ((List.range 4).map fun n => j + n)

/-- Put what a map-area read fetched into its cache; none when every way is skipped (R93). -/
def State.fillKey (s : State) (k : MapKey) : Option State :=
  match k with
  | .ext e => s.fillExt e.toNat
  | .sector e i => s.fillSec (e.toNat * 128 + i.val)
  | .share i => s.fillSec (shareSector i.toNat)

/-- The extent that a map-area read counts for. -/
def keyExt : MapKey → Nat
  | .ext e => e.toNat
  | .sector e _ => e.toNat
  | .share i => i.toNat

/-- MAP_READ_RETURN (R93): the record fills its cache and what waited on it goes on; when every way is skipped it waits on. -/
def execMapReadReturn (k : MapKey) (primary secondary : MapCopy) (s : State) : Host.Outcome State Fault Refusal :=
  if !s.reading k then .next s
  else
    match (s.takeRecord k primary secondary).fillKey k with
    | none => .next ((s.takeRecord k primary secondary).countXlt (keyExt k) 4)
    | some s =>
      let s := { s with xlt := { s.xlt with reads := s.xlt.reads.filter (· != k) } }
      .next (s.resumePhase (.map k) (bearsOn k s))

/-- BITMAP_REBUILD_DONE (R76): each bit is set exactly when its record is not UNTOUCHED, and the requests that waited go on. -/
def execBitmapRebuildDone (word : BitVec 19) (s : State) : Host.Outcome State Fault Refusal :=
  let w := word.toNat
  if !s.xlt.rebuilds.contains w then .next s
  else
    let touched := (List.range 64).foldl (fun (t : Tbl Unit) i =>
      let e := 64 * w + i
      if (s.extRec e).mode == .untouched then t.del e else t.put e ()) s.xlt.touched
    let s := { s with xlt := { s.xlt with touched := touched, rebuilds := s.xlt.rebuilds.filter (· != w) } }
    .next ((s.flag Reg.XLT_STATUS.BMP_UE).resumePhase (.bitmap w) fun l => extOf l / 64 == w)

end Sys2Proof.Machine
end

