-- ==== Sys2Proof/Machine/Tiers.lean ====
section
/-! DEFINITION. The Derailleur: heat, the cold sweep, thresholds, candidates, page copies, extent copies, stripes and park sets (R148 to R172). -/

namespace Sys2Proof.Machine

/-! ## Energy tokens (R377) -/

/-- *Token costs*: die and DRAM tokens of one item of a kind, by the row order of *Order of gated work*. -/
def tokenCost : Nat → Nat × Nat
  | 0 => (5, 12)
  | 1 => (5, 12)
  | 2 => (9, 5)
  | 3 => (2, 5)
  | 4 => (1, 1)
  | 5 => (14, 5)
  | 6 => (6, 8)
  | 7 => (250, 0)
  | 8 => (14, 5)
  | _ => (3, 5)

/-- Is a kind codec work (R381)? -/
def codecKind (k : Nat) : Bool := k == 0 || k == 1 || k == 2 || k == 5 || k == 6 || k == 8

/-- Items of a kind that the pools can still pay for, at most `n`. -/
def State.affordable (s : State) (k n : Nat) : Nat :=
  let c := tokenCost k
  let a := min n (s.cad.dieLeft / c.1)
  if c.2 = 0 then a else min a (s.cad.dramLeft / c.2)

/-- Take the cost of `n` items of a kind from both pools, and count the die tokens used (R377, R415). -/
def State.spend (s : State) (k n : Nat) : State :=
  if n = 0 then s
  else
    let c := tokenCost k
    let s := { s with cad := { s.cad with dieLeft := s.cad.dieLeft - n * c.1, dramLeft := s.cad.dramLeft - n * c.2, codecWork := s.cad.codecWork || codecKind k } }
    s.count 15 (10 + k) (n * c.1)

/-- Pay for one item; none when a pool does not hold its cost. -/
def State.payFor (s : State) (k : Nat) : Option State := if s.affordable k 1 = 1 then some (s.spend k 1) else none

/-- An item of the Trimmer or the sweep that Cadence has paid for ahead starts. -/
def State.takeItem (s : State) (k : Nat) : Option State :=
  let n := s.cad.items.get 0 k
  if n = 0 then none
  else some (({ s with cad := { s.cad with items := s.cad.items.set 0 k (n - 1) } }).count 15 (10 + k) (tokenCost k).1)

/-- The kind of gated work that a page copy belongs to. -/
def copyGate : CopyKind → Nat
  | .toOpen => 1
  | .deepToPacked => 2
  | .pack => 6
  | .encode => 5
  | .compact => 9
  | .park => 10
  | .unpark => 10
  | .reencode => 8
  | .restore => 8

/-! ## Candidates (R151, R153) -/

/-- Offer a candidate: each kind has a queue of 4,096; one that finds it full is dropped and counted. -/
def State.offerCand (s : State) (w : Work) (x : Nat) : State :=
  if s.drl.cands.contains (w, x) || (w == .toDirect && s.drl.waiting.contains x) then s
  else if 4096 ≤ (s.drl.cands.filter fun c => c.1 == w).length then (s.flag Reg.DRL_STATUS.QUEUE_DROP).count 8 12
  else { s with drl := { s.drl with cands := s.drl.cands ++ [(w, x)] } }

def State.dirUp (s : State) : Nat := s.f Reg.DRL_THR_EXT.DIR_UP
def State.dirDown (s : State) : Nat := s.f Reg.DRL_THR_EXT.DIR_DOWN
def State.openUp (s : State) : Nat := s.f Reg.DRL_THR_PAGE.OPEN_UP
def State.openDownNow (s : State) : Nat := s.f Reg.DRL_THR_PAGE.OPEN_DOWN
def State.packUp (s : State) : Nat := s.f Reg.DRL_THR_PAGE.PACK_UP
def State.deepDown (s : State) : Nat := s.f Reg.DRL_THR_PAGE.DEEP_DOWN

/-- Does the data of a page lie in a park set? -/
def State.pageParked (s : State) (p : Nat) : Bool :=
  let r := s.storageRec p
  (r.state == .packed || r.state == .deep) && s.w != 0 && s.inPark (r.loc / s.w)

/-! ## Heat (R148, R149) -/

/-- Saturating increment of HEAT. -/
def heatUp (h : Nat) : Nat := min 255 (h + 1)

/-- The page part of a heat event: only a cached record takes it. A page that reaches its up threshold, or lies in a park set, becomes a candidate. -/
def State.heatPage (s : State) (p : Nat) : State :=
  if !s.pageCached p then s.countXlt (p / 512) 7
  else
    let r := s.pageRec p
    let h := heatUp r.heat
    let s := s.setPage p { r with heat := h }
    let s := if r.state == .deep && !r.raw && decide (s.packUp ≤ h) && r.pin != 3 then s.offerCand .fromDeep p else s
    let s := if (r.state == .packed || r.raw) && decide (s.openUp ≤ h) && r.pin != 2 && r.pin != 3 then s.offerCand .toOpen p else s
    if s.pageParked p then s.offerCand .gathering p else s

/-- The extent part of a heat event: the prescaler of the cache entry, and HEAT each time it wraps. -/
def State.heatExt (s : State) (e : Nat) : State :=
  match s.xlt.extCache.look e with
  | none => s.countXlt e 7
  | some c =>
    let s := { s with xlt := { s.xlt with extCache := s.xlt.extCache.put e { c with prescaler := c.prescaler + 1 } } }
    if c.prescaler + 1 = 0 then
      let r := s.extRec e
      let h := heatUp r.heat
      let s := s.setExt e { r with heat := h }
      if r.mode == .mapped && decide (s.dirUp ≤ h) && r.pin != 2 then s.offerCand .toDirect e else s
    else s

/-- HEAT_EVENT (R149): the oldest waiting heat event is applied. -/
def execHeatEvent (s : State) : Host.Outcome State Fault Refusal :=
  match s.nc.heatQ with
  | [] => .next s
  | l :: q =>
    let e := extOf l
    let s := { s with nc := { s.nc with heatQ := q } }
    let s := s.countXlt e 6
    let m := (s.extRec e).mode
    let s := if (s.extView e).1 == .mapped then s.heatPage (pageKey l) else s
    .next (if m == .untouched || m == .poisoned then s else s.heatExt e)

/-! ## Thresholds and park sets (R154, R155, R169) -/

/-- The level's offsets to OPEN_DOWN and DEEP_DOWN (R155). -/
def levelOffsets : Nat → Nat × Nat
  | 0 => (0, 0)
  | 1 => (2, 2)
  | 2 => (8, 6)
  | _ => (16, 10)

/-- Write the thresholds in use, level offsets included; PACK_UP is DEEP_DOWN + 4 (R153, R155). -/
def State.applyOffsets (s : State) : State :=
  let o := levelOffsets s.level
  let down := min (s.drl.openDown + o.1) (s.openUp - 8)
  ((s.setF Reg.DRL_THR_PAGE.OPEN_DOWN down).setF Reg.DRL_THR_PAGE.DEEP_DOWN o.2).setF Reg.DRL_THR_PAGE.PACK_UP (o.2 + 4)

/-- Adjust a threshold pair against a fill of `num / den` and a target in percent (R154). -/
def adjust (up down num den tgt : Nat) : Nat × Nat :=
  if den = 0 then (up, down)
  else if tgt * den < num * 100 then
    let u := clamp 8 255 (up + 4)
    (u, clamp 0 (u - 8) (down + 4))
  else if num * 100 < (tgt - 5) * den then
    let u := clamp 8 255 (up - 4)
    (u, clamp 0 (u - 8) (down - 4))
  else (up, down)

/-- LOCs of pages whose frames are cold: PACKED or DEEP with HEAT 0. -/
def State.coldLocs (s : State) : List Nat :=
  (s.xlt.page.filter fun q => (q.2.state == .packed || q.2.state == .deep) && q.2.heat == 0).map fun q => q.2.loc

/-- Frames of a rank set that are live and not cold. -/
def State.warmFrames (s : State) (j : Nat) : Nat :=
  let cold := s.coldLocs
  ((s.cap.runs.filter fun r => s.w != 0 && s.rankSetOf (s.frameBase + r.1 / s.w) == j && !cold.contains r.1).map fun r => r.2.len).sum

/-- Live frames of a rank set. -/
def State.liveFrames (s : State) (j : Nat) : Nat :=
  ((s.cap.runs.filter fun r => s.w != 0 && s.rankSetOf (s.frameBase + r.1 / s.w) == j).map fun r => r.2.len).sum

/-- Rank sets that hold part of the record zone, the first 1 TiB of the frame area (R80), or are rank set 0 (R272). -/
def State.neverPark (s : State) (j : Nat) : Bool :=
  j == 0 || s.w == 0 || decide (j ≤ s.rankSetOf (s.frameBase + (2 ^ 31 - 1) / s.w))

/-- Insert in order of a key. -/
def insertBy (k : Nat → Nat) (x : Nat) : List Nat → List Nat
  | [] => [x]
  | y :: ys => if k x < k y then x :: y :: ys else y :: insertBy k x ys

/-- Sort by a key, keeping the order of equals. -/
def sortBy (k : Nat → Nat) (l : List Nat) : List Nat := l.foldl (fun a x => insertBy k x a) []

/-- Designate up to PARK_MAX park sets: those with the fewest frames that are not cold; with PARK_EN 0 the designations are dropped (R169). Sets with only free or cold frames are released to their channels (R170). -/
def State.planPark (s : State) : State :=
  let n := s.cap.rankSets
  let maxSets := min (s.f Reg.DRL_PARK.PARK_MAX) (n - 1)
  let cands := (List.range n).filter fun j => !s.neverPark j
  let picked := if s.fb Reg.DRL_CFG.PARK_EN then (sortBy s.warmFrames cands).take maxSets else []
  let bits := picked.foldl (fun b j => b + 2 ^ j) 0
  let s := s.setF Reg.DRL_PARK.DESIGNATED bits
  let rel := (picked.filter fun j => s.warmFrames j == 0).foldl (fun (b : BitVec 8) j => b ||| (1 <<< j)) 0
  { s with drl := { s.drl with released := rel } }

/-- Release a park set whose frames are all free or cold (R170). -/
def State.releasePark (s : State) (j : Nat) : State :=
  if s.fbit Reg.DRL_PARK.DESIGNATED j && s.warmFrames j == 0 then { s with drl := { s.drl with released := s.drl.released ||| (1 <<< j) } } else s

/-- HEAT_EPOCH (R94, R154, R169): cached HEAT is halved, the threshold pairs are adjusted, and park sets are planned. -/
def execHeatEpoch (s : State) : Host.Outcome State Fault Refusal :=
  let s := s.xlt.extCache.foldl (fun (s : State) c => s.setExt c.1 { s.extRec c.1 with heat := (s.extRec c.1).heat / 2 }) s
  let s := (s.xlt.prCache.filter fun c => decide (c.1 < 2 ^ 48)).foldl (fun (s : State) c =>
    (List.range 4).foldl (fun (s : State) i =>
      let p := 4 * c.1 + i
      s.setPage p { s.pageRec p with heat := (s.pageRec p).heat / 2 }) s) s
  let s := { s with drl := { s.drl with epoch := s.drl.epoch + 1 } }
  let d := adjust s.dirUp s.dirDown s.cap.slots.length s.dirSlots (clamp 10 100 (s.f Reg.DRL_TARGET.DIR_TGT))
  let o := adjust s.openUp s.drl.openDown s.openUsed s.openBudget (clamp 10 100 (s.f Reg.DRL_TARGET.OPEN_TGT))
  let s := ((s.setF Reg.DRL_THR_EXT.DIR_UP d.1).setF Reg.DRL_THR_EXT.DIR_DOWN d.2).setF Reg.DRL_THR_PAGE.OPEN_UP o.1
  let again := s.drl.waiting
  let s := { s with drl := { s.drl with openDown := o.2, waiting := [] } }
  .next (again.foldl (fun (s : State) e => s.offerCand .toDirect e) s.applyOffsets.planPark)

/-! ## The cold sweep (R151, R152, R287) -/

/-- Mark the run at frame `n` seen. -/
def State.see (s : State) (n : Nat) : State :=
  match s.cap.runs.look n with
  | none => s
  | some r => { s with cap := { s.cap with runs := s.cap.runs.put n { r with seen := true } } }

/-- HEAT of a record that is not cached, aged by the epochs since its last visit, at most 8 (R151). -/
def agedHeat (h since : Nat) : Nat := h / 2 ^ min since 8

/-- The candidate that stands for the stored copy behind share record `i`. -/
def shareKey (i : Nat) : Nat := 2 ^ 40 + i

/-- Does a stored form depend on the last decompressor or the last engine, which is held in service (R147)? -/
def State.lastHeld (s : State) (r : PageRec) : Bool :=
  (r.state == .packed && s.cdc.lastDecomp) || (r.state == .deep && !r.raw && s.lastEngineHeld)

/-- Does a stored form name a RETIRING dictionary (R144)? -/
def State.retiringForm (s : State) (r : PageRec) : Bool := r.state == .deep && r.dict != 0 && (s.dict r.dict).state == .retiring

/-- Candidates that a visited page offers (R156, R163, R170, R144, R147). -/
def State.pageCands (s : State) (p : Nat) (cached : Bool) : State :=
  let r := s.pageRec p
  let deep := r.state == .deep && !r.raw
  let offer (b : Bool) (w : Work) (s : State) : State := if b then s.offerCand w p else s
  let s := offer ((r.state == .packed || r.raw) && (decide (s.openUp ≤ r.heat) || r.raw || r.pin == 1) && r.pin != 2 && r.pin != 3) .toOpen s
  let s := offer (deep && ((decide (s.packUp ≤ r.heat) && r.pin != 3) || r.pin == 1)) .fromDeep s
  let s := offer (r.state == .open && decide (r.heat ≤ s.openDownNow) && !cached && r.pin != 1) .packing s
  let s := offer (((r.state == .packed || r.state == .open) && decide (r.heat ≤ s.deepDown) && !cached && r.pin != 1 && r.pin != 2) ||
    (r.pin == 3 && (r.state == .packed || r.state == .open))) .deepEncoding s
  let s := offer (s.retiringForm r || s.lastHeld r) .reencode s
  let x := (s.shareRec r.loc).asPage
  let s := if r.state == .shared && (s.retiringForm x || s.lastHeld x) then s.offerCand .reencode (shareKey r.loc) else s
  offer ((r.state == .packed || r.state == .deep) && !s.pageParked p && r.heat == 0 && !cached && r.pin != 1) .gathering s

/-- A visit to the record of page `p`. -/
def State.visitPage (s : State) (p : Nat) : State :=
  let cached := s.pageCached p
  let r := s.pageRec p
  let s := if cached then s else s.setPage p { r with heat := agedHeat r.heat (s.drl.epoch - s.xlt.visitPage.get 0 p) }
  let s := { s with xlt := { s.xlt with visitPage := s.xlt.visitPage.set 0 p s.drl.epoch } }
  let e := s.effRec p
  let s := match e.state with
    | .shared => (if (s.shareRec e.loc).asPage.frames = 0 then s else s.see (s.shareRec e.loc).loc).see (e.loc / 512 * 16)
    | _ => if e.frames = 0 then s else s.see e.loc
  let s := s.resolveLost (pageLine p) 64
  let s := if s.drl.leave.contains p || (s.extRec (p / 512)).mode != .mapped then s else s.pageCands p cached
  if s.w = 0 then s else s.releasePark (s.rankSetOf (s.frameBase + e.loc / s.w))

/-- A visit to the record of extent `e`; a MIGRATING record names its source (R78). -/
def State.visitExt (s : State) (e : Nat) : State :=
  let cached := s.xlt.extCache.has e
  let r := s.extRec e
  let s := if cached || r.mode == .untouched then s else s.setExt e { r with heat := agedHeat r.heat (s.drl.epoch - s.xlt.visitExt.get 0 e) }
  let s := { s with xlt := { s.xlt with visitExt := s.xlt.visitExt.set 0 e s.drl.epoch } }
  let r := s.extRec e
  match r.mode with
  | .direct =>
    let s := s.resolveLost (extLine e) 32768
    if decide (r.heat ≤ s.dirDown) && r.pin != 1 then s.offerCand .demote e else s
  | .mapped =>
    let s := s.see (r.loc * 16)
    if (decide (s.dirUp ≤ r.heat) && r.pin != 2) || r.pin == 1 then s.offerCand .toDirect e else s
  | .migrating => match s.extView e with
    | (.mapped, loc) => s.see (loc * 16)
    | (_, _) => s.resolveLost (extLine e) 32768
  | _ => s

/-- The next visit begins a 64 B sector of records, and is paid for (R377); while the lost-line table is full the sweep is urgent work (R287). -/
def State.sweepPaid (s : State) : Option State :=
  let first := match s.drl.sweepPage with
    | none => s.drl.sweepExt % 4 == 0
    | some i => i % 4 == 0
  if !first || decide (1024 ≤ s.trm.lost.length) then some s else s.takeItem 4

/-- COLD_SWEEP_VISIT (R151): the next record in ascending order is visited, as far as Cadence grants tokens. -/
def execColdSweepVisit (s : State) : Host.Outcome State Fault Refusal :=
  let e := s.drl.sweepExt
  if decide (s.extents ≤ e) || s.cry.st == .error then .next s
  else match s.sweepPaid with
  | none => .next s
  | some s =>
    match s.drl.sweepPage with
    | none =>
      let s := s.visitExt e
      if (s.extView e).1 == .mapped then .next { s with drl := { s.drl with sweepPage := some 0 } }
      else .next { s with drl := { s.drl with sweepExt := e + 1 } }
    | some i =>
      let s := if (s.extView e).1 == .mapped then s.visitPage (512 * e + i) else s
      if i = 511 then .next { s with drl := { s.drl with sweepExt := e + 1, sweepPage := none } }
      else .next { s with drl := { s.drl with sweepPage := some (i + 1) } }

/-- SWEEP_LAP_END (R152): frames live but not seen are freed, and the next lap begins with nothing seen. A copy's destination, allocated for it, stays. -/
def execSweepLapEnd (s : State) : Host.Outcome State Fault Refusal :=
  if s.drl.sweepExt < s.extents then .next s
  else
    let keep := s.drl.copies.map (·.dst) ++ s.drl.extCopies.flatMap fun c => c.dst * 16 :: c.recs.map (·.2.loc)
    let gone := s.cap.runs.filter fun r => !r.2.seen && !keep.contains r.1
    let s := gone.foldl (fun (s : State) r => (s.freeRun r.1).count 8 14 r.2.len) s
    let s := s.setF Reg.DRL_SWEEP.LAST_LAP (min ((s.now - s.drl.lapStart) / 1000000000) 0xFFFF)
    .next { s with
      cap := { s.cap with runs := s.cap.runs.mapVals fun _ r => { r with seen := false } }
      drl := { s.drl with sweepExt := 0, sweepPage := none, lapStart := s.now, leave := [] } }

/-- Does compaction run ahead of every other Derailleur work: it is urgent, or a block waits for room in the record zone (R80, R168)? -/
def State.compFirst (s : State) : Bool := s.compUrgent || s.drl.blockWanted

/-! ## Page copies (R160, R161) -/

/-- The counter of a copy's transition (R156, R415). -/
def copyRow : CopyKind → Nat
  | .toOpen => 2
  | .deepToPacked => 3
  | .pack => 4
  | .encode => 5
  | .compact => 6
  | .park => 6
  | .unpark => 6
  | .reencode => 7
  | .restore => 2

/-- The poison bits of a page's lines. -/
def poisonBits (ls : List LineVal) : BitVec 64 :=
  (List.range 64).foldl (fun (b : BitVec 64) i => if ((ls[i]?).map (·.poison)).getD false then b ||| (1 <<< i) else b) 0

/-- The lines that a copy has read. -/
def PageCopy.lines (c : PageCopy) : List LineVal :=
  (List.range 64).map fun i => LineVal.mk (Memory.readLine c.snap (pageLine c.page + i)) (c.snapPoison.getLsbD i)

/-- Does an encoding meet R134: at least one frame fewer than the page's PACKED form, or keep-deep? -/
def State.deepWorth (s : State) (r : PageRec) (ls : List LineVal) (g : Nat) (raw : Option Nat) : Bool :=
  let t := (packSizes ls raw).sum
  let pf := if r.state == .packed then packedFrames r.segv
    else if decide (t ≤ 56) && s.anyCompressor then ceilDiv t 8 else 8
  decide (g ≤ 56) && (r.pin == 3 || decide (ceilDiv g 8 + 1 ≤ pf))

/-- Is a line of the page poisoned in the near cache or its write-back buffer (R127)? -/
def State.nearPoison (s : State) (p : Nat) : Bool :=
  s.nc.lines.any (fun q => pageKey q.1 == p && q.2.poison) || s.nc.wbb.any fun w => pageKey w.line == p && w.poison

/-- Room in the mirror allowance for a copy; `own`: it already has its slot (R128). -/
def State.roomFor (s : State) (own : Bool) : Bool := s.lean || decide (s.openUsed < s.openBudget + own.toNat)

/-- The form of a page that needs a new location and does not pack (R127): a page pinned keep-packed or keep-deep is not opened (R163). -/
def State.unpacked (s : State) (r : PageRec) (own : Bool) : Form := if r.pin != 2 && r.pin != 3 && s.roomFor own then .open else .raw

/-- What a page copy works on: the record of the stored form, the key slot, whether the near cache holds poison of the page, the lines read, whether its destination is a page slot, and the segment left raw (R124). -/
structure CopySrc where
  r : PageRec
  key : Nat
  near : Bool
  ls : List LineVal
  own : Bool
  raw : Option Nat

/-- The form that a copy of a kind gives for the lines read; none where the transition is refused (R127, R130, R134, R144, R147). -/
def State.copyForm (s : State) (k : CopyKind) (c : CopySrc) : Option Form :=
  let poison := anyPoison c.ls || c.near
  match k with
  | .toOpen => if s.roomFor c.own then some .open else none
  | .deepToPacked =>
    if poison || !s.mayPack then none
    else some ((packForm c.ls c.raw).getD (s.unpacked c.r c.own))
  | .pack => if poison then none else s.packWith c.ls c.raw
  | .encode =>
    if poison then none
    else if allZero c.ls then some .zero
    else if s.lastEngineHeld then (if c.r.pin == 3 then some .raw else none)
    else if !s.mayEncode then none
    else
      let (g, d) := s.encode c.key c.ls
      if s.deepWorth c.r c.ls g c.raw then some (.deep g d) else if c.r.pin == 3 then some .raw else none
  | .reencode =>
    if poison then none
    else
      let (g, d) := s.encode c.key c.ls
      if s.mayEncode && s.deepWorth c.r c.ls g c.raw then some (.deep g d)
      else if c.r.pin == 3 then some .raw
      else some ((s.packWith c.ls c.raw).getD (s.unpacked c.r c.own))
  | .restore => some (if anyPoison c.ls then .open else s.unpacked c.r c.own)
  | _ =>
    match c.r.state with
    | .packed => some (packedAs c.r.segv)
    | .deep => some (if c.r.raw then .raw else .deep c.r.gcount c.r.dict)
    | _ => none

/-- The unit whose failed verify pass a copy's end reports: an engine where the copy encodes, else a compressor where it packs (R124, R133). -/
def State.copyBlame (s : State) (k : CopyKind) (b : Option VerifyBad) : Option CodecUnit :=
  match k with
  | .encode => if s.mayEncode then s.engineBad b else none
  | .reencode => if s.mayEncode then s.engineBad b else s.packBlame b
  | .pack => s.packBlame b
  | .deepToPacked => s.packBlame b
  | _ => none

/-- Frames of a form's destination: page slots are 8. -/
def Form.frames : Form → Nat
  | .open => 8
  | f => f.stripeFrames

/-- First frame past the record zone, where the frame area reaches that far (R80). -/
def State.zoneEnd (s : State) : Nat := if 2 ^ 31 < s.cap.frames then 2 ^ 31 else 0

/-- Allocate a copy's destination: a page slot, or frames at the warm or cold head; only compaction takes the last 256 stripes, and while a block finds no room it moves pages out of the record zone (R80, R166, R168, R170). -/
def State.allocCopy (s : State) (k : CopyKind) (cold : Bool) (f : Form) : Option (Nat × State) :=
  match f with
  | .zero => some (0, s)
  | .open => s.alloc .slot 8
  | f => s.allocHead cold (k == .compact) f.stripeFrames (if k == .compact && s.drl.blockWanted then s.zoneEnd else 0)

/-- The stripes that hold a run. -/
def State.stripesOf (s : State) (n len : Nat) : List Nat :=
  let qs := s.runPositions n len
  (s.drl.stripes.filter fun t => qs.contains t.pos).map (·.id)

/-- What a copy of a page works on. -/
def State.pageSrc (s : State) (p : Nat) (ls : List LineVal) (own : Bool) (raw : Option Nat) : CopySrc :=
  ⟨s.effRec p, s.keyOf p, s.nearPoison p, ls, own, raw⟩

/-- The first page that names share record `i`. -/
def State.sharer (s : State) (i : Nat) : Option Nat := (s.xlt.page.find? fun q => q.2.state == .shared && q.2.loc == i).map (·.1)

/-- The lines of the stored copy behind share record `i`. -/
def State.shareLines (s : State) (i : Nat) : List LineVal := (s.sharer i).elim [] s.pageLines

/-- What a copy of a share-stored page works on. -/
def State.shareSrc (s : State) (i : Nat) (own : Bool) (raw : Option Nat) : CopySrc :=
  ⟨(s.shareRec i).asPage, (s.sharer i).elim 0 s.keyOf, false, s.shareLines i, own, raw⟩

/-- Is a copy to be placed at the cold head: one to a park set, or the compaction of a page of one (R170)? -/
def State.toCold (s : State) (k : CopyKind) (loc : Nat) : Bool := k == .park || (k == .compact && s.w != 0 && s.inPark (loc / s.w))

/-- Open a copy entry: the destination is allocated, and the source is read (R160). -/
def State.openCopy (s : State) (k : CopyKind) (p : Nat) (share : Bool) (src : CopySrc) : Option State :=
  match s.copyForm k src with
  | none => none
  | some f =>
    (s.allocCopy k (s.toCold k src.r.loc) f).map fun a =>
      let s := a.2
      let c : PageCopy := ⟨s.drl.nextCopy, p, share, src.r.loc, k, src.r.gen, if share then [] else Memory.slice s.mem (4096 * p) 4096, poisonBits src.ls, a.1, f.frames, 0, none,
        if f.stripeFrames = 0 then [] else s.stripesOf a.1 f.stripeFrames, none⟩
      State.enginePage { s with drl := { s.drl with copies := s.drl.copies ++ [c], nextCopy := s.drl.nextCopy + 1 } } src.r false

/-- Start a page copy: GEN is read, DSC cleared and the destination allocated (R160); none when it cannot start, and while the page is left alone (R161). -/
def State.startCopy (s : State) (k : CopyKind) (p : Nat) : Option State :=
  let r := s.pageRec p
  if (s.extRec (p / 512)).mode != .mapped || r.state == .busy || s.drl.leave.contains p || s.drl.copies.any (fun c => !c.share && c.page == p) || decide (256 ≤ s.drl.copies.length) then none
  else (s.openCopy k p false (s.pageSrc p (s.pageLines p) false none)).map fun s => s.setPage p { s.pageRec p with dsc := false }

/-- Start the copy of a share-stored page: its frames are moved, or it is re-encoded or stored again (R144, R147, R156). -/
def State.startShareCopy (s : State) (k : CopyKind) (i : Nat) : Option State :=
  if (s.sharer i).isNone || s.drl.copies.any (fun c => c.share && c.page == i) || decide (256 ≤ s.drl.copies.length) then none
  else s.openCopy k i true (s.shareSrc i false none)

/-- Close a copy entry. -/
def State.closeCopy (s : State) (c : PageCopy) : State := { s with drl := { s.drl with copies := s.drl.copies.filter (·.id != c.id) } }

/-- Free a copy's destination. -/
def State.freeDst (s : State) (c : PageCopy) : State := if c.dstLen = 0 then s else s.freeRun c.dst

/-- Discard a copy: its destination is freed, and a BUSY page gets its record back (R90, R160, R161). -/
def State.discardCopy (s : State) (c : PageCopy) : State :=
  let s := (s.closeCopy c).freeDst c
  if c.share then s else s.unbusyPage c.page

/-- Read the source of a copy again (R160 steps 2 and 4). -/
def State.recopy (s : State) (c : PageCopy) (g : PageCopy → PageCopy) : State :=
  let snap := Memory.slice s.mem (4096 * c.page) 4096
  let bits := poisonBits (s.pageLines c.page)
  State.enginePage { s with drl := { s.drl with copies := updWhere (·.id == c.id) (fun c => g { c with snap := snap, snapPoison := bits, raw := none }) s.drl.copies } } (s.storageRec c.page) false

/-- Set a page BUSY with its record in the shadow (R84). -/
def State.setBusyPage (s : State) (p : Nat) : State :=
  let r := s.pageRec p
  { s.setPage p { r with state := .busy } with xlt := { (s.setPage p { r with state := .busy }).xlt with shadow := s.xlt.shadow.set PageRec.zero p { r with dsc := false } } }

/-- Is a copy's destination a page slot? -/
def State.ownSlot (s : State) (c : PageCopy) : Bool := c.dstLen != 0 && (s.cap.runs.look c.dst).any (·.kind == .slot)

/-- Give a copy another destination, for a form that does not fit the one it has; with none it is discarded. -/
def State.moveDst (s : State) (c : PageCopy) (f : Form) : State :=
  match (s.freeDst c).allocCopy c.kind (s.toCold c.kind c.srcLoc) f with
  | none => s.discardCopy c
  | some a =>
    let st := if f.stripeFrames = 0 then [] else a.2.stripesOf a.1 f.stripeFrames
    { a.2 with drl := { a.2.drl with copies := updWhere (·.id == c.id) (fun _ => { c with dst := a.1, dstLen := f.frames, stripes := st }) a.2.drl.copies } }

/-- Count the stripes that a compaction's commit has freed (R415). -/
def State.countFreed (t s : State) (c : PageCopy) : State :=
  let w (s : State) : Nat := (s.drl.stripes.filter (·.written)).length
  if c.kind == .compact && decide (w t < w s) then t.count 8 13 (w s - w t) else t

/-- The commit of a page copy in a form that fits its destination (R160). -/
def State.commitCopy (s : State) (c : PageCopy) (f : Form) : State :=
  let s0 := s
  let s := (s.closeCopy c).enginePage (f.asRec c.dst 0) true
  let o := s.effRec c.page
  let s := (s.commitForm c.page f c.dst c.lines).countFreed s0 c
  let s := if o.state == .deep && c.kind == .deepToPacked then s.count 7 8 else s
  s.count 8 (copyRow c.kind)

/-- The commit of a copy of a share-stored page: the share record names the new frames (R156), and dictionary counts follow (R143). -/
def State.commitShareCopy (s : State) (c : PageCopy) (f : Form) : State :=
  let x := s.shareRec c.page
  let r := f.asRec c.dst 0
  let s := if r.state == .deep then s.dictInc r.dict else s
  let s := ((((s.closeCopy c).enginePage r true).releaseForm x.asPage).countFreed s c).setShare c.page ⟨r.state, r.loc, r.segv, r.gcount, r.dict, x.refs, if r.state == .packed then 0 else x.poison⟩
  s.count 8 (copyRow c.kind)

/-- The end of a copy whose check holds: it commits in the form its lines give. An engine's verify mismatch keeps the page's form (R133); a compressor's leaves its segment raw (R124), and a form that no longer fits takes another destination, except in a held attempt, which holds what it needs (R62, R161). -/
def State.finishCopy (s : State) (c : PageCopy) (b : Option VerifyBad) : State :=
  let blame := s.copyBlame c.kind b
  let s := s.blame blame
  match blame with
  | some (.engine _) => s.discardCopy c
  | _ =>
    let c := if blame.isSome then { c with raw := b.map (·.seg.val) } else c
    let own := s.ownSlot c
    match s.copyForm c.kind (if c.share then s.shareSrc c.page own c.raw else s.pageSrc c.page c.lines own c.raw) with
    | none => s.discardCopy c
    | some f =>
      if f.frames = c.dstLen ∧ (f == .open) = own then (if c.share then s.commitShareCopy c f else s.commitCopy c f)
      else if c.held.isSome then s.discardCopy c
      else s.moveDst c f

/-- What the read of a copy's source meets (R145, R146, R279, R287): none while it waits for a dictionary reload. -/
def State.copyMeets (s : State) (p : Nat) (run : CodecRun) : Option State :=
  let x := pageLine p + run.line.val
  let s := s.resolveLost (pageLine p) 64
  if (s.lineAt x).isEmpty then some s
  else match s.meet x (s.stored x) run.read with
    | (none, _) => none
    | (some _, s) => some s

/-- Is the stored form of a share-stored page still the one that a copy has read? -/
def State.shareSame (s : State) (c : PageCopy) (o : ShareRec) : Bool :=
  let x := s.shareRec c.page
  x.refs != 0 && x.loc == c.srcLoc && { x with refs := o.refs } == o

/-- The entry of an engine's operation in the tracker is lost: the copy is abandoned, and its frames wait for the frame-area sweep (R290). -/
def State.loseCopy (s : State) (c : PageCopy) : State :=
  let s := (s.closeCopy c).sramRecord 3 0xFF (pageLine (if c.share then (s.sharer c.page).getD 0 else c.page)) false
  let s := if c.dstLen = 0 then s else s.orphanRun c.dst
  if c.share then s else s.unbusyPage c.page

/-- PAGE_COPY_END (R160, R161): once the stripes that hold its destination are written, the copy commits, repeats, becomes a held attempt once that is paid for (R377), or is discarded. What its reads lost is lost to the page, and the copy with it (R146, R279). In the error state no engine works (R318). -/
def execPageCopyEnd (copy : Nat) (run : CodecRun) (entryLost : Bool) (s : State) : Host.Outcome State Fault Refusal :=
  match s.drl.copies.find? (·.id == copy) with
  | none => .next s
  | some c =>
    if entryLost then .next (s.loseCopy c)
    else if (s.drl.stripes.any fun t => c.stripes.contains t.id && !t.written) || s.cry.st == .error then .next s
    else
      let p := if c.share then (s.sharer c.page).getD 0 else c.page
      let was := s.pageLines p
      let x := s.shareRec c.page
      match s.copyMeets p run with
      | none => .next s
      | some s =>
        if poisonBits (s.pageLines p) ≠ poisonBits was then .next (s.discardCopy c)
        else if c.share then
          if s.shareSame c x then .next (s.finishCopy c run.bad) else .next (s.discardCopy c)
        else
          let r := s.effRec c.page
          if r.gen ≠ c.gen ∨ (s.extRec (c.page / 512)).mode ≠ .mapped then .next (s.discardCopy c)
          else if (s.pageRec c.page).state == .busy || !(s.pageRec c.page).dsc then .next (s.finishCopy c run.bad)
          else
            let s := s.setPage c.page { s.pageRec c.page with dsc := false }
            if c.repeats < 3 then .next ((s.recopy c fun c => { c with repeats := c.repeats + 1 }).count 8 9)
            else if !s.pageCached c.page then .next (s.setPage c.page { s.pageRec c.page with dsc := true })
            else match (if c.kind == .compact && s.compFirst then some s else s.payFor (copyGate c.kind)) with
              | none => .next (s.setPage c.page { s.pageRec c.page with dsc := true })
              | some s => .next ((((s.setBusyPage c.page).recopy c fun c => { c with held := some s.now })).count 8 10)

/-- HELD_ATTEMPT_TIMEOUT (R161): the attempt is abandoned, and the page left alone for the rest of the lap. -/
def execHeldAttemptTimeout (copy : Nat) (s : State) : Host.Outcome State Fault Refusal :=
  match s.drl.copies.find? (·.id == copy) with
  | none => .next s
  | some c =>
    if c.held.isNone then .next s
    else
      let s := ((s.discardCopy c).flag Reg.DRL_STATUS.ABANDON).count 8 11
      .next { s with drl := { s.drl with leave := s.drl.leave ++ [c.page] } }

/-- STRIPE_CLOSE_TIMEOUT (R166): the stripe is written with its unused frames left free. -/
def execStripeCloseTimeout (stripe : Nat) (s : State) : Host.Outcome State Fault Refusal :=
  match s.drl.stripes.find? (·.id == stripe) with
  | none => .next s
  | some t => if t.written then .next s else .next (s.closeStripe t.pos)

/-! ## Extent copies (R162, R308) -/

/-- Poisoned lines of an extent as storage gives them. -/
def State.extPoison (s : State) (e : Nat) : List Nat := ((List.range 32768).map fun i => extLine e + i).filter fun l => (s.stored l).poison

/-- Does the extent hold no copy, page copies included, so that one may start (R159, R162)? -/
def State.extFree (s : State) (e : Nat) : Bool :=
  decide (s.drl.extCopies.length < 16) && !(s.drl.extCopies.any (·.ext == e)) && !(s.drl.copies.any fun c => !c.share && c.page / 512 == e)

/-- The destination of an extent copy: a direct slot by its index, or a block. -/
def State.extDst (s : State) (k : ExtCopyKind) (m : ExtMode) : Option (Nat × State) :=
  let slot := s.freeSlot.map fun i => (i, { s with cap := { s.cap with slots := s.cap.slots.put i () } })
  let block := (s.alloc .block 16).map fun a => (a.1 / 16, a.2)
  match k with
  | .promote => slot
  | .demote => block
  | .rekey _ => if m == .direct then slot else block

/-- The form of a page that a demotion stores anew: packed under R127, otherwise OPEN or raw-stored. -/
def State.freshForm (s : State) (ls : List LineVal) (raw : Option Nat := none) : Form :=
  if anyPoison ls then .open
  else if allZero ls then .zero
  else match s.packWith ls raw with
    | some f => f
    | none => if s.openRoom then .open else .raw

/-- The form in which an extent copy stores a page anew; none for a page that is POISONED. A demotion packs it (R156), unless the near cache holds a poisoned line of it (R127). A rekey keeps its stored form, except that a dictionary bound to the old key slot does not follow (R139, R308). -/
def State.destForm (s : State) (k : ExtCopyKind) (p : Nat) (ls : List LineVal) (raw : Option Nat) : Option Form :=
  match k with
  | .rekey _ =>
    let r := s.storageRec p
    match r.state with
    | .zero => some .zero
    | .poisoned => none
    | .packed => some (packedAs r.segv)
    | .deep => some (if anyPoison ls then .open else if r.raw then .raw else if r.dict ≠ 0 then s.freshForm ls raw else .deep r.gcount 0)
    | _ => some (if anyPoison ls || s.openRoom then .open else (s.packWith ls raw).getD .raw)
  | _ => some (if s.nearPoison p && !allZero ls then .open else s.freshForm ls raw)

/-- Take the frames of one page of an extent copy's destination and make its record: none with no frames. `close`: its stripes are closed at once, for a commit that write-backs wait on (R162, R166). -/
def State.takeRec (s : State) (k : ExtCopyKind) (p : Nat) (ls : List LineVal) (raw : Option Nat) (close : Bool) (rs : Tbl PageRec) : Option (Tbl PageRec × State) :=
  match s.destForm k p ls raw with
  | none => some (rs.put (p % 512) { PageRec.zero with state := .poisoned }, s)
  | some .zero => some (rs.del (p % 512), s)
  | some f => (s.allocCopy .pack false f).map fun a => (rs.put (p % 512) (f.asRec a.1 0), if close && f.stripeFrames != 0 then a.2.closeRun a.1 f.stripeFrames else a.2)

/-- The same for a list of pages, by number in the extent. -/
def State.takeRecs (s : State) (k : ExtCopyKind) (e : Nat) (close : Bool) : List Nat → Tbl PageRec → Option (Tbl PageRec × State)
  | [], rs => some (rs, s)
  | i :: is, rs =>
    match s.takeRec k (512 * e + i) (s.pageLines (512 * e + i)) none close rs with
    | none => none
    | some (rs, s) => s.takeRecs k e close is rs

/-- Has the destination of an extent copy page records: a demotion, or a rekey of a mapped extent? -/
def ExtCopyKind.mapsTo (k : ExtCopyKind) (m : ExtMode) : Bool :=
  match k with
  | .promote => false
  | .demote => true
  | .rekey _ => m == .mapped

/-- The frames of page `i` of an extent in the direct slot `loc`, 8 lines in each; with `both` their mirror copies too (R272). -/
def State.directPlaces (s : State) (loc i : Nat) (both : Bool) : List (PosSlot × Nat) :=
  let ps := (List.range 8).map fun k => (s.directAt (loc * 4096 + 8 * i + k), 8)
  ps ++ (if both && !s.lean then ps.map fun p => (copyPos s.w p.1, p.2) else [])

/-- An internal engine reads or writes places on every channel: their ranks wake, and the commands of each channel are issued (R171, R248). -/
def State.engineBulk (s : State) (ps : List (PosSlot × Nat)) (write : Bool) : State :=
  let s := ps.foldl (fun (s : State) p => s.wakePlace p.1 .engineRequest) s
  (List.range s.w).foldl (fun (s : State) j =>
    let mine := ps.filter fun p => p.1.slot == j
    match mine.head? with
    | none => s
    | some p => s.chanIssue p.1 (.engine p.1.pos write) (mine.map (·.2)).sum) s

/-- Enter an extent copy. -/
def State.addExtCopy (s : State) (c : ExtCopy) : State := { s with drl := { s.drl with extCopies := s.drl.extCopies ++ [c] } }

/-- An extent copy reads pages of its source and writes them to its destination. -/
def State.copyPages (s : State) (c : ExtCopy) (ps : List Nat) : State :=
  let from1 (i : Nat) := if c.srcMode == .direct then s.directPlaces c.srcLoc i false else s.pagePlaces (s.storageRec (512 * c.ext + i)) false
  let to1 (i : Nat) := if c.kind.mapsTo c.srcMode then ((c.recs.look i).map fun r => s.pagePlaces r true).getD [] else s.directPlaces c.dst i true
  (s.engineBulk (ps.flatMap from1) false).engineBulk (ps.flatMap to1) true

/-- Start an extent copy: its destination is taken, and the record becomes MIGRATING with LOC naming the source (R162). -/
def State.startExtCopy (s : State) (k : ExtCopyKind) (e : Nat) (cmd : Option Nat) : Option State :=
  let r := s.extRec e
  if !s.extFree e || (r.mode != .direct && r.mode != .mapped) then none
  else
    (s.extDst k r.mode).bind fun a =>
      (if k.mapsTo r.mode then a.2.takeRecs k e false (List.range 512) [] else some ([], a.2)).map fun (rs, s) =>
        let c : ExtCopy := ⟨e, k, r.mode, r.loc, a.1, 0, 0, Memory.slice s.mem (2097152 * e) 2097152, s.extPoison e, cmd, none, if cmd.isSome then 0 else 512, none, rs⟩
        ((s.copyPages c (List.range 512)).addExtCopy c).setExt e { r with mode := .migrating }

/-- Abandon an extent copy: the record gets its source mode and LOC back and the destination is freed (R162). -/
def State.abandonExt (s : State) (c : ExtCopy) : State :=
  let s := (s.closeExtCopy c.ext).setExt c.ext { s.extRec c.ext with mode := c.srcMode, loc := c.srcLoc }
  (s.flag Reg.DRL_STATUS.ABANDON).count 8 11

/-- The lines of a page as an extent copy has read them. -/
def ExtCopy.pageOf (c : ExtCopy) (i : Nat) : List LineVal :=
  (List.range 64).map fun j =>
    let l := extLine c.ext + 64 * i + j
    LineVal.mk (Memory.readLine c.snap l) (c.snapPoison.contains l)

/-- Commit the DIRECT extent of a promotion or of a rekey of a direct extent. -/
def State.commitDirect (s : State) (c : ExtCopy) (key : Nat) : State :=
  let x := s.extRec c.ext
  let s := if c.srcMode == .mapped then s.dropPages c.ext c.srcLoc else { s with cap := { s.cap with slots := s.cap.slots.del c.srcLoc } }
  let s := { s with drl := { s.drl with extCopies := s.drl.extCopies.filter (·.ext != c.ext) } }
  let s := s.setExt c.ext { x with mode := .direct, loc := c.dst, key := key }
  let s := { s with mem := Memory.putCells (Memory.clear s.mem (2097152 * c.ext) 2097152) c.snap }
  let bad := s.bad.filter fun p => p.1 / 32768 != c.ext
  { s with bad := c.snapPoison.foldl (fun (b : Tbl Unit) l => b.put l ()) bad }

/-- Install one page of a destination with page records: its lines as copied, and its record with the pin and HEAT that the page had. -/
def State.putRec (s : State) (c : ExtCopy) (old : Tbl PageRec) (i : Nat) : State :=
  let p := 512 * c.ext + i
  let o := old.get PageRec.zero p
  let keep (r : PageRec) : PageRec := { r with heat := o.heat, pin := o.pin, gen := if old.has p then o.gen + 1 else 0 }
  match c.recs.look i with
  | none => if old.has p then s.setPage p (keep PageRec.zero) else s
  | some r =>
    let ls := c.pageOf i
    let held := if r.state == .packed then (Form.packed ((List.range 16).map (segvAt r.segv))).held ls else if r.state == .poisoned then [] else ls
    (s.putLines p held).setPage p (keep r)

/-- Commit the MAPPED extent of a demotion or of a rekey of a mapped extent: a rekey's page records keep their pins and HEAT. -/
def State.commitMapped (s : State) (c : ExtCopy) (key : Nat) : State :=
  let x := s.extRec c.ext
  let old := s.xlt.page.filter fun q => q.1 / 512 == c.ext
  let s := if c.srcMode == .mapped then s.dropPages c.ext c.srcLoc else { s with cap := { s.cap with slots := s.cap.slots.del c.srcLoc } }
  let s := { s with drl := { s.drl with extCopies := s.drl.extCopies.filter (·.ext != c.ext) } }
  let s := s.setExt c.ext { x with mode := .mapped, loc := c.dst, key := key }
  let s := s.clearLines (extLine c.ext) 32768
  (List.range 512).foldl (fun (s : State) i => s.putRec c old i) s

/-- A command's commit: counted, with its time, and its next step begins (R25, R336). -/
def State.cmdMade (s : State) (id : Nat) : State :=
  { s with cmd := { s.cmd with cmds := updWhere (fun c => c.id == id) (fun c => { c with made := c.made + 1, next := c.next + 1, time := some s.tb }) s.cmd.cmds } }

/-- A rekey's commit is its command's (R308). -/
def State.rekeyMade (s : State) (c : ExtCopy) : State :=
  match c.cmd with
  | none => s
  | some id => s.cmdMade id

/-- The record of an aborted copy gets its source mode and LOC back and its destination is freed (R349). -/
def State.restoreExt (s : State) (c : ExtCopy) : State :=
  (s.closeExtCopy c.ext).setExt c.ext { s.extRec c.ext with mode := c.srcMode, loc := c.srcLoc }

/-- Does a pin written during the copy forbid the transition (R163)? -/
def State.pinForbids (s : State) (c : ExtCopy) : Bool :=
  c.cmd.isNone && ((c.kind == .promote && (s.extRec c.ext).pin == 2) || (c.kind == .demote && (s.extRec c.ext).pin == 1))

/-- Commit an extent copy (R78, R162, R308); one whose command is aborted, or that a pin now forbids, commits nothing (R163, R349). -/
def State.commitExt (s : State) (c : ExtCopy) : State :=
  if c.cmd.any s.aborted || s.pinForbids c then s.restoreExt c
  else match c.kind with
  | .promote => (s.commitDirect c (s.extRec c.ext).key).count 8 0
  | .demote => (s.commitMapped c (s.extRec c.ext).key).count 8 1
  | .rekey k => (if c.srcMode == .direct then s.commitDirect c k else s.commitMapped c k).rekeyMade c

/-- Pages marked in a mask. -/
def markedPages (m : BitVec 512) : Nat := ((List.range 512).filter fun i => m.getLsbD i).length

/-- The marked pages of a mask. -/
def markedList (m : BitVec 512) : List Nat := (List.range 512).filter m.getLsbD

/-- Copy the marked pages of an extent copy again: records that the destination holds for them are made anew; with no frames for them the copy is abandoned (R162). -/
def State.againExt (s : State) (c : ExtCopy) (close : Bool) (g : ExtCopy → ExtCopy) : State :=
  let ps := markedList c.mask
  let taken := if c.kind.mapsTo c.srcMode then
      (s.freeRecs (c.recs.filter fun q => ps.contains q.1)).takeRecs c.kind c.ext close ps (c.recs.filter fun q => !ps.contains q.1)
    else some (c.recs, s)
  match taken with
  | none => s.abandonExt c
  | some (rs, s) =>
    let snap := Memory.slice s.mem (2097152 * c.ext) 2097152
    let bad := s.extPoison c.ext
    let s := s.copyPages { c with recs := rs } ps
    { s with drl := { s.drl with extCopies := updWhere (fun x => x.ext == c.ext) (fun x => g { x with mask := 0, snap := snap, snapPoison := bad, recs := rs }) s.drl.extCopies } }

/-- What the codecs and DRAM make of one page of a round (R124, R146, R279): a loss is committed to the source and marks the page, and a compressor's failed verify pass marks the segment raw. None while a dictionary reloads. -/
def State.roundMeets (s : State) (c : ExtCopy) (i : Nat) (run : CodecRun) : Option State :=
  let p := 512 * c.ext + i
  let was := poisonBits (s.pageLines p)
  (s.copyMeets p run).map fun s =>
    let s := if poisonBits (s.pageLines p) = was then s else s.markPage (pageLine p)
    if c.kind.mapsTo c.srcMode && (c.recs.look i).any (·.state == .packed) && c.kind == .demote then
      match s.packBlame run.bad with
      | none => s
      | some u =>
        let s := s.verifyMismatch u
        match (s.freeRecs (c.recs.filter fun q => q.1 == i)).takeRec c.kind p (c.pageOf i) (s.rawSeg run.bad) false c.recs with
        | none => s.markPage (pageLine p)
        | some (rs, s) => { s with drl := { s.drl with extCopies := updWhere (fun x => x.ext == c.ext) (fun x => { x with recs := rs }) s.drl.extCopies } }
    else s

/-- Are the stripes that hold an extent copy's destination written (R166)? -/
def State.recsWritten (s : State) (c : ExtCopy) : Bool :=
  c.recs.all fun q => q.2.state == .open || !(s.drl.stripes.any fun t => !t.written && (s.runPositions q.2.loc q.2.frames).contains t.pos)

/-- The end of a round (R162): with no marked page the extent commits; marked pages are recopied in at most three rounds, then under a hold of write-backs when 8 or fewer, or the copy is abandoned. -/
def State.endRoundExt (s : State) (c : ExtCopy) : State :=
  if c.mask = 0 then (if s.recsWritten c then s.commitExt c else s)
  else if c.rounds < 3 then s.againExt c false fun x => { x with rounds := x.rounds + 1, left := if c.cmd.isSome then 0 else markedPages c.mask }
  else if markedPages c.mask ≤ 8 then s.againExt c true fun c => { c with paused := some s.now }
  else s.abandonExt c

/-- The entry of an extent copy's operation in the tracker is lost: the copy is abandoned, and what it took of the frame area waits for the sweep (R290). -/
def State.loseExtCopy (s : State) (c : ExtCopy) : State :=
  let s := s.sramRecord 3 0xFF (extLine c.ext) false
  let s := c.recs.foldl (fun (s : State) q => s.orphanRun q.2.loc) s
  let s := if c.kind.mapsTo c.srcMode then s.orphanRun (c.dst * 16) else { s with cap := { s.cap with slots := s.cap.slots.del c.dst } }
  let s := { s with drl := { s.drl with extCopies := s.drl.extCopies.filter (·.ext != c.ext) } }
  ((s.setExt c.ext { s.extRec c.ext with mode := c.srcMode, loc := c.srcLoc }).flag Reg.DRL_STATUS.ABANDON).count 8 11

/-- EXTENT_COPY_ROUND_END (R162, R377): once every page of the round is paid for. The operands give what the round met in one page, and whether the tracker lost the operation's entry. -/
def execExtentCopyRoundEnd (ext : BitVec 25) (page : Fin 512) (run : CodecRun) (entryLost : Bool) (s : State) : Host.Outcome State Fault Refusal :=
  match s.drl.extCopies.find? (·.ext == ext.toNat) with
  | none => .next s
  | some c =>
    if entryLost then .next (s.loseExtCopy c)
    else if c.left ≠ 0 ∨ s.cry.st = .error then .next s
    else match s.roundMeets c page.val run with
      | none => .next s
      | some s =>
        match s.drl.extCopies.find? (·.ext == ext.toNat) with
        | none => .next s
        | some c => .next (s.endRoundExt c)

/-! ## Compaction and the loss walk (R167, R168, R284) -/

/-- The page or share record whose data starts at frame `n`. -/
def State.ownerOf (s : State) (n : Nat) : Option (Bool × Nat) :=
  match s.xlt.page.find? fun q => (q.2.state == .packed || q.2.state == .deep) && q.2.loc == n with
  | some q => some (false, q.1)
  | none => (s.xlt.share.find? fun q => (q.2.state == .packed || q.2.state == .deep) && q.2.loc == n).map fun q => (true, q.1)

/-- Free frames in a written stripe. -/
def State.deadIn (s : State) (q : Nat) : Nat := (s.cap.dead.filter fun d => s.w != 0 && d.1 / s.w == q).length

/-- The written stripe with the most free frames, ties to the oldest (R167); while a block finds no room, one of the record zone (R80). -/
def State.compactVictim (s : State) : Option Stripe :=
  (s.drl.stripes.filter fun t => t.written && (if s.drl.blockWanted && decide (0 < s.zoneEnd) then decide (t.pos * s.w < s.zoneEnd) else decide (0 < s.deadIn t.pos))).foldl (fun (b : Option Stripe) t =>
    match b with
    | none => some t
    | some u => if s.deadIn u.pos < s.deadIn t.pos then some t else some u) none

/-- Start the compaction of one live page of the victim stripe. -/
def State.compactOne (s : State) : Option State :=
  s.compactVictim.bind fun t =>
    let owners := ((s.cap.runs.filter fun r => !r.2.kind.mirrored && touchesPos s.w t.pos r).map (·.1)).filterMap s.ownerOf
    owners.findSome? fun o => if o.1 then s.startShareCopy .compact o.2 else s.startCopy .compact o.2

/-- One step of the loss walk: the next page or direct extent with storage on a lost channel is moved; with none left the walks end (R284). -/
def State.walkStep (s : State) : State :=
  match s.xlt.page.find? fun q => !(s.lostLines q.1).isEmpty with
  | some q => s.walkPage q.1
  | none =>
    match s.xlt.ext.find? fun q => q.2.mode == .direct && (List.range 32768).any fun i => s.lineLost (extLine q.1 + i) with
    | some q => s.walkExt q.1
    | none => { s with trm := { s.trm with walks := [] } }

end Sys2Proof.Machine
end

