-- ==== Sys2Proof/Machine/Region.lean ====
section
/-! DEFINITION. Region tables and HDM decoders: the checks of an entry, its removal, and who may write it (R67, R69, R105, R173 to R176, R304, R352, R359, R447, R451). -/

namespace Sys2Proof.Machine

/-! ## Who may write (R10, R11, R447, R451) -/

/-- Is the source the owner head or the sideband? -/
def State.isOwner (s : State) : Via → Bool
  | .sideband => true
  | .head h => h == s.owner && decide (h ∈ s.heads)

/-- A write discarded for its source (R11, R447). -/
def State.nonowner (s : State) : State := s.flag Reg.GEN_STATUS.NONOWN_DROP

/-- A write discarded under the RWL rule (R10, R451). -/
def State.lockDrop (s : State) : State := s.flag Reg.GEN_STATUS.LOCK_DROP

/-- Is setup locked? -/
def State.locked (s : State) : Bool := s.fb Reg.GEN_SETUP_LOCK.LOCK

/-- Do the registers of BAR0 answer: Kickstand and the main domains run, or only the blocks of PD_AON? -/
def State.regsUp (s : State) : Bool := s.mainRuns

/-! ## Checks (R174) -/

/-- Is an entry busy: a removal in progress, or a pending check? -/
def State.rgnBusy (s : State) (n : Head) (e : Fin 9) : Bool :=
  s.dir.removals.contains (n, e) || s.dir.checks.any fun c => c.1 == n && c.2.1 == e

/-- Do two ranges overlap? -/
def overlaps (a m b n : Nat) : Bool := decide (a < b + n) && decide (b < a + m)

/-- The entry that a CTL word would enable, with the ranges the entry's registers hold. -/
def State.proposed (s : State) (n : Head) (e : Fin 9) (v : Word) : Region :=
  { s.region n e with key := (v >>> 16 &&& 0x3FF).toNat, origin := false, cls := (v >>> 2 &&& 3).toNat, db := v.getLsbD 1, valid := true }

/-- Insert a range by its base. -/
def insertRange (x : Nat × Nat) : List (Nat × Nat) → List (Nat × Nat)
  | [] => [x]
  | y :: ys => if x.1 ≤ y.1 then x :: y :: ys else y :: insertRange x ys

/-- Units that ranges, given as base and size, cover together. -/
def unionUnits (l : List (Nat × Nat)) : Nat :=
  ((l.foldr insertRange []).foldl (fun (a : Nat × Nat) r => (a.1 + (r.1 + r.2 - max r.1 a.2), max a.2 (r.1 + r.2))) (0, 0)).1

/-- 2 MiB units of firm DPA with entry `r` in place, each unit of DPA counted once however often it is mapped (R105). -/
def State.firmUnits (s : State) (r : Region) : Nat :=
  unionUnits ((r :: (s.allRegions.filter fun q => q.cls == 0 && !(q.head == r.head && q.e == r.e))).map fun q => (q.dbase, q.size))

/-- The state of a key slot (R299). -/
def State.keySlot (s : State) (k : Nat) : KeySlot := s.cry.slots.get KeySlot.empty k

/-- *Region-table checks* in code order: the first that fails. -/
def State.rgnFail (s : State) (r : Region) : Option Nat :=
  let mine := (s.regionsOf r.head).filter fun q => q.e != r.e
  let others := s.allRegions.filter fun q => q.head != r.head
  let same (q : Region) : Bool := q.dbase == r.dbase && q.size == r.size
  if r.size = 0 ∨ 2 ^ 25 < r.hbase + r.size ∨ 2 ^ 25 < r.dbase + r.size then some 1
  else if mine.any fun q => overlaps q.hbase q.size r.hbase r.size then some 2
  else if others.any fun q => overlaps q.dbase q.size r.dbase r.size && !same q then some 3
  else if others.any fun q => same q && (q.db != r.db || q.cls != r.cls || q.key != r.key) then some 4
  else if r.cls = 0 ∧ s.f Reg.XLT_CAP_FIRM.FIRM_2M < s.firmUnits r then some 5
  else if s.extents < r.dbase + r.size then some 6
  else if (s.region r.head r.e).origin then some 7
  else if r.cls ≠ 0 then some 8
  else if (s.keySlot r.key).st != .active then some 10
  else if mine.any fun q => overlaps q.dbase q.size r.dbase r.size then some 11
  else none

/-- A write to an entry is rejected: REJ with the entry and the code (R174). -/
def State.rgnReject (s : State) (n : Head) (e : Fin 9) (code : Nat) : State :=
  let s := ((s.flag (Reg.PRTn_RGN_STATUS.REJ.nth n.val)).setF (Reg.PRTn_RGN_STATUS.REJ_ENTRY.nth n.val) e.val).setF (Reg.PRTn_RGN_STATUS.REJ_CODE.nth n.val) code
  if code = 5 then s.flag Reg.XLT_CAP_STATUS.CAP_OVER else s

/-- Offset of an entry's HBASE; DBASE, SIZE and CTL follow. -/
def rgnOff (n : Head) (e : Fin 9) : Nat := 0x100800 + 0x10000 * n.val + 0x10 * e.val

/-- The CTL word of an entry. -/
def ctlWord (key cls : Nat) (db origin valid : Bool) : Word :=
  BitVec.ofNat 32 (key % 1024 * 65536 + cls % 4 * 4 + db.toNat * 2 + origin.toNat * 16 + valid.toNat)

/-- Check an entry and enable it, or reject the write (R174). -/
def State.rgnCheck (s : State) (n : Head) (e : Fin 9) (v : Word) : State :=
  let r := s.proposed n e v
  match s.rgnFail r with
  | some c => s.rgnReject n e c
  | none => s.setWord (rgnOff n e + 12) (ctlWord r.key r.cls r.db false true)

/-- Are all directory slices ON? -/
def State.dirOn (s : State) : Bool := [44, 45, 46, 47].all s.domOn

/-! ## Removal (R176, R352) -/

/-- The ring window of head `n` lies in entry `e`. -/
def State.windowIn (s : State) (n : Head) (e : Fin 9) : Bool :=
  s.fb (Reg.CMD_WINh.EN.nth n.val) && (s.region n e).hasHdpa (s.f (Reg.CMD_WINh.BASE_2M.nth n.val) * 2 ^ 21)

/-- The entry stops decoding; a window that it held is disabled with its head's rings, and WIN_ERR is set. -/
def State.rgnDrop (s : State) (n : Head) (e : Fin 9) : State :=
  let win := s.windowIn n e
  let s := { s with dir := { s.dir with removals := s.dir.removals.filter (· != (n, e)) } }
  let r := s.region n e
  let s := s.setWord (rgnOff n e + 12) (ctlWord r.key r.cls r.db false false)
  if win then (s.resetRings n).flag (Reg.CMD_WINh.WIN_ERR.nth n.val) else s

/-- Lines of an entry's range that the head holds. -/
def State.heldIn (s : State) (n : Head) (r : Region) : List Nat :=
  (s.dir.entries.filter fun p => r.hasExt (extOf p.1) && p.2.pres.getLsbD n.val).map (·.1)

/-- Send BISnpInv for the held lines of a removal that have none outstanding, as slots allow (R176, R182). -/
def State.rgnSnoops (s : State) (n : Head) (e : Fin 9) : State :=
  (s.heldIn n (s.region n e)).foldl (fun (s : State) l =>
    if (s.snoopTo n l).isSome || s.slotsFree l == 0 then s else s.snoop n .inv l (.removal n e) s.nextEntry) s

/-- A write to an entry's CTL register through a source that may write it, with the lock open. -/
def State.writeRgnCtl (s : State) (n : Head) (e : Fin 9) (v : Word) : State :=
  if s.rgnBusy n e then s.rgnReject n e 12
  else if v.getLsbD 0 then
    if (s.proposed n e v).db && !s.dirOn then
      let s := { s with dir := { s.dir with checks := s.dir.checks ++ [(n, e, v)] } }
      [44, 45, 46, 47].foldl (fun s d => s.latchWake d .configWrite) s
    else s.rgnCheck n e v
  else
    let r := s.region n e
    if r.origin then s.rgnReject n e 7
    else if !r.valid then s.setWord (rgnOff n e + 12) (ctlWord (v >>> 16 &&& 0x3FF).toNat (v >>> 2 &&& 3).toNat (v.getLsbD 1) false false)
    else if r.db then State.rgnSnoops { s with dir := { s.dir with removals := s.dir.removals ++ [(n, e)] } } n e
    else s.rgnDrop n e

/-- A write to HBASE, DBASE or SIZE of an entry (R174). -/
def State.writeRgnRange (s : State) (n : Head) (e : Fin 9) (off : Nat) (v : Word) : State :=
  if s.rgnBusy n e then s.rgnReject n e 12
  else if (s.region n e).origin then s.rgnReject n e 7
  else if (s.region n e).valid then s.rgnReject n e 9
  else s.setWord off (v &&& 0x1FFFFFF)

/-- A write to any register of a region table: the source, then the lock, then the entry (R173, R447, R451). Engines that carry no head have no table (R446). -/
def State.writeRgn (s : State) (w : Via) (n : Head) (e : Fin 9) (k : Nat) (v : Word) : State :=
  if !s.regsUp then s
  else if !s.isOwner w then s.nonowner
  else if decide (n ∉ s.heads) then s
  else if s.locked then s.lockDrop
  else if k = 3 then s.writeRgnCtl n e v
  else s.writeRgnRange n e (rgnOff n e + 4 * k) v

/-! ## Rows -/

/-- REGION_ENTRY_ENABLE (R174). -/
def execRegionEntryEnable (w : Via) (n : Head) (e : Fin 9) (v : Word) (s : State) : Host.Outcome State Fault Refusal :=
  .next (s.writeRgn w n e 3 (v ||| 1))

/-- REGION_ENTRY_REMOVE (R176). -/
def execRegionEntryRemove (w : Via) (n : Head) (e : Fin 9) (v : Word) (s : State) : Host.Outcome State Fault Refusal :=
  .next (s.writeRgn w n e 3 (v &&& 0xFFFFFFFE))

/-- REGION_CHECK_AFTER_WAKE (R359): with the slices ON, each pending entry is checked in order and takes effect or is rejected. -/
def execRegionCheckAfterWake (s : State) : Host.Outcome State Fault Refusal :=
  if !s.dirOn then .next s
  else
    let cs := s.dir.checks
    let s := { s with dir := { s.dir with checks := [] } }
    .next (cs.foldl (fun s c => s.rgnCheck c.1 c.2.1 c.2.2) s)

/-- REGION_REMOVAL_DONE (R176): with no line held and every snoop answered, the entry stops decoding; else the snoops that a slot kept back are sent. -/
def execRegionRemovalDone (n : Head) (e : Fin 9) (s : State) : Host.Outcome State Fault Refusal :=
  if !s.dir.removals.contains (n, e) then .next s
  else
    let s := s.rgnSnoops n e
    if !(s.heldIn n (s.region n e)).isEmpty || s.dir.snoops.any (·.cause == .removal n e) then .next s
    else .next (s.rgnDrop n e)

/-- May a decoder have these interleave ways and this granularity (R67)? -/
def hdmAllowed (ways gran : Nat) : Bool :=
  [1, 2, 3, 4, 6, 8, 12, 16].contains ways && [256, 512, 1024, 2048, 4096, 8192, 16384].contains gran

/-- HDM_DECODER_COMMIT (R67): an allowed setting decodes; any other reports the commit error and decodes nothing. -/
def execHdmDecoderCommit (h : Head) (i : Fin 4) (base : BitVec 52) (size : BitVec 52) (ways : Fin 17) (gran : Nat) (s : State) : Host.Outcome State Fault Refusal :=
  if !s.regsUp || decide (h ∉ s.heads) then .next s
  else
    let ok := hdmAllowed ways.val gran
    .next (s.updPort h fun p => { p with hdm := p.hdm.put i.val ⟨ok, !ok, base.toNat, size.toNat, ways.val, gran⟩ })

end Sys2Proof.Machine
end

