-- ==== Sys2Proof/Machine/Capacity.lean ====
section
/-! DEFINITION. Pressure levels, elastic offers, release targets and breach (R102 to R122). -/

namespace Sys2Proof.Machine

/-! ## Measures -/

/-- Percent of usable frames that are free, in tenths (XLT_CAP_STATUS.FREE_TENTHS). -/
def State.freeTenths (s : State) : Nat := if s.cap.usable = 0 then 0 else min 255 (s.freeFrames * 1000 / s.cap.usable)

/-- The level that a share of free frames calls for (*Pressure levels*). -/
def State.rawLevel (s : State) : Nat :=
  let f := s.freeFrames * 100
  let u := s.cap.usable
  if 8 * u < f then 0 else if 4 * u ≤ f then 1 else if u ≤ f then 2 else 3

/-- The upper bound of a level's range, in percent. -/
def levelTop : Nat → Nat
  | 1 => 8
  | 2 => 4
  | _ => 1

/-- Is the share at least 0.5 points above the upper bound of level `v`'s range (R107)? -/
def State.aboveTop (s : State) (v : Nat) : Bool := decide ((2 * levelTop v + 1) * s.cap.usable ≤ s.freeFrames * 200)

/-- Is a page record written: it stores data (R111)? -/
def PageRec.written (r : PageRec) : Bool :=
  match r.state with
  | .zero => false
  | .poisoned => false
  | _ => true

/-- Logical bytes in written pages, in 4 KiB pages (R111): an extent stored direct counts whole, also while it migrates. -/
def State.logicalPages (s : State) : Nat :=
  (s.xlt.page.filter fun q => q.2.written).length + 512 * (s.xlt.ext.filter fun q => (s.extView q.1).1 == .direct).length

/-- The measured ratio Q as a fraction: logical bytes over bytes of frames in use, 1 until 64 GiB are written (R111). The rule does not say whether Q returns to 1 when less is written again; here the present amount decides (DESIGN CHOICE, LOG 55). -/
def State.ratio (s : State) : Nat × Nat :=
  if s.logicalPages < 16777216 ∨ s.framesUsed = 0 then (1, 1) else (8 * s.logicalPages, s.framesUsed)

/-- Q in sixteenths, saturating (XLT_CAP_RATIO.RATIO_MEAS). -/
def State.ratioMeas (s : State) : Nat := min 255 (16 * s.ratio.1 / s.ratio.2)

/-- RATIO_CAP in sixteenths; below 0x10 it is taken as 0x10. -/
def State.ratioCap (s : State) : Nat := max 16 (s.f Reg.XLT_CAP_RATIO.RATIO_CAP)

/-- Advertised capacity in 2 MiB units, each DPA range once (R111). -/
def State.advertised (s : State) : Nat := unionUnits (s.allRegions.map fun q => (q.dbase, q.size))

/-- The offerable amount in units of 64 GiB (R111). -/
def State.offerable (s : State) : Nat :=
  let q := s.ratio
  let q := if s.ratioCap * q.2 < 16 * q.1 then (s.ratioCap, 16) else q
  let room := (94 * s.cap.usable * q.1) / (100 * q.2 * 4096)
  (min room s.extents - s.advertised) / 32768

/-! ## Heads under the contract (R109, R110) -/

/-- Has a head accepted the contract, and is it let to receive offers (R109)? -/
def State.accepting (s : State) (h : Head) : Bool :=
  (s.port h).accepted && s.fbit Reg.XLT_CAP_CFG.ELASTIC_HEADS h.val && s.fb Reg.XLT_CAP_CFG.ELASTIC_EN

/-- Elastic regions of a head. -/
def State.elasticOf (s : State) (h : Head) : List Region := (s.regionsOf h).filter fun r => r.cls == 1

/-- Elastic capacity a head holds, 2 MiB units. -/
def State.elasticHeld (s : State) (h : Head) : Nat := ((s.elasticOf h).map (·.size)).sum

/-- The lowest free Dynamic Capacity entry of a head (R112, R173). -/
def State.freeEntry (s : State) (h : Head) : Option (Fin 9) :=
  ([1, 2, 3, 4, 5, 6, 7, 8] : List (Fin 9)).find? fun e => !(s.region h e).valid && !s.rgnBusy h e

/-- Signal a head's capacity vector (R108, R112, R350). -/
def State.capVec (s : State) (h : Head) : State := s.msix h (s.f (Reg.CMD_HEADh.CAP_VEC.nth h.val))

/-- A Dynamic Capacity event record on a head, and its capacity vector. -/
def State.capEvent (s : State) (h : Head) (c : Cause) (x : Nat) : State :=
  (s.event1 h .dynamicCapacity c x false none).capVec h

/-! ## Release targets (R114) -/

/-- Frames in use by the record of a page; a share-stored page counts its stored copy. -/
def State.pageFrames (s : State) (p : Nat) : Nat :=
  let r := s.effRec p
  if r.state == .shared then (s.shareRec r.loc).asPage.frames else r.frames

/-- Frames in use by extent `e`. -/
def State.extFrames (s : State) (e : Nat) : Nat :=
  match (s.extRec e).mode with
  | .direct => 4096
  | .mapped => ((s.extPages e).map s.pageFrames).sum
  | .migrating => if ((s.drl.extCopies.find? (·.ext == e)).map (·.srcMode)) == some .direct then 4096 else ((s.extPages e).map s.pageFrames).sum
  | _ => 0

/-- The share records that the pages of extent `e` name. -/
def State.extShares (s : State) (e : Nat) : List Nat :=
  (s.extPages e).filterMap fun p => if (s.effRec p).state == .shared then some (s.effRec p).loc else none

/-- Frames in use by a head's elastic extents; a share-stored page is counted once, however many pages name it (R106, R114). -/
def State.elasticFrames (s : State) (h : Head) : Nat :=
  let es := ((s.xlt.ext.map (·.1)).filter fun e => (s.elasticOf h).any fun r => r.hasExt e)
  let own (e : Nat) : Nat := if (s.extView e).1 == .direct then 4096 else (((s.extPages e).filter fun p => (s.effRec p).state != .shared).map fun p => (s.effRec p).frames).sum
  (es.map own).sum + ((distinct (es.flatMap s.extShares)).map fun i => (s.shareRec i).asPage.frames).sum

/-- Round up to a multiple of 8. -/
def up8 (n : Nat) : Nat := (n + 7) / 8 * 8

/-- A head's share of the frames that would bring free frames back to 6 % (R114). -/
def State.releaseShare (s : State) (h : Head) : Nat :=
  let need := ceilDiv (6 * s.cap.usable) 100 - s.freeFrames
  let hs := s.heads.filter fun g => (s.port g).accepted
  let all := (hs.map s.elasticFrames).sum
  if all = 0 then 0 else up8 (ceilDiv (need * s.elasticFrames h) all)

/-- Is a head's target met (R114)? -/
def Port.targetMet (p : Port) : Bool := decide (p.target ≤ p.freedTo)

/-- Set a head's target: while its period of 10 s runs unmet, the target never falls and keeps its time; else a new period begins (R114). -/
def State.setTarget (s : State) (h : Head) : State :=
  let n := s.releaseShare h
  let p := s.port h
  let s :=
    if !p.targetMet && decide (s.now < p.targetAt + 10000000000) then s.updPort h fun p => { p with target := max p.target n }
    else s.updPort h fun p => { p with target := n, targetAt := s.now, freedTo := 0 }
  s.capEvent h .releaseTarget (s.port h).target

/-- Set the target of every accepting head. -/
def State.setTargets (s : State) : State := (s.heads.filter fun h => (s.port h).accepted).foldl (fun s h => s.setTarget h) s

/-- Frames freed by a head's commands count toward its target (R114, R115); `k` is the counter of the means. -/
def State.freedBy (s : State) (h : Head) (k n : Nat) : State :=
  if n = 0 then s else (s.updPort h fun p => { p with freedTo := p.freedTo + n }).count 6 k n

/-! ## Levels (R107, R108, R117, R155) -/

/-- The level becomes `v`; the count of periods above the bound begins anew at each level, and a fall from FLOOR to RED is no entry to RED that sets targets, both of which the rules leave open (R107, R114: DESIGN CHOICE, LOG 55). Event records and vectors on accepting heads, a Pannier record, the Derailleur's offsets; leaving GREEN lapses offers (R113), entering RED sets targets (R114), and the time at FLOOR starts (R122). -/
def State.setLevel (s : State) (v : Nat) : State :=
  let o := s.level
  if v = o then s
  else
    let s := (s.setF Reg.XLT_CAP_STATUS.LEVEL v).notify s
    let s := (s.heads.filter fun h => (s.port h).accepted).foldl (fun s h => s.capEvent h .levelChange v) s
    let s := s.pannier 48 0xFF 3 .levelChange (if v ≤ o then 0 else 1) 0 0 0x22008C true
    let s := { s with cap := { s.cap with fall := 0, floorAt := if v = 3 then some s.now else none } }
    let s := s.applyOffsets
    let s := if o = 0 then s.heads.foldl (fun s h => s.lapseOffer h) s else s
    if o < 2 ∧ 2 ≤ v then s.setTargets else s

/-- Refresh what XLT_CAP_STATUS and XLT_CAP_RATIO report. -/
def State.capReport (s : State) : State :=
  ((s.setF Reg.XLT_CAP_STATUS.FREE_TENTHS s.freeTenths).setF Reg.XLT_CAP_STATUS.FIRM_HELD s.belowFirmFloor.toNat).setF Reg.XLT_CAP_RATIO.RATIO_MEAS s.ratioMeas

/-- PRESSURE_MEASURE (R107, R108): the level rises at once, and falls by one after 10 consecutive periods above the bound. -/
def execPressureMeasure (s : State) : Host.Outcome State Fault Refusal :=
  if !s.fb Reg.XLT_STATUS.READY then .next s
  else
    let s := s.capReport
    let o := s.level
    let v := s.rawLevel
    if o < v then .next (s.setLevel v)
    else if o = 0 then .next s
    else if s.aboveTop o then
      if 10 ≤ s.cap.fall + 1 then .next (s.setLevel (o - 1))
      else .next { s with cap := { s.cap with fall := s.cap.fall + 1 } }
    else .next { s with cap := { s.cap with fall := 0 } }

/-! ## Offers (R111 to R113) -/

/-- May a head receive an offer now: it accepts, is not in breach, holds no pending offer, has a free region, and has room under its elastic maximum? -/
def State.offerTo (s : State) (h : Head) : Bool :=
  s.accepting h && !s.fbit Reg.XLT_CAP_STATUS.BREACH_HEADS h.val && (s.port h).offer.isNone && (s.freeEntry h).isSome &&
    decide (s.elasticHeld h / 32768 < (s.port h).elasticMax)

/-- The head that holds the least elastic capacity, the lower number on a tie (R112). -/
def leastHead (held : Head → Nat) : List Head → Option Head
  | [] => none
  | h :: hs =>
    match leastHead held hs with
    | none => some h
    | some g => if held h ≤ held g then some h else some g

/-- DPA ranges in use, offers included, as base and size in 2 MiB units. Extents that a removed region left written are in use too: every line of an offered extent reads as zero (R112). -/
def State.dpaTaken (s : State) : List (Nat × Nat) :=
  s.allRegions.map (fun q => (q.dbase, q.size)) ++ (s.heads.filterMap fun h => (s.port h).offer.map fun o => (o.dbase, o.size)) ++
    s.xlt.ext.map (fun q => (q.1, 1)) ++ s.xlt.touched.map fun q => (q.1, 1)

/-- HDPA ranges of a head in use. -/
def State.hdpaTaken (s : State) (h : Head) : List (Nat × Nat) := (s.regionsOf h).map fun q => (q.hbase, q.size)

/-- The lowest base at which `n` units lie free below `top` (LOG 9). -/
def lowestFit (taken : List (Nat × Nat)) (n top : Nat) : Option Nat :=
  let ok (b : Nat) : Bool := decide (b + n ≤ top) && !(taken.any fun t => overlaps t.1 t.2 b n)
  ((0 :: taken.map fun t => t.1 + t.2).filter ok).foldl (fun (a : Option Nat) b =>
    match a with
    | none => some b
    | some c => some (min b c)) none

/-- ELASTIC_OFFER (R111, R112): at GREEN one extent of a multiple of 64 GiB is offered to one head. The rule does not say what the event record holds of the extent; here it is its size (DESIGN CHOICE, LOG 55). -/
def execElasticOffer (s : State) : Host.Outcome State Fault Refusal :=
  if !s.fb Reg.XLT_STATUS.READY || s.level != 0 || !s.fb Reg.XLT_CAP_CFG.ELASTIC_EN then .next s
  else
    match leastHead s.elasticHeld (s.heads.filter s.offerTo) with
    | none => .next s
    | some h =>
      let amount := s.offerable
      let n := (s.heads.filter s.accepting).length
      let size := min (amount / n) ((s.port h).elasticMax - s.elasticHeld h / 32768)
      if size = 0 then .next s
      else
        match s.freeEntry h, lowestFit s.dpaTaken (size * 32768) s.extents, lowestFit (s.hdpaTaken h) (size * 32768) (2 ^ 25) with
        | some e, some d, some b =>
          let s := s.updPort h fun p => { p with offer := some ⟨e, b, d, size * 32768, s.now⟩ }
          .next ((s.count 6 4).capEvent h .offer (size * 32768))
        | _, _, _ => .next s

/-- OFFER_LAPSE (R113): no response in 60 s. -/
def execOfferLapse (h : Head) (s : State) : Host.Outcome State Fault Refusal := .next (s.lapseOffer h)

/-- Accept a pending offer whole: the entry is written as HDM-H with CLASS elastic, ORIGIN 1 and the KEY of entry 0 (R112, R173, R304). -/
def State.acceptOffer (s : State) (h : Head) (o : Offer) : State :=
  let s := s.updPort h fun p => { p with offer := none }
  let b := rgnOff h o.e
  (((s.setWord b (BitVec.ofNat 32 o.hbase)).setWord (b + 4) (BitVec.ofNat 32 o.dbase)).setWord (b + 8) (BitVec.ofNat 32 o.size)).setWord (b + 12)
    (ctlWord (s.region h 0).key 1 false true true)

/-! ## Release targets and breach (R114, R122) -/

/-- RELEASE_TARGET (R114): set on each accepting head while the level is RED or FLOOR. -/
def execReleaseTarget (s : State) : Host.Outcome State Fault Refusal :=
  if s.level < 2 then .next s else .next s.setTargets

/-- BREACH (R122): a head with an unmet target is marked, with an event record and a Pannier record. -/
def execBreach (h : Head) (s : State) : Host.Outcome State Fault Refusal :=
  if (s.port h).targetMet || s.fbit Reg.XLT_CAP_STATUS.BREACH_HEADS h.val then .next s
  else
    let s := (s.setBit Reg.XLT_CAP_STATUS.BREACH_HEADS h.val true).count 6 11
    let s := s.event (withOwner s [h]) .warning .breach h.val
    .next (s.pannier 48 0xFF 3 .breach 1 0 0 0x22008C true)

/-! ## Firm capacity (R102 to R104) -/

/-- Data capacity of the direct area in MiB: DIRECT_SIXT as it stood at the device reset; 0b11 is taken as 0b01 (R103). -/
def directMib (sixt raw : Nat) : Nat :=
  match sixt with
  | 0 => 0
  | 2 => raw / 8
  | _ => raw / 16

/-- *Firm capacity by mode*, in units of 2 MiB, rounded down (R102). `d`: the direct area's data capacity, MiB. -/
def firmUnitsOf (lean : Bool) (raw d w : Nat) : Nat :=
  if w = 0 then 0
  else if lean then (raw * 255 * 100 - raw * 256) / (2 * 25600)
  else
    let den := 32 * w * 128 * 100
    let a := d * den
    let b := (32 * raw - 64 * d - raw) * (w - 1) * 127 * 100
    let c := raw * 32 * w * 128
    (a + b - c) / (2 * den)

/-- The static region of each head: an equal share rounded down to 256 MiB, HDM-H, CLASS firm, KEY 0 (R104, R305). -/
def State.defaultRegions (s : State) : State :=
  let n := s.heads.length
  let share := if n = 0 then 0 else s.f Reg.XLT_CAP_FIRM.FIRM_2M * 2 / n / 256 * 128
  if share = 0 then s
  else (List.range n).foldl (fun (s : State) i =>
    match s.heads[i]? with
    | none => s
    | some h =>
      let b := rgnOff h 0
      (((s.setWord b 0).setWord (b + 4) (BitVec.ofNat 32 (i * share))).setWord (b + 8) (BitVec.ofNat 32 share)).setWord (b + 12) (ctlWord 0 0 false false true)) s

end Sys2Proof.Machine
end

