-- ==== Sys2Proof/Machine/Dictionary.lean ====
section
/-! DEFINITION. Dictionary training, admission, retirement and reload (R138 to R145, R346). -/

namespace Sys2Proof.Machine

/-- TRAIN_PAGES_K; 0 is taken as 1, above 16 as 16. -/
def State.trainPages (s : State) : Nat := clamp 1 16 (s.f Reg.DEEP_CFG.TRAIN_PAGES_K) * 1024

/-- MIN_GAIN in percent; 0 is taken as 1, above 50 as 50. -/
def State.minGain (s : State) : Nat := clamp 1 50 (s.f Reg.DEEP_CFG.MIN_GAIN)

/-- PACKED pages cold enough for DEEP, with their key slots (R140). -/
def State.coldPacked (s : State) : List (Nat × Nat) :=
  (s.xlt.page.filter fun q => q.2.state == .packed && decide (q.2.heat ≤ s.deepDown) && (s.extRec (q.1 / 512)).mode == .mapped).map fun q => (q.1, s.keyOf q.1)

/-- The key slot named most often, the lower on a tie. -/
def commonKey (l : List (Nat × Nat)) : Option Nat :=
  (l.foldl (fun (b : Option (Nat × Nat)) q =>
    let n := (l.filter fun r => r.2 == q.2).length
    match b with
    | none => some (q.2, n)
    | some (k, m) => if m < n ∨ (m = n ∧ q.2 < k) then some (q.2, n) else some (k, m)) none).map (·.1)

/-- Pages in the order in which a round names them: the first of every extent, then the second of every extent, and so on. The rule says only "spread across extents" (DESIGN CHOICE, LOG 56). -/
def spread (ps : List Nat) : List Nat :=
  let es := distinct (ps.map (· / 512))
  let ordered := sortBy id ps
  let per := es.map fun e => ordered.filter fun p => p / 512 == e
  (List.range 512).flatMap fun i => per.filterMap fun l => l[i]?

/-- The key slot of the region that a page lies in: the one named in the region's entry, which its extents' records name too (R74, R346). -/
def State.regionKey (s : State) (p : Nat) : Nat := ((s.allRegions.find? (·.hasExt (p / 512))).map (·.key)).getD (s.keyOf p)

/-- The pages of `k` among the cold ones that a round samples, each with its GEN. -/
def State.sampleOf (s : State) (cs : List (Nat × Nat)) (k : Nat) : List (Nat × BitVec 16) :=
  ((spread ((cs.filter fun q => q.2 == k).map (·.1))).take s.trainPages).map fun p => (p, (s.pageRec p).gen)

/-- The pages and the key slot that the next round samples: those of the range that DICT_CONTROL named, of its region's key slot alone, else of the key slot with the most cold PACKED pages (R139, R140, R346). -/
def State.roundSample (s : State) : Option (Nat × List (Nat × BitVec 16) × Option Nat) :=
  match s.cdc.asked with
  | some (cmd, p, n) => some (s.regionKey p, s.sampleOf (s.coldPacked.filter fun q => decide (p ≤ q.1) && decide (q.1 < p + n)) (s.regionKey p), some cmd)
  | none => (commonKey s.coldPacked).map fun k => (k, s.sampleOf s.coldPacked k, none)

/-- Sampling ends: the pages committed during it are skipped, and MGT builds the candidate (R140). -/
def State.endSampling (s : State) : State :=
  if s.cdc.train.st != .sampling then s
  else
    let kept := s.cdc.train.pages.filter fun q => (s.pageRec q.1).gen == q.2 && s.effRec q.1 == s.pageRec q.1
    { s with cdc := { s.cdc with train := { s.cdc.train with st := .building, pages := kept } } }

/-- TRAINING_ROUND (R140): with TRAIN_EN 1, no hold and no round in progress, sample pages are named and sampling begins. -/
def execTrainingRound (s : State) : Host.Outcome State Fault Refusal :=
  if !s.fb Reg.CDC_CFG.TRAIN_EN || s.cdc.hold || s.cdc.train.st != .idle || s.mgt.st != .running then .next s
  else
    match s.roundSample with
    | none => .next s
    | some (k, ps, cmd) =>
      .next { s with cdc := { s.cdc with asked := none, train := ⟨.sampling, k, ps, 0, 0, s.now, cmd⟩ } }

/-- The ACTIVE slot with the lowest REFS, the lower number on a tie (R141). -/
def State.leastRefs (s : State) : Option Nat :=
  ((List.range 15).filter fun i => (s.dict (i + 1)).state == .active).foldl (fun (b : Option Nat) i =>
    match b with
    | none => some (i + 1)
    | some j => if (s.dict (i + 1)).refs < (s.dict j).refs then some (i + 1) else some j) none

/-- A slot is FREE: a candidate that waits for one takes it (R141). -/
def State.offerSlot (s : State) : State := if s.cdc.train.st == .waiting then s.admitCandidate else s

/-- Make a slot RETIRING; one with no reference is cleared and FREE at once (R144). -/
def State.retireDict (s : State) (d : Nat) : State :=
  let x := s.dict d
  if x.refs = 0 then (s.freeDict d).offerSlot else s.setDict d { x with state := .retiring }

/-- A candidate found good: admitted into a FREE slot, or it waits while the least used slot retires; training keeps at most one slot RETIRING (R141). -/
def State.placeCandidate (s : State) : State :=
  if (List.range 15).any fun i => (s.dict (i + 1)).state == .free then s.admitCandidate
  else
    let s := { s with cdc := { s.cdc with train := { s.cdc.train with st := .waiting, since := s.now } } }
    if s.cdc.trainRetiring.isSome then s
    else
      match s.leastRefs with
      | none => s
      | some d => { s with cdc := { s.cdc with trainRetiring := some d } }.retireDict d

/-- The candidate is discarded and counted (R140, R141). -/
def State.discardCandidate (s : State) : State := (s.endRound 0 0).count 7 14

/-- Is a candidate admitted: its mean is at least MIN_GAIN percent below the better of the other two (R140)? With no ACTIVE dictionary of the key only the encoding with none counts. -/
def State.candidateGood (s : State) (cand best plain : Nat) : Bool :=
  let any := (List.range 15).any fun i => (s.dict (i + 1)).state == .active && (s.dict (i + 1)).key == s.cdc.train.key
  let ref := if any then min best plain else plain
  decide (cand * 100 ≤ ref * (100 - s.minGain))

/-- CANDIDATE_BUILT (R140, R141): sampling has ended, and DEEP validates the candidate and admits or discards it. -/
def execCandidateBuilt (signature : BitVec 64) (size : Fin 32769) (meanCand meanBest meanNone : Nat) (s : State) : Host.Outcome State Fault Refusal :=
  if (s.cdc.train.st != .sampling && s.cdc.train.st != .building) || s.mgt.st != .running then .next s
  else
    let s := s.endSampling
    let s := { s with cdc := { s.cdc with train := { s.cdc.train with st := .validating, signature := signature, size := size.val } } }
    if s.candidateGood meanCand meanBest meanNone then .next s.placeCandidate else .next s.discardCandidate

/-- CANDIDATE_WAIT_TIMEOUT (R141): no slot became FREE in 10 min. -/
def execCandidateWaitTimeout (s : State) : Host.Outcome State Fault Refusal :=
  if s.cdc.train.st == .waiting then .next s.discardCandidate else .next s

/-- DICT_RELOAD_DONE (R145): waiting DEEP reads go on; with both map-area copies bad the slot is RETIRING and its pages are lost as they are reached. -/
def execDictReloadDone (slot : DictId) (bothBad : Bool) (s : State) : Host.Outcome State Fault Refusal :=
  let d := slot.val
  let x := s.dict d
  if !x.reloading then .next s
  else
    let s := s.setDict d { x with reloading := false, lost := x.lost || bothBad, state := if bothBad then .retiring else x.state }
    let s := if bothBad then (s.event [s.owner] .failure .dictLost d).pannier 56 0xFF 4 .dictLost 2 0 0 0x230044 true else s
    let s := if bothBad && x.refs == 0 then (s.freeDict d).offerSlot else s
    let ids := (s.rtk.filter fun r => r.phase == .dict d).map (·.id)
    let s := ids.foldl (fun s id => s.serve id) s
    let ls := (s.nc.fills.filter fun f => f.value.isNone && (s.storageRec (pageKey f.line)).dict == d).map (·.line)
    .next (ls.foldl (fun s l => s.reopenFill l) s)

/-- Clear every dictionary bound to a key slot, at its zeroization (R139). A round on that key's pages is abandoned with its candidate, which would be bound to the slot too (DEDUCED, LOG 56); a candidate of another key that waits takes a slot that is now FREE (R141). -/
def State.clearDicts (s : State) (k : Nat) : State :=
  let s := if s.cdc.train.st != .idle && s.cdc.train.key == k then s.discardCandidate else s
  let gone := s.cdc.dicts.any fun p => p.2.key == k
  let s := { s with cdc := { s.cdc with
    dicts := s.cdc.dicts.filter fun p => p.2.key != k
    trainRetiring := if s.cdc.trainRetiring.any fun d => (s.dict d).key == k then none else s.cdc.trainRetiring } }
  if gone then s.offerSlot else s

end Sys2Proof.Machine
end

