-- ==== Sys2Proof/Machine/Channels.lean ====
section
/-! DEFINITION. The DRAM channels: populations, training, refresh, rank and channel states, replays, repairs, failure and return (R231 to R263, R280 to R282). -/

namespace Sys2Proof.Machine

/-! ## Populations (R232 to R235) -/

/-- GiB of a DIMM: in each physical rank 8 data devices on each of two subchannels, of stacks of 16, 24 or 32 Gb (R232). -/
def dimmGib (p : ChanPop) : Nat := (p.ranks.val + 1) * 2 * 8 * 2 ^ p.stack.val * [2, 3, 4][p.density.val]?.getD 0

/-- Is a channel's population one of *Supported DIMMs*: x4 devices with ECC, the stacks and ranks of its kind, the capacity that they give; a single DIMM in slot 0, and one DIMM on an MRDIMM channel (R232, R235)? -/
def popSupported (p : ChanPop) : Bool :=
  p.slot0 && p.x4 && p.ecc && decide (p.stack.val ≤ 2) && decide (p.density.val ≤ 2) && p.sizeGib == dimmGib p &&
    (match p.kind with
     | .rdimm => p.stack.val == 0 && decide (p.ranks.val ≤ 1)
     | .rdimm3ds => p.stack.val != 0 && p.ranks.val == 1
     | .mrdimm => p.ranks.val == 1 && !p.slot1)

/-- Is a DIMM unusable: no rate at or above the lowest of its kind (R233)? -/
def popUsable (p : ChanPop) : Bool :=
  match p.spdMax with
  | none => false
  | some r => p.kind != .mrdimm || decide (5 ≤ r.val)

/-- What the reference configuration compares (R234). -/
structure RefConf where
  kind : DimmKind
  stack : Nat
  density : Nat
  ranks : Nat
  dimms : Nat
  sizeGib : Nat
  deriving DecidableEq, Repr

/-- The configuration of a channel. -/
def popConf (p : ChanPop) : RefConf := ⟨p.kind, p.stack.val, p.density.val, p.ranks.val, p.slot0.toNat + p.slot1.toNat, p.sizeGib⟩

/-- The configuration found on the most channels that hold DIMMs and no unusable one, ties to the lowest-numbered (R234). -/
def refConf (ps : List ChanPop) : Option RefConf :=
  let cs := (ps.filter fun p => (p.slot0 || p.slot1) && popUsable p).map popConf
  (cs.foldl (fun (b : Option (RefConf × Nat)) c =>
    let n := (cs.filter (· == c)).length
    match b with
    | none => some (c, n)
    | some (d, m) => if m < n then some (c, n) else some (d, m)) none).map (·.1)

/-- Is a channel populated: usable, uniform and matching the reference configuration (R234)? -/
def popPopulated (p : ChanPop) (r : RefConf) : Bool := popSupported p && popUsable p && p.uniform && popConf p == r

def chans16 : List Chan := [0, 1, 2, 3, 4, 5, 6, 7, 8, 9, 10, 11, 12, 13, 14, 15]

/-- The four sets of R234, largest first, the even set before the odd. -/
def chanSets : List (List Chan) :=
  [chans16, chans16.filter fun c => c.val % 4 != 3, chans16.filter fun c => c.val % 2 == 0, chans16.filter fun c => c.val % 2 == 1]

/-- The largest set whose channels all satisfy `ok` (R234, R237). -/
def chanSet (ok : Chan → Bool) : Option (List Chan) := chanSets.find? fun cs => cs.all ok

/-- SPEED_MAX fitted to the kind (R233). -/
def fitSpeed (k : DimmKind) (v : Nat) : Nat :=
  let v := min v 6
  match k with
  | .mrdimm => max v 5
  | _ => min v 4

/-- Rank sets of a configuration (R235). -/
def RefConf.rankSets (r : RefConf) : Nat := if r.kind == .mrdimm then 2 else r.dimms * (r.ranks + 1)

/-- Stack height H (R269). -/
def RefConf.height (r : RefConf) : Nat := 2 ^ r.stack

/-- Rows of the DRAM: a rank's bytes on one channel over the bytes of one row in every bank, column and subchannel (R269). -/
def RefConf.rows (r : RefConf) : Nat := r.sizeGib * 2 ^ 30 / ((if r.kind == .mrdimm then 2 else r.ranks + 1) * 512) / positionsPerRow (4 * r.height)

/-! ## Training (R236 to R238) -/

/-- KIND of DRCn_POP. -/
def kindCode : DimmKind → Nat
  | .rdimm => 1
  | .rdimm3ds => 2
  | .mrdimm => 3

/-- What discovery reports of a channel (DRCn_POP). -/
def State.reportPop (s : State) (c : Chan) (p : ChanPop) (m : Bool) (rate : Nat) : State :=
  let f (s : State) (x : Fld) (v : Nat) := s.setF (x.nth c.val) v
  let any := p.slot0 || p.slot1
  let s := f (f (f s Reg.DRCn_POP.KIND (if any then kindCode p.kind else 0)) Reg.DRCn_POP.DIMMS (p.slot0.toNat + 2 * p.slot1.toNat)) Reg.DRCn_POP.RANKS (if any then p.ranks.val else 0)
  let s := f (f (f s Reg.DRCn_POP.STACK (if any then p.stack.val else 0)) Reg.DRCn_POP.DENSITY (if any then p.density.val else 0)) Reg.DRCn_POP.MATCH m.toNat
  let s := f s Reg.DRCn_POP.RATE rate
  let s := f s Reg.DRCn_ERR.I3C_FALLBACK p.i2c.toNat
  s.updChan c fun x => { x with pop := if any then some p else none, matched := m }

/-- The step of *Channel training* that a channel fails twice: a PMIC fault fails step 2 (R236, R237). -/
def failStep (p : ChanPop) : Fin 16 :=
  match p.failsAt with
  | some k => ⟨k.val, by omega⟩
  | none => 2

/-- A channel in use fails training twice (R237): TRAIN_FAIL, an event record and a Pannier record, both of which name the channel and the step. -/
def State.trainFail (s : State) (c : Chan) (p : ChanPop) : State :=
  let s := s.flag (Reg.DRCn_ERR.TRAIN_FAIL.nth c.val)
  let s := if p.pmicFault then s.flag (Reg.DRCn_ERR.PMIC_FAULT.nth c.val) else s
  let s := s.event [s.owner] .warning .trainFail (c.val + 16 * (failStep p).val)
  s.pannier (12 + c.val) 0xFF 6 .trainFail 1 0 0 (0x40001C + 0x20000 * c.val) true (some (failStep p))

/-- Does training of the channel fail at both attempts? -/
def popFails (p : ChanPop) : Bool := p.failsAt.isSome || p.pmicFault

/-- A channel set aside (R234, R237). -/
def State.setAside (s : State) (c : Chan) : State :=
  let s := s.updChan c fun x => { x with st := .off }
  let s := s.event [s.owner] .warning .channelSetAside c.val
  s.pannier (12 + c.val) 0xFF 6 .channelSetAside 1 0 0 0x400004 true

/-- Ranks of a channel after training: all ACTIVE. -/
def freshRanks (n : Nat) : Tbl Rank := (List.range n).map fun j => (j, Rank.mk .active 0 false)

/-- Do two devices rows lie in one bank group of one device (R258)? The three low bits of a bank number are its group (LOG 35). -/
def sameGroup (a b : DevRow) : Bool := sameDev a b && a.bank.toNat % 8 == b.bank.toNat % 8

/-- Hard repairs of training step 7: at most 4 listed repairs of the channel, one per bank group of each device, become permanent and leave the list; `done` are those made so far (R258). -/
def hardRepairs (c : Chan) : List Repair → List DevRow → List Repair
  | [], _ => []
  | r :: rs, done =>
    if r.chan == c && !r.mark && decide (done.length < 4) && !done.any (sameGroup r.d) then hardRepairs c rs (done ++ [r.d])
    else r :: hardRepairs c rs done

/-- Step 7 on a channel: the hard repairs made are counted (R258, R415). -/
def State.hardRepair (s : State) (c : Chan) : State :=
  let left := hardRepairs c s.repairs []
  { s with repairs := left }.count 10 (4 * c.val + 3) (s.repairs.length - left.length)

/-- Where the DIMM of a listed repair stands now: the entry follows its serial number to the channel and slot that hold it, and one whose DIMM is no longer fitted is discarded (R257). -/
def relocate (pops : List ChanPop) (q : Repair) : Option Repair :=
  let at1 (c : Chan) (slot : Nat) : Option Repair := pops[c.val]?.bind fun p =>
    if (if slot = 0 then p.slot0 && p.serial0 == q.serial else p.slot1 && p.serial1 == q.serial) then
      let r := slot * slotWidth p + q.d.rank.val % slotWidth p
      if h : r < 8 then some { q with chan := c, d := { q.d with rank := ⟨r, h⟩ } } else none
    else none
  ([0, 1, 2, 3, 4, 5, 6, 7, 8, 9, 10, 11, 12, 13, 14, 15] : List Chan).findSome? fun c => (at1 c 0).or (at1 c 1)

/-- The marks of the repair list are applied again at step 8 (R266). -/
def State.applyMarks (s : State) (c : Chan) : State :=
  (s.repairs.filter fun r => r.chan == c && r.mark).foldl (fun (s : State) r =>
    let s := s.updChan c fun x => { x with marks := if x.marks.contains (r.d.rank, r.d.subB, r.d.dev) then x.marks else x.marks ++ [(r.d.rank, r.d.subB, r.d.dev)] }
    s.setBit (if r.d.subB then Reg.DRCn_MARK.MARK_B.nth c.val else Reg.DRCn_MARK.MARK_A.nth c.val) r.d.rank.val true) s

/-- Memory cannot become ready: no usable set (R234). -/
def State.noSet (s : State) : State :=
  let s := (s.event [s.owner] .fatal .noChannelSet 0).pannier 1 0xFF 6 .noChannelSet 3 0 0 0x400004 true
  { s with aon := { s.aon with boot := .noMemory } }

/-- Geometry and raw capacity of a set of channels (R102, R234, R235, R269, R272). -/
def State.setGeometry (s : State) (cs : List Chan) (r : RefConf) : State :=
  let raw := cs.length * r.dimms * r.sizeGib * 1024
  let d := directMib (s.f Reg.XLT_CAP_CFG.DIRECT_SIXT) raw
  let bits := cs.foldl (fun b (c : Chan) => b + 2 ^ c.val) 0
  let s := s.setF Reg.DRC_GLB_STATUS.USED bits
  { s with cap := { s.cap with chans := cs, rawMib := raw, dirMib := d, rankSets := r.rankSets, bankDigits := 4 * r.height, rows := r.rows } }

/-- Frames of the frame area: every position that the direct area leaves (R270, R272). -/
def State.areaFrames (s : State) : Nat :=
  (s.cap.rankSets * positionsPerRankSet s.cap.bankDigits s.cap.rows - s.frameBase) * s.w

/-- CHANNEL_TRAINING (R232 to R237): the population is found, the set of channels chosen, and every channel in use trained; one that fails twice enters FAILED in guarded mode and is set aside in lean mode. One left without an XTS engine enters FAILED (R317). -/
def execChannelTraining (pops : List ChanPop) (s : State) : Host.Outcome State Fault Refusal :=
  if s.aon.boot != .firmware || s.aon.inReset || pops.length != 16 then .next s
  else
    let pop (c : Chan) : Option ChanPop := pops[c.val]?
    match refConf pops with
    | none => .next s.noSet
    | some r =>
      let ok (c : Chan) : Bool := (pop c).any (popPopulated · r)
      let bad (c : Chan) : Bool := (pop c).any popFails
      match chanSet ok with
      | none => .next s.noSet
      | some first =>
        let failing := first.filter bad
        let s := failing.foldl (fun s c => match pop c with
          | some p => s.trainFail c p
          | none => s) s
        match if s.lean then chanSet (fun c => ok c && !bad c) else some first with
        | none => .next s.noSet
        | some cs =>
          let spd := cs.foldl (fun m c => min m (((pop c).bind (·.spdMax)).elim 6 (·.val))) 6
          let rate := min (fitSpeed r.kind (s.f Reg.DRC_GLB_CFG.SPEED_MAX)) (if r.kind == .mrdimm then spd else min spd 4)
          let s := chans16.foldl (fun s c => match pop c with
            | some p => s.reportPop c p (ok c) (if cs.contains c then rate else 0)
            | none => s) s
          let s := (chans16.filter fun c => !cs.contains c && (s.chan c).pop.isSome).foldl (fun s c => s.setAside c) s
          let s := s.setGeometry cs r
          let s := { s with repairs := s.repairs.filterMap (relocate pops) }
          let hard := s.fb Reg.DRC_GLB_CFG.PPR_HARD_EN
          let s := cs.foldl (fun (s : State) c =>
            let s := if hard then s.hardRepair c else s
            (s.updChan c fun x => { x with rate := rate, ranks := freshRanks r.rankSets, retraining := true }).applyMarks c) s
          let s := (cs.filter bad).foldl (fun s c => s.failChan c .training) s
          let s := (cs.filter fun c => !s.hasEngine c.val).foldl (fun s c => s.failChan c .engine) s
          .next { s with aon := { s.aon with boot := .trained } }

/-- CHANNEL_TRAINED (R238, R281, R282): the channel reports TRAINED; one that returns begins resynchronization. -/
def execChannelTrained (c : Chan) (s : State) : Host.Outcome State Fault Refusal :=
  let x := s.chan c
  if !x.retraining || decide (c ∉ s.cap.chans) then .next s
  else
    let back := x.st == .failed
    let s := s.updChan c fun x => { x with
      retraining := false, trained := true, st := .active, resync := back, cursor := 0, resyncing := [], failCause := none
      ranks := freshRanks s.cap.rankSets, bursts := [], alerts := [], recentred := none
      returns := if back then x.returns ++ [s.now] else x.returns }
    let s := s.updDom (12 + c.val) fun d => { d with st := .on }
    let s := s.setBit Reg.DRC_GLB_STATUS.FAILED c.val false
    .next (if back then s.setBit Reg.TRM_RESYNC.RESYNC c.val true else s)

/-! ## Periodic work and refresh (R242, R243, R246) -/

/-- Does a channel run? -/
def State.chanRuns (s : State) (c : Chan) : Bool :=
  match (s.chan c).st with
  | .active => true
  | .quiet => true
  | .ret => true
  | _ => false

/-- Periodic retraining falls due on a rank: a sleeping rank does it in the first pause after its wake (R243); an awake one does it in a pause, which leaves no state. -/
def State.retrain (s : State) (c : Chan) (r : RankSet) : State :=
  if !s.chanRuns c then s else s.updRank c r fun x => if x.asleep then { x with retrainDue := true } else x

/-- The rank sets of a DIMM slot (R235). -/
def State.slotRanks (s : State) (slot : Nat) : List RankSet :=
  let per := match (s.cap.chans.head?.bind fun c => (s.chan c).pop) with
    | some p => slotWidth p
    | none => 0
  ([0, 1, 2, 3, 4, 5, 6, 7] : List RankSet).filter fun j => decide (slot * per ≤ j.val) && decide (j.val < (slot + 1) * per)

/-- ZQ_CALIBRATION (R242). -/
def execZqCalibration (c : Chan) (slot : Fin 2) (s : State) : Host.Outcome State Fault Refusal :=
  .next ((s.slotRanks slot.val).foldl (fun s r => s.retrain c r) s)

/-- DQS_OSCILLATOR_READOUT (R242): an adjustment is written when the drift exceeds one delay step; delays are not state. -/
def execDqsOscillatorReadout (c : Chan) (r : RankSet) (drift : Nat) (s : State) : Host.Outcome State Fault Refusal :=
  if drift ≤ 1 ∧ (s.rank c r).any (fun x => !x.asleep) then .next s else .next (s.retrain c r)

/-- READ_DQ_RECENTRE (R242): on one subchannel. -/
def execReadDqRecentre (c : Chan) (r : RankSet) (subB : Bool) (s : State) : Host.Outcome State Fault Refusal :=
  if (if subB then (s.chan c).pauseB else (s.chan c).pauseA) then .next s else .next (s.retrain c r)

/-- WRITE_DQ_RECENTRE (R242): on one subchannel. -/
def execWriteDqRecentre (c : Chan) (r : RankSet) (subB : Bool) (s : State) : Host.Outcome State Fault Refusal :=
  if (if subB then (s.chan c).pauseB else (s.chan c).pauseA) then .next s else .next (s.retrain c r)

/-- REFRESH (R246, R248): postponed while commands wait, at most 4 intervals; then the postponed ones are issued with it. A sleeping rank refreshes itself. -/
def execRefresh (c : Chan) (r : RankSet) (commandsWait : Bool) (s : State) : Host.Outcome State Fault Refusal :=
  match s.rank c r with
  | none => .next s
  | some x =>
    if !s.chanRuns c || x.asleep then .next s
    else if commandsWait && decide (x.postponed < 4) then .next (s.updRank c r fun x => { x with postponed := x.postponed + 1 })
    else
      let s := s.updChan c fun ch => { ch with retry := (ch.retry.filter fun e => decide (s.now < e.1 + ch.retryNs)) ++ [(s.now, false, .refresh r), (s.now, true, .refresh r)] }
      .next ((s.updRank c r fun x => { x with postponed := 0 }).count 9 (4 * c.val + 3) (x.postponed + 1))

/-! ## Rank and channel states (R248, R249) -/

/-- POWER_DOWN_ENTRY (R248): no command for PD_IDLE; 0 disables it. -/
def execPowerDownEntry (c : Chan) (r : RankSet) (s : State) : Host.Outcome State Fault Refusal :=
  if !s.chanRuns c || s.f (Reg.DRCn_PWR_CFG.PD_IDLE.nth c.val) == 0 then .next s
  else .next (s.updRank c r fun x => if x.st == .active then { x with st := .powerDown } else x)

/-- SELF_REFRESH_ENTRY (R248): not for a rank of a released park set. -/
def execSelfRefreshEntry (c : Chan) (r : RankSet) (s : State) : Host.Outcome State Fault Refusal :=
  if !s.chanRuns c || s.drl.released.getLsbD r.val then .next s
  else .next (s.updRank c r fun x => if x.asleep then x else { x with st := .selfRefresh })

/-- PARKED_ENTRY (R248): a rank of a park set that the Derailleur has released. -/
def execParkedEntry (c : Chan) (r : RankSet) (s : State) : Host.Outcome State Fault Refusal :=
  if !s.chanRuns c || !s.drl.released.getLsbD r.val then .next s
  else .next (s.updRank c r fun x => { x with st := .parked })

/-- QUIET_ENTRY (R249, R381): all ranks asleep for QUIET_IDLE; 0 disables it. -/
def execQuietEntry (c : Chan) (s : State) : Host.Outcome State Fault Refusal :=
  let x := s.chan c
  if x.st != .active || s.f (Reg.DRCn_PWR_CFG.QUIET_IDLE.nth c.val) == 0 || x.ranks.isEmpty || !(x.ranks.all fun r => r.2.asleep) then .next s
  else .next (s.updChan c fun x => { x with st := .quiet })

/-- RANK_WAKE (R248 to R250): a channel in RET wakes with its domain first. -/
def execRankWake (c : Chan) (r : RankSet) (s : State) : Host.Outcome State Fault Refusal :=
  match (s.chan c).st with
  | .ret => .next (s.latchWake (12 + c.val) .hostRequest)
  | .active => .next (s.wakeRank c r)
  | .quiet => .next (s.wakeRank c r)
  | _ => .next s

/-! ## Command errors (R252, R253, R263) -/

/-- ALERT_N (R252, R253): the replay begins; the third alert in 1 ms starts CA re-centring, and three more within 1 ms of it fail the channel. A pause on the subchannel stops and restarts. -/
def execAlertN (c : Chan) (subB : Bool) (s : State) : Host.Outcome State Fault Refusal :=
  if !s.chanRuns c then .next s
  else
    let s := (s.flag (Reg.DRCn_ERR.CA_PAR.nth c.val)).count 10 (4 * c.val + 1)
    let x := s.chan c
    let recent := (x.alerts.filter fun t => decide (s.now < t + 1000000)) ++ [s.now]
    let after := x.recentred.any fun t => decide (s.now < t + 1000000)
    let s := s.updChan c fun x => { x with retry := x.retry.filter fun e => (if e.2.1 then x.alertB else x.alertA) || decide (s.now < e.1 + x.retryNs) }
    let s := s.updChan c fun x => { x with alerts := recent, alertA := x.alertA || !subB, alertB := x.alertB || subB }
    if recent.length < 3 then .next s
    else if after then .next ((s.flag (Reg.DRCn_ERR.REPLAY_FAIL.nth c.val)).failChan c .replay)
    else .next (s.updChan c fun x => { x with alerts := [], recentred := some s.now, pauseA := x.pauseA || !subB, pauseB := x.pauseB || subB })

/-- ALERT_N_DEASSERT (R251, R252): PREA and the replay of every command of the subchannel in the retry buffer, in order, which issues each of them again, counted as issued (R415); a CA re-centring pause of the subchannel ends with it. A retry buffer found uncorrectable fails the channel (R290). -/
def execAlertNDeassert (c : Chan) (subB bufferLost : Bool) (s : State) : Host.Outcome State Fault Refusal :=
  let was := if subB then (s.chan c).alertB else (s.chan c).alertA
  if was && bufferLost then .next ((s.pannier (12 + c.val) 4 7 .sramError 2 0 0 0 false).failChan c .detected)
  else
    let again := (s.chan c).retry.filter fun e => e.2.1 == subB
    let s := if was then again.foldl (fun s e => s.countIssue c e.2.2 1) s else s
    .next (s.updChan c fun x =>
      let x := if was then { x with retry := x.retry.filter (fun e => e.2.1 != subB) ++ again.map fun e => (s.now, e.2) } else x
      if subB then { x with alertB := false, pauseB := false } else { x with alertA := false, pauseA := false })

/-! ## Temperature, repair and failure (R247, R255 to R258, R280 to R282) -/

/-- CHANNEL_B3_TIMEOUT (R247): FAILED in guarded mode; a Fatal event record in lean mode, in which the channel keeps running. -/
def execChannelB3Timeout (c : Chan) (s : State) : Host.Outcome State Fault Refusal :=
  if (s.chan c).band != 3 || !s.chanRuns c then .next s
  else if s.lean then .next (s.event s.heads .fatal .channelB3 c.val)
  else .next (s.failChan c .band)

/-- ECS_READOUT (R255, R256): a row with an error count of 4 or more is a repair candidate. -/
def execEcsReadout (c : Chan) (d : DevRow) (count : Nat) (s : State) : Host.Outcome State Fault Refusal :=
  if !s.fb Reg.DRC_GLB_CFG.ECS_EN || !s.chanRuns c || decide (count < 4) then .next s else .next (s.offerRepair c d)

/-- Has the device of a candidate a soft repair left: no listed repair in the same bank group (R258)? -/
def State.pprFree (s : State) (c : Chan) (d : DevRow) : Bool := !s.repairs.any fun r => r.chan == c && !r.mark && sameGroup r.d d

/-- The 128 lines of a repaired row are read, corrected and written back (R256, R415). -/
def State.rewriteRow (s : State) (c : Chan) : State := (s.countIssue c (.engine 0 false) 128).countIssue c (.engine 0 true) 128

/-- SOFT_PPR (R256 to R258, R266): the oldest candidate is repaired and listed; with no repair resource left its device is marked. A parked rank is left alone for up to 1 h; a replay or a pause of its subchannel goes first (R263). -/
def execSoftPpr (c : Chan) (resource : Bool) (s : State) : Host.Outcome State Fault Refusal :=
  let x := s.chan c
  match x.cands with
  | [] => .next s
  | (d, t) :: rest =>
    let parked := (s.rank c d.rank).any fun r => r.st == .parked
    let busy := if d.subB then x.alertB || x.pauseB else x.alertA || x.pauseA
    if !s.chanRuns c || !s.fb Reg.DRC_GLB_CFG.PPR_SOFT_EN || busy || (parked && decide (s.now < t + 3600000000000)) then .next s
    else
      let s := s.updChan c fun x => { x with cands := rest }
      let s := if (s.rank c d.rank).any (·.asleep) then s.wakeRank c d.rank else s
      if resource && s.pprFree c d then
        .next ((((s.rewriteRow c).listRepair c d false).flag (Reg.DRCn_ERR.PPR_DONE.nth c.val)).count 10 (4 * c.val + 3))
      else .next ((s.flag (Reg.DRCn_ERR.PPR_EXHAUST.nth c.val)).markDevice c d)

/-- CHANNEL_NO_DATA_TIMEOUT (R280). -/
def execChannelNoDataTimeout (c : Chan) (s : State) : Host.Outcome State Fault Refusal :=
  if s.chanRuns c then .next (s.failChan c .detected) else .next s

/-- Has the cause of a failure cleared, so that the channel may be retrained (R281)? -/
def State.mayReturn (s : State) (c : Chan) : Bool :=
  let x := s.chan c
  !s.lean && x.st == .failed && decide (c ∈ s.cap.chans) && !s.fbit Reg.TRM_RESYNC.LOCKED_OUT c.val && !x.retraining &&
    (match x.failCause with
     | some .replay => true
     | some .detected => true
     | some .band => x.coolSince.isSome
     | some .pmic => !x.pmicDown
     | _ => false)

/-- CHANNEL_RETURN (R281): retraining of steps 3 to 8 begins. -/
def execChannelReturn (c : Chan) (s : State) : Host.Outcome State Fault Refusal :=
  if s.mayReturn c then .next ((s.updChan c fun x => { x with retraining := true }).applyMarks c) else .next s

/-- RESYNCHRONIZATION_DONE (R282): the cursor has passed the last position; the channel is re-admitted for reads, and the recovery is reported. -/
def execResynchronizationDone (c : Chan) (s : State) : Host.Outcome State Fault Refusal :=
  if !(s.chan c).resync || s.positionsInUse.any (fun q => decide ((s.chan c).cursor ≤ q)) then .next s
  else
    let s := (s.updChan c fun x => { x with resync := false, cursor := 0, resyncing := [] }).setBit Reg.TRM_RESYNC.RESYNC c.val false
    .next (s.event [s.owner] .informational .recovered c.val)

end Sys2Proof.Machine
end

