-- ==== Sys2Proof/Machine/Reset.lean ====
section
/-! DEFINITION. What a reset of the main domains leaves (R436, R437, R452), gate-offs (R405 to R408) and the MGT restart (R438). -/

namespace Sys2Proof.Machine

/-! ## Registers -/

/-- The blocks that a reset of the main domains leaves: SNS, HSW and BBX (R452). -/
def aonReg (off : Nat) : Bool := (decide (0x720000 ≤ off) && decide (off < 0x740000)) || (decide (0x750000 ≤ off) && decide (off < 0x760000))

/-- A register word after a reset: PD_AON blocks keep theirs; at a device reset RWS fields keep their value; every other field takes its reset value (R9, R452). -/
def keptWord (cold : Bool) (off : Nat) (w : Word) : Word :=
  if aonReg off then w
  else if cold then resetWord off
  else match regAt off with
    | none => resetWord off
    | some r => (w &&& r.rws) ||| (resetWord off &&& ~~~ r.rws)

/-- The register file after a reset. -/
def keptRegs (cold : Bool) (t : Tbl Word) : Tbl Word :=
  t.filterMap fun p =>
    let v := keptWord cold p.1 p.2
    if v = resetWord p.1 then none else some (p.1, v)

/-! ## Device reset -/

/-- An engine after a reset of its domain: only what its balls and its host are stays (R206, R436). A port whose PERST_n is deasserted begins its bring-up at step 7 (R432). -/
def Port.afterReset (p : Port) : Port :=
  { Port.reset with perst := p.perst, refclk := p.refclk, cap := p.cap, waiting := if p.perst then none else p.cap }

/-- Every domain but PD_AON is reset: links are down, stored data, keys, translation, registers and counters take their reset values (R32, R305, R413, R436, R452). `cold`: also RWS fields and DEBUG_UNLOCKED. -/
def State.mainReset (s : State) (cold : Bool) : State :=
  { pending := s.pending, free := s.free, out := s.out, now := s.now, tb := s.tb
    csr := keptRegs cold s.csr
    aon := { s.aon with boot := .standby, running := none, trying := false, receiver := none }
    ports := heads8.foldl (fun t h => t.set Port.reset h.val (s.port h).afterReset) []
    repairs := s.repairs
    cry := { debugOpen := !cold && s.cry.debugOpen, zeroized := !cold && s.cry.zeroized, kemGen := s.cry.kemGen + 1 }
    doms := s.doms.filter fun d => d.1 == 0
    cad := { die := s.cad.die, dimm := s.cad.dimm, noRead := s.cad.noRead, history := s.cad.history, railAt := s.cad.railAt }
    hsw := s.hsw
    pan := s.pan }

/-- A device reset: every link goes down, then every domain but PD_AON is reset (R436). -/
def State.deviceReset (s : State) : State := (s.holdPorts).mainReset false

/-! ## MGT (R296, R352, R438, R439) -/

/-- An MGT restart begins: a Pannier record that names its cause, ring commands pause, sideband sessions end, the training round and a firmware update are abandoned, and the boot ROM loads an image; a PENDING image is tried first (R322, R437, R438, R439). -/
def State.restartMgt (s : State) (why : RestartWhy) : State :=
  if s.mgt.st == .reset then s
  else
    let s := s.pannier 1 0xFF 0xD (.mgtRestart why) 1 0 0 0 false
    let s := (s.flag Reg.CMD_STATUS.MGT_PAUSE).endSessions .sideband
    let s := if s.cdc.train.st == .idle then s else (s.endRound 0 0).count 7 14
    let s := { s with aon := { s.aon with trying := s.aon.pendingFw } }
    { s with mgt := { s.mgt with st := .booting, dogAt := s.now, updating := false } }

/-! ## Gate-offs (R405 to R409) -/

/-- Gate-off causes that are trips (R405). -/
def tripCause (c : Nat) : Bool := decide (1 ≤ c) && decide (c ≤ 6)

/-- The event number of a gate-off record is its cause (R423). -/
def State.gateRecord (s : State) (c : Nat) (m : TripMeas) : State :=
  s.panEnter (s.panRec 0 1 0xC (BitVec.ofNat 12 c) (if c = 6 then 3 else if tripCause c then 2 else 0) 0 0 0x730014 false
    ([BitVec.ofNat 8 c] ++ leBytes 4 m.peakA ++ leBytes 4 m.limitUs ++ leBytes 4 m.vinMv ++ leBytes 4 m.vsrcMv))

/-- HSW_TRIP_LOG takes the values of the gate-off record (R406). -/
def State.tripLog (s : State) (c : Nat) (m : TripMeas) : State :=
  let s := (s.flag Reg.HSW_TRIP_LOG.VALID).setF Reg.HSW_TRIP_LOG.CAUSE c
  (s.setF Reg.HSW_TRIP_LOG.PEAK_A (min 2047 m.peakA)).setF Reg.HSW_TRIP_LOG.LIMIT_US (min 65535 m.limitUs)

/-- RETRY_MAX consecutive trips latch HSW off (R409). -/
def State.retriesOut (s : State) : Bool :=
  let r := s.f Reg.HSW_RETRY.RETRY_MAX
  r != 0 && decide (r ≤ s.f Reg.HSW_STATUS.TRIPS)

/-- The gate turns off with a cause: its record, the trip log, and for a trip the cell, the count of trips and a latch-off; power good falls, the links go down and every main domain loses its state (R400, R405 to R409). -/
def State.gateOff (s : State) (c : Nat) (m : TripMeas) : State :=
  if s.hsw.gate != .ramp && s.hsw.gate != .on then s
  else
    let s := (s.gateRecord c m).tripLog c m
    let s := s.setF Reg.HSW_STATUS.LAST_CAUSE c
    let s := s.count 15 24 m.limitUs
    let s := if tripCause c then (s.setF Reg.HSW_STATUS.TRIPS (min 255 (s.f Reg.HSW_STATUS.TRIPS + 1))).count 15 23 else s
    let g : Gate := if tripCause c then (if s.retriesOut then .latched else .cool) else if c = 10 then .off else .wait
    let s := { s with hsw := { s.hsw with gate := g, pg := false, cell := s.hsw.cell || tripCause c, thermHeld := s.hsw.thermHeld || c == 6, offAt := s.now, limitUs := if tripCause c then m.limitUs else s.hsw.limitUs } }
    let s := s.holdPorts.mainReset true
    { s with aon := { s.aon with rails := false, railFault := false } }

end Sys2Proof.Machine
end

