-- ==== Sys2Proof/Machine/Mgt.lean ====
section
/-! DEFINITION. How work reaches the management complex: the mailbox and the sideband, what waits and what is turned away (R354, R367, R368, R439 to R441); the services' roles and answers (R294 to R297, R324). -/

namespace Sys2Proof.Machine

/-! ## The mailbox and the sideband -/

/-- Does Clandahar take work: it runs and PD_MGT is ON? -/
def State.mgtUp (s : State) : Bool := s.mgt.st == .running && s.domOn 1

/-- A result held from a link down is read first (R223). -/
def State.readHeld (s : State) (h : Head) : State :=
  match (s.port h).mbxHeld with
  | none => s
  | some r => (s.updPort h fun p => { p with mbxHeld := none }).send (.mailbox h r)

/-- A mailbox command of a head: Clandahar runs it, or it is held until the ready point or the wake of PD_MGT; a head has one command at a time, and one that is held runs whatever its link does meanwhile (R223, R353, R439). -/
def State.mailbox (s : State) (h : Head) (i : Instr) (g : State → State) : State :=
  let held := s.mgt.held.contains (h, i)
  if !s.mainRuns || decide (h ∉ s.heads) || (!(s.port h).up && !held) then s
  else if s.rtk.any (fun r => r.head == h && r.chan == .inner) then s
  else if s.mgtUp then
    let s := { s with mgt := { s.mgt with held := s.mgt.held.filter (· != (h, i)) } }
    g ((if (s.port h).up then s.readHeld h else s).count 13 35 1 (some h.val))
  else if s.mgt.st == .recovery || s.mgt.st == .reset || s.mgt.held.any (·.1 == h) then s
  else
    let s := { s with mgt := { s.mgt with held := s.mgt.held ++ [(h, i)] } }
    if s.mgt.st == .running then s.latchWake 1 .hostRequest else s

/-- Is an MGT restart in progress, and not a start of the device? -/
def State.mgtRestarting (s : State) : Bool :=
  s.mgt.st == .booting && (s.aon.boot == .firmware || s.aon.boot == .trained || s.aon.boot == .ready || s.aon.boot == .noMemory)

/-- Does the sideband target answer: Kickstand runs and its standby supply holds (R440)? -/
def State.sbUp (s : State) : Bool := s.aon.kick && !s.aon.holding

/-- A sideband message that Clandahar serves: run, held with up to four packets, NACKed, or answered not ready; before an EID is assigned nothing but control messages is answered (R368, R370, R439 to R441). -/
def State.sideband (s : State) (i : Instr) (g : State → State) : State :=
  if !s.sbUp || s.aon.eid == 0 then s
  else if s.mainRuns && s.mgtUp then g s
  else if (s.dom 1).failed then s.send .nack
  else if s.mainRuns && (s.mgtRestarting || s.mgt.st == .running) then
    if s.mgt.heldSb.length < 4 then
      let s := { s with mgt := { s.mgt with heldSb := s.mgt.heldSb ++ [i] } }
      if s.mgt.st == .running then s.latchWake 1 .sideband else s
    else s.send .nack
  else s.send .notReady

/-! ## Roles (R294) -/

/-- Does an operator hold a role: a CO session also holds the User role? -/
def State.hasRole (s : State) (w : Via) : Role → Bool
  | .none => true
  | .user => s.cry.sessions.any fun x => x.via == w && (x.role == .user || x.role == .co)
  | .co => s.cry.sessions.any fun x => x.via == w && x.role == .co

/-- The answer to a service, with its APPROVED flag (R297). -/
def State.svcReply (s : State) (w : Via) (r : Reply) : State := s.send (.service w r s.approved)

/-- A service accepted (R415). -/
def State.svcOk (s : State) (w : Via) (r : Reply) : State := (s.count 12 17).svcReply w r

/-- A service refused with a status: nothing else changes (R295). -/
def State.svcNo (s : State) (w : Via) (why : String) : State := (s.count 12 18).svcReply w (.refused why)

/-- Carry a service request to CRY: over the sideband by Clandahar, over a head's DOE by CRY itself; only an OPERATIONAL module offers services (R294, R296, R314, R318). -/
def State.carry (s : State) (w : Via) (i : Instr) (g : State → State) : State :=
  match w with
  | .sideband => s.sideband i fun s => if s.cry.st == .operational then g s else s.send .notReady
  | .head h => if s.mainRuns && decide (h ∈ s.heads) && (s.port h).up && s.cry.st == .operational then g s else s

/-- Carry a service that needs a role (R295). -/
def State.service (s : State) (w : Via) (need : Role) (i : Instr) (g : State → State) : State :=
  s.carry w i fun s => if s.hasRole w need then g s else s.svcNo w "NOT_AUTHORIZED"

/-! ## Images (R321) -/

/-- Would the boot ROM run an image whose sections load as `loads`? -/
def State.imageOk (s : State) (img : FwImage) (loads : Bool) : Bool :=
  img.sigsOk && img.hashesOk && loads && img.vkey.any (s.aon.vendorKeys.contains ·) && decide (s.aon.svnFuse ≤ img.svn)

end Sys2Proof.Machine
end

