-- ==== Sys2Proof/Machine/Crypto.lean ====
section
/-! DEFINITION. The cryptographic module: sessions, services, key slots, IDE keys, self-tests, the spare XTS engine, the error state, zeroization and firmware updates (R291 to R324). -/

namespace Sys2Proof.Machine

/-! ## Key slots (R299, R301) -/

/-- EXTENTS of a slot. -/
def State.slotExtents (s : State) (k : Nat) : Nat := (s.xlt.ext.filter fun e => e.2.mode != .untouched && e.2.key == k).length

/-- REGIONS of a slot. -/
def State.slotRegions (s : State) (k : Nat) : Nat := (s.allRegions.filter (·.key == k)).length

/-- DICTS of a slot. -/
def State.slotDicts (s : State) (k : Nat) : Nat := (s.cdc.dicts.filter fun d => d.2.state != .free && d.2.key == k).length

/-- Write a key slot. -/
def State.setSlot (s : State) (k : Nat) (x : KeySlot) : State := { s with cry := { s.cry with slots := s.cry.slots.set KeySlot.empty k x } }

/-- The DRBG takes a new seed (R313). -/
def State.reseed (s : State) : State :=
  (State.takeFree { s with cry := { s.cry with drbgReqs := 0, drbgAt := s.now, drbgState := Config.drbg s.free } }).count 12 20

/-- A generate request of the DRBG: its output, and the request counted (R313). -/
def State.draw (s : State) : BitVec 256 × State :=
  (Config.drbg s.free, ({ s with cry := { s.cry with drbgReqs := s.cry.drbgReqs + 1, drbgState := Config.drbg (s.free + 1) } }.takeFree).takeFree)

/-- Fill a slot from the DRBG, with prediction resistance, and make it ACTIVE (R299, R302, R313). -/
def State.generateInto (s : State) (k : Nat) : State :=
  let (a, s) := s.reseed.draw
  let (b, s) := s.draw
  s.setSlot k ⟨.active, false, a, b⟩

/-! ## Registers of the module -/

/-- The word of CRY_FW. -/
def State.cryFw (s : State) : Word :=
  let svn := s.aon.running.elim 0 (·.svn.val)
  let vk := (s.aon.running.bind (·.vkey)).elim 0 (·.val)
  BitVec.ofNat 32 (s.aon.svnFuse.val * 2 ^ 24 + svn * 2 ^ 16 + vk * 16 + s.aon.pendingFw.toNat * 2 + s.aon.activeB.toNat)

/-! ## The XTS engines (R316, R317) -/

/-- A channel in use is left without an engine (R317). -/
def State.engineless (s : State) (c : Chan) : State := if s.cap.chans.contains c then s.failChan c .engine else s

/-- An engine fails: the spare takes its channel, or the channel has none (R316, R317). `e` 16 is XTS_SP. -/
def State.xtsFail (s : State) (e : Fin 17) (periodic spareOk : Bool) : State :=
  let s := s.flag (if periodic then Reg.XTS_EVENTS.KAT_FAIL else Reg.XTS_EVENTS.CHECK_MISMATCH)
  if e.val = 16 then
    let s := s.flag Reg.XTS_STATUS.SPARE_FAIL
    if s.fb Reg.XTS_STATUS.SPARE_ACTIVE then
      let c : Chan := ⟨s.f Reg.XTS_STATUS.SPARE_CH % 16, Nat.mod_lt _ (by decide)⟩
      (s.setF Reg.XTS_STATUS.SPARE_ACTIVE 0).engineless c
    else s
  else if s.fbit Reg.XTS_STATUS.ENGINE_OOS e.val then s
  else
    let c : Chan := ⟨e.val % 16, Nat.mod_lt _ (by decide)⟩
    let s := s.setBit Reg.XTS_STATUS.ENGINE_OOS e.val true
    let s := s.event [s.owner] .warning .unitOutOfService c.val
    let s := s.pannier (12 + c.val) 3 8 .unitOutOfService 1 0 0 0x600000 true
    if s.fb Reg.XTS_STATUS.SPARE_ACTIVE || s.fb Reg.XTS_STATUS.SPARE_FAIL then s.engineless c
    else if !spareOk then ((s.flag Reg.XTS_STATUS.SPARE_FAIL).flag Reg.XTS_EVENTS.KAT_FAIL).engineless c
    else ((s.flag Reg.XTS_STATUS.SPARE_ACTIVE).setF Reg.XTS_STATUS.SPARE_CH c.val).flag Reg.XTS_EVENTS.SWITCHED

/-- What the known-answer tests find (R310, R314): a shared engine leads to the error state; XTS and port GCM engines that fail alone do not. -/
def State.katResult (s : State) (r : KatResult) : State :=
  match r.shared with
  | some c => s.cryError c
  | none =>
    let s := (List.range 17).foldl (fun (s : State) i =>
      let i := 16 - i
      if r.xtsFail.getLsbD i then s.xtsFail ⟨i % 17, Nat.mod_lt _ (by decide)⟩ true (!r.xtsFail.getLsbD 16) else s) s
    heads8.foldl (fun (s : State) h => if r.gcmFail.getLsbD h.val then (s.updPort h fun p => { p with gcm := some false }).flag Reg.CRY_STATUS.IDE_KAT_FAIL else s) s

/-! ## Sessions (R294, R296) -/

/-- The role that a requester's root gives, a revoked CO root none (R294): none where it authenticates nobody, no session where the root is on no list. -/
def State.roleOf (s : State) : Option (BitVec 384) → Option Role
  | none => some .none
  | some r => if (s.aon.coRoots.zipIdx).any (fun x => x.1 == r && !s.aon.coRevoked.getLsbD x.2) then some .co else if s.aon.userRoots.contains r then some .user else none

/-- SPDM_SESSION (R294): one session per DOE mailbox and one over the sideband; a new one takes the place of the one before. -/
def execSpdmSession (w : Via) (root : Option (BitVec 384)) (s : State) : Host.Outcome State Fault Refusal :=
  .next (s.carry w (.spdmSession w root) fun s =>
    match s.roleOf root with
    | none => s.svcNo w "INVALID_REQUEST"
    | some r =>
      let s := s.endSessions w
      { s with cry := { s.cry with sessions := s.cry.sessions ++ [Session.mk w r] } }.svcReply w .ok)

/-- SESSION_END (R296): the role ends; services already accepted have run. -/
def execSessionEnd (w : Via) (s : State) : Host.Outcome State Fault Refusal := .next (s.endSessions w)

/-! ## Services without a role (R295, R323) -/

/-- SHOW_STATUS: in the error state over the sideband alone (R318). -/
def execShowStatus (w : Via) (s : State) : Host.Outcome State Fault Refusal :=
  let show1 (s : State) : State := s.svcOk w (.nats [s.cryStatus.toNat, s.cryFw.toNat, s.approved.toNat])
  .next (match w with
    | .sideband => s.sideband (.showStatus w) fun s => if s.cry.st == .selfTest then s.send .notReady else show1 s
    | .head _ => s.carry w (.showStatus w) show1)

/-- GET_CERTIFICATE. -/
def execGetCertificate (w : Via) (s : State) : Host.Outcome State Fault Refusal :=
  .next (s.carry w (.getCertificate w) fun s => s.svcOk w (.bytes Config.certificates))

/-- CHALLENGE: a signature by the identity keys. -/
def execChallenge (w : Via) (nonce : BitVec 256) (s : State) : Host.Outcome State Fault Refusal :=
  .next (s.carry w (.challenge w nonce) fun s => s.svcOk w (.bytes (Config.sign (leBytes 32 nonce.toNat))))

/-- The measurements: the image hash, the SVN and the fuse state (R323). -/
def State.measurements (s : State) : List Byte :=
  leBytes 48 (s.cry.measured.elim 0 (·.toNat)) ++ [BitVec.ofNat 8 (s.aon.running.elim 0 (·.svn.val)), BitVec.ofNat 8 s.aon.svnFuse.val] ++
    s.aon.vendorKeys.map (fun k => BitVec.ofNat 8 k.val) ++ s.aon.coRoots.flatMap (fun r => leBytes 48 r.toNat) ++ [s.aon.coRevoked.zeroExtend 8]

/-- GET_MEASUREMENTS. -/
def execGetMeasurements (w : Via) (s : State) : Host.Outcome State Fault Refusal :=
  .next (s.carry w (.getMeasurements w) fun s => s.svcOk w (.bytes (s.measurements ++ Config.sign s.measurements)))

/-! ## Services of the User -/

/-- GET_KEM_KEY. -/
def execGetKemKey (w : Via) (s : State) : Host.Outcome State Fault Refusal :=
  .next (s.service w .user (.getKemKey w) fun s => s.svcOk w (.bytes (Config.kemKey s.cry.kemGen)))

/-- GENERATE_SLOT (R299, R302). -/
def execGenerateSlot (w : Via) (slot : KeyId) (s : State) : Host.Outcome State Fault Refusal :=
  .next (s.service w .user (.generateSlot w slot) fun s =>
    if (s.keySlot slot.val).st != .empty then s.svcNo w "IN_USE"
    else (s.generateInto slot.val).svcOk w .ok)

/-- Does a wrapped key open under the present KEM key pair and the number of the slot it is imported into, with two different keys (R300)? -/
def State.wrapOk (s : State) (slot : KeyId) (k : Wrapped) : Bool := k.kemGen == s.cry.kemGen && k.slot == slot && k.tagOk && k.dataKey != k.tweakKey

/-- A successful import is counted; the KEM key pair is made anew after 1,024 (R300). -/
def State.countImport (s : State) : State :=
  if s.cry.imports + 1 < 1024 then { s with cry := { s.cry with imports := s.cry.imports + 1 } }
  else
    let s := s.reseed
    { s with cry := { s.cry with imports := 0, kemGen := s.cry.kemGen + 1 } }

/-- IMPORT_SLOT (R300). -/
def execImportSlot (w : Via) (slot : KeyId) (k : Wrapped) (s : State) : Host.Outcome State Fault Refusal :=
  .next (s.service w .user (.importSlot w slot k) fun s =>
    if (s.keySlot slot.val).st != .empty then s.svcNo w "IN_USE"
    else if !s.wrapOk slot k then (s.count 12 19).svcNo w "BAD_WRAP"
    else ((s.setSlot slot.val ⟨.active, true, k.dataKey, k.tweakKey⟩).countImport).svcOk w .ok)

/-- RETIRE_SLOT (R299). -/
def execRetireSlot (w : Via) (slot : KeyId) (s : State) : Host.Outcome State Fault Refusal :=
  .next (s.service w .user (.retireSlot w slot) fun s =>
    let x := s.keySlot slot.val
    if x.st != .active then s.svcNo w "INVALID_STATE"
    else if s.slotRegions slot.val ≠ 0 then s.svcNo w "IN_USE"
    else (s.setSlot slot.val { x with st := .retiring }).svcOk w .ok)

/-- Is a slot named by nothing (R303)? -/
def State.slotFree (s : State) (k : Nat) : Bool := s.slotExtents k == 0 && s.slotRegions k == 0 && s.slotDicts k == 0

/-- DESTROY_SLOT (R303). -/
def execDestroySlot (w : Via) (slot : KeyId) (s : State) : Host.Outcome State Fault Refusal :=
  .next (s.service w .user (.destroySlot w slot) fun s =>
    if (s.keySlot slot.val).st == .empty then s.svcNo w "INVALID_STATE"
    else if !s.slotFree slot.val then s.svcNo w "IN_USE"
    else (s.setSlot slot.val KeySlot.empty).svcOk w .ok)

/-! ## Services of the CO -/

/-- SET_USER_ROOTS (R294): up to four hashes. -/
def execSetUserRoots (w : Via) (roots : List (BitVec 384)) (s : State) : Host.Outcome State Fault Refusal :=
  .next (s.service w .co (.setUserRoots w roots) fun s =>
    if 4 < roots.length then s.svcNo w "INVALID_REQUEST"
    else { s with aon := { s.aon with userRoots := roots } }.svcOk w .ok)

/-- SET_IDE_POLICY (R324). -/
def execSetIdePolicy (w : Via) (anySession : Bool) (s : State) : Host.Outcome State Fault Refusal :=
  .next (s.service w .co (.setIdePolicy w anySession) fun s => { s with aon := { s.aon with ideAny := anySession } }.svcOk w .ok)

/-- SELF_TEST (R314): the power-up tests, without stopping the data path. -/
def execSelfTest (w : Via) (r : KatResult) (s : State) : Host.Outcome State Fault Refusal :=
  .next (s.service w .co (.selfTest w r) fun s => (s.katResult r).svcOk w (if r.shared.isSome then .refused "SELF_TEST" else .ok))

/-- ADVANCE_SVN (R322): refused while PENDING is 1. -/
def execAdvanceSvn (w : Via) (s : State) : Host.Outcome State Fault Refusal :=
  .next (s.service w .co (.advanceSvn w) fun s =>
    if s.aon.pendingFw then s.svcNo w "PENDING"
    else match s.aon.running with
      | none => s.svcNo w "INVALID_STATE"
      | some i => { s with aon := { s.aon with svnFuse := if s.aon.svnFuse < i.svn then i.svn else s.aon.svnFuse } }.svcOk w .ok)

/-- ZEROIZE_ALL (R319): every key and the DRBG state are overwritten, a pinned record is written, and a device reset follows. -/
def execZeroizeAll (w : Via) (s : State) : Host.Outcome State Fault Refusal :=
  .next (s.service w .co (.zeroizeAll w) fun s =>
    let s := s.svcOk w .ok
    let s := s.zeroKeys.ideClearAll
    let s := { s with cry := { s.cry with zeroized := true } }
    (s.pannier 57 0xFF 8 .zeroize 3 0 0 0x610000 false).deviceReset)

/-! ## IDE (R227, R309, R310, R324) -/

/-- May a session of a head program IDE: the User role, or any session while IDE_ANY_SESSION is 1? -/
def State.ideAllowed (s : State) (h : Head) : Bool :=
  s.hasRole (.head h) .user || (s.aon.ideAny && s.cry.sessions.any fun x => x.via == .head h)

/-- Change one stream direction of a port. -/
def Port.updIde (p : Port) (st : IdeStream) (rx : Bool) (g : IdeDir → IdeDir) : Port :=
  match st, rx with
  | .io, false => { p with ioTx := g p.ioTx }
  | .io, true => { p with ioRx := g p.ioRx }
  | .cachemem, false => { p with cmTx := g p.cmTx }
  | .cachemem, true => { p with cmRx := g p.cmRx }

/-- A direction uses a key set from now on (R310). -/
def Port.switchKey (p : Port) (st : IdeStream) (rx k1 : Bool) : Port := p.updIde st rx fun d => { d with useK1 := k1, go := true }

def Port.ideDir (p : Port) (st : IdeStream) (rx : Bool) : IdeDir :=
  match st, rx with
  | .io, false => p.ioTx
  | .io, true => p.ioRx
  | .cachemem, false => p.cmTx
  | .cachemem, true => p.cmRx

/-- IDE key management of a head's own DOE (R295, R309): without the right session it is refused. -/
def State.ideKm (s : State) (h : Head) (i : Instr) (g : State → State) : State :=
  s.carry (.head h) i fun s => if s.ideAllowed h then g (s.count 12 17) else s.svcNo (.head h) "NOT_AUTHORIZED"

/-- KEY_PROG (R309, R310): a head whose GCM test failed answers with an IDE_KM error. -/
def execKeyProg (h : Head) (st : IdeStream) (rx k1 : Bool) (key : BitVec 256) (s : State) : Host.Outcome State Fault Refusal :=
  .next (s.ideKm h (.keyProg h st rx k1 key) fun s =>
    if (s.port h).gcm == some false then s.send (.ideError h)
    else
      let nr := !s.hasRole (.head h) .user
      (s.updPort h fun p => p.updIde st rx fun d =>
        { d with k0 := if k1 then d.k0 else some (key, nr), k1 := if k1 then some (key, nr) else d.k1 }).send (.ideAck h))

/-- K_SET_GO (R310): the direction uses the named key set from the next flit boundary, or from the first flit after L0 when it comes during Recovery (R220). -/
def execKSetGo (h : Head) (st : IdeStream) (rx k1 : Bool) (s : State) : Host.Outcome State Fault Refusal :=
  .next (s.ideKm h (.kSetGo h st rx k1) fun s =>
    let d := (s.port h).ideDir st rx
    if (if k1 then d.k1 else d.k0).isNone || (s.port h).gcm != some true then s.send (.ideError h)
    else if (s.port h).ltssm == .recovery then (s.updPort h fun p => { p with goDue := p.goDue ++ [(st, rx, k1)] }).send (.ideAck h)
    else (s.updPort h fun p => p.switchKey st rx k1).send (.ideAck h))

/-- IDE_MAC_FAIL (R227): both streams become Insecure and the link goes down. -/
def execIdeMacFail (h : Head) (s : State) : Host.Outcome State Fault Refusal :=
  let p := s.port h
  if !p.up || !(p.ioRx.go || p.cmRx.go) then .next s
  else
    let s := (s.flag (Reg.PRTn_LINK_ERR.IDE_FAIL.nth h.val)).updPort h fun p => { p with rasIde := true }
    .next ((s.ideClear h).linkDown h false)

/-! ## Entropy, DRBG and self-tests (R312 to R317) -/

/-- ENTROPY_HEALTH_FAIL (R312): a second failure within 1 s leads to the error state. -/
def execEntropyHealthFail (s : State) : Host.Outcome State Fault Refusal :=
  if !s.mainRuns || s.cry.st == .error then .next s
  else
    let s := s.count 12 21
    if s.cry.entropyAt.any fun t => decide (s.now < t + 1000000000) then .next (s.cryError .entropy)
    else .next { s with cry := { s.cry with entropyAt := [s.now] } }

/-- DRBG_RESEED (R313): after 2^20 requests or 60 s. -/
def execDrbgReseed (healthFail : Bool) (s : State) : Host.Outcome State Fault Refusal :=
  if s.cry.st != .operational then .next s
  else if healthFail then .next (s.cryError .drbg)
  else .next s.reseed

/-- XTS_PERIODIC_TEST (R314). -/
def execXtsPeriodicTest (engine : Fin 17) (pass spareOk : Bool) (s : State) : Host.Outcome State Fault Refusal :=
  if s.cry.st != .operational || pass then .next s
  else if engine.val < 16 && s.fbit Reg.XTS_STATUS.ENGINE_OOS engine.val then .next s
  else .next (s.xtsFail engine true spareOk)

/-- XTS_ENGINE_FAIL (R315 to R317): a consistency check or a periodic test fails. -/
def execXtsEngineFail (engine : Fin 17) (periodic spareOk : Bool) (s : State) : Host.Outcome State Fault Refusal :=
  if s.cry.st != .operational then .next s
  else if engine.val < 16 && s.fbit Reg.XTS_STATUS.ENGINE_OOS engine.val then .next s
  else .next (s.xtsFail engine periodic spareOk)

/-- JTAG_INSTRUCTION (R320): sampling the balls acts at any time; EXTEST and internal state only after Zeroize All, the latter with an unlock token. -/
def execJtagInstruction (i : Jtag) (s : State) : Host.Outcome State Fault Refusal :=
  match i with
  | .sample => .next (s.send .jtagData)
  | .extest => .next (if s.cry.zeroized then s.send .jtagData else s)
  | .internal ok => .next (if s.cry.zeroized && ok then { s with cry := { s.cry with debugOpen := true } }.send .jtagData else s)

/-- The data partition as CRY reads it at a start: a User root list that fails its HMAC is treated as empty, with an event record (R294), and IDE_ANY_SESSION is 1 with no valid policy record (R324). -/
def State.loadFlash (s : State) (f : FlashCheck) : State :=
  let s := if f.policyBad then { s with aon := { s.aon with ideAny := true } } else s
  if f.rootsBad then { s with aon := { s.aon with userRoots := [] } }.event [s.owner] .warning .userRootsBad 0 else s

/-- POWER_UP_KAT_DONE (R314): step 8 of a start. -/
def execPowerUpKatDone (r : KatResult) (flash : FlashCheck) (s : State) : Host.Outcome State Fault Refusal :=
  if s.aon.boot != .rails || s.cry.st != .selfTest || s.aon.inReset || s.aon.railFault then .next s
  else
    let s := s.katResult r
    if s.cry.st == .error then .next s
    else
      let s := s.loadFlash flash
      .next { s with
      aon := { s.aon with boot := .tested, trying := s.aon.pendingFw }
      cry := { s.cry with st := .operational, drbgAt := s.now }
      mgt := { s.mgt with st := .booting, dogAt := s.now } }

/-! ## Firmware (R321, R322) -/

/-- Write the inactive slot and verify it: PENDING is set only for an image that passes (R322). -/
def State.updateFw (s : State) (img : FwImage) : State :=
  let s := { s with aon := if s.aon.activeB then { s.aon with slotA := some img, pendingFw := false } else { s.aon with slotB := some img, pendingFw := false } }
  if s.imageOk img true then { s with aon := { s.aon with pendingFw := true } }.send (.sideband .ok)
  else s.send (.sideband (.refused "VERIFY"))

/-- PLDM_FIRMWARE_UPDATE (R321, R322): served by Clandahar, and by the ROM's recovery loader. -/
def execPldmFirmwareUpdate (img : FwImage) (s : State) : Host.Outcome State Fault Refusal :=
  if s.sbUp && s.aon.eid != 0 && s.mainRuns && s.mgt.st == .recovery then .next (s.updateFw img)
  else .next (s.sideband (.pldmFirmwareUpdate img) fun s => s.updateFw img)

/-- FW_READY_TIMEOUT (R322): the ROM restarts MGT from the previous slot and clears PENDING. -/
def execFwReadyTimeout (s : State) : Host.Outcome State Fault Refusal :=
  if s.mgt.st != .booting || !s.aon.trying then .next s
  else .next { s with aon := { s.aon with trying := false, pendingFw := false }, mgt := { s.mgt with dogAt := s.now } }

end Sys2Proof.Machine
end

