-- ==== Sys2Proof/Machine/Ports.lean ====
section
/-! DEFINITION. Host ports: training, link-up, recovery, flits and replay, credits, L0p, test loops and DevLoad (R64 to R66, R200 to R224, R228 to R230, R390). -/

namespace Sys2Proof.Machine

/-! ## Training (R203 to R207) -/

/-- Are lanes `a` to `a + n - 1` all good? -/
def lanesGood (good : BitVec 16) (a n : Nat) : Bool := (List.range n).all fun i => good.getLsbD (a + i)

/-- The widest width of one engine, whose lanes begin at `a` (R203). -/
def engineWidth (good : BitVec 16) (a : Nat) : Nat :=
  if lanesGood good a 8 then 8
  else if lanesGood good a 4 || lanesGood good (a + 4) 4 then 4
  else if (List.range 4).any fun i => lanesGood good (a + 2 * i) 2 then 2
  else if (List.range 8).any fun i => good.getLsbD (a + i) then 1
  else 0

/-- The widest width of a link: a tandem at x8 or narrower uses the lanes of one engine (R203). -/
def linkWidth (tandem : Bool) (good : BitVec 16) : Nat :=
  if tandem then (if lanesGood good 0 16 then 16 else max (engineWidth good 0) (engineWidth good 8)) else engineWidth good 0

/-- MAX_RATE in effect. -/
def State.maxRate (s : State) (p : Head) : Nat := min 5 (s.f (Reg.PRTn_LINK_CFG.MAX_RATE.nth p.val))

/-- Does a test loop hold the link down (R229)? -/
def State.loopDown (s : State) (p : Head) : Bool :=
  let l := s.f (Reg.PRTn_TEST_CTL.LOOP.nth p.val)
  decide (1 ≤ l) && decide (l ≤ 3)

/-- CXL.io credits advertised: 64 headers and 1,024 data credits Posted, 32 and 32 Non-Posted, beyond what received TLPs have used (R216). -/
def State.advertiseIo (s : State) (p : Head) : State :=
  let u := (s.port p).io
  s.send (.ioCredits p (64 + u.ph) (1024 + u.pd) (32 + u.nph) (32 + u.npd))

/-- Train a link to L0 (R203 to R207). Lanes that have failed are tried again only after a hot reset or a port reset, and so is 64 GT/s once its equalization has failed; a port reset's fence ends here (R196). -/
def State.train (s : State) (p : Head) (c : LinkCap) : State :=
  let lanes := c.goodLanes &&& (s.port p).goodLanes
  let w := linkWidth (s.tandem p) lanes
  let s := s.updPort p fun q => { q with receiver := c.receiver, waiting := none, goodLanes := if w == 0 then q.goodLanes else lanes }
  if !c.receiver || w == 0 || s.loopDown p then s.updPort p fun q => { q with ltssm := .detect }
  else
    let want := min (if (s.port p).eqFailed then min 4 (s.maxRate p) else s.maxRate p) c.hostRate.val
    let fell := want == 5 && c.eq64Fails
    let rate := if fell then 4 else want
    let s := if fell then (s.flag (Reg.PRTn_LINK_ERR.DEGRADED.nth p.val)).event (withOwner s [p]) .warning .linkNarrowed p.val else s
    let s := s.updDom (4 + p.val) fun d => { d with st := .on }
    let s := if (s.port p).resetSeen then s.setBit Reg.DIR_STATUS.FENCED p.val false else s
    (s.updPort p fun q => { q with
      ltssm := .l0, up := true, resetSeen := false, eqFailed := q.eqFailed || fell, io := ⟨0, 0, 0, 0⟩
      mem := c.cxlMem && decide (2 ≤ rate), rate := rate, width := w, txWidth := w, rxWidth := w
      flit256 := rate == 5, loflit := rate == 5 && c.loflit && s.fb (Reg.PRTn_LINK_CFG.LOFLIT_EN.nth p.val)
      sris := s.f (Reg.PRTn_LINK_CFG.CLK_MODE.nth p.val) == 1, l0pHost := c.l0p, l0pAfter := 0 }).advertiseIo p

/-- Is a port held by the error state or a power fault (R318, R371)? -/
def State.portsHeld (s : State) : Bool := s.cry.st == .error || s.fb Reg.PWR_STATUS.PFAULT

/-- Bring-up from step 2: it waits for step 7 of a start, for REFCLK, and for the wake of a PD_PRTn that is not ON, whose latch it sets (R206, R361, R368, R432, R437, R465). -/
def State.bringUp (s : State) (p : Head) (c : LinkCap) : State :=
  let s := s.updPort p fun q => { q with cap := some c, refclk := c.refclk }
  if s.portsHeld || (s.port p).up then s
  else if !s.mainRuns || !c.refclk then s.updPort p fun q => { q with waiting := some c, held := false }
  else if decide (p ∉ s.heads) then s
  else if !s.domOn (4 + p.val) then (s.updPort p fun q => { q with waiting := none }).latchWake (4 + p.val) .perst
  else (s.updPort p fun q => { q with held := false }).train p c

/-- At step 7 every port that waits begins its bring-up (R432, R437). -/
def State.bringUpAll (s : State) : State :=
  heads8.foldl (fun s p => match (s.port p).waiting with
    | none => s
    | some c => s.bringUp p c) s

/-- PORT_BRING_UP (R206): PORTn_PERST_n deasserts, or a port in Detect trains again (R204, R222). A disabled engine and the upper engine of a tandem ignore their PERST_n (R201, R202). -/
def execPortBringUp (p : Head) (c : LinkCap) (s : State) : Host.Outcome State Fault Refusal :=
  .next ((s.updPort p fun q => { q with perst := false }).bringUp p c)

/-- REFCLK_RETURN (R465). -/
def execRefclkReturn (p : Head) (s : State) : Host.Outcome State Fault Refusal :=
  let s := s.updPort p fun q => { q with refclk := true }
  match (s.port p).waiting with
  | none => .next s
  | some c => .next (s.bringUp p { c with refclk := true })

/-! ## Link-up (R196, R208, R215, R224, R310, R352) -/

/-- Interrupts held while the link was down are sent (R352). -/
def State.releaseMsix (s : State) (h : Head) : State :=
  let mine := s.cmd.heldMsix.filter (·.1 == h)
  let s := { s with cmd := { s.cmd with heldMsix := s.cmd.heldMsix.filter (·.1 != h) } }
  mine.foldl (fun s m => s.msix h m.2) s

/-- The most that one flit's field of credits carries; the rule names the field and not its size (LOG 58). -/
def fieldMax : Nat := Config.creditField + 1

/-- The increments of a credit channel, one flit's field after the other (R213). -/
def fieldParts : Nat → Nat → List Nat
  | 0, _ => []
  | _ + 1, 0 => []
  | k + 1, n => min n fieldMax :: fieldParts k (n - min n fieldMax)

/-- The increments of both channels, flit by flit. -/
def flitParts (req rwd : Nat) : List (Nat × Nat) :=
  let a := fieldParts req req
  let b := fieldParts rwd rwd
  (List.range (max a.length b.length)).map fun i => ((a[i]?).getD 0, (b[i]?).getD 0)

/-- Flits that carry these credit increments, in fields that hold them, enter the replay buffer (R213). -/
def State.sendCredits (s : State) (p : Head) (req rwd : Nat) : State :=
  let ps := flitParts req rwd
  let q := s.port p
  let s := s.updPort p fun q => ps.foldl (fun (q : Port) x => q.pushFlit x.1 x.2 none) { q with
    sentReq := q.sentReq + BitVec.ofNat 32 req, sentRwd := q.sentRwd + BitVec.ofNat 32 rwd, reqHost := q.reqHost + req, rwdHost := q.rwdHost + rwd }
  ({ s with out := s.out ++ (List.range ps.length).map fun i => Msg.flit p (q.txSeq + i) ((ps[i]?).getD (0, 0)).1 ((ps[i]?).getD (0, 0)).2 }).countPort 0 p 1 ps.length

/-- Entries of a head that a channel still holds at link-up are detached (R215, R224). -/
def State.detachedOn (s : State) (p : Head) (c : CreditChan) : Nat := (s.rtk.filter fun r => r.head == p && r.chan == c).length

/-- LINK_UP (R215): the CXL.mem link layer comes up and the first credits are returned. -/
def execLinkUp (p : Head) (g : S2mGrant) (gcmOk : Bool) (s : State) : Host.Outcome State Fault Refusal :=
  let q := s.port p
  if !q.up || q.active || !q.mem || q.ltssm != .l0 then .next s
  else
    let n := s.linkCredits p
    let req := n - s.detachedOn p .req
    let rwd := n - s.detachedOn p .rwd
    let s := { s with rtk := updWhere (·.head == p) (fun r => { r with detached := true, synthetic := true }) s.rtk }
    let s := s.updPort p fun q => { q with
      active := true, reqHost := 0, rwdHost := 0, freedReq := BitVec.ofNat 32 req, sentReq := 0, freedRwd := BitVec.ofNat 32 rwd, sentRwd := 0
      ndr := g.ndr, drs := g.drs, bisnp := g.bisnp, acks := [], rxSeq := 0, halfDone := none, txSeq := 0, replay := []
      gcm := some gcmOk, memActive := s.fb Reg.XLT_STATUS.READY }
    let s := if gcmOk then s else s.flag Reg.CRY_STATUS.IDE_KAT_FAIL
    .next ((s.sendCredits p req rwd).releaseMsix p)

/-! ## Link down, resets and recovery (R220 to R224) -/

/-- LINK_DOWN (R222): the LTSSM leaves L0 or Recovery for Detect or Disabled. -/
def execLinkDown (p : Head) (s : State) : Host.Outcome State Fault Refusal := .next (s.linkDown p false)

/-- PORT_RESET (R224): PORTn_PERST_n is asserted, or a hot reset is received. -/
def execPortReset (p : Head) (hot : Bool) (s : State) : Host.Outcome State Fault Refusal :=
  if hot then .next (if (s.port p).up then (s.linkDown p false).portResetState p else s)
  else
    let s := s.updPort p fun q => { q with perst := true, waiting := none }
    if !s.mainRuns || decide (p ∉ s.heads) then .next s
    else .next (((s.linkDown p true).portResetState p).updPort p fun q => { q with ltssm := .detect })

/-- RECOVERY_TIMEOUT (R222): Recovery does not return to L0 within 48 ms. -/
def execRecoveryTimeout (p : Head) (s : State) : Host.Outcome State Fault Refusal :=
  .next (if (s.port p).ltssm == .recovery then s.linkDown p false else s)

/-- VIRAL (R222). -/
def execViral (p : Head) (s : State) : Host.Outcome State Fault Refusal := .next (s.linkDown p false)

/-- Enter Recovery: credits, entries, snoops and the replay buffer stay, and a replay under way goes on after it; an L0p change is abandoned (R210, R220, R221). -/
def State.recover (s : State) (p : Head) : State :=
  if (s.port p).ltssm != .l0 || !(s.port p).up then s
  else ((s.updPort p fun q => { q with ltssm := .recovery, txWidth := q.width, rxWidth := q.width
                                       replayDue := q.replay.any fun t => t.replays != 0, replay := q.replay.map fun t => { t with replays := 0 } }).flag (Reg.PRTn_LINK_ERR.RETRAINED.nth p.val)).countPort 0 p 5

/-- Replay every unacknowledged flit in order from the oldest; after four replays of the oldest without progress the port enters Recovery (R210, R213). -/
def State.replayAll (s : State) (p : Head) : State :=
  match (s.port p).replay with
  | [] => s
  | t :: _ =>
    let s := s.updPort p fun q => { q with replay := q.replay.map fun x => { x with replays := x.replays + 1 } }
    let s := ((s.port p).replay.foldl (fun (s : State) x => s.send (.replay p x.seq x.reqInc x.rwdInc)) s).countPort 0 p 4
    if 4 ≤ t.replays + 1 then s.recover p else s

/-- The return to L0: L0p may be asked for 10 µs after, IDE key changes that were due are made, and a replay goes on (R210, R220, R310). -/
def State.backToL0 (s : State) (p : Head) : State :=
  let due := (s.port p).replayDue
  let s := s.updPort p fun q => q.goDue.foldl (fun (q : Port) g => q.switchKey g.1 g.2.1 g.2.2) { q with ltssm := .l0, l0pAfter := s.now + 10000, goDue := [], replayDue := false }
  if due then s.replayAll p else s

/-- LINK_RECOVERY (R220): into Recovery, and back to L0. -/
def execLinkRecovery (p : Head) (byHost back : Bool) (s : State) : Host.Outcome State Fault Refusal :=
  let _ := byHost
  if !back then .next (s.recover p)
  else .next (if (s.port p).ltssm == .recovery then s.backToL0 p else s)

/-- May a source write the PRTn registers of an engine: its own head, the owner head, the sideband (R447)? -/
def State.mayWritePort (s : State) (w : Via) (p : Head) : Bool := s.isOwner w || w == .head p

/-- RETRAIN (R220): ignored while Recovery is in progress. -/
def execRetrain (w : Via) (p : Head) (s : State) : Host.Outcome State Fault Refusal :=
  if !s.regsUp then .next s
  else if !s.mayWritePort w p then .next s.nonowner
  else .next (s.recover p)

/-- LANE_FAILURE (R204): the link narrows through Recovery to the widest width left, which it reaches in L0, or when the Recovery that it is in ends; with no lane left it goes down and every lane is tried again. -/
def execLaneFailure (p : Head) (good : BitVec 16) (s : State) : Host.Outcome State Fault Refusal :=
  let q := s.port p
  if !q.up || (q.goodLanes &&& good) == q.goodLanes then .next s
  else
    let left := q.goodLanes &&& good
    let w := min q.width (linkWidth (s.tandem p) left)
    let s := s.updPort p fun q => { q with goodLanes := left }
    if w = 0 then .next ((s.linkDown p false).updPort p fun q => { q with goodLanes := BitVec.allOnes 16 })
    else if w = q.width then .next s
    else
      let s := s.updPort p fun q => { q with width := w, txWidth := w, rxWidth := w, l0pAfter := s.now + 10000 }
      let s := ((s.flag (Reg.PRTn_LINK_ERR.DEGRADED.nth p.val)).flag (Reg.PRTn_LINK_ERR.RETRAINED.nth p.val)).countPort 0 p 5
      let s := s.event (withOwner s [p]) .warning .linkNarrowed p.val
      .next (s.pannier (4 + p.val) 0 1 .linkNarrowed 1 0 0 (0x100008 + 0x10000 * p.val) true)

/-! ## Flits (R209 to R217, R228) -/

/-- What waited at the port on credits or on room in the replay buffer goes, responses in the order in which they became ready (R48, R210, R217). -/
def State.drainResponses (s : State) (p : Head) : State :=
  let s := (s.port p).acks.foldl (fun (s : State) t =>
    if (s.port p).ndr = 0 || !(s.port p).txRoom then s else (s.updPort p fun q => { q with acks := q.acks.drop 1 }).ackConflict p t) s
  let s := (s.port p).ready.foldl (fun s id => s.respond id) s
  (s.dir.snoops.filter fun q => q.host == p && !q.sent).foldl (fun s q => s.trySend q) s

/-- A slot that the port discards: a Req or RwD slot returns its credit at once, and one sent with no credit held takes the link down instead (R54, R228). -/
def State.discardSlot (s : State) (p : Head) (req rwd : Bool) : State :=
  if (req && (s.port p).credits .req == 0) || (rwd && (s.port p).credits .rwd == 0) then s.overflow p
  else
    let one (s : State) (c : CreditChan) (b : Bool) : State := if b then (s.updPort p fun q => q.spend c).freeCredit p c else s
    let s := one (one s .req req) .rwd rwd
    (s.flag (Reg.PRTn_LINK_ERR.MALFORMED.nth p.val)).portViolation p 6 .malformed

/-- A CXL.io TLP is taken from the receive buffers: the credits that it used return (R212, R216). Completions have infinite credits. -/
def State.takeIo (s : State) (p : Head) (k : IoKind) (data : Nat) : State :=
  match k with
  | .posted => (s.updPort p fun q => { q with io := { q.io with ph := q.io.ph + 1, pd := q.io.pd + data } }).advertiseIo p
  | .nonPosted => (s.updPort p fun q => { q with io := { q.io with nph := q.io.nph + 1, npd := q.io.npd + data } }).advertiseIo p
  | .completion => s

/-- The link layer takes one slot (R212, R228). -/
def State.takeSlot (s : State) (p : Head) : Slot → State
  | .credits g => s.updPort p fun q => { q with ndr := q.ndr + g.ndr, drs := q.drs + g.drs, bisnp := q.bisnp + g.bisnp }
  | .ack seq => s.updPort p fun q => { q with replay := q.replay.filter fun t => decide (seq < t.seq) }
  | .message => s
  | .malformed req rwd => (s.updPort p fun q => { q with rasMalformed := true }).discardSlot p req rwd
  | .notNegotiated => s.discardSlot p false false
  | .ioTlp k d => s.takeIo p k d.val
  | .ioUnsupported => ((((s.takeIo p .nonPosted 0).updPort p fun q => { q with aerUnsupported := true }).countPort 1 p 7).eventPerSecond p 7 .informational .violation p.val).send (.unsupportedRequest p)
  | .ioPoisoned d => (((s.takeIo p .posted d.val).updPort p fun q => { q with aerPoisoned := true }).countPort 1 p 7).eventPerSecond p 8 .informational .violation p.val

/-- Consume slots in order, while the link stays up, then let what waited on S2M credits go. -/
def State.takeSlots (s : State) (p : Head) (l : List Slot) : State := (l.foldl (fun s x => if (s.port p).up then s.takeSlot p x else s) s).drainResponses p

/-- The slots of a flit, once its aggregation's MAC is good (R225 to R227): in containment mode those of a Secure stream are consumed only with the last flit of their aggregation, whose MAC fails as IDE_MAC_FAIL; `last`: the flit ends with these slots. -/
def State.ideSlots (s : State) (p : Head) (l : List Slot) (last : Bool) : State :=
  let q := s.port p
  if !(q.cmSecure && q.ideContain) then s.takeSlots p l
  else
    let n := q.ideFlits + last.toNat
    let held := q.ideHeld ++ l
    if n < q.ideAgg then s.updPort p fun q => { q with ideHeld := held, ideFlits := n }
    else (s.updPort p fun q => { q with ideHeld := [], ideFlits := 0 }).takeSlots p held

/-- FLIT_RECEIVE (R209, R211). -/
def execFlitReceive (p : Head) (f : Flit) (s : State) : Host.Outcome State Fault Refusal :=
  let q := s.port p
  if !q.up || q.ltssm != .l0 then .next s
  else
    let s := s.countPort 0 p 0
    let s := if f.fecFixed && q.flit256 then s.countPort 0 p 2 else s
    let bad (s : State) : State := ((s.flag (Reg.PRTn_LINK_ERR.FEC_UE.nth p.val)).countPort 0 p 3).send (.nak p q.rxSeq)
    match f.crc with
    | .bad => .next (bad s)
    | .firstHalf =>
      if q.loflit && f.seq == q.rxSeq && q.halfDone != some f.seq then
        .next (bad ((s.updPort p fun q => { q with halfDone := some f.seq }).ideSlots p f.first false))
      else .next (bad s)
    | .good =>
      if f.seq < q.rxSeq then .next s
      else if f.seq ≠ q.rxSeq then .next (s.send (.nak p q.rxSeq))
      else
        let slots := if q.halfDone == some f.seq then f.second else f.first ++ f.second
        let s := s.updPort p fun q => { q with rxSeq := q.rxSeq + 1, halfDone := none }
        .next ((s.ideSlots p slots true).send (.ack p f.seq))

/-- NAK (R210): it acknowledges the flits up to the one it names, and what waited for room in the replay buffer goes after the replay. -/
def execNak (p : Head) (seq : Nat) (s : State) : Host.Outcome State Fault Refusal :=
  if !(s.port p).up || (s.port p).ltssm != .l0 then .next s
  else .next ((s.updPort p fun q => { q with replay := q.replay.filter fun t => decide (seq < t.seq) }).replayAll p |>.drainResponses p)

/-- REPLAY_TIMER_EXPIRY (R210). -/
def execReplayTimerExpiry (p : Head) (s : State) : Host.Outcome State Fault Refusal :=
  if !(s.port p).up || (s.port p).ltssm != .l0 then .next s else .next (s.replayAll p)

/-- Lines per µs that a trained link carries: 1,000 at x8 and 64 GT/s (R390). -/
def Port.linesPerUs (p : Port) : Nat := p.width * (match p.rate with | 5 => 64 | 4 => 32 | 3 => 16 | 2 => 8 | _ => 0) * 1000 / 512

/-- Credit increments that pacing still allows in this microsecond (R390). -/
def State.paceRoom (s : State) (p : Head) : Nat :=
  let pct := s.f Reg.CAD_PACE.PACE
  let q := s.port p
  if 100 ≤ pct then 2 ^ 32
  else q.linesPerUs * pct / 100 - (if q.paceUs = s.now / 1000 then q.paceUsed else 0)

/-- CREDIT_RETURN_TIMER (R214): credits are due, and a flit carries them; each increment is the least of what is due, what the field holds and what pacing allows (R213, R390). -/
def execCreditReturnTimer (p : Head) (s : State) : Host.Outcome State Fault Refusal :=
  let q := s.port p
  if !q.active || q.ltssm != .l0 || !q.txRoom then .next s
  else
    let room := s.paceRoom p
    let req := min (min (q.freedReq - q.sentReq).toNat fieldMax) room
    let rwd := if s.rwdHeld p then 0 else min (min (q.freedRwd - q.sentRwd).toNat fieldMax) (room - req)
    if req + rwd = 0 then .next s
    else
      let used := if q.paceUs = s.now / 1000 then q.paceUsed else 0
      .next ((s.updPort p fun q => { q with paceUs := s.now / 1000, paceUsed := used + req + rwd }).sendCredits p req rwd)

/-- S2M_CREDIT_WITHHOLD_TIMEOUT (R217): an event record; the port goes on waiting. -/
def execS2mCreditWithholdTimeout (p : Head) (s : State) : Host.Outcome State Fault Refusal :=
  .next (if s.starved p then s.event (withOwner s [p]) .informational .creditsWithheld p.val else s)

/-- REFCLK_LOSS (R464): the link goes down. A tandem uses the lower engine's pair. -/
def execRefclkLoss (p : Head) (s : State) : Host.Outcome State Fault Refusal :=
  .next ((s.updPort p fun q => { q with refclk := false }).linkDown p false)

/-! ## L0p (R218, R220, R391) -/

/-- Is the port idle of tests, in L0 at 64 GT/s, with L0p on both sides (R218)? -/
def State.l0pOk (s : State) (p : Head) : Bool :=
  let q := s.port p
  q.ltssm == .l0 && q.up && q.flit256 && q.l0pHost && s.fb (Reg.PRTn_LINK_CFG.L0P_EN.nth p.val) && s.f (Reg.PRTn_TEST_CTL.LOOP.nth p.val) == 0

/-- Is a number a link width? -/
def isWidth (w : Nat) : Bool := w == 1 || w == 2 || w == 4 || w == 8 || w == 16

/-- L0P_HOST_REQUEST (R218, R220): granted, except during Recovery or a test loop; where the port has asked for another width of the direction at once, the host's stands. `rx`: the port's receive direction. -/
def execL0pHostRequest (p : Head) (rx : Bool) (width : Fin 17) (s : State) : Host.Outcome State Fault Refusal :=
  if !s.l0pOk p || !isWidth width.val || decide ((s.port p).width < width.val) then .next s
  else .next ((s.updPort p fun q => if rx then { q with rxWidth := width.val } else { q with txWidth := width.val }).send (.l0pAck p rx width.val))

/-- The narrowest width that the port asks for. -/
def State.l0pMin (s : State) (p : Head) : Nat :=
  match s.f (Reg.PRTn_LINK_CFG.L0P_MIN.nth p.val) with
  | 0 => 1
  | 1 => 2
  | _ => if s.tandem p then 8 else 4

/-- Narrow the transmit direction by one step (R218). -/
def State.narrow (s : State) (p : Head) : State :=
  let q := s.port p
  let w := q.txWidth / 2
  if !s.l0pOk p || decide (s.now < q.l0pAfter) || decide (w < s.l0pMin p) || w == 0 then s
  else (s.updPort p fun q => { q with txWidth := w }).send (.l0pRequest p w)

/-- Widen the transmit direction to full width (R218). -/
def State.widen (s : State) (p : Head) : State :=
  let q := s.port p
  if !s.l0pOk p || decide (s.now < q.l0pAfter) || decide (q.width ≤ q.txWidth) then s
  else (s.updPort p fun q => { q with txWidth := q.width }).send (.l0pRequest p q.width)

/-- L0P_NARROW (R218). -/
def execL0pNarrow (p : Head) (s : State) : Host.Outcome State Fault Refusal := .next (s.narrow p)

/-- L0P_WIDEN (R218, R391): the egress queue backs up, or Cadence asks, which it does at stage 0. -/
def execL0pWiden (p : Head) (byCadence : Bool) (s : State) : Host.Outcome State Fault Refusal :=
  .next (if byCadence && s.cad.stage.val != 0 then s else s.widen p)

/-! ## DevLoad (R64 to R66) -/

/-- Does a register word hold OPT < MOD < SEV? -/
def occOrdered (w : Word) : Bool := decide ((w &&& 0xFF).toNat < (w >>> 8 &&& 0xFF).toNat) && decide ((w >>> 8 &&& 0xFF).toNat < (w >>> 16 &&& 0xFF).toNat)
def dlyOrdered (w : Word) : Bool := decide ((w &&& 0x3FF).toNat < (w >>> 10 &&& 0x3FF).toNat) && decide ((w >>> 10 &&& 0x3FF).toNat < (w >>> 20 &&& 0x3FF).toNat)

/-- CFG_BAD: the thresholds are out of order and the reset values are in use (R66). -/
def State.cfgBad (s : State) : Bool := !occOrdered (s.word 0x20040) || !dlyOrdered (s.word 0x20044)

/-- The threshold words in use (R66). -/
def State.dldWords (s : State) : Word × Word := if s.cfgBad then (resetWord 0x20040, resetWord 0x20044) else (s.word 0x20040, s.word 0x20044)

/-- The level of a measure against its thresholds. -/
def levelOf (v opt mod sev : Nat) : Nat := if sev ≤ v then 3 else if mod ≤ v then 2 else if opt ≤ v then 1 else 0

/-- Level of a peak of `n` entries out of `size`, in percent (R64). -/
def occLevel (w : Word) (n size : Nat) : Nat :=
  let t (i : Nat) : Nat := (w >>> i &&& 0xFF).toNat * size
  levelOf (100 * n) (t 0) (t 8) (t 16)

/-- Level of the mean added delay; none when no read completed (R64). -/
def dlyLevel (w : Word) : Option Nat → Nat
  | none => 0
  | some d => levelOf d (w &&& 0x3FF).toNat (w >>> 10 &&& 0x3FF).toNat (w >>> 20 &&& 0x3FF).toNat

/-- One link's interval (R64, R65). -/
def State.devloadOne (s : State) (h : Head) (delay : Option Nat) : State :=
  let p := s.port h
  let (wo, wd) := s.dldWords
  let lvl := max (max (occLevel wo p.occPeak (2 * s.linkCredits h)) (dlyLevel wd delay)) s.devFloor
  let cur := p.devload.toNat
  let p' : Port :=
    if cur ≤ lvl then { p with devload := BitVec.ofNat 2 lvl, dlBelow := 0 }
    else if 8 ≤ p.dlBelow + 1 then { p with devload := BitVec.ofNat 2 (cur - 1), dlBelow := 0 }
    else { p with dlBelow := p.dlBelow + 1 }
  s.updPort h fun _ => { p' with occPeak := (s.rtk.filter fun r => r.head == h && r.chan != .inner).length }

/-- DEVLOAD_INTERVAL (R64): every 1 µs, for each head; the operand gives the mean added delay of each link's reads, by engine. -/
def execDevloadInterval (delays : List (Option Nat)) (s : State) : Host.Outcome State Fault Refusal :=
  if !s.mainRuns then .next s
  else .next (s.heads.foldl (fun s h => s.devloadOne h ((delays[h.val]?).join)) s)

/-! ## Test loops (R229, R230) -/

/-- Requests that waited for the port loop go to FAB (R230). -/
def State.unloop (s : State) (p : Head) : State :=
  let waits := s.rtk.filter fun r => r.head == p && r.loopWaits
  let s := { s with rtk := s.rtk.filter fun r => !(r.head == p && r.loopWaits) }
  waits.foldl (fun (s : State) r =>
    let (mv, snp) : MetaVal × SnpType := match r.op with
      | .rd v => (v, match v with | .s => .data | .a => .inv | _ => .noOp)
      | .wr v => (v, .noOp)
      | .inv v => (v, .inv)
      | .rdData => (.noOp, .data)
      | _ => (.noOp, .noOp)
    s.order { r with phase := .line } r.hdpa mv snp .none) s

/-- LOOP takes a value: the PHY and remote loops take the link down; the port loop waits for an empty partition; 0 ends any loop and the link trains again (R229, R230). -/
def State.setLoop (s : State) (p : Head) (v errors : Nat) : State :=
  let v := if 5 ≤ v then 0 else v
  let old := s.f (Reg.PRTn_TEST_CTL.LOOP.nth p.val)
  let s := (s.setF (Reg.PRTn_TEST_CTL.LOOP.nth p.val) v).setF (Reg.PRTn_TEST_STATUS.ACTIVE.nth p.val) 0
  let s := s.setF (Reg.PRTn_TEST_STATUS.LANE_LOCK.nth p.val) 0
  let s := if v = 4 then s else (s.updPort p fun q => { q with loopWait := false }).unloop p
  match v with
  | 0 =>
    if decide (1 ≤ old) && decide (old ≤ 3) then
      let s := s.updPort p fun q => { q with ltssm := .detect }
      match (s.port p).perst, (s.port p).cap with
      | false, some c => s.bringUp p c
      | _, _ => s
    else s
  | 4 => (s.updPort p fun q => { q with loopWait := true }).loopStart p
  | _ =>
    let s := s.linkDown p false
    let s := s.flag (Reg.PRTn_TEST_STATUS.ACTIVE.nth p.val)
    let s := if v = 1 then s else s.updPort p fun q => { q with ltssm := .loopback }
    if v = 2 then s
    else (s.setF (Reg.PRTn_TEST_STATUS.LANE_LOCK.nth p.val) (s.f (Reg.PRTn_TEST_CTL.LANE_MASK.nth p.val))).countPort 0 p 6 errors

/-- A write of LOOP: through the owner head or the sideband only (R229, R447), and of an engine that carries a head (R201, R202). -/
def State.writeLoop (s : State) (w : Via) (p : Head) (v errors : Nat) : State :=
  if !s.regsUp then s
  else if !s.isOwner w then s.nonowner
  else if p ∉ s.heads then s
  else s.setLoop p v errors

/-- PHY_LOOP (R229). -/
def execPhyLoop (w : Via) (p : Head) (errors : Nat) (s : State) : Host.Outcome State Fault Refusal := .next (s.writeLoop w p 1 errors)

/-- REMOTE_LOOP_FOLLOWER (R229). -/
def execRemoteLoopFollower (w : Via) (p : Head) (s : State) : Host.Outcome State Fault Refusal := .next (s.writeLoop w p 2 0)

/-- REMOTE_LOOP_LEADER (R229). -/
def execRemoteLoopLeader (w : Via) (p : Head) (errors : Nat) (s : State) : Host.Outcome State Fault Refusal := .next (s.writeLoop w p 3 errors)

/-- PORT_LOOP (R230). -/
def execPortLoop (w : Via) (p : Head) (s : State) : Host.Outcome State Fault Refusal := .next (s.writeLoop w p 4 0)

/-- LOOP_OFF (R230). -/
def execLoopOff (w : Via) (p : Head) (s : State) : Host.Outcome State Fault Refusal := .next (s.writeLoop w p 0 0)

end Sys2Proof.Machine
end

