-- ==== Sys2Proof/Machine/Power.lean ====
section
/-! DEFINITION. Power domains: entries to RET and OFF, refusals, wakes and wake failures (R355 to R373). -/

namespace Sys2Proof.Machine

/-! ## Domains (R355, R358) -/

/-- Kinds of domain. -/
inductive DomKind where
  | always
  | mgt
  | sns
  | prt
  | ch
  | nc
  | dir
  | xlt
  | cdc
  | deep
  deriving DecidableEq, Repr

/-- The kind of a domain by its number (R355). -/
def domKind (d : Nat) : DomKind :=
  if d = 1 then .mgt
  else if d = 2 then .sns
  else if 4 ≤ d ∧ d ≤ 11 then .prt
  else if 12 ≤ d ∧ d ≤ 27 then .ch
  else if 28 ≤ d ∧ d ≤ 43 then .nc
  else if 44 ≤ d ∧ d ≤ 47 then .dir
  else if 48 ≤ d ∧ d ≤ 51 then .xlt
  else if 52 ≤ d ∧ d ≤ 55 then .cdc
  else if d = 56 then .deep
  else .always

/-- Participants of a domain (R355). -/
def participants : DomKind → Nat
  | .always => 0
  | .mgt => 6
  | .sns => 1
  | .prt => 4
  | .ch => 7
  | .nc => 4
  | .dir => 2
  | .xlt => 4
  | .cdc => 7
  | .deep => 7

/-- The limit that PWR_POLICY gives a kind, values of no use taken as the spec says (R358). -/
def State.policy (s : State) : DomKind → Nat
  | .always => 0
  | .sns => 0
  | .mgt => s.f Reg.PWR_POLICY.MGT
  | .prt => min 1 (s.f Reg.PWR_POLICY.PRT)
  | .ch => min 2 (s.f Reg.PWR_POLICY.CH)
  | .nc => min 2 (s.f Reg.PWR_POLICY.NC)
  | .dir => min 2 (s.f Reg.PWR_POLICY.DIR)
  | .xlt => min 2 (s.f Reg.PWR_POLICY.XLT)
  | .cdc => s.f Reg.PWR_POLICY.CDC
  | .deep => s.f Reg.PWR_POLICY.DEEP

/-- May an asker ask for a state (R355, R358, R359)? -/
def State.mayAsk (s : State) (d : Nat) (off byCadence : Bool) : Bool :=
  let k := domKind d
  let v := s.policy k
  match k with
  | .always | .sns => false
  | .mgt => if off then !byCadence && v == 3 else !byCadence && decide (1 ≤ v)
  | .prt => !off && !byCadence && decide (1 ≤ v)
  | .dir => if off then !byCadence && !s.anyDb else if byCadence then decide (2 ≤ v) else decide (1 ≤ v)
  | .cdc | .deep => if off then !byCadence && v == 3 else if byCadence then decide (2 ≤ v) else decide (1 ≤ v)
  | .ch | .nc | .xlt => !off && (if byCadence then decide (2 ≤ v) else decide (1 ≤ v))

/-- A port of a domain number. -/
def prtOf (d : Nat) : Head := ⟨(d - 4) % 8, Nat.mod_lt _ (by decide)⟩

/-- A channel of a domain number. -/
def chOf (d : Nat) : Chan := ⟨(d - 12) % 16, Nat.mod_lt _ (by decide)⟩

/-- Has a domain work open that keeps a participant from stopping (R362, R364)? -/
def State.openWork (s : State) (d : Nat) : Bool :=
  match domKind d with
  | .prt => let p := s.port (prtOf d); p.up || p.ltssm != .detect || s.f (Reg.PRTn_TEST_CTL.LOOP.nth (prtOf d).val) != 0
  | .ch =>
    let c := s.chan (chOf d)
    c.st != .quiet || c.pauseA || c.pauseB || c.alertA || c.alertB || c.resync || c.ranks.any fun r => decide (4 ≤ r.2.postponed)
  | .dir => s.dir.snoops.any (fun q => dirSlice q.line + 44 == d) || s.dir.entries.any fun e => dirSlice e.1 + 44 == d && e.2.busy
  | .xlt => s.xlt.reads != [] || s.drl.extCopies.any (fun c => (Config.xltSlice c.ext).val + 48 == d) || s.drl.copies.any fun c => (Config.xltSlice (c.page / 512)).val + 48 == d
  | .nc => s.nc.wbb.any (fun w => (slice w.line).val + 28 == d) || s.nc.fills.any fun f => (slice f.line).val + 28 == d
  | .deep => s.cdc.train.st == .sampling || s.cdc.train.st == .validating
  | .mgt => s.cmd.cmds.any (·.busy) || s.mgt.heldSb != []
  | _ => false

/-! ## Entry (R362 to R365) -/

/-- An entry begins: the stop phase. -/
def State.askEntry (s : State) (d : Nat) (off byCadence : Bool) : State :=
  if !s.mainRuns || !s.domOn d || !s.mayAsk d off byCadence || decide (s.now < (s.dom d).holdUntil) then s
  else s.updDom d fun x => { x with st := .stopping off, stopped := [] }

/-- REFUSE_HOLD in effect, ms. -/
def State.refuseHold (s : State) : Nat := clamp 1 64 (s.f Reg.PWR_TMO.REFUSE_HOLD)

/-- Entries of RTK that wait for domain `d` proceed (R363, R368). -/
def State.resumeDomain (s : State) (d : Nat) : State :=
  (s.rtk.filter fun r => r.phase == .domain && !r.loopWaits && (lineDomains r.line r.db).contains d).foldl (fun s r => s.serve r.id) s

/-- The replay of a domain's latch (R361, R363, R368): what waited for it proceeds, and a detector or PORTn_PERST_n starts bring-up. -/
def State.replay (s : State) (d : Nat) (srcs : List WakeSource) : State :=
  let p := prtOf d
  let s :=
    if domKind d == .prt && (srcs.contains .detector || srcs.contains .perst) then
      match (s.port p).perst, (s.port p).cap with
      | false, some c => s.bringUp p { c with receiver := c.receiver || srcs.contains .detector }
      | _, _ => s
    else s
  s.resumeDomain d

/-- A refusal: counted by domain and code, logged, and the entry rolled back; the hold-off doubles with each consecutive refusal of one code (R363, R365). Wake sources latched meanwhile are replayed. -/
def State.refuse (s : State) (d unit code : Nat) : State :=
  let x := s.dom d
  let again := x.lastCode == code && x.refusals != 0
  let n := if again then x.refusals + 1 else 1
  let ms := if again then min 64 (2 * x.holdMs) else s.refuseHold
  let s := (s.count 14 (58 + code) 1 (some d)).flag Reg.PWR_STATUS.REFUSED
  let s := (((s.flag Reg.PWR_REFUSE_LOG.VALID).setF Reg.PWR_REFUSE_LOG.DOMAIN d).setF Reg.PWR_REFUSE_LOG.UNIT unit).setF Reg.PWR_REFUSE_LOG.CODE code
  let s := s.setF Reg.PWR_REFUSE_LOG.COUNT (min 255 n)
  let s := s.updDom d fun x => { x with st := .on, stopped := [], latch := [], holdMs := ms, holdUntil := s.now + ms * 1000000, lastCode := code, refusals := n }
  s.replay d (x.latch.map (·.1))

/-- Would the last codec cluster stop (R126, R364)? Clusters in their stop phase count as ON. -/
def State.lastCodec (s : State) (d : Nat) : Bool :=
  domKind d == .cdc && ([52, 53, 54, 55].filter fun j => j != d && (match (s.dom j).st with | .on => true | .stopping _ => true | _ => false)).isEmpty

/-- The commit checks and the commit (R362, R364). -/
def State.commitEntry (s : State) (d : Nat) (off : Bool) : State :=
  if !(s.dom d).latch.isEmpty then s.refuse d 0xFF 3
  else if s.lastCodec d then s.refuse d 0xFF 4
  else s.updDom d fun x => { x with st := .entering off, stale := false }

/-- What a domain loses at OFF (R357). -/
def State.loseDomain (s : State) (d : Nat) : State :=
  match domKind d with
  | .dir => { s with dir := { s.dir with entries := s.dir.entries.filter fun e => dirSlice e.1 + 44 != d } }
  | .deep => { s with cdc := { s.cdc with buffer := [] } }
  | _ => s

/-- May Cadence ask: a channel at its QUIET, codecs and engines when no token went to codec work in the last period and no codec read arrived (R381)? -/
def State.cadenceAsks (s : State) (d : Nat) : Bool :=
  match domKind d with
  | .ch => (s.chan (chOf d)).st == .quiet
  | .cdc => !s.cad.codecWork && !s.cad.codecPrev
  | .deep => !s.cad.codecWork && !s.cad.codecPrev
  | _ => true

/-- DOMAIN_ENTRY_REQUEST (R362, R381). -/
def execDomainEntryRequest (d : DomainId) (off byCadence : Bool) (s : State) : Host.Outcome State Fault Refusal :=
  if byCadence && !s.cadenceAsks d.val then .next s else .next (s.askEntry d.val off byCadence)

/-- IDLE_POLICY_TIMEOUT (R358, R359): OFF where the policy or the rule for directory slices allows it, else RET. A channel is asked from QUIET. -/
def execIdlePolicyTimeout (d : DomainId) (s : State) : Host.Outcome State Fault Refusal :=
  if domKind d.val == .ch && (s.chan (chOf d.val)).st != .quiet then .next s
  else .next (s.askEntry d.val (s.mayAsk d.val true false) false)

/-- May a participant of a kind refuse with a code: the codes that *Refusal codes* gives to it (R364)? -/
def refusesWith (k : DomKind) (unit : Nat) : Nat → Bool
  | 1 => true
  | 5 => k == .xlt
  | 6 => k == .dir
  | 7 => k == .prt || (k == .ch && unit == 3)
  | 8 => k == .ch
  | 9 => k == .ch
  | 10 => k == .deep
  | 11 => k == .mgt
  | 12 => k == .prt
  | _ => false

/-- DOMAIN_STATE_REACHED (R362). -/
def execDomainStateReached (d : DomainId) (s : State) : Host.Outcome State Fault Refusal :=
  match (s.dom d.val).st with
  | .entering off =>
    let s := (s.updDom d.val fun x => { x with st := if off then .off else .ret, stopped := [], refusals := 0, holdMs := 0, lastCode := 0 }).count 14 58
    let s := if domKind d.val == .ch then s.updChan (chOf d.val) fun x => { x with st := .ret } else s
    .next (if off then s.loseDomain d.val else s)
  | _ => .next s

/-! ## Wake (R366 to R369, R372, R373) -/

/-- The code of a wake source. -/
def srcCode : WakeSource → Nat
  | .hostRequest => 1
  | .engineRequest => 2
  | .detector => 3
  | .perst => 4
  | .sideband => 5
  | .sentinel => 6
  | .cadence => 7
  | .policyWrite => 8
  | .configWrite => 9

/-- A power fault (R371). -/
def State.powerFault (s : State) : State :=
  if s.fb Reg.PWR_STATUS.PFAULT then s
  else
    let s := s.pannier 0 0 0xA .powerFault 3 0 0 0x700020 false
    (s.flag Reg.PWR_STATUS.PFAULT).holdPorts

/-- Groups and indices of the counters that live in a domain (R372, R414, R415). -/
def domCounters (d : Nat) : List (Nat × Nat) :=
  let run (g a n : Nat) : List (Nat × Nat) := (List.range n).map fun i => (g, a + i)
  match domKind d with
  | .prt => run 0 (9 * (d - 4)) 9 ++ run 1 (9 * (d - 4)) 9
  | .ch => run 9 (4 * (d - 12)) 4 ++ run 10 (4 * (d - 12)) 4
  | .nc => run 3 (4 * (d - 28)) 4
  | .dir => run 4 (8 * (d - 44)) 8
  | .xlt => run 5 (12 * (d - 48)) 12
  | .cdc => if d = 52 then run 7 0 7 else []
  | .deep => run 7 7 8
  | _ => []

/-- A domain's always-running counters restart from zero with OVF set (R372). -/
def State.restartCounters (s : State) (d : Nat) : State :=
  { s with pmu := { s.pmu with always := (domCounters d).foldl (fun t k => t.put (pmuKey k.1 k.2) (Counter.mk 0 true)) s.pmu.always } }

/-- What a retention brownout costs (R373). -/
def State.brownout (s : State) (d : Nat) : State :=
  let s := s.flag Reg.PWR_STATUS.BROWNOUT
  match domKind d with
  | .xlt =>
    let mine (e : Nat) : Bool := (Config.xltSlice e).val + 48 == d
    let s := (s.xlt.prCache.filter fun x => mine (sectorExt x.1)).foldl (fun s x => s.dropSecEntry x.1) s
    let s := (s.xlt.extCache.filter fun x => mine x.1).foldl (fun s x => s.dropExtEntry x.1) s
    let ws := (distinct ((s.xlt.touched.filter fun e => mine e.1).map fun e => e.1 / 64)).filter fun w => !s.xlt.rebuilds.contains w
    ws.foldl (fun (s : State) w => ({ s with xlt := { s.xlt with rebuilds := s.xlt.rebuilds ++ [w] } }).countXlt (64 * w) 8) s
  | .dir => ((s.dir.entries.filter fun e => dirSlice e.1 + 44 == d).map (·.1)).foldl (fun s l => s.dirWayLost l) s
  | .deep => { s with cdc := { s.cdc with buffer := [] } }
  | .mgt => s.restartMgt .brownout
  | .nc => s.powerFault
  | _ => s

/-- The stale-state checks of a wake (R372). -/
def State.wakeChecks (s : State) (d : Nat) (fromRet : Bool) (chk : WakeChecks) : State :=
  let bad (s : State) : State := (s.flag Reg.PWR_STATUS.STALE).count 15 39 1 (some d)
  let s := if fromRet && chk.signatureBad then (bad s).restartCounters d else s
  let s := if (s.dom d).stale then bad s else s
  if fromRet && chk.brownout then (bad s).brownout d else s

/-- The XTS periodic test of a channel's return fails: its engine goes out of service before the first unit passes (R314, R372). -/
def State.returnTest (s : State) (d : Nat) (spareBad : Bool) : State :=
  if s.hasEngine (chOf d).val then s.xtsFail (if s.fbit Reg.XTS_STATUS.ENGINE_OOS (chOf d).val then 16 else ⟨(chOf d).val, by omega⟩) true (!spareBad) else s

/-- A channel that is ON again takes commands, and the periodic work of its ranks falls due at once (R242, R372). -/
def State.chanWake (s : State) (d : Nat) : State :=
  if domKind d == .ch then s.updChan (chOf d) fun x => { x with st := if x.st == .ret then .active else x.st, ranks := x.ranks.mapVals fun _ r => { r with retrainDue := true } } else s

/-- A domain is powered, restored and checked, and its latch is replayed (R366, R368). An entry to OFF is reversed until its state is reached, when the switch opens: nothing is lost before (R369; DEDUCED, LOG 63). -/
def State.wakeUp (s : State) (d : Nat) (chk : WakeChecks) : State :=
  let x := s.dom d
  let (fromRet, fromOff) : Bool × Bool := match x.st with
    | .off => (false, true)
    | .entering true => (false, false)
    | .waking o _ => (!o, o)
    | _ => (true, false)
  match x.latch with
  | [] => s
  | (src, t) :: _ =>
    let ns := (s.tb - t).toNat
    let s := s.wakeChecks d fromRet chk
    let s := if fromOff && domKind d == .mgt then s.restartMgt .wake else s
    let s := s.updDom d fun y => { y with st := .on, stopped := [], latch := [], stale := false, failed := false }
    let s := (((s.flag Reg.PWR_WAKE_LOG.VALID).setF Reg.PWR_WAKE_LOG.DOMAIN d).setF Reg.PWR_WAKE_LOG.SOURCE (srcCode src)).setF Reg.PWR_WAKE_LOG.TIME_NS (min 0xFFFFF ns)
    let s := x.latch.foldl (fun s l => s.count 15 (28 + srcCode l.1) 1 (some d)) s
    let s := s.count 15 38 ns (some d)
    let s := if chk.engineBad && domKind d == .ch then s.returnTest d chk.spareBad else s
    (s.chanWake d).replay d (x.latch.map (·.1))

/-- May a domain wake: not ON, and not held OFF by strap, population or failure? A failed wake is tried again for PD_PRTn, PD_MGT and PD_SNS alone (R370). -/
def State.mayWake (s : State) (d : Nat) : Bool :=
  s.mainRuns && !s.domOn d &&
    (match domKind d with
      | .always => false
      | .ch => (s.dom d).st != .off && (s.chan (chOf d)).st != .failed
      | .prt => decide (prtOf d ∈ s.heads) || s.upper (prtOf d)
      | .mgt | .sns => true
      | _ => !(s.dom d).failed)

/-- A wake source arrives (R368, R369): in the stop phase it makes the entry refuse with WAKE_PENDING, at any other time not ON it wakes the domain. -/
def State.wake (s : State) (d : Nat) (src : WakeSource) (chk : WakeChecks) : State :=
  if !s.mayWake d then s
  else
    let s := s.latchWake d src
    match (s.dom d).st with
    | .stopping _ => if (s.dom d).stopped.length = participants (domKind d) then s.refuse d 0xFF 3 else s
    | _ => s.wakeUp d chk

/-! ## Wake failure (R370, R371) -/

/-- The six units of a codec cluster (R370). -/
def clusterUnits (k : Nat) : List CodecUnit :=
  (List.range 4).map (fun i => .decomp ⟨(4 * k + i) % 16, Nat.mod_lt _ (by decide)⟩) ++ (List.range 2).map (fun i => .comp ⟨(2 * k + i) % 8, Nat.mod_lt _ (by decide)⟩)

/-- With no readings Cadence takes every die sensor as D2 and every DIMM as B2 (R370, R383, R387). -/
def State.blindSense (s : State) : State :=
  State.notify { s with cad := { s.cad with band := 2, heat := .hot }, chans := s.chans.mapVals fun _ c => { c with band := 2, ref2x := true } } s

/-- *Wake failure by kind* (R370). -/
def State.wakeFailure (s : State) (d : Nat) (cause : WakeFailCause) : State :=
  let s := (s.flag Reg.PWR_STATUS.WAKE_FAIL).count 14 71 1 (some d)
  let s := ((s.flag Reg.PWR_WAKE_FAIL.VALID).setF Reg.PWR_WAKE_FAIL.DOMAIN d).setF Reg.PWR_WAKE_FAIL.CAUSE (match cause with | .power => 1 | .oscillator => 2)
  let s := s.event [s.owner] .failure .wakeFailure d
  let s := s.pannier d 0xFF 0xA .wakeFailure 2 0 0 0x70002C true
  let s := s.updDom d fun x => { x with st := .off, failed := true }
  match domKind d with
  | .ch => s.failChan (chOf d) .wake
  | .cdc =>
    let us := (clusterUnits (d - 52)).filter fun u => !s.unitOos u
    us.foldl (fun (s : State) u => if s.lastUnit u then s.keepLast u else s.unitOut u) s
  | .prt => (s.linkDown (prtOf d) false).updPort (prtOf d) fun p => { p with held := true, ltssm := .detect }
  | .dir =>
    let s := { s with dir := { s.dir with entries := s.dir.entries.filter fun e => dirSlice e.1 + 44 != d } }
    let s := (s.heads.filter fun h => (s.regionsOf h).any (·.db)).foldl (fun s h => s.fence h false 0) s
    s.resumeDomain d
  | .nc | .xlt | .deep => s.powerFault
  | .sns => s.blindSense
  | _ => s

/-- WAKE_TIMEOUT (R370): the wake is tried once more, then it has failed. A wake of PD_SNS or PD_MGT is tried again later. -/
def execWakeTimeout (d : DomainId) (cause : WakeFailCause) (s : State) : Host.Outcome State Fault Refusal :=
  let x := s.dom d.val
  if !s.mayWake d.val || x.latch.isEmpty then .next s
  else match x.st with
    | .waking _ true => .next (s.wakeFailure d.val cause)
    | .off | .entering true => .next (s.updDom d.val fun x => { x with st := .waking true true })
    | .ret | .entering false => .next (s.updDom d.val fun x => { x with st := .waking false true })
    | _ => .next s

/-! ## Sentinel mode and wake detectors (R219, R360, R361) -/

/-- SENTINEL_WAKE (R360, R370): Kickstand wakes PD_SNS for the round while SNS_SENT is 1, and tries again each round after a failed wake. -/
def execSentinelWake (s : State) : Host.Outcome State Fault Refusal :=
  if !s.fb Reg.PWR_POLICY.SNS_SENT && !(s.dom 2).failed then .next s else .next (s.wake 2 .sentinel { signatureBad := false, brownout := false })

/-- WAKE_DETECTOR_PERIOD (R361): a change to receiver present sets the wake latch of PD_PRTn. -/
def execWakeDetectorPeriod (p : Head) (present : Bool) (s : State) : Host.Outcome State Fault Refusal :=
  if (s.dom (4 + p.val)).st != .ret || !s.mainRuns then .next s
  else
    let was := (s.port p).receiver
    let s := s.updPort p fun q => { q with receiver := present }
    .next (if present && !was then s.latchWake (4 + p.val) .detector else s)

/-- NO_RECEIVER_TIMEOUT (R219): a port with no receiver for 100 ms is asked into RET, with its wake detector in sentinel mode. -/
def execNoReceiverTimeout (p : Head) (s : State) : Host.Outcome State Fault Refusal :=
  if (s.port p).up || (s.port p).receiver then .next s
  else .next (s.askEntry (4 + p.val) false false)

end Sys2Proof.Machine
end

