-- ==== Sys2Proof/Machine/Rings.lean ====
section
/-! DEFINITION. Command rings: the ring window, ring registers, doorbells, the fetch of descriptors with their checks, and completions (R325 to R340, R349 to R352). -/

namespace Sys2Proof.Machine

/-! ## Ring registers (R325 to R330, R447) -/

/-- Log a ring error in CMD_STATUS: the last one stands. -/
def State.ringErr (s : State) (cq : Bool) (r code : Nat) : State :=
  (((s.flag Reg.CMD_STATUS.VALID).setF Reg.CMD_STATUS.CQ cq.toNat).setF Reg.CMD_STATUS.RING r).setF Reg.CMD_STATUS.CODE code

def rings64 : List Ring := (List.range 64).map fun i => ⟨i % 64, Nat.mod_lt _ (by decide)⟩

/-- Is a ring enabled? -/
def State.sqEn (s : State) (r : Ring) : Bool := s.fb (Reg.CMD_SQr.EN.nth r.val)
def State.cqEn (s : State) (r : Ring) : Bool := s.fb (Reg.CMD_CQr.EN.nth r.val)

/-- Entries of a ring: SIZE above 12 is taken as 12 (R328). -/
def State.sqSize (s : State) (r : Ring) : Nat := 2 ^ (min 12 (s.f (Reg.CMD_SQr.SIZE.nth r.val)) + 4)
def State.cqSize (s : State) (r : Ring) : Nat := 2 ^ (min 12 (s.f (Reg.CMD_CQr.SIZE.nth r.val)) + 4)

/-- Window offset of a ring, bytes. -/
def State.sqOff (s : State) (r : Ring) : Nat := s.f (Reg.CMD_SQr.OFFSET_4K.nth r.val) * 4096
def State.cqOff (s : State) (r : Ring) : Nat := s.f (Reg.CMD_CQr.OFFSET_4K.nth r.val) * 4096

/-- Window size in bytes. -/
def State.winBytes (s : State) (h : Head) : Nat := (s.f (Reg.CMD_HEADh.WIN_SIZE.nth h.val) + 1) * 2097152

/-- The CQ that an SQ names. -/
def State.sqCq (s : State) (r : Ring) : Ring := ⟨s.f (Reg.CMD_SQr.CQ.nth r.val) % 64, Nat.mod_lt _ (by decide)⟩

/-- Bytes of the enabled rings of a head in its window, as offset and length; `sq`, `cq` name a ring to leave out. -/
def State.ringBytes (s : State) (h : Head) (sq cq : Option Ring) : List (Nat × Nat) :=
  let rs := s.ringsOf h
  ((rs.filter fun r => s.sqEn r && some r != sq).map fun r => (s.sqOff r, 64 * s.sqSize r)) ++
    (rs.filter fun r => s.cqEn r && some r != cq).map fun r => (s.cqOff r, 32 * s.cqSize r)

/-- The HDPA base of a head's window. -/
def State.winBase (s : State) (h : Head) : Nat := s.f (Reg.CMD_WINh.BASE_2M.nth h.val) * 2097152

/-- Does the whole window lie inside one valid region entry with CLASS firm (R325)? -/
def State.windowOk (s : State) (h : Head) : Bool :=
  (s.regionsOf h).any fun r => r.cls == 0 && decide (r.hbase * 2097152 ≤ s.winBase h) && decide (s.winBase h + s.winBytes h ≤ (r.hbase + r.size) * 2097152)

/-- Is any ring of a head enabled? -/
def State.anyRing (s : State) (h : Head) : Bool := (s.ringsOf h).any fun r => s.sqEn r || s.cqEn r

/-- A write of a word to CMD_WINh through head `h` (R325): writes of BASE_2M while EN is 1 are discarded. -/
def State.writeWin (s : State) (h : Head) (v : Word) : State :=
  let en := s.fb (Reg.CMD_WINh.EN.nth h.val)
  if en then
    if v.getLsbD 31 then s
    else if s.anyRing h then s.ringErr false 0 0xA
    else s.setF (Reg.CMD_WINh.EN.nth h.val) 0
  else
    let s := s.setF (Reg.CMD_WINh.BASE_2M.nth h.val) (v &&& 0x1FFFFFF).toNat
    if !v.getLsbD 31 then s
    else if s.windowOk h then (s.flag (Reg.CMD_WINh.EN.nth h.val)).setF (Reg.CMD_WINh.WIN_ERR.nth h.val) 0
    else s.flag (Reg.CMD_WINh.WIN_ERR.nth h.val)

/-- A write of a word to CMD_HEADh: WIN_SIZE stands while the window is enabled. -/
def State.writeHead (s : State) (h : Head) (v : Word) : State :=
  let o := s.f (Reg.CMD_HEADh.WIN_SIZE.nth h.val)
  let s := s.setWord (0x800044 + 8 * h.val) (v &&& 0xFF7FFFFF)
  if s.fb (Reg.CMD_WINh.EN.nth h.val) then s.setF (Reg.CMD_HEADh.WIN_SIZE.nth h.val) o else s

/-- Does a ring lie in the window above the doorbell page, clear of the head's other enabled rings (R328)? -/
def State.ringFits (s : State) (h : Head) (off len : Nat) (sq cq : Option Ring) : Bool :=
  decide (8192 ≤ off) && decide (off + len ≤ s.winBytes h) && !((s.ringBytes h sq cq).any fun b => overlaps b.1 b.2 off len)

/-- Drop the doorbell counts of a ring that have not been taken. -/
def State.dropBells (s : State) (cq : Bool) (r : Ring) : State :=
  { s with cmd := { s.cmd with bells := s.cmd.bells.filter fun b => !(b.cq == cq && b.ring == r) } }

/-- A write of a word to CMD_SQr through its owning head (R328). -/
def State.writeSq (s : State) (h : Head) (r : Ring) (v : Word) : State :=
  let o := s.word (0x800100 + 4 * r.val)
  let keep : Word := 0x7FE1FFFF
  if s.sqEn r then
    if v &&& keep ≠ o &&& keep then s.ringErr false r.val 9
    else if v.getLsbD 31 then s.setWord (0x800100 + 4 * r.val) v
    else (s.setWord (0x800100 + 4 * r.val) v).dropBells false r
  else
    let s := s.setWord (0x800100 + 4 * r.val) (v &&& 0x7FFFFFFF)
    if !v.getLsbD 31 then s
    else if !s.fb (Reg.CMD_WINh.EN.nth h.val) then s.ringErr false r.val 2
    else if !s.ringFits h (s.sqOff r) (64 * s.sqSize r) (some r) none then s.ringErr false r.val 1
    else if !s.cqEn (s.sqCq r) || s.ringOwner (s.sqCq r) != h then s.ringErr false r.val 3
    else
      let s := s.setWord (0x800100 + 4 * r.val) v
      { s with cmd := { s.cmd with sqs := s.cmd.sqs.put r.val ⟨0, 0⟩ } }

/-- Commands whose completions go to a CQ and are not yet written. -/
def State.cqWaits (s : State) (r : Ring) : Bool := s.cmd.cmds.any fun c => c.sq.isSome && c.cq == r && !c.discard

/-- A write of a word to CMD_CQr through its owning head (R328, R330). -/
def State.writeCq (s : State) (h : Head) (r : Ring) (v : Word) : State :=
  let v := v &&& 0xFFF1FFFF
  let o := s.word (0x800200 + 4 * r.val)
  let keep : Word := 0x00F1FFFF
  if s.cqEn r then
    if v &&& keep ≠ o &&& keep then s.ringErr true r.val 9
    else if v.getLsbD 31 then s.setWord (0x800200 + 4 * r.val) v
    else if s.cqWaits r || rings64.any (fun q => s.sqEn q && s.sqCq q == r) then s.ringErr true r.val 7
    else (s.setWord (0x800200 + 4 * r.val) v).dropBells true r
  else
    let s := s.setWord (0x800200 + 4 * r.val) (v &&& 0x7FFFFFFF)
    if !v.getLsbD 31 then s
    else if !s.fb (Reg.CMD_WINh.EN.nth h.val) then s.ringErr true r.val 2
    else if !s.ringFits h (s.cqOff r) (32 * s.cqSize r) none (some r) then s.ringErr true r.val 1
    else
      let s := s.setWord (0x800200 + 4 * r.val) v
      { s with cmd := { s.cmd with cqs := s.cmd.cqs.put r.val ⟨0, 0, 0, 0⟩ } }

/-- A write to a window register by its source: through the head alone (R327, R447). -/
def State.winAccess (s : State) (w : Via) (h : Head) (g : State → State) : State :=
  if !s.regsUp || decide (h ∉ s.heads) then s
  else if w == .head h then g s
  else s.nonowner

/-- A write to a ring register by its source: through the owning head alone; one through another head is logged with code 0x4 (R327, R447). -/
def State.ringAccess (s : State) (w : Via) (cq : Bool) (r : Ring) (g : State → Head → State) : State :=
  if !s.regsUp then s
  else match w with
    | .sideband => s.nonowner
    | .head h => if s.ringOwner r == h && decide (h ∈ s.heads) then g s h else (s.nonowner).ringErr cq r.val 4

/-- RING_WINDOW_ENABLE (R325). -/
def execRingWindowEnable (w : Via) (h : Head) (base : BitVec 25) (s : State) : Host.Outcome State Fault Refusal :=
  .next (s.winAccess w h fun s => s.writeWin h (0x80000000 ||| base.zeroExtend 32))

/-- RING_WINDOW_DISABLE (R325). -/
def execRingWindowDisable (w : Via) (h : Head) (s : State) : Host.Outcome State Fault Refusal :=
  .next (s.winAccess w h fun s => s.writeWin h (s.word (0x800040 + 8 * h.val) &&& 0x1FFFFFF))

/-- SQ_ENABLE (R328). -/
def execSqEnable (w : Via) (r : Ring) (v : BitVec 31) (s : State) : Host.Outcome State Fault Refusal :=
  .next (s.ringAccess w false r fun s h => s.writeSq h r (0x80000000 ||| v.zeroExtend 32))

/-- SQ_DISABLE (R328): the other fields are written as they stand. -/
def execSqDisable (w : Via) (r : Ring) (s : State) : Host.Outcome State Fault Refusal :=
  .next (s.ringAccess w false r fun s h => s.writeSq h r (s.word (0x800100 + 4 * r.val) &&& 0x7FFFFFFF))

/-- CQ_ENABLE (R328). -/
def execCqEnable (w : Via) (r : Ring) (v : BitVec 31) (s : State) : Host.Outcome State Fault Refusal :=
  .next (s.ringAccess w true r fun s h => s.writeCq h r (0x80000000 ||| v.zeroExtend 32))

/-- CQ_DISABLE (R330). -/
def execCqDisable (w : Via) (r : Ring) (s : State) : Host.Outcome State Fault Refusal :=
  .next (s.ringAccess w true r fun s h => s.writeCq h r (s.word (0x800200 + 4 * r.val) &&& 0x7FFFFFFF))

/-! ## Doorbells (R329, R330) -/

/-- The oldest doorbell count of a ring, and the state without it. -/
def State.takeBell (s : State) (cq : Bool) (r : Ring) : Option (Nat × State) :=
  (s.cmd.bells.find? fun b => b.cq == cq && b.ring == r).map fun b =>
    (b.count, { s with cmd := { s.cmd with bells := dropFirst (fun b => b.cq == cq && b.ring == r) s.cmd.bells } })

/-- An overrun (R329): the SQ is disabled, code 0x5 is logged and an event record written; commands already fetched run on. -/
def State.overrun (s : State) (r : Ring) : State :=
  let s := (s.setF (Reg.CMD_SQr.EN.nth r.val) 0).ringErr false r.val 5
  s.event (withOwner s [s.ringOwner r]) .informational .ringOverrun r.val

/-- SQ_DOORBELL (R329). -/
def execSqDoorbell (r : Ring) (s : State) : Host.Outcome State Fault Refusal :=
  match s.takeBell false r with
  | none => .next s
  | some (p, s) =>
    match s.cmd.sqs.look r.val with
    | none => .next s
    | some q =>
      if !s.sqEn r then .next s
      else if p ≤ q.seen then .next (s.count 13 29 1 (some (s.ringOwner r).val))
      else if p ≤ q.fetched + s.sqSize r then .next { s with cmd := { s.cmd with sqs := s.cmd.sqs.put r.val { q with seen := p } } }
      else .next (s.overrun r)

/-- CQ_DOORBELL (R330). -/
def execCqDoorbell (r : Ring) (s : State) : Host.Outcome State Fault Refusal :=
  match s.takeBell true r with
  | none => .next s
  | some (p, s) =>
    match s.cmd.cqs.look r.val with
    | none => .next s
    | some q =>
      if !s.cqEn r then .next s
      else if p ≤ q.seen then .next (s.count 13 29 1 (some (s.ringOwner r).val))
      else if q.produced < p then .next ((s.count 13 29 1 (some (s.ringOwner r).val)).ringErr true r.val 6)
      else .next { s with cmd := { s.cmd with cqs := s.cmd.cqs.put r.val { q with seen := p } } }

/-! ## Accesses of CMD to device memory (R52, R56, R332) -/

/-- Do hosts keep line `l` coherent through the directory? -/
def State.lineDb (s : State) (l : Nat) : Bool := !(s.dbHeads (extOf l)).isEmpty

/-- Are the domains of a line ON? One that is not takes a wake from an engine's request (R368). -/
def State.engineReach (s : State) (l : Nat) : Bool × State :=
  let off := (lineDomains l (s.lineDb l)).filter fun d => !s.domOn d && !(s.dom d).failed
  (off.isEmpty, off.foldl (fun s d => s.latchWake d .engineRequest) s)

/-- Send BISnpInv to every host that holds one of these lines and has no snoop outstanding for it, as slots allow (R26, R182, R332). -/
def State.backInval (s : State) (ls : List Nat) : State :=
  ls.foldl (fun (s : State) l =>
    (((s.dir.entries.look l).map fun d => presHosts d.pres).getD []).foldl (fun (s : State) h =>
      if (s.snoopTo h l).isSome || s.slotsFree l == 0 then s else s.snoop h .inv l .command s.nextEntry) s) s

/-- Does a host hold the line, or has it a snoop outstanding? -/
def State.hostHolds (s : State) (l : Nat) : Bool := s.dir.entries.has l || s.dir.snoops.any fun q => q.covers.contains l

/-- An internal engine's read of a line: from storage unless the near cache, the write-back buffer or the page buffer holds it; its ranks wake, and the reads are issued (R52, R171). -/
def State.engineRead (s : State) (l : Nat) : State :=
  if s.nc.lines.has l || (s.wbbLine l).isSome || s.bufferHit l then s
  else (s.lineRuns l).foldl (fun (s : State) p => (s.wakePlace p.1 .engineRequest).chanIssue p.1 (.engine p.1.pos false) p.2) s

/-- CMD's read of a line at its home slice (R332): it waits behind an open request of the line, and draws modified data from a host that holds it in E/M. It takes no near-cache line. -/
def State.cmdRead (s : State) (l : Nat) : Option LineVal × State :=
  match s.engineReach l with
  | (false, s) => (none, s)
  | (true, s) =>
    if s.lineOpen l then (none, s)
    else
      let now : LineVal := if s.setLost l || (s.lineLost l && !s.nc.lines.has l && (s.wbbLine l).isNone) then ⟨0, true⟩ else s.current l
      match s.dir.entries.look l with
      | some d =>
        if d.state == .em then
          (none, (presHosts d.pres).foldl (fun (s : State) h =>
            if (s.snoopTo h l).isSome || s.slotsFree l == 0 then s else s.snoop h .data l .command s.nextEntry) s)
        else (some now, s.engineRead l)
      | none => (some now, s.engineRead l)

/-- A write by CMD, ordered at its home slice like a host write (R332): every host copy is back-invalidated before it lands. -/
def State.cmdWrite (s : State) (l : Nat) (d : LineData) (m : Mask) : LandRes :=
  match s.engineReach l with
  | (false, s) => .wait .domain s
  | (true, s) =>
    if s.lineOpen l then .wait .line s
    else if s.hostHolds l then .wait .snoops (s.backInval [l])
    else if s.setLost l then .landed (s.touch l)
    else s.land l d m false

/-- Writes by CMD, in order. -/
def State.cmdWrites (s : State) : List (Nat × LineData × Mask) → LandRes
  | [] => .landed s
  | (l, d, m) :: ws =>
    match s.cmdWrite l d m with
    | .wait p s => .wait p s
    | .landed s => s.cmdWrites ws

/-- The lines of bytes written from line `l` onward; a last part of a line is written with byte enables. -/
def linesOf (l : Nat) (bs : List Byte) : Nat → List (Nat × LineData × Mask)
  | 0 => []
  | n + 1 =>
    match bs with
    | [] => []
    | _ =>
      let k := (bs.take 64).length
      (l, lineOf (bs.take 64), if k = 64 then fullMask else ((1 : Mask) <<< k) - 1) :: linesOf (l + 1) (bs.drop 64) n

/-! ## Descriptors (R335) -/

def dOp (d : LineData) : Nat := lineNat d 0 1
def dFlags (d : LineData) : Nat := lineNat d 1 1
def dTag (d : LineData) : Nat := lineNat d 4 4
def dAddr (d : LineData) : Nat := lineNat d 8 8
def dLen (d : LineData) : Nat := lineNat d 16 8
def dAddr2 (d : LineData) : Nat := lineNat d 24 8
def dLen2 (d : LineData) : Nat := lineNat d 32 8
def dArg0 (d : LineData) : Nat := lineNat d 40 8
def dArg1 (d : LineData) : Nat := lineNat d 48 8

/-- Is it SET_POLICY kind 0x02, whose entries lie in bytes that other descriptors reserve (R347)? -/
def dPolicy2 (d : LineData) : Bool := dOp d == 0x0F && dArg0 d % 256 == 2

/-- Fields that ARG0 and ARG1 may use, by opcode: the bits outside them are reserved. `none`: the opcode does not use the argument. -/
def argBits : Nat → Option Nat × Option Nat
  | 0x03 => (some 3, none)
  | 0x04 => (some 1, none)
  | 0x05 => (some 2, none)
  | 0x06 => (some 10, none)
  | 0x0A => (some 1, none)
  | 0x0B => (some 6, some 32)
  | 0x0C => (some 1, none)
  | 0x0D => (some 16, none)
  | 0x0E => (some 4, some 4)
  | 0x0F => (some 8, some 16)
  | _ => (none, none)

/-- Does a field or a reserved byte lie outside its range (R335, R341, R347)? -/
def dBad (d : LineData) : Bool :=
  let a := argBits (dOp d)
  let past (bits : Option Nat) (v : Nat) : Bool := bits.any fun n => decide (2 ^ n ≤ v)
  lineNat d 2 2 != 0 || decide (8 ≤ dFlags d) ||
    (if dPolicy2 d then lineNat d 32 8 != 0 || lineNat d 41 7 != 0 || lineNat d 60 4 != 0
     else lineNat d 56 8 != 0 || past a.1 (dArg0 d) || past a.2 (dArg1 d)) ||
    (match dOp d with
     | 0x03 => dArg0 d % 2 == 0 && (dArg0 d / 2 % 4 == 0 || dArg0 d / 2 % 4 == 3)
     | 0x05 => dArg0 d == 3
     | 0x0E => dArg0 d == 0 || decide (4 < dArg0 d)
     | 0x0F => dArg0 d % 256 != 1 && dArg0 d % 256 != 2
     | _ => false)

/-- Does the opcode take a range (R340)? -/
def dRanged (d : LineData) : Bool := (decide (1 ≤ dOp d) && decide (dOp d ≤ 0x0A)) || (dOp d == 0x0E && dArg0 d == 4)

/-- Alignment of ADDR and LEN (*Opcodes*). -/
def dAlign (d : LineData) : Nat :=
  match dOp d with
  | 0x03 => if dArg0 d % 2 = 1 then 4096 else 2097152
  | 0x04 => if dArg0 d % 2 = 1 then 4096 else 2097152
  | 0x06 => 2097152
  | 0x07 => 2097152
  | 0x0A => 2097152
  | _ => 4096

/-- Has the opcode commit steps (R349)? -/
def dSteps (d : LineData) : Bool :=
  match dOp d with
  | 0x01 => true
  | 0x02 => true
  | 0x03 => true
  | 0x04 => true
  | 0x06 => true
  | 0x07 => true
  | 0x08 => true
  | 0x0A => true
  | 0x0E => dArg0 d == 4
  | _ => false

/-- The valid entry of a head that holds a whole range of HDPAs. -/
def State.rangeIn (s : State) (h : Head) (a n : Nat) : Option Region :=
  (s.regionsOf h).find? fun r => decide (r.hbase * 2097152 ≤ a) && decide (a + n ≤ (r.hbase + r.size) * 2097152)

/-- Does a range overlap the head's doorbell page or an enabled ring of it, as device addresses (R325, R340)? -/
def State.hitsRings (s : State) (h : Head) (a n : Nat) : Bool :=
  (s.window h).any fun w => (s.rangeIn h a n).any fun r =>
    ((0, 8192) :: s.ringBytes h none none).any fun b => overlaps (64 * w.1 + b.1) b.2 (r.dpa a) n

/-- The range checks (R340, R342). -/
def State.rangeBad (s : State) (h : Head) (d : LineData) : Bool :=
  let a := dAddr d
  let n := dLen d
  let al := dAlign d
  let guarded := [1, 6, 7, 8, 0x0A].contains (dOp d)
  let out : Bool := (dOp d == 9 || dOp d == 0x0D) && (dAddr2 d % 64 != 0 || (s.rangeIn h (dAddr2 d) (dLen2 d)).isNone)
  (dRanged d && (n == 0 || a % al != 0 || n % al != 0 || (s.rangeIn h a n).isNone || (guarded && s.hitsRings h a n))) || out ||
    (dOp d == 2 &&
      (match s.rangeIn h a n, s.rangeIn h (dAddr2 d) n with
       | some r, some q => dAddr2 d % 4096 != 0 || overlaps (r.dpa a) n (q.dpa (dAddr2 d)) n || s.hitsRings h (dAddr2 d) n
       | _, _ => true))

/-! ## Pin limits (R164, R343, R344) -/

/-- PIN_MAX in percent, at most 100. -/
def State.pinMax (s : State) : Nat := min 100 (s.f Reg.DRL_TARGET.PIN_MAX)

/-- Extents pinned keep-direct outside a range of `n` extents from `e`. -/
def State.pinnedExts (s : State) (e n : Nat) : Nat :=
  (s.xlt.ext.filter fun x => x.2.pin == 1 && x.2.mode != .untouched && !(decide (e ≤ x.1) && decide (x.1 < e + n))).length

/-- Pages pinned keep-open outside a range of `n` pages from `p`. -/
def State.pinnedPages (s : State) (p n : Nat) : Nat :=
  (s.xlt.page.filter fun x => (s.effRec x.1).pin == 1 && !(decide (p ≤ x.1) && decide (x.1 < p + n))).length

/-- Pages of a range that RESERVE pins: those of DIRECT extents need none (R344). -/
def State.reservePages (s : State) (p n : Nat) : Nat :=
  ((List.range n).filter fun i => (s.extRec ((p + i) / 512)).mode != .direct).length

/-- Would the pins of a command pass a limit of R164? `p` is its first page. -/
def State.pinOver (s : State) (d : LineData) (p : Nat) : Bool :=
  let n := dLen d / 4096
  match dOp d with
  | 0x03 =>
    if dArg0 d / 2 % 4 ≠ 1 then false
    else if dArg0 d % 2 = 0 then decide (s.dirSlots * s.pinMax < 100 * (s.pinnedExts (p / 512) (n / 512) + n / 512))
    else decide (s.openBudget * s.pinMax < 100 * (s.pinnedPages p n + n))
  | 0x08 => decide (s.openBudget * s.pinMax < 100 * (s.pinnedPages p n + s.reservePages p n))
  | _ => false

/-- Does a page-level pin meet an extent pinned keep-direct (R343)? -/
def State.pinClash (s : State) (d : LineData) (p : Nat) : Bool :=
  dOp d == 3 && dArg0 d % 2 == 1 &&
    s.xlt.ext.any fun x => x.2.pin == 1 && x.2.mode != .untouched && decide (p / 512 ≤ x.1) && decide (x.1 ≤ (p + dLen d / 4096 - 1) / 512)

/-! ## The checks at fetch (R298, R308, R335, R340, R343 to R347, R354) -/

/-- The status with which the checks end a command, in this order; none: it goes on. An unknown opcode is left to its own row. -/
def State.fetchFails (s : State) (h : Head) (d : LineData) (mbx : Bool) : Option (BitVec 8) :=
  let op := dOp d
  let p := ((s.rangeIn h (dAddr d) (dLen d)).map fun r => r.dpa (dAddr d) / 4096).getD 0
  if 0x0F < op then none
  else if mbx && (op == 0x0B || op == 0x0C) then some 0x01
  else if dBad d then some 0x02
  else if (op == 0x06 || op == 0x0A) && !s.hasRole (.head h) .user then some 0x04
  else if ((op == 0x0E && dArg0 d != 4) || dPolicy2 d) && h != s.owner then some 0x0A
  else if s.rangeBad h d then some 0x03
  else if op == 0x06 && (s.keySlot (dArg0 d)).st != .active then some 0x05
  else if s.pinClash d p then some 0x02
  else if s.pinOver d p then some 0x07
  else if op == 0x09 && decide (dLen2 d < 64) then some 0x09
  else none

/-- A new command from a descriptor. -/
def State.newCmd (s : State) (sq : Option Ring) (h : Head) (d : LineData) (count : Nat) (poison : Bool) : Cmd :=
  let at_ (a : Nat) := ((s.rangeIn h a (dLen d)).map fun r => r.dpa a / 4096).getD 0
  let end_ := if poison then some 0x0C else s.fetchFails h d sq.isNone
  { id := s.cmd.nextCmd, sq := sq, cq := (sq.map s.sqCq).getD 0, head := h, desc := if poison then 0 else d, count := count
    phase := if end_.isSome then .ended else .fetched, base := at_ (dAddr d), dst := at_ (dAddr2 d), next := 0, made := 0, abort := false
    status := end_.getD 0, result := if poison then BitVec.ofNat 64 count else 0, time := none, keys := [], waits := false, discard := false }

/-- Put a command among those in progress. -/
def State.addCmd (s : State) (c : Cmd) : State := { s with cmd := { s.cmd with cmds := s.cmd.cmds ++ [c], nextCmd := s.cmd.nextCmd + 1 } }

/-! ## Fetch (R337) -/

/-- Is room left in a CQ (R330)? -/
def State.cqRoom (s : State) (r : Ring) : Bool := (s.cmd.cqs.look r.val).any fun q => decide (q.produced - q.seen < s.cqSize r)

/-- Is a completion held for room in a CQ? -/
def State.cqHeld (s : State) (r : Ring) : Bool := s.cmd.cmds.any fun c => c.sq.isSome && c.cq == r && !c.discard && c.phase == .ended && !s.cqRoom r

/-- May a descriptor of a ring be fetched now? -/
def State.sqReady (s : State) (r : Ring) : Bool :=
  s.sqEn r && (s.cmd.sqs.look r.val).any (fun q => decide (q.fetched < q.seen)) && decide ((s.cmd.cmds.filter fun c => c.sq == some r).length < 8) &&
    !s.cqHeld (s.sqCq r) && decide (s.ringOwner r ∈ s.heads)

/-- The ring whose turn it is: the last one while its turns last, else the next that is ready. -/
def State.sqTurn (s : State) : Option Ring :=
  let last : Ring := ⟨s.cmd.rrRing % 64, Nat.mod_lt _ (by decide)⟩
  if s.sqReady last && s.cmd.rrLeft != 0 then some last
  else ((List.range 64).map fun i => (⟨(s.cmd.rrRing + 1 + i) % 64, Nat.mod_lt _ (by decide)⟩ : Ring)).find? s.sqReady

/-- Fetch the next descriptor of a ring and check it. -/
def State.fetchFrom (s : State) (r : Ring) : State :=
  let h := s.ringOwner r
  match s.window h, s.cmd.sqs.look r.val with
  | some (b, _), some q =>
    match s.cmdRead (b + s.sqOff r / 64 + q.fetched % s.sqSize r) with
    | (none, s) => s
    | (some v, s) =>
      let last := s.cmd.rrRing = r.val ∧ s.cmd.rrLeft ≠ 0
      let left := if last then s.cmd.rrLeft - 1 else s.f (Reg.CMD_SQr.WEIGHT.nth r.val)
      let s := s.addCmd (s.newCmd (some r) h v.data q.fetched v.poison)
      let s := { s with cmd := { s.cmd with sqs := s.cmd.sqs.put r.val { q with fetched := q.fetched + 1 }, rrRing := r.val, rrLeft := left } }
      s.count 13 28 1 (some h.val)
  | _, _ => s

/-- DESCRIPTOR_FETCH (R337, R352): one turn of the weighted round robin, while fewer than 64 commands run and no MGT restart pauses it. -/
def execDescriptorFetch (s : State) : Host.Outcome State Fault Refusal :=
  if s.fb Reg.CMD_STATUS.MGT_PAUSE || decide (64 ≤ s.cmd.cmds.length) || !s.partRoom 9 || s.cry.st == .error then .next s
  else
    match s.sqTurn with
    | none => .next s
    | some r => .next (s.fetchFrom r)

/-! ## Completions (R330, R334, R336, R349 to R351) -/

/-- Remove a command. -/
def State.dropCmd (s : State) (id : Nat) : State := { s with cmd := { s.cmd with cmds := s.cmd.cmds.filter (·.id != id) } }

/-- The time of a completion: the last commit, or its own order (R336). -/
def Cmd.endTime (c : Cmd) (tb : BitVec 64) : BitVec 64 := c.time.getD tb

/-- The 32 bytes of a completion (R336). -/
def completionBytes (c : Cmd) (tb : BitVec 64) (phase : Bool) (consumed : Nat) : List Byte :=
  leBytes 4 (dTag c.desc) ++ [BitVec.ofNat 8 ((c.sq.map (·.val)).getD 0x3F), 0, c.status, BitVec.ofNat 8 phase.toNat] ++
    leBytes 8 c.result.toNat ++ leBytes 8 (c.endTime tb).toNat ++ leBytes 8 consumed

/-- A completion counts by its opcode, its status and, for ABORT, its outcome (R415). -/
def State.countEnd (s : State) (c : Cmd) : State :=
  let u := some c.head.val
  let s := if c.status == 0x0C then s.count 13 36 1 u else s.count 13 (16 + c.status.toNat) 1 u
  let s := if c.status == 0x0C || decide (0x0F < dOp c.desc) then s else s.count 13 (dOp c.desc) 1 u
  if dOp c.desc == 0x0B && c.status == 0 then s.count 13 (31 + c.result.toNat % 4) 1 u else s

/-- Send a CQ's vector and clear its count (R350). -/
def State.signalCq (s : State) (h : Head) (r : Ring) : State :=
  match s.cmd.cqs.look r.val with
  | none => s
  | some q =>
    { s with cmd := { s.cmd with cqs := s.cmd.cqs.put r.val { q with unsignalled := 0 } } }.msix h (s.f (Reg.CMD_CQr.VEC.nth r.val))

/-- A written completion is counted toward its CQ's interrupt; IRQ_NONE is never counted, IRQ_NOW sends at once (R350). -/
def State.moderate (s : State) (h : Head) (r : Ring) (flags : Nat) : State :=
  match s.cmd.cqs.look r.val with
  | none => s
  | some q =>
    if flags / 4 % 2 = 1 then s
    else
      let n := q.unsignalled + 1
      let s := { s with cmd := { s.cmd with cqs := s.cmd.cqs.put r.val { q with unsignalled := n, oldest := if q.unsignalled = 0 then s.now else q.oldest } } }
      if flags / 2 % 2 = 1 ∨ max 1 (s.f (Reg.CMD_HEADh.MOD_COUNT.nth h.val)) ≤ n then s.signalCq h r else s

/-- Is an ABORT's target still without its completion (R349)? -/
def State.targetOpen (s : State) (c : Cmd) : Bool := dOp c.desc == 0x0B && c.next != 0 && s.cmd.cmds.any fun t => t.id + 1 == c.next

/-- Write the completion of an ended command into its CQ, or hold it. -/
def State.complete (s : State) (c : Cmd) : State :=
  match s.window c.head, s.cmd.cqs.look c.cq.val with
  | some (b, _), some q =>
    if !s.cqRoom c.cq then
      if c.waits then s
      else { s with cmd := { s.cmd with cmds := updWhere (fun x => x.id == c.id) (fun x => { x with waits := true }) s.cmd.cmds } }.count 13 30 1 (some c.head.val)
    else
      let i := q.produced % s.cqSize c.cq
      let phase := q.produced / s.cqSize c.cq % 2 == 0
      let consumed := ((c.sq.bind fun r => s.cmd.sqs.look r.val).map (·.fetched)).getD 0
      let l := b + s.cqOff c.cq / 64 + i / 2
      let half := 32 * (i % 2)
      let data := lineOf (completionBytes c s.tb phase consumed) <<< (8 * half)
      match s.cmdWrite l data (0xFFFFFFFF <<< half) with
      | .wait _ s => s
      | .landed s =>
        let s := { s with cmd := { s.cmd with cqs := s.cmd.cqs.put c.cq.val { q with produced := q.produced + 1 } } }
        ((s.dropCmd c.id).countEnd c).moderate c.head c.cq (dFlags c.desc)
  | _, _ => (s.dropCmd c.id).countEnd c

/-- Is the command a part of a Release Dynamic Capacity in progress (R115, R353)? -/
def State.releasing (s : State) (c : Cmd) : Bool := c.sq.isNone && (s.port c.head).bg.any fun b => b.running && b.cmd == 0x4803

/-- The background operation of a mailbox has ended with a return code (R354). -/
def State.endBackground (s : State) (h : Head) (ret : Nat) : State :=
  s.updPort h fun p => { p with bg := p.bg.map fun b => { b with running := false, ret := ret } }

/-- An extent of a Release Dynamic Capacity has made its last commit: its region entry is removed, and with the last extent the request completes (R115). -/
def State.releaseDone (s : State) (c : Cmd) : State :=
  let s := s.dropCmd c.id
  let s := match (s.elasticOf c.head).find? (fun r => r.dbase * 512 == c.base) with
    | none => s
    | some r => s.rgnDrop c.head r.e
  if s.cmd.cmds.any fun x => x.head == c.head && s.releasing x then s
  else (s.endBackground c.head 0).mbxReply c.head .ok

/-- The completion of Execute Descriptor (R354): returned through the mailbox. -/
def State.mbxCompletion (s : State) (c : Cmd) : State :=
  if s.releasing c then s.releaseDone c
  else
    let s := (s.dropCmd c.id).countEnd c
    let s := if dSteps c.desc then s.endBackground c.head c.status.toNat else s
    s.mbxReply c.head (.completion ⟨BitVec.ofNat 32 (dTag c.desc), 0x3F, c.status, c.result, c.endTime s.tb⟩)

/-- COMPLETION_WRITE (R330, R334, R349, R352, R354): an ABORT's waits for its target's; that of a head whose rings were reset is discarded. -/
def execCompletionWrite (cmd : Nat) (s : State) : Host.Outcome State Fault Refusal :=
  match s.cmd.cmds.find? (·.id == cmd) with
  | none => .next s
  | some c =>
    if c.phase != .ended || s.targetOpen c then .next s
    else if c.discard then .next ((s.dropCmd c.id).countEnd c)
    else if c.sq.isNone then .next (s.mbxCompletion c)
    else .next (s.complete c)

/-- INTERRUPT_MODERATION_TIMEOUT (R350): MOD_TIME after the oldest unsignalled completion. -/
def execInterruptModerationTimeout (r : Ring) (s : State) : Host.Outcome State Fault Refusal :=
  match s.cmd.cqs.look r.val with
  | none => .next s
  | some q => if q.unsignalled = 0 then .next s else .next (s.signalCq (s.ringOwner r) r)

/-- Unmask a vector: one that is pending is sent (R350). -/
def State.unmask (s : State) (h : Head) (vec : Fin 128) : State :=
  let p := s.port h
  let b : BitVec 128 := (1 : BitVec 128) <<< vec.val
  let s := s.updPort h fun p => { p with msixMask := p.msixMask &&& ~~~b, msixPend := p.msixPend &&& ~~~b }
  if p.msixPend.getLsbD vec.val then s.msix h vec.val else s

/-- MSI_X_UNMASK (R350): the pending vector is sent. -/
def execMsiXUnmask (h : Head) (vec : Fin 128) (s : State) : Host.Outcome State Fault Refusal :=
  if !(s.port h).up then .next s else .next (s.unmask h vec)

end Sys2Proof.Machine
end

