-- ==== Sys2Proof/Machine/HotSwap.lean ====
section
/-! DEFINITION. The hot-swap supervisor: turn-on, power good, the gate-off causes, the cool-down cell and the writes of HSW_CTL (R395 to R411). -/

namespace Sys2Proof.Machine

/-- Has the off time of a trip passed: COOL_MS, at least 1,000 ms, and 99 times the time in limit (R407)? -/
def State.offTimePassed (s : State) : Bool :=
  let t := max (max 1000 (s.f Reg.HSW_RETRY.COOL_MS) * 1000000) (99 * s.hsw.limitUs * 1000)
  decide (s.hsw.offAt + t ≤ s.now)

/-- Has a latch-off been released by HSW_EN_n high for at least 100 ms (R409)? -/
def State.enReleased (s : State) : Bool := !s.hsw.en && decide (s.hsw.enAt + 100000000 ≤ s.now)

/-- The conditions of R397 that the state holds; the input window is the command's operand. -/
def State.mayTurnOn (s : State) : Bool :=
  s.aon.kick && !s.aon.holding && !s.hsw.cell && !s.hsw.thermHeld &&
    (match s.hsw.gate with
      | .off | .wait => !s.hsw.cycling || decide (s.hsw.offAt + 1000000000 ≤ s.now)
      | .cool => s.offTimePassed
      | .latched => s.enReleased && s.offTimePassed
      | .ramp | .on => false)

/-- GATE_TURN_ON (R397): the conditions have held for 20 ms and the ramp begins. -/
def execGateTurnOn (vinMv : Nat) (s : State) : Host.Outcome State Fault Refusal :=
  if !s.mayTurnOn || decide (vinMv < 10800) || decide (13200 < vinMv) then .next s
  else .next (({ s with hsw := { s.hsw with gate := .ramp, en := true, cycling := false } }.flag Reg.HSW_STATUS.VIN_OK).count 15 22)

/-- POWER_GOOD (R400): HSW_PG rises. -/
def execPowerGood (s : State) : Host.Outcome State Fault Refusal :=
  if s.hsw.gate != .ramp then .next s
  else .next { s with hsw := { s.hsw with gate := .on, pg := true } }

/-- FAULT_TIMER_EXPIRY (R401): cause LIMIT. -/
def execFaultTimerExpiry (m : TripMeas) (s : State) : Host.Outcome State Fault Refusal := .next (s.gateOff 1 m)

/-- FAST_TRIP (R402): cause FAST. -/
def execFastTrip (m : TripMeas) (s : State) : Host.Outcome State Fault Refusal := .next (s.gateOff 2 m)

/-- SHORT_TIMEOUT (R403): cause SHORT, in a ramp. -/
def execShortTimeout (m : TripMeas) (s : State) : Host.Outcome State Fault Refusal :=
  .next (if s.hsw.gate == .ramp then s.gateOff 3 m else s)

/-- RAMP_TIMEOUT (R403): cause RAMP, in a ramp. -/
def execRampTimeout (m : TripMeas) (s : State) : Host.Outcome State Fault Refusal :=
  .next (if s.hsw.gate == .ramp then s.gateOff 4 m else s)

/-- FET_FAULT (R404): cause FET, after power is good. -/
def execFetFault (m : TripMeas) (s : State) : Host.Outcome State Fault Refusal :=
  .next (if s.hsw.gate == .on then s.gateOff 5 m else s)

/-- UNDERVOLTAGE (R405): cause UV. -/
def execUndervoltage (m : TripMeas) (s : State) : Host.Outcome State Fault Refusal :=
  .next (if s.aon.kick then (s.gateOff 8 m).setF Reg.HSW_STATUS.VIN_OK 0 else s)

/-- OVERVOLTAGE (R405): cause OV. -/
def execOvervoltage (m : TripMeas) (s : State) : Host.Outcome State Fault Refusal :=
  .next (if s.aon.kick then (s.gateOff 9 m).setF Reg.HSW_STATUS.VIN_OK 0 else s)

/-- HSW_EN_RELEASE (R405, R409, R410): cause EN; with the gate off already, only the pin changes. -/
def execHswEnRelease (m : TripMeas) (s : State) : Host.Outcome State Fault Refusal :=
  if !s.aon.kick || !s.hsw.en then .next s
  else
    let s := s.gateOff 10 m
    .next { s with hsw := { s.hsw with en := false, enAt := s.now, gate := if s.hsw.gate == .wait then .off else s.hsw.gate } }

/-- COOL_DOWN_DISCHARGED (R408): the cell is below 0.8 V. -/
def execCoolDownDischarged (s : State) : Host.Outcome State Fault Refusal :=
  .next { s with hsw := { s.hsw with cell := false } }

/-- RETRY_COUNT_CLEAR (R409): after 10 s of power good. -/
def execRetryCountClear (s : State) : Host.Outcome State Fault Refusal :=
  .next (if s.hsw.pg then s.setF Reg.HSW_STATUS.TRIPS 0 else s)

/-- May a source write the HSW block: heads only while the main domains run; the owner head and the sideband alone (R441, R447)? -/
def State.hswWrite (s : State) (w : Via) : Bool := s.aon.kick && !s.aon.holding && (w == .sideband || s.regsUp)

/-- A write of CYCLE (R410, R411): ignored with the gate off. -/
def State.writeCycle (s : State) (m : TripMeas) : State :=
  if s.hsw.gate != .on && s.hsw.gate != .ramp then s
  else
    let s := s.gateOff 11 m
    { s with hsw := { s.hsw with cycling := true } }

/-- A write of UNLATCH (R409): the latch goes; the off time and a thermal hold stay. -/
def State.writeUnlatch (s : State) : State :=
  if s.hsw.gate == .latched then { s with hsw := { s.hsw with gate := .cool } } else s

/-- CYCLE (R411). -/
def execCycle (w : Via) (m : TripMeas) (s : State) : Host.Outcome State Fault Refusal :=
  if !s.hswWrite w then .next s
  else if !s.isOwner w then .next s.nonowner
  else .next (s.writeCycle m)

/-- UNLATCH (R409). -/
def execUnlatch (w : Via) (s : State) : Host.Outcome State Fault Refusal :=
  if !s.hswWrite w then .next s
  else if !s.isOwner w then .next s.nonowner
  else .next s.writeUnlatch

end Sys2Proof.Machine
end

