-- ==== Sys2Proof/Machine/Start.lean ====
section
/-! DEFINITION. Standby, the main rails and clocks, resets, and the steps of a start up to memory ready (R305, R396, R428, R431 to R437, R459 to R466). The ready point stands in Held.lean. -/

namespace Sys2Proof.Machine

/-! ## Standby (R396, R408, R425 to R429, R431) -/

/-- STANDBY_GOOD (R396): step 3 of a cold start. The AON registers take their reset values, TB starts from zero, the Pannier scan begins, and the cool-down cell holds turn-on back while it is above 0.8 V. -/
def execStandbyGood (coolMv : Nat) (straps : Straps) (s : State) : Host.Outcome State Fault Refusal :=
  if s.aon.kick then .next s
  else .next { s with
    tb := 0
    csr := s.csr.filter fun p => !aonReg p.1
    aon := { s.aon with kick := true, holding := false, boot := .standby, xtal := false, rails := false, railFault := false, inReset := false, balls := straps, straps := none, thermtrip := false, eid := 0, receiver := none }
    hsw := { en := s.hsw.en, enAt := s.hsw.enAt, cell := decide (800 < coolMv) }
    pan := { ring := s.pan.ring, pinned := s.pan.pinned, tokens := 4096 }
    cad := {}
    doms := Tbl.put (s.doms.filter fun d => d.1 == 0) 0 { Domain.reset with st := .on } }

/-- A record has been programmed: it stands in its ring slot and, where it is pinned, in the next pinned slot; the first slot of a sector starts the erase of the sector that follows (R422, R427). -/
def State.panProgrammed (s : State) (r : PanRec) (pin : Bool) (slot : Nat) : State :=
  { s with pan := { s.pan with
      programming := none
      ring := s.pan.ring.put slot (.valid r)
      erasing := s.pan.erasing || slot % 16 == 0
      next := (slot + 1) % 65536
      pinned := if pin then s.pan.pinned.put s.pan.nextPin (.valid r) else s.pan.pinned
      nextPin := if pin then s.pan.nextPin + 1 else s.pan.nextPin } }.count 15 26

/-- Is it a gate-off record (R406, R423)? -/
def PanRec.gateOff (r : PanRec) : Bool := decide (r.code.toNat / 4096 = 12)

/-- What BBX_HOLD lets Kickstand finish: the record in progress and one waiting gate-off record; a hold that fails leaves the slot in progress torn (R428). -/
def State.holdFinish (s : State) (holdOk : Bool) : State :=
  if holdOk then
    let s := match s.pan.programming with
      | some (r, pin, slot) => s.panProgrammed r pin slot
      | none => s
    match s.pan.queue.find? (·.1.gateOff) with
    | some (r, _) => if s.pan.ready && !s.pan.erasing then s.panProgrammed r false s.pan.next else s
    | none => s
  else
    match s.pan.programming with
    | some (_, _, slot) => { s with pan := { s.pan with ring := s.pan.ring.put slot .torn } }
    | none => s

/-- STANDBY_LOSS (R428): everything but the die, the flash and the fuses is lost. -/
def execStandbyLoss (holdOk : Bool) (s : State) : Host.Outcome State Fault Refusal :=
  if !s.aon.kick then .next s
  else
    let s := (s.holdFinish holdOk).holdPorts.mainReset true
    .next { s with
      aon := { s.aon with kick := false, holding := true, boot := .off, xtal := false, rails := false, railFault := false, inReset := false, straps := none, thermtrip := false, eid := 0, receiver := none }
      csr := [], cad := {}, doms := [], latches := []
      cry := { kemGen := s.cry.kemGen }
      hsw := { en := s.hsw.en, enAt := s.hsw.enAt, cell := s.hsw.cell }
      pan := { ring := s.pan.ring, pinned := s.pan.pinned } }

/-! ## Step 7 (R355, R431, R432, R434) -/

/-- The state of a domain at step 7: channels are OFF until they are trained, directory slices until an HDM-DB entry is valid, disabled engines always; PD_SNS waits for its rounds in sentinel mode. -/
def State.startDomain (s : State) (d : Nat) : DomState :=
  match domKind d with
  | .ch => .off
  | .dir => .off
  | .prt => if prtOf d ∈ s.heads ∨ s.upper (prtOf d) = true then .on else .off
  | .sns => if s.fb Reg.PWR_POLICY.SNS_SENT then .ret else .on
  | _ => .on

/-- Step 7: every domain but PD_AON leaves reset, the straps are latched, and ports whose PORTn_PERST_n is deasserted begin their bring-up. -/
def State.step7 (s : State) (t : Straps) : State :=
  let s := { s with aon := { s.aon with boot := .rails, straps := some t, balls := t } }
  let s := { s with doms := (List.range 57).foldl (fun ds i => ds.set Domain.reset (i + 1) { Domain.reset with st := s.startDomain (i + 1) }) s.doms }
  s.bringUpAll

/-- MAIN_RAILS_GOOD (R431, R436, R462): the rails are good, and step 7 runs unless DEV_RESET_n is low. It also ends a device reset that a command started. -/
def execMainRailsGood (straps : Straps) (s : State) : Host.Outcome State Fault Refusal :=
  if !s.aon.kick || !s.hsw.pg || s.aon.boot != .standby then .next s
  else
    let s := { s with aon := { s.aon with rails := true, railFault := false } }
    .next (if s.aon.inReset then s else s.step7 straps)

/-- DEV_RESET (R436): DEV_RESET_n has been low for 1 µs. -/
def execDevReset (s : State) : Host.Outcome State Fault Refusal :=
  if !s.aon.kick || s.aon.inReset then .next s
  else
    let s := s.deviceReset
    .next { s with aon := { s.aon with inReset := true } }

/-- DEV_RESET_RELEASE (R436, R437): the sequence starts at step 7 once the rails are good too. -/
def execDevResetRelease (straps : Straps) (s : State) : Host.Outcome State Fault Refusal :=
  if !s.aon.inReset then .next s
  else
    let s := { s with aon := { s.aon with inReset := false } }
    .next (if s.aon.rails && !s.aon.railFault then s.step7 straps else s)

/-! ## Rails and clocks (R459 to R464) -/

/-- Fault limits of a main rail in mV (*Supply rails*). -/
def railLimits : Rail → Nat × Nat
  | .core => (680, 840)
  | .sram => (720, 880)
  | .serdes => (780, 930)
  | .serdes12 => (1100, 1300)
  | .vddq => (1000, 1200)
  | .io => (1620, 1980)

/-- The number of a rail in *Supply rails*. -/
def railNo : Rail → Nat
  | .core => 0
  | .sram => 1
  | .serdes => 2
  | .serdes12 => 3
  | .vddq => 4
  | .io => 5

/-- A record of Kickstand's own that names a rail, with its reading. -/
def State.railRecord (s : State) (c : Cause) (sev : Nat) (r : Rail) (mv : Nat) : State :=
  s.panEnter (s.panRec 0 0 0 (Config.panEvent c) sev 0 0 0x750000 false ([BitVec.ofNat 8 (railNo r)] ++ leBytes 4 mv))

/-- MAIN_RAIL_FAULT (R462): a rail in service beyond a fault limit for 10 µs; every link goes down, and every domain but PD_AON is held in reset until the rails are good. -/
def execMainRailFault (r : Rail) (mv : Nat) (s : State) : Host.Outcome State Fault Refusal :=
  let (lo, hi) := railLimits r
  if !s.aon.kick || !s.aon.rails || s.aon.railFault || (decide (lo ≤ mv) && decide (mv ≤ hi)) then .next s
  else
    let s := (s.railRecord .railFault 3 r mv).deviceReset
    .next { s with aon := { s.aon with railFault := true } }

/-- RAIL_NOT_GOOD_TIMEOUT (R461): a Failure record, and Kickstand goes on waiting. -/
def execRailNotGoodTimeout (r : Rail) (s : State) : Host.Outcome State Fault Refusal :=
  if !s.aon.kick || !s.hsw.pg || s.aon.rails then .next s
  else .next (s.railRecord .railNotGood 2 r 0)

/-- DRAM_REFCLK_LOSS (R464): every channel in use enters FAILED. -/
def execDramRefclkLoss (s : State) : Host.Outcome State Fault Refusal :=
  if !s.mainRuns then .next s else .next (s.cap.chans.foldl (fun s c => s.failChan c .refclk) s)

/-- XTAL_LOSS (R464): the PLLs hold their frequency; a Warning event record and a Pannier record. -/
def execXtalLoss (s : State) : Host.Outcome State Fault Refusal :=
  if !s.aon.kick || !s.aon.xtal then .next s
  else
    let s := { s with aon := { s.aon with xtal := false } }
    let s := if s.mainRuns then s.event [s.owner] .warning .xtalLoss 0 else s
    .next (s.pannier 0 0 0 .xtalLoss 1 0 0 0x750000 s.mainRuns)

/-- XTAL_STARTED (R464): TB takes its rate from XTAL without a step in its count. -/
def execXtalStarted (s : State) : Host.Outcome State Fault Refusal :=
  if !s.aon.kick then .next s else .next { s with aon := { s.aon with xtal := true } }

/-! ## MGT restarts (R438) -/

/-- MGT_RESTART (R290, R373, R438). -/
def execMgtRestart (cause : RestartCause) (s : State) : Host.Outcome State Fault Refusal :=
  if s.mgt.st == .reset then .next s
  else match cause with
    | .sramError => .next ((s.pannier 1 0xFF 7 .sramError 2 0 0 0 false).restartMgt .sramError)
    | .brownout => .next ((s.flag Reg.PWR_STATUS.BROWNOUT).restartMgt .brownout)

/-- MGT_WATCHDOG (R438): Clandahar has not refreshed it for 2 s. -/
def execMgtWatchdog (s : State) : Host.Outcome State Fault Refusal :=
  if s.mgt.st == .running then .next (s.restartMgt .watchdog) else .next s

/-! ## Memory ready (R102, R104, R208, R305, R431) -/

/-- Is a channel in use TRAINED or FAILED? -/
def State.chanSettled (s : State) (c : Chan) : Bool := (s.chan c).st == .failed || ((s.chan c).trained && !(s.chan c).retraining)

/-- The keys of a start: every slot EMPTY, then slot 0 generated and a fresh metadata key (R305). -/
def State.makeKeys (s : State) : State :=
  let s := State.generateInto { s with cry := { s.cry with slots := [] } } 0
  let (k, s) := s.reseed.draw
  { s with cry := { s.cry with metaKey := some k } }

/-- Firm capacity and usable frames (R102). -/
def State.makeCapacity (s : State) : State :=
  let firm := firmUnitsOf s.lean s.cap.rawMib s.cap.dirMib s.w
  let s := s.setF Reg.XLT_CAP_FIRM.FIRM_2M firm
  { s with cap := { s.cap with usable := firm * 4096, frames := s.areaFrames } }

/-- MEMORY_READY (R431): steps 11 and 12. -/
def execMemoryReady (s : State) : Host.Outcome State Fault Refusal :=
  if !s.mainRuns || s.aon.boot != .trained || s.cry.st != .operational || !s.cap.chans.all s.chanSettled then .next s
  else
    let s := s.makeKeys.makeCapacity.defaultRegions
    let s := { s with
      aon := { s.aon with boot := .ready }
      drl := { s.drl with lapStart := s.now }
      trm := { s.trm with lapStart := s.now } }
    let s := (s.flag Reg.XLT_STATUS.READY).capReport
    .next (s.heads.foldl (fun s h => if (s.port h).up then s.updPort h fun p => { p with memActive := true } else s) s)

end Sys2Proof.Machine
end

