-- ==== Sys2Proof/Machine/Cadence.lean ====
section
/-! DEFINITION. Cadence and SENSE: power, grants, host stages, the order of gated work, sensing rounds and THERMTRIP (R374 to R394, and the decision loop of the Derailleur). -/

namespace Sys2Proof.Machine

/-! ## Caps, power and grants (R374 to R376) -/

/-- DEV_CAP_W in use: 80 to 140 W. -/
def State.devCap (s : State) : Nat := clamp 80 140 (s.f Reg.CAD_CAP.DEV_CAP_W)

/-- DRAM_CAP_W in use: 0 for no cap, otherwise at least 32 W. -/
def State.dramCap (s : State) : Nat :=
  let v := s.f Reg.CAD_CAP.DRAM_CAP_W
  if v = 0 then 0 else max 32 v

/-- An estimate scaled by a ratio, 0.1 W (R375). -/
def scaled (r : Nat × Nat) (e : Nat) : Nat := e * r.1 / r.2

/-- The thermal limit of a grant, W: none while COOL (R376). -/
def State.thermalLimit (s : State) : Option Nat :=
  match s.cad.heat with
  | .cool => none
  | .warm => some (s.f Reg.CAD_CFG.BG_WARM_W)
  | .hot => some (s.f Reg.CAD_CFG.BG_HOT_W)

/-- Tokens granted to a pool with a cap in W, if it has one, and foreground power in 0.1 W (R376). -/
def State.grant (s : State) (cap : Option Nat) (fg : Nat) : Nat :=
  let top := 1000 * s.f Reg.CAD_CFG.BG_MAX_W
  let g := match s.thermalLimit with
    | none => top
    | some w => min top (1000 * w)
  match cap with
  | none => g
  | some c => min g ((10 * c - 20 - fg) * 100)

/-- The cap of the DRAM pool, where there is one. -/
def State.dramCapOn (s : State) : Option Nat := if s.fb Reg.CAD_CFG.CAP_EN && s.dramCap != 0 then some s.dramCap else none

/-- The cap of the die pool, where caps apply. -/
def State.devCapOn (s : State) : Option Nat := if s.fb Reg.CAD_CFG.CAP_EN then some s.devCap else none

/-- The inputs of a period: scaled power is published, and both pools are granted; what was unused lapses (R374 to R376). -/
def State.grantPeriod (s : State) (est : PowerEst) : State :=
  let fgDev := scaled s.cad.scaleDev est.fgDev
  let fgDram := scaled s.cad.scaleDram est.fgDram
  let die := s.grant s.devCapOn fgDev
  let dram := s.grant s.dramCapOn fgDram
  let s := { s with cad := { s.cad with
    dieLeft := die, dramLeft := dram, items := [], codecWork := false, codecPrev := s.cad.codecWork
    estDev := s.cad.estDev + est.totDev, estDram := s.cad.estDram + est.totDram, estN := s.cad.estN + 1 } }
  let s := (s.setF Reg.CAD_GRANT.DIE_W (min 255 (die / 1000))).setF Reg.CAD_GRANT.DRAM_W (if s.dramCapOn.isNone then 0xFF else min 255 (dram / 1000))
  let s := (s.setF Reg.CAD_POWER.DEV_DW (min 65535 (scaled s.cad.scaleDev est.totDev))).setF Reg.CAD_POWER.DRAM_DW (min 65535 (scaled s.cad.scaleDram est.totDram))
  (s.count 15 8 die).count 15 9 dram

/-! ## Host stages (R388 to R390) -/

/-- Degrees that QGX16-T adds to the die bounds (R385). -/
def gradeUp : Int := if Config.tgrade then 5 else 0

/-- The die temperature as SENSE publishes it, in quarters of a degree (R394). -/
def State.dieTemp (s : State) : Int := (s.f Reg.SNS_DIE.TEMP : Int) - 256

/-- The stage that the bands call for (R385, R388). -/
def State.bandCall (s : State) : Nat :=
  if s.cad.band ≥ 2 && decide (4 * (103 + gradeUp) ≤ s.dieTemp) then 3
  else if s.cad.band ≥ 2 || s.chans.any (fun c => c.2.band == 3) then 1
  else 0

/-- Is a rate threshold met: 0 shed, 1 host, 2 DIMM (R384)? -/
def State.rateMet (s : State) (k : Nat) : Bool := (s.cad.rate.look k).any (·.met)

/-- PACE_MIN in use. -/
def State.paceMin (s : State) : Nat := clamp 10 100 (s.f Reg.CAD_PACE.PACE_MIN)

/-- Does a condition of entry to stage 3 hold (R388, R390)? -/
def State.stage3Holds (s : State) : Bool := s.cad.overCap || s.rateMet 1 || s.bandCall == 3

/-- PACE at entry to stage 3 (R390). -/
def State.paceStart (s : State) : Nat :=
  max s.paceMin (if s.bandCall = 3 then s.paceMin else if s.rateMet 1 then 50 else 75)

/-- Set PACE. -/
def State.setPace (s : State) (v : Nat) : State :=
  let s := s.setF Reg.CAD_PACE.PACE v
  if v < 100 then s.flag Reg.CAD_STATUS.PACED else s

/-- The stage after the entry conditions of a period, none rising (R388). -/
def State.stageCalled (s : State) : Nat :=
  let n := s.cad.overN
  let power := match s.cad.stage.val with
    | 0 => if 10 ≤ n then 1 else 0
    | 1 => if 100 ≤ n then 2 else 1
    | 2 => if 100 ≤ n then 3 else 2
    | k => k
  max power (max s.bandCall (if s.rateMet 1 then 3 else 0))

/-- Enter a stage. -/
def State.enterStage (s : State) (n : Fin 4) : State :=
  { s with cad := { s.cad with stage := n, overN := 0, underN := 0, releasing := false } }

/-- Consecutive periods over cap; a cap lowered while over cap starts the 10-period count of stage 0 again (R388, R393). -/
def State.noteOver (s : State) (fgDev fgDram : Nat) : State :=
  let on := s.fb Reg.CAD_CFG.CAP_EN
  let isOver := on && (decide (10 * s.devCap < fgDev) || (s.dramCap != 0 && decide (10 * s.dramCap < fgDram)))
  let lowered := s.cad.overCap && (decide (s.devCap < s.cad.caps.1) || (s.dramCap != 0 && (s.cad.caps.2 == 0 || decide (s.dramCap < s.cad.caps.2))))
  let n := if !isOver then 0 else if lowered && s.cad.stage.val == 0 then 1 else s.cad.overN + 1
  let s := { s with cad := { s.cad with overCap := isOver, overN := n, caps := (s.devCap, s.dramCap) } }
  if 10 ≤ n then s.flag Reg.CAD_STATUS.POWER_OVER else s

/-- Has foreground power stayed at least 4 W below every cap that is set (R389)? -/
def State.wellUnder (s : State) (fgDev fgDram : Nat) : Bool :=
  !s.fb Reg.CAD_CFG.CAP_EN || (decide (fgDev + 40 ≤ 10 * s.devCap) && (s.dramCap == 0 || decide (fgDram + 40 ≤ 10 * s.dramCap)))

/-- A stage falls by one after 10 ms of its release conditions; stage 3 once PACE has returned to 100 % (R389). -/
def State.fallStage (s : State) (under : Bool) : State :=
  let k := s.cad.stage.val
  let ok := under && !s.rateMet 1 && decide (s.bandCall < k)
  let n := if ok then s.cad.underN + 1 else 0
  let s := { s with cad := { s.cad with underN := n } }
  let down : Fin 4 := ⟨(k - 1) % 4, Nat.mod_lt _ (by decide)⟩
  if k = 0 then s
  else if k = 3 && decide (s.f Reg.CAD_PACE.PACE < 100) then
    if 100 ≤ n then { s with cad := { s.cad with releasing := true } } else s
  else if s.cad.releasing || decide (100 ≤ n) then s.enterStage down
  else s

/-- The host stage of a period: it rises to the highest stage called for, or falls (R388, R389, R393). -/
def State.stageStep (s : State) (fgDev fgDram : Nat) : State :=
  let s := s.noteOver fgDev fgDram
  let s := if s.fb Reg.CAD_CFG.PACE_EN then s else s.setF Reg.CAD_PACE.PACE 100
  let t := s.stageCalled
  if s.cad.stage.val < t then
    let pace := s.paceStart
    let s := s.enterStage ⟨t % 4, Nat.mod_lt _ (by decide)⟩
    if t = 3 && s.fb Reg.CAD_CFG.PACE_EN then s.setPace pace else s
  else s.fallStage (s.wellUnder fgDev fgDram)

/-- PACE_STEP (R390): each 1 ms in stage 3 PACE falls while an entry condition holds, and rises after a release. -/
def execPaceStep (s : State) : Host.Outcome State Fault Refusal :=
  if !s.mainRuns || !s.fb Reg.CAD_CFG.PACE_EN || s.cad.stage.val != 3 then .next s
  else
    let v := s.f Reg.CAD_PACE.PACE
    if s.stage3Holds then
      .next ({ s with cad := { s.cad with releasing := false } }.setPace (max s.paceMin (v - 25)))
    else if s.cad.releasing then .next (s.setPace (min 100 (v + 25)))
    else .next s

/-! ## The order of gated work (R379, R380) -/

/-- *Order of gated work*: the kinds by their rows, in the order of their ranks. -/
def orderOf : HeatState → List Nat
  | .cool => [0, 1, 2, 3, 4, 5, 6, 7, 8, 9, 10]
  | .warm => [0, 1, 2, 10, 6, 4, 9, 3, 5, 8]
  | .hot => [10, 6, 9, 4, 1]

/-- The order of a period: at AMBER or worse packing and deep encoding stand first (R379). -/
def State.workOrder (s : State) : List Nat :=
  let o := orderOf s.cad.heat
  if s.level = 0 then o else [6, 5] ++ o.filter fun k => k != 6 && k != 5

/-- The candidate queue of a kind. -/
def workOf : Nat → Option Work
  | 0 => some .toDirect
  | 1 => some .toOpen
  | 2 => some .fromDeep
  | 5 => some .deepEncoding
  | 6 => some .packing
  | 8 => some .reencode
  | 10 => some .gathering
  | _ => none

/-- Candidates of a kind, oldest first. -/
def State.candsOf (s : State) (w : Work) : List Nat := (s.drl.cands.filter fun c => c.1 == w).map (·.2)

/-- A candidate leaves its queue. -/
def State.dropCand (s : State) (w : Work) (x : Nat) : State :=
  { s with drl := { s.drl with cands := s.drl.cands.filter fun c => c != (w, x) } }

/-! ## The Trimmer's and the sweep's share (R285, R151, R380) -/

/-- LAP_TGT_H in use; 0 is taken as 1. -/
def State.trimLap (s : State) : Nat := max 1 (s.f Reg.TRM_CFG.LAP_TGT_H)

/-- LAP_TGT in use, seconds. -/
def State.sweepLap (s : State) : Nat := max 16 (s.f Reg.DRL_SWEEP.LAP_TGT)

/-- Items of the Trimmer that the pace of a lap asks for in one period: 4 KiB reads (R285). -/
def State.trimNeed (s : State) : Nat :=
  if !s.fb Reg.TRM_CFG.TRM_EN then 0 else ceilDiv (ceilDiv (s.positionsInUse.length * s.w) 8) (s.trimLap * 36000000)

/-- Items of the sweep that the pace of a lap asks for in one period: sectors of records (R151). -/
def State.sweepNeed (s : State) : Nat :=
  if s.extents ≤ s.drl.sweepExt then 0
  else ceilDiv (ceilDiv s.extents 4 + 128 * (s.xlt.ext.filter fun x => x.2.mode == .mapped).length) (s.sweepLap * 10000)

/-- Pay ahead for items of the Trimmer (3) or the sweep (4). -/
def State.payItems (s : State) (k n : Nat) : State :=
  let m := s.affordable k n
  if m = 0 then s
  else
    let c := tokenCost k
    { s with cad := { s.cad with
        dieLeft := s.cad.dieLeft - m * c.1, dramLeft := s.cad.dramLeft - m * c.2
        items := s.cad.items.set 0 k (s.cad.items.get 0 k + m) } }

/-- MIN_SHARE of the grants, taken before the order, for a kind that has work waiting (R380). -/
def State.minShare (s : State) (k need die dram : Nat) : State :=
  if need = 0 then s
  else
    let m := s.f Reg.CAD_CFG.MIN_SHARE
    s.payItems k (min (die * m / 64 / (tokenCost k).1) (dram * m / 64 / (tokenCost k).2))

/-- The least shares of the Trimmer and the sweep, in COOL and WARM. -/
def State.minShares (s : State) : State :=
  if s.cad.heat == .hot then s
  else
    let die := s.cad.dieLeft
    let dram := s.cad.dramLeft
    (s.minShare 3 s.trimNeed die dram).minShare 4 s.sweepNeed die dram

/-! ## Derailleur work (R153 to R172, "The decision loop") -/

/-- Does C0 traffic go to every channel that holds a list of lines (R244, R392)? -/
def State.c0Lines (s : State) (ls : List Nat) : Bool :=
  ls.all fun l => (s.lineAt l).all fun q => (s.slotChan q.slot).all fun c => (s.chan c).band != 3

/-- Domains that work on an extent's data needs: its XLT slice and the channels that hold it; PD_DEEP for DEEP work. -/
def State.workDomains (s : State) (e : Nat) (ls : List Nat) (deep : Bool) : List Nat :=
  let cs : List Chan := distinct (ls.flatMap fun l => (s.lineAt l).filterMap fun q => s.slotChan q.slot)
  ([48 + (Config.xltSlice e).val] ++ (if deep then [56] else []) ++ ((cs.filter fun c => (s.chan c).st == ChanState.ret).map fun (c : Chan) => 12 + c.val)).filter
    fun d => !s.domOn d && !(s.dom d).failed

/-- Cadence wakes domains, source 0x7 (R381). -/
def State.cadenceWake (s : State) (ds : List Nat) : State := ds.foldl (fun s d => s.latchWake d .cadence) s

/-- Start a candidate's page copy: it stays queued while a limit, the pools, a B3 channel or a sleeping domain holds it, and leaves the queue otherwise (R160, R377). -/
def State.tryPage (s : State) (k : Nat) (w : Work) (ck : CopyKind) (p : Nat) : State :=
  let share := if 2 ^ 40 ≤ p then some (p - 2 ^ 40) else if (s.effRec p).state == .shared then some (s.effRec p).loc else none
  let at_ := if 2 ^ 40 ≤ p then (s.sharer (p - 2 ^ 40)).getD 0 else p
  let ls := (List.range 64).map fun i => pageLine at_ + i
  let deep := (s.storageRec at_).state == .deep || ck == .encode
  if decide (256 ≤ s.drl.copies.length) || !s.partRoom (if ck == .park || ck == .unpark then 10 else 8) || !s.c0Lines ls then s
  else match s.workDomains (at_ / 512) ls deep with
    | [] => match s.payFor k with
      | none => s
      | some t => ((share.elim (t.startCopy ck p) (t.startShareCopy ck)).getD s).dropCand w p
    | ds => s.cadenceWake ds

/-- The work that a stored form needs of the re-encoder: to leave a codec kind of which one unit is held (R147), or a RETIRING dictionary (R144). -/
def State.reencodeWork (s : State) (r : PageRec) : Option CopyKind :=
  if s.lastHeld r then some .restore else if s.retiringForm r then some .reencode else none

/-- Does a page candidate still stand: its state, pins, enables and the level (R155, R156, R163, R172)? The copy it calls for. A page left alone for the lap stands for none (R161). -/
def State.pageWork (s : State) (k p : Nat) : Option CopyKind :=
  let r := s.pageRec p
  let deep := r.state == .deep && !r.raw
  let tier := s.fb Reg.DRL_CFG.TIER_EN
  let room := decide (s.level < 2)
  if 2 ^ 40 ≤ p then (if k = 8 then s.reencodeWork (s.shareRec (p - 2 ^ 40)).asPage else none)
  else if (s.extRec (p / 512)).mode != .mapped || s.drl.leave.contains p then none
  else match k with
    | 1 => if (r.state == .packed || r.raw) && r.pin != 2 && r.pin != 3 && (tier || r.raw || r.pin == 1) && room then some .toOpen else none
    | 2 => if deep && r.pin != 3 && (tier || r.pin == 1) && room then some .deepToPacked else none
    | 5 => if (r.state == .packed || r.state == .open) && r.pin != 1 && r.pin != 2 && (tier || r.pin == 3) then some .encode else none
    | 6 => if r.state == .open && r.pin != 1 && tier && s.mayPack then some .pack else none
    | 8 => s.reencodeWork r
    | 10 =>
      let x := s.storageRec p
      if !tier || !s.fb Reg.DRL_CFG.PARK_EN || !(x.state == .packed || x.state == .deep) then none
      else if s.pageParked p then some .unpark
      else if r.state != .shared && r.heat == 0 && r.pin != 1 then some .park else none
    | _ => none

/-- The order of the page candidates of a kind: raw-stored and promoted pages hottest first (R130), pages that a held unit decodes hottest first (R147) and then re-encodings by ascending DPA (R144), else as they came. -/
def State.candOrder (s : State) (k : Nat) (l : List Nat) : List Nat :=
  match k with
  | 1 => sortBy (fun p => 255 - (s.pageRec p).heat) l
  | 8 => sortBy (fun p => if p < 2 ^ 40 && s.lastHeld (s.pageRec p) then 255 - (s.pageRec p).heat else 256 + p) l
  | _ => l

/-- Does a page's move out of a park set still wait for the transition that its HEAT calls for (R170)? -/
def State.movesLater (s : State) (k p : Nat) : Bool :=
  k == 10 && s.pageParked p && (s.drl.cands.contains (.toOpen, p) || s.drl.cands.contains (.fromDeep, p) || s.drl.copies.any fun c => !c.share && c.page == p)

/-- The page candidates of a kind, in their order; promotions that need frames wait at RED and FLOOR (R155). -/
def State.runPages (s : State) (k : Nat) (w : Work) : State :=
  if (k == 1 || k == 2) && decide (2 ≤ s.level) then s
  else (s.candOrder k (s.candsOf w)).foldl (fun (s : State) p => match s.pageWork k p with
    | none => s.dropCand w p
    | some ck => if s.movesLater k p then s else s.tryPage k w ck p) s

/-- Charge the pages of extent copies of a kind as far as the pools go; a copy whose page cannot be met waits (R377). -/
def State.chargeExts (s : State) (k : Nat) (promote : Bool) : State :=
  (s.drl.extCopies.filter fun c => c.cmd.isNone && c.left != 0 && (c.kind == .promote) == promote).foldl (fun (s : State) c =>
    let m := s.affordable k c.left
    let s := s.spend k m
    { s with drl := { s.drl with extCopies := updWhere (fun x => x.ext == c.ext) (fun x => { x with left := x.left - m }) s.drl.extCopies } }) s

/-- Start an extent copy for a candidate, and charge what the pools hold. -/
def State.tryExt (s : State) (k : Nat) (w : Work) (x : ExtCopyKind) (e : Nat) : State :=
  let ls := (List.range 16).map fun i => extLine e + 8 * i
  if decide (16 ≤ s.drl.extCopies.length) || !s.partRoom 8 || s.cap.chans.any (fun c => (s.chan c).band == 3) || s.affordable k 1 == 0 then s
  else match s.workDomains e ls false with
    | [] => match s.startExtCopy x e none with
      | none => s.dropCand w e
      | some t => (t.dropCand w e).chargeExts k (x == .promote)
    | ds => s.cadenceWake ds

/-- Demotions of DIRECT extents in flight that no command asked for. -/
def State.demoting (s : State) : Nat := (s.drl.extCopies.filter fun c => c.cmd.isNone && c.kind == .demote).length

/-- The DIRECT extent with the lowest HEAT that is not pinned keep-direct (R157). -/
def State.coldestDirect (s : State) : Option (Nat × ExtRec) :=
  (s.xlt.ext.filter fun x => x.2.mode == .direct && x.2.pin != 1).foldl (fun (b : Option (Nat × ExtRec)) x =>
    match b with
    | none => some x
    | some y => if x.2.heat < y.2.heat then some x else some y) none

/-- A promotion candidate waits for the next epoch (R157). -/
def State.waitEpoch (s : State) (e : Nat) : State :=
  { s.dropCand .toDirect e with drl := { (s.dropCand .toDirect e).drl with waiting := s.drl.waiting ++ [e] } }

/-- A promotion candidate that finds no direct slot free: the swap rule (R157). A pinned one waits for a slot; `i` is its place among those that wait. -/
def State.trySwap (s : State) (i e : Nat) : State :=
  let r := s.extRec e
  if r.pin = 1 ∨ i < s.demoting then s
  else match s.coldestDirect with
    | some (v, x) =>
      if x.heat + 32 ≤ r.heat then (if s.affordable 0 1 = 0 || !s.partRoom 8 then s else ((s.startExtCopy .demote v none).getD s).chargeExts 0 false)
      else s.waitEpoch e
    | none => s.waitEpoch e

/-- Promotions to DIRECT, pinned extents ahead of heat candidates (R156, R157, R163); they take frames, so they wait at RED and FLOOR (R106, R108, R155). -/
def State.runDirect (s : State) : State :=
  let s := s.chargeExts 0 true
  if 2 ≤ s.level then s
  else
  let q := s.candsOf .toDirect
  let pinned (e : Nat) : Bool := (s.extRec e).pin == 1
  let q := q.filter pinned ++ q.filter fun e => !pinned e
  (List.range q.length).foldl (fun (s : State) i =>
    match q[i]? with
    | none => s
    | some e =>
      let r := s.extRec e
      if r.mode != .mapped || r.pin == 2 || !s.fb Reg.DRL_CFG.DIRECT_EN || !(s.fb Reg.DRL_CFG.TIER_EN || r.pin == 1) then s.dropCand .toDirect e
      else if s.freeSlot.isSome then s.tryExt 0 .toDirect .promote e
      else s.trySwap i e) s

/-- Packing, and the demotions of DIRECT extents, which pack their pages (R156, R377). -/
def State.runPacking (s : State) : State :=
  let s := s.chargeExts 6 false
  let s := (s.candsOf .demote).foldl (fun (s : State) e =>
    let r := s.extRec e
    if r.mode != .direct || r.pin == 1 || !s.fb Reg.DRL_CFG.TIER_EN then s.dropCand .demote e
    else s.tryExt 6 .demote .demote e) s
  s.runPages 6 .packing

/-! ## Compaction (R167, R168, R171) -/

/-- Move one page of a park set taken back, else one of the stripe with the most free frames. -/
def State.compactNext (s : State) : Option State :=
  let start (o : Bool × Nat) : Option State := (if o.1 then s.startShareCopy .compact o.2 else s.startCopy .compact o.2).map
    fun t => { t with drl := { t.drl with evict := t.drl.evict.filter (· != o) } }
  match s.drl.evict.findSome? start with
  | some t => some t
  | none => s.compactOne

/-- Compaction copies, started while there is room and, unless urgent, tokens (R168, R378). -/
def State.compactLoop : Nat → Bool → State → State
  | 0, _, s => s
  | n + 1, urgent, s =>
    if decide (256 ≤ s.drl.copies.length) || !s.partRoom 10 then s
    else match (if urgent then some s else s.payFor 9) with
      | none => s
      | some t => match t.compactNext with
        | none => s
        | some u => State.compactLoop n urgent u

/-- Does background compaction run (R168)? -/
def State.compactsNow (s : State) : Bool :=
  !s.drl.evict.isEmpty || (s.fb Reg.DRL_CFG.COMPACT_EN && s.stripesBelow s.compMarks.1)

/-- Does the warm region have fewer free stripes than LOW_PM requires, with nothing there that compaction could free (R171)? -/
def State.warmShort (s : State) : Bool :=
  let warm := s.warmPositions
  decide ((warm - (s.busyPositions.filter fun q => !s.inPark q).length) * 1000 < s.compMarks.1 * warm) &&
    !(s.drl.stripes.any fun t => t.written && !s.inPark t.pos && decide (0 < s.deadIn t.pos))

/-- The designated park set with the fewest live frames. -/
def State.leastPark (s : State) : Option Nat :=
  (sortBy s.liveFrames ((List.range 8).filter fun j => s.fbit Reg.DRL_PARK.DESIGNATED j)).head?

/-- A park set is taken back: SET_SHRUNK, a Pannier record, and its pages are moved out by compaction (R171). -/
def State.shrinkPark (s : State) : State :=
  if s.f Reg.DRL_PARK.DESIGNATED = 0 || !s.warmShort then s
  else match s.leastPark with
    | none => s
    | some j =>
      let runs : List (Nat × Run) := s.cap.runs.filter fun r => !r.2.kind.mirrored && s.w != 0 && s.rankSetOf (s.frameBase + r.1 / s.w) == j
      let s := (s.setBit Reg.DRL_PARK.DESIGNATED j false).flag Reg.DRL_STATUS.SET_SHRUNK
      let s := { s with drl := { s.drl with released := s.drl.released &&& ~~~ ((1 : BitVec 8) <<< j), evict := s.drl.evict ++ (runs.map fun (r : Nat × Run) => r.1).filterMap s.ownerOf } }
      s.pannier 3 0xFF 5 .setShrunk 1 0 0 0x24001C false

/-! ## The period (R374) -/

/-- Extent copies whose kind has no rank in HOT wait there and are abandoned after 1 s (R393). -/
def State.hotWaits (s : State) : State :=
  let hot := s.cad.heat == .hot
  let late := s.drl.extCopies.filter fun c => c.cmd.isNone && c.left != 0 && c.kind == .promote && hot && c.hotAt.any fun t => decide (t + 1000000000 ≤ s.now)
  let s := late.foldl (fun (s : State) c => s.abandonExt c) s
  { s with drl := { s.drl with extCopies := s.drl.extCopies.map fun c =>
      if hot && c.cmd.isNone && c.left != 0 && c.kind == .promote then { c with hotAt := some (c.hotAt.getD s.now) } else { c with hotAt := none } } }

/-- One kind takes what its candidates need (R379). -/
def State.runKind (s : State) (k : Nat) : State :=
  match k with
  | 0 => s.runDirect
  | 3 => s.payItems 3 (s.trimNeed - s.cad.items.get 0 3)
  | 4 => s.payItems 4 (s.sweepNeed - s.cad.items.get 0 4)
  | 6 => s.runPacking
  | 7 => if s.cdc.train.st == .sampling || s.cdc.train.st == .building then s.spend 7 (s.affordable 7 10) else s
  | 9 => if s.compactsNow then s.compactLoop 256 false else s
  | k => match workOf k with
    | none => s
    | some w => s.runPages k w

/-- The work of a period: urgent compaction ahead of all, the least shares, then the kinds in their order (R168, R379, R380). Without memory ready, or in the error state, there is none. -/
def State.runPeriod (s : State) : State :=
  if !s.fb Reg.XLT_STATUS.READY || s.cry.st == .error then s
  else
    let s := s.shrinkPark.hotWaits
    let s := if s.cdc.train.since + 2000000000 ≤ s.now then s.endSampling else s
    let s := if s.compFirst then s.compactLoop 256 true else s
    let s := s.minShares
    s.workOrder.foldl (fun s k => s.runKind k) s

/-- CADENCE_PERIOD (R374): grants, the host stage and the work of the next 100 µs. -/
def execCadencePeriod (est : PowerEst) (s : State) : Host.Outcome State Fault Refusal :=
  if !s.mainRuns then .next s
  else
    let fgDev := scaled s.cad.scaleDev est.fgDev
    let fgDram := scaled s.cad.scaleDram est.fgDram
    .next ((((s.grantPeriod est).stageStep fgDev fgDram).runPeriod).notify s)

/-! ## Sensing (R382 to R385) -/

/-- The band of a temperature in quarters of a degree over lower bounds: entered at its bound, left 2 °C below it (R245, R385). -/
def bandStep (bounds : List Int) (prev : Nat) (t : Int) : Nat :=
  (List.range bounds.length).foldl (fun b i =>
    let lo := (bounds[i]?).getD 0
    if lo ≤ t ∨ (i + 1 ≤ prev ∧ lo - 8 < t) then i + 1 else b) 0

/-- Lower bounds of D1 to D3 in quarters of a degree. -/
def dieBounds : List Int := [4 * (85 + gradeUp), 4 * (95 + gradeUp), 4 * (105 + gradeUp)]

/-- Comparison sensors of on-die sensor `i` (R383). -/
def comparison (i : Nat) : List Nat :=
  if 24 ≤ i then [24 + (i - 24 + 3) % 4, 24 + (i - 24 + 1) % 4]
  else if i % 8 = 0 then [i + 1, i + 2]
  else if i % 8 = 7 then [i - 1, i - 2]
  else [i - 1, i + 1]

/-- The neighbour that stands in for a failed sensor (R383). -/
def neighbour (i : Nat) : Nat := if 24 ≤ i then 24 + (i - 23) % 4 else i ^^^ 1

/-- An on-die reading, none where the sensor gives none or it lies outside −40 to 150 °C (R383). -/
def goodReading (r : Readings) (i : Nat) : Option Int := ((r.die[i]?).getD none).filter fun t => decide (-160 ≤ t) && decide (t ≤ 600)

/-- Was a sensor failed in the last round? -/
def State.sensorFailed (s : State) (i : Nat) : Bool := s.fbit Reg.SNS_FAIL.FAILED i

/-- Does a sensor differ by more than 20 °C from each comparison sensor that has not failed; with both failed it is not judged so (R383)? -/
def State.differs (s : State) (r : Readings) (i : Nat) : Bool :=
  match goodReading r i with
  | none => false
  | some t =>
    let cs := ((comparison i).filter fun j => !s.sensorFailed j).filterMap (goodReading r)
    !cs.isEmpty && cs.all fun u => decide (80 < t - u) || decide (80 < u - t)

/-- Consecutive rounds in which sensor `i` differs, this one included. -/
def State.differN (s : State) (r : Readings) (i : Nat) : Nat := if s.differs r i then s.cad.noRead.get 0 i + 1 else 0

/-- Is sensor `i` failed in this round (R383)? -/
def State.failsNow (s : State) (r : Readings) (i : Nat) : Bool := (goodReading r i).isNone || decide (3 ≤ s.differN r i)

/-- The on-die readings of a round with failed sensors replaced, none where every one has failed (R383). -/
def State.dieReadings (s : State) (r : Readings) : Option (List Int) :=
  let good (i : Nat) : Option Int := if s.failsNow r i then none else goodReading r i
  match ((List.range 28).filterMap good).max? with
  | none => none
  | some top => some ((List.range 28).map fun i => match good i with
      | some t => t
      | none => match good (neighbour i) with
        | some t => t + 20
        | none => top + 40)

/-- The first place of the greatest element. -/
def hottest (l : List Int) : Nat × Int :=
  (List.range l.length).foldl (fun b i => let t := (l[i]?).getD 0; if b.2 < t then (i, t) else b) (0, (l[0]?).getD 0)

/-- Is a DIMM fitted? -/
def State.dimmFitted (s : State) (n : Nat) : Bool :=
  (s.chan ⟨n / 2 % 16, Nat.mod_lt _ (by decide)⟩).pop.any fun p => if n % 2 = 0 then p.slot0 else p.slot1

/-- Key of sensor `k` of a DIMM among the rounds without a reading. -/
def dimmKey (n k : Nat) : Nat := 32 + 3 * n + k

/-- The three readings of a DIMM. -/
def dimmReads (r : Readings) (n : Nat) : List (Option Int) := match r.dimm[n]? with
  | some (a, b, c) => [a, b, c]
  | none => [none, none, none]

/-- Rounds without a reading of a DIMM's sensor; the SPD hub is always fitted, TS0 and TS1 where they have given a reading. -/
def State.dimmLost (s : State) (r : Readings) (n k : Nat) : Nat :=
  match (dimmReads r n)[k]? with
  | some (some _) => 0
  | _ => if k = 0 || s.cad.noRead.has (dimmKey n k) then max 1 (s.cad.noRead.get 0 (dimmKey n k)) else 0

/-- The temperature of a DIMM: its highest sensor, one lost for three rounds taken as a neighbour plus 5 °C; none when every sensor is lost for three rounds (R244, R262). -/
def State.dimmTemp (s : State) (r : Readings) (n : Nat) : Option Int :=
  let vs := (dimmReads r n).filterMap id
  match vs.max? with
  | some top => some (if (List.range 3).any fun k => decide (3 ≤ s.dimmLost r n k) then top + 20 else top)
  | none => if (List.range 3).any fun k => decide (1 ≤ s.dimmLost r n k) && decide (s.dimmLost r n k < 3) then some (s.cad.dimm.get 0 n) else none

/-- Note which sensors gave no reading, and SENSOR_LOST of a channel (R262, R383). -/
def State.noteSensors (s : State) (r : Readings) : State :=
  let fresh := (List.range 28).filter fun i => s.failsNow r i && !s.sensorFailed i
  let lostNow (n k : Nat) : Bool := s.dimmFitted n && s.dimmLost r n k == 3
  let lost := (List.range 32).flatMap fun n => ((List.range 3).filter (lostNow n)).map fun _ => n
  let t := (List.range 28).foldl (fun (t : Tbl Nat) i => t.set 0 i (s.differN r i)) s.cad.noRead
  let t := (List.range 32).foldl (fun (t : Tbl Nat) n =>
    if !s.dimmFitted n then t
    else (List.range 3).foldl (fun (t : Tbl Nat) k =>
      match (dimmReads r n)[k]? with
      | some (some _) => t.set 0 (dimmKey n k) 1
      | _ => if k = 0 || t.has (dimmKey n k) then t.set 0 (dimmKey n k) (max 1 (t.get 0 (dimmKey n k)) + 1) else t) t) t
  let bits := (List.range 28).foldl (fun b i => if s.failsNow r i then b + 2 ^ i else b) 0
  let s := { s with cad := { s.cad with noRead := t } }
  let s := s.setF Reg.SNS_FAIL.FAILED bits
  let s := lost.foldl (fun (s : State) n => s.flag (Reg.DRCn_ERR.SENSOR_LOST.nth (n / 2))) s
  if fresh.length + lost.length = 0 then s else s.count 15 21 (fresh.length + lost.length)

/-! ## Rates (R384) -/

/-- The change of entry `i` over the last `n` rounds, in quarters of a degree; none until the window holds its full span. -/
def State.rise (s : State) (n i : Nat) : Option Int :=
  match s.cad.history[0]?, s.cad.history[n]? with
  | some a, some b => match (a[i]?).getD none, (b[i]?).getD none with
    | some x, some y => some (x - y)
    | _, _ => none
  | _, _ => none

/-- A rate threshold after a round: met from the round in which it is reached until 100 consecutive rounds below half of it; `v` and `thr` in 1/40 °C/s. -/
def rateStep (m : RateMet) (v : Option Int) (thr : Int) : RateMet :=
  match v with
  | none => ⟨false, 0⟩
  | some v =>
    if thr ≤ v then ⟨true, 0⟩
    else if !m.met then ⟨false, 0⟩
    else if 2 * v < thr then (if 100 ≤ m.below + 1 then ⟨false, 0⟩ else ⟨true, m.below + 1⟩)
    else ⟨true, 0⟩

/-- The highest DIMM rate, in quarters of a degree over 100 rounds. -/
def State.dimmRise (s : State) : Option Int := ((List.range 32).filterMap fun n => s.rise 100 (n + 1)).max?

/-- A rate field in 0.1 °C/s: a rate that falls between two values takes either (LOG 1). -/
def State.rateField (s : State) (q : Int) : Nat :=
  let v := 10 * q / 4
  ((v + (if 10 * q % 4 = 0 then 0 else (Config.freeNat s.free % 2 : Int))) % 65536).toNat

/-- The rates of a round, their thresholds and SNS_RATE. -/
def State.senseRates (s : State) : State :=
  let thr (x : Fld) : Int := 4 * (max 1 (s.f x) : Int)
  let old (k : Nat) : RateMet := (s.cad.rate.look k).getD ⟨false, 0⟩
  let q (v : Option Int) (m : Int) : Option Int := v.map (· * m)
  let shed := rateStep (old 0) (q (s.rise 100 0) 10) (thr Reg.CAD_RATE.SHED_RATE)
  let host := rateStep (old 1) (q (s.rise 10 0) 100) (thr Reg.CAD_RATE.HOST_RATE)
  let dimm := rateStep (old 2) (q s.dimmRise 10) (thr Reg.CAD_RATE.DIMM_RATE)
  let f1 := s.rateField ((s.rise 100 0).getD 0)
  let s := s.takeFree
  let f2 := s.rateField (s.dimmRise.getD 0)
  let s := s.takeFree
  let s := (s.setF Reg.SNS_RATE.DIE_RATE f1).setF Reg.SNS_RATE.DIMM_RATE f2
  let s := { s with cad := { s.cad with rate := [(0, shed), (1, host), (2, dimm)] } }
  let s := if host.met then s.flag Reg.CAD_STATUS.RATE_HOST else s
  if shed.met || dimm.met then s.flag Reg.CAD_STATUS.RATE_SHED else s

/-! ## Bands (R242 to R247, R385, R387) -/

/-- All periodic retraining of a channel falls due (R242). -/
def State.retrainAll (s : State) (c : Chan) : State := ([0, 1, 2, 3, 4, 5, 6, 7] : List RankSet).foldl (fun s j => s.retrain c j) s

/-- The die's results: temperature, sensor and band; a band change retrains (R242, R383, R385). -/
def State.senseDie (s : State) (ts : Option (List Int)) : State :=
  match ts with
  | none =>
    let changed := s.cad.band != 2
    let s := { s with cad := { s.cad with band := 2 } }
    let s := (s.setF Reg.SNS_DIE.TEMP (4 * (95 + gradeUp) + 256).toNat).setF Reg.SNS_DIE.BAND 2
    if changed then s.cap.chans.foldl (fun s c => s.retrainAll c) s else s
  | some l =>
    let h := hottest l
    let b := bandStep dieBounds s.cad.band h.2
    let dieChange := b != s.cad.band
    let own (c : Chan) : Nat := bandStep dieBounds (s.cad.sensorBand.get 0 c.val) ((l[c.val]?).getD 0)
    let due := s.cap.chans.filter fun c => dieChange || own c != s.cad.sensorBand.get 0 c.val
    let bands := chans16.foldl (fun (t : Tbl Nat) c => t.set 0 c.val (own c)) s.cad.sensorBand
    let die := (List.range 28).foldl (fun (t : Tbl Int) i => t.set 0 i ((l[i]?).getD 0)) s.cad.die
    let s := { s with cad := { s.cad with band := b, sensorBand := bands, die := die } }
    let s := ((s.setF Reg.SNS_DIE.TEMP (h.2 + 256).toNat).setF Reg.SNS_DIE.SENSOR h.1).setF Reg.SNS_DIE.BAND b
    due.foldl (fun s c => s.retrainAll c) s

/-- The fitted DIMMs of a channel. -/
def State.dimmsOf (s : State) (c : Chan) : List Nat := [2 * c.val, 2 * c.val + 1].filter s.dimmFitted

/-- Lower bounds of B1 to B3 in quarters of a degree (R244). -/
def dimmBounds : List Int := [280, 340, 380]

/-- The band of a channel's hottest DIMM: early entry from 2 °C below at 0.5 °C/s, B2 at least for a DIMM with no sensor (R245, R262). -/
def State.channelBand (s : State) (c : Chan) (temp : Nat → Option Int) : Nat :=
  let one (n : Nat) : Nat :=
    match temp n with
    | none => 2
    | some t =>
      let fast := (s.rise 100 (n + 1)).any fun v => decide (2 ≤ v)
      bandStep dimmBounds (if fast then 3 else (s.chan c).band) t |>.max (bandStep dimmBounds (s.chan c).band t)
  ((s.dimmsOf c).map one).foldl max 0

/-- Entry to B3 (R244): THERM_CRIT, a Failure event record on every head and a Pannier record. -/
def State.enterB3 (s : State) (c : Chan) : State :=
  let s := s.flag (Reg.DRCn_ERR.THERM_CRIT.nth c.val)
  let s := s.event s.heads .failure .channelB3 c.val
  s.pannier (12 + c.val) 0xFF 6 .channelB3 2 0 0 (0x400014 + 0x20000 * c.val) true

/-- A channel's results (R242 to R247, R281). -/
def State.senseChan (s : State) (c : Chan) (temp : Nat → Option Int) : State :=
  match s.dimmsOf c with
  | [] => s
  | ds =>
    let x := s.chan c
    let b := s.channelBand c temp
    let t := ((ds.filterMap temp).max?).getD x.temp
    let known := ds.all fun n => (temp n).isSome
    let s := s.updChan c fun y => { y with
      band := b, ref2x := decide (2 ≤ b), temp := t
      b3Since := if b = 3 then some (x.b3Since.getD s.now) else none
      coolSince := if known && decide (t < 340) then some (x.coolSince.getD s.now) else none }
    let s := if b = x.band then s else s.retrainAll c
    let s := if b = 3 ∧ x.band ≠ 3 then s.enterB3 c else s
    if decide (t ≤ 420) || !s.chanRuns c then s
    else if s.lean then (if x.temp ≤ 420 then s.event s.heads .fatal .channelB3 c.val else s)
    else s.failChan c .band

/-- The DIMM results: each channel, and the hottest DIMM in SNS_DIMM. -/
def State.senseDimms (s : State) (temp : Nat → Option Int) : State :=
  let s := chans16.foldl (fun (s : State) c => s.senseChan c temp) s
  let ts : List (Nat × Int) := ((List.range 32).filter s.dimmFitted).filterMap fun n => (temp n).map fun t => (n, t)
  let s := { s with cad := { s.cad with dimm := ts.foldl (fun (t : Tbl Int) (q : Nat × Int) => t.set 0 q.1 q.2) s.cad.dimm } }
  let top := ts.foldl (fun (b : Option (Nat × Int)) q => match b with
    | none => some q
    | some y => if y.2 < q.2 then some q else some y) none
  let s := s.setF Reg.SNS_DIMM.BAND ((s.chans.map fun (c : Nat × Channel) => c.2.band).foldl max 0)
  match top with
  | none => s
  | some (n, t) => (s.setF Reg.SNS_DIMM.DIMM n).setF Reg.SNS_DIMM.TEMP (t + 256).toNat

/-- The heat state (R387). -/
def State.heatNow (s : State) : HeatState :=
  let b := (s.chans.map fun (c : Nat × Channel) => c.2.band).foldl max 0
  if s.cad.band ≥ 2 || b == 3 || s.rateMet 0 || s.rateMet 2 then .hot
  else if s.cad.band == 1 || b == 2 then .warm
  else .cool

/-! ## Power, PMICs, rails and straps (R261, R375, R382, R434) -/

/-- A measured over an estimated figure, bounded to 0.80 to 1.25; with nothing estimated the old scale stays. -/
def boundScale (old : Nat × Nat) (meas est : Nat) : Nat × Nat :=
  if est = 0 then old
  else if 100 * meas < 80 * est then (80, 100)
  else if 125 * est < 100 * meas then (125, 100)
  else (meas, est)

/-- The scales of a round, from measured DRAM power, input power and SLED_OTHER_W; without a measurement the old scale stays (R375). Estimates are means over the round, so both sides are taken times the number of periods. -/
def State.senseScale (s : State) (r : Readings) : State :=
  let n := s.cad.estN
  let dram := match r.dramDw with
    | some d => boundScale s.cad.scaleDram (d * n) s.cad.estDram
    | none => s.cad.scaleDram
  let dev := match r.dramDw, r.iin with
    | some d, some i => boundScale s.cad.scaleDev (((i.toNat * r.vinMv.toNat) / 1000 - d - 10 * s.f Reg.CAD_CAP.SLED_OTHER_W) * n) s.cad.estDev
    | _, _ => s.cad.scaleDev
  { s with cad := { s.cad with scaleDev := dev, scaleDram := dram, estDev := 0, estDram := 0, estN := 0 } }

/-- PMIC faults (R261, R469): a Warning event record, a Pannier record and PMIC_FAULT; a PMIC that has shut its rails down fails its channel. -/
def State.sensePmics (s : State) (r : Readings) : State :=
  let s := r.pmic.foldl (fun (s : State) q =>
    let c : Chan := ⟨q.1.val / 2 % 16, Nat.mod_lt _ (by decide)⟩
    let s := (s.flag (Reg.DRCn_ERR.PMIC_FAULT.nth c.val)).event [s.owner] .warning .pmicFault c.val
    let s := s.pannier (12 + c.val) 0xFF 6 .pmicFault 2 0 0 (0x40001C + 0x20000 * c.val) true
    if q.2 && (s.chanRuns c) then s.failChan c .pmic else s) s
  let down (c : Nat) : Bool := r.pmic.any fun q => q.2 && q.1.val / 2 == c
  { s with chans := s.chans.mapVals fun i x => { x with pmicDown := down i } }

/-- Rails outside their window: a Warning event record and a Pannier record, once per rail per minute (R382). -/
def State.senseRails (s : State) (r : Readings) : State :=
  r.rails.foldl (fun (s : State) x =>
    if (s.cad.railAt.look (railNo x)).any fun t => decide (s.now < t + 60000000000) then s
    else
      let s := { s with cad := { s.cad with railAt := s.cad.railAt.put (railNo x) s.now } }
      (s.event [s.owner] .warning .railWindow (railNo x)).pannier 2 0xFF 0xB .railWindow 1 0 0 0x720000 true) s

/-- The strap balls: an Info Pannier record once for a change away from the latched values (R434). -/
def State.senseStraps (s : State) (b : Straps) : State :=
  let s' := { s with aon := { s.aon with balls := b } }
  if s.aon.straps.any (· != b) && b != s.aon.balls then s'.pannier 0 0 0 .strapChange 0 0 0 0xC false else s'

/-- The hot-swap readings (R412); a missing current keeps the last. -/
def State.senseHsw (s : State) (r : Readings) : State :=
  let s := match r.iin with
    | some i => s.setF Reg.HSW_MEAS.IIN_DA i.toNat
    | none => s
  ((s.setF Reg.HSW_MEAS.VIN_MV r.vinMv.toNat).setF Reg.HSW_VOUT.VOUT_MV r.voutMv.toNat).setF Reg.HSW_VOUT.COOL_MV r.coolMv.toNat

/-- The thermal hold clears once every sensor reads 20 °C below the D3 bound (R386, R409). -/
def State.coolHold (s : State) (r : Readings) : State :=
  let ts := r.die.filterMap id
  if s.hsw.thermHeld && !ts.isEmpty && ts.all fun t => decide (t ≤ 4 * (85 + gradeUp)) then
    { s with hsw := { s.hsw with thermHeld := false }, aon := { s.aon with thermtrip := false } }
  else s

/-- A round's readings published together (R382 to R387). -/
def State.sensePublish (s : State) (r : Readings) : State :=
  let ts := s.dieReadings r
  let temps := (List.range 32).map fun n => if s.dimmFitted n then s.dimmTemp r n else none
  let temp (n : Nat) : Option Int := (temps[n]?).getD none
  let s := s.noteSensors r
  let die := match ts with
    | some l => (hottest l).2
    | none => 4 * (95 + gradeUp)
  let s := { s with cad := { s.cad with history := ((some die :: temps) :: s.cad.history).take 101 } }
  let s := ((s.senseDie ts).senseRates).senseDimms temp
  let s := { s with cad := { s.cad with heat := s.heatNow } }
  (((s.senseScale r).sensePmics r).senseRails r).senseStraps r.straps

/-- SENSE_ROUND (R382): with PD_SNS ON the readings are taken and published; while SNS_SENT is 1 the domain then sleeps until the next round (R360). With the main rails off only the hot-swap readings and the thermal hold are left. -/
def execSenseRound (r : Readings) (s : State) : Host.Outcome State Fault Refusal :=
  if !s.aon.kick then .next s
  else if !s.mainRuns then .next ((s.senseHsw r).coolHold r)
  else if !s.domOn 2 then .next s
  else
    let t := ((s.senseHsw r).sensePublish r).notify s
    .next (if t.fb Reg.PWR_POLICY.SNS_SENT then t.updDom 2 fun x => { x with st := .ret } else t)

/-- THERMTRIP (R386, R410): a crossing into D3 asserts THERMTRIP_n, writes a pinned Pannier record and turns the gate off; in the off time THERM is recorded and the hold is added. -/
def execThermtrip (temp : Int) (m : TripMeas) (s : State) : Host.Outcome State Fault Refusal :=
  if !s.aon.kick || s.aon.holding || decide (temp < 4 * (105 + gradeUp)) then .next s
  else
    let s := { s with aon := { s.aon with thermtrip := true } }
    if s.hsw.gate == .ramp || s.hsw.gate == .on then .next (s.gateOff 6 m)
    else
      let s := ((s.gateRecord 6 m).tripLog 6 m).setF Reg.HSW_STATUS.LAST_CAUSE 6
      .next { s with hsw := { s.hsw with thermHeld := true } }

end Sys2Proof.Machine
end

