-- ==== Sys2Proof/Machine/Regs.lean ====
section
/-! DEFINITION. General access to BAR0: what a read returns, which writes are accepted, and the registers whose writes have rules of their own (R4 to R11, R57, R413 to R421, R427, R430, R444 to R454). -/

namespace Sys2Proof.Machine

/-! ## Counters (R413 to R421) -/

/-- The present value of a gauge (R413, R415): pool lines of a near-cache slice, directory entries of a slice, OPEN pages. -/
def State.gauge (s : State) (g i : Nat) : Option Nat :=
  if g = 3 ∧ i < 64 ∧ i % 4 = 3 then some (s.nc.lines.filter fun p => p.2.pool.isSome && (slice p.1).val == i / 4).length
  else if g = 4 ∧ i < 32 ∧ i % 8 = 7 then some (s.dir.entries.filter fun e => dirSlice e.1 == i / 8).length
  else if g = 6 ∧ i = 10 then some s.openUsed
  else none

/-- The 64 bits of an always-running counter as BAR2 and snapshots give them (R418). -/
def State.alwaysWord (s : State) (g i : Nat) : BitVec 64 :=
  match s.gauge g i with
  | some v => BitVec.ofNat 64 v
  | none => let c := s.pmu.always.get Counter.zero (pmuKey g i); BitVec.ofNat 64 (c.val.toNat + c.ovf.toNat * 2 ^ 63)

/-- The 64 bits of general counter `j`. -/
def State.generalWord (s : State) (j : Nat) : BitVec 64 :=
  let c := s.pmu.general.get Counter.zero j
  BitVec.ofNat 64 (c.val.toNat + c.ovf.toNat * 2 ^ 63)

/-- Groups that hold an OVF bit, general counters included (R421). -/
def State.ovfGroups (s : State) : Nat :=
  ((List.range 16).map fun g =>
    if s.pmu.always.any (fun c => c.2.ovf && c.1 / 128 == g) || s.pmu.general.any (fun c => c.2.ovf && c.1 / 4 == g) then 2 ^ g else 0).sum

/-- Clear an OVF bit; the counter keeps its value. -/
def Counter.unflag (c : Counter) : Counter := { c with ovf := false }

/-- A table of counters with one OVF bit cleared. -/
def ovfDrop (t : Tbl Counter) (k : Nat) : Tbl Counter := t.set Counter.zero k (t.get Counter.zero k).unflag

/-- A table of counters with every OVF bit cleared. -/
def ovfDropAll (t : Tbl Counter) : Tbl Counter :=
  t.filterMap fun p => if p.2.unflag = Counter.zero then none else some (p.1, p.2.unflag)

/-- A word written to PMU_OVF_CLR (R421). -/
def State.ovfClearWord (s : State) (v : Word) : State :=
  let g := (v >>> 12 &&& 0xF).toNat
  let i := (v &&& 0x7F).toNat
  if v.getLsbD 31 then { s with pmu := { s.pmu with always := ovfDropAll s.pmu.always, general := ovfDropAll s.pmu.general } }
  else if i < 72 then { s with pmu := { s.pmu with always := ovfDrop s.pmu.always (pmuKey g i) } }
  else if i < 76 then { s with pmu := { s.pmu with general := ovfDrop s.pmu.general (4 * g + (i - 72)) } }
  else s

/-- A word written to PMU_GSELg: CLR zeroes the counter, then the other fields take effect (R417). -/
def State.gselWord (s : State) (g : Nat) (v : Word) : State :=
  let s := if v.getLsbD 30 then { s with pmu := { s.pmu with general := s.pmu.general.set Counter.zero g Counter.zero } } else s
  s.setWord (0x740100 + 4 * g) (v &&& 0xB03FF07F)

/-! ## Words that report state -/

/-- The word of DRCn_POP. -/
def State.popWord (s : State) (c : Chan) : Word :=
  let x := s.chan c
  match x.pop with
  | none => 0
  | some p =>
    let any := p.slot0 || p.slot1
    let kind := if any then (match p.kind with | .rdimm => 1 | .rdimm3ds => 2 | .mrdimm => 3) else 0
    BitVec.ofNat 32 (x.rate % 16 * 2 ^ 28 + kind * 2 ^ 26 + p.slot1.toNat * 2 ^ 25 + p.slot0.toNat * 2 ^ 24 +
      (if any then p.ranks.val * 2 ^ 22 + p.stack.val * 2 ^ 20 + p.density.val * 2 ^ 18 else 0) + x.matched.toNat * 2 ^ 17)

/-- State of a dictionary slot as DEEP_DICT_STATE shows it. -/
def DictState.code : DictState → Nat
  | .free => 0
  | .active => 1
  | .retiring => 2

/-- State of a key slot as CRY_SLOT_INFO shows it. -/
def KeyState.code : KeyState → Nat
  | .empty => 0
  | .active => 1
  | .retiring => 2

/-- Through which head a source reads: its own, the sideband the owner's (R446, R448). -/
def State.viewHead (s : State) : Via → Head
  | .head h => h
  | .sideband => s.owner

/-- The key of a source among latches and read contexts: a head's number, 8 for the sideband. -/
def viaKey : Via → Nat
  | .head h => h.val
  | .sideband => 8

/-- The read context of a source (R430). -/
def State.readCtx (s : State) (w : Via) : ReadCtx := s.pan.ctx.get ReadCtx.reset (viaKey w)

/-- Change the read context of a source. -/
def State.setCtx (s : State) (w : Via) (c : ReadCtx) : State := { s with pan := { s.pan with ctx := s.pan.ctx.set ReadCtx.reset (viaKey w) c } }

/-- BAR0 offset `off` lies in a CXL-defined range of the head (R445). -/
def cxlReg (off : Nat) : Bool := (decide (0x10000 ≤ off) && decide (off < 0x20000)) || (decide (0x30000 ≤ off) && decide (off < 0x32000))

/-- The engine of a PRTn offset. -/
def prtReg (off : Nat) : Option Head := if 0x100000 ≤ off ∧ off < 0x180000 then some ⟨(off - 0x100000) / 0x10000 % 8, Nat.mod_lt _ (by decide)⟩ else none

/-- The channel of a DRCn offset. -/
def drcReg (off : Nat) : Chan := ⟨(off - 0x400000) / 0x20000 % 16, Nat.mod_lt _ (by decide)⟩

/-- The number of a dictionary register: 16 bytes each from 0x230100. -/
def dictReg (off : Nat) : Nat := (off - 0x230100) / 16

/-- The current word of an engine's register. -/
def State.prtWord (s : State) (p : Head) (off : Nat) : Word :=
  let r := off % 0x10000
  if r = 4 then s.linkStatus p
  else if p ∉ s.heads then 0
  else if r = 0xC then BitVec.ofNat 32 ((s.rwdHeld p).toNat * 2 ^ 20 + min 1023 (s.port p).reqHost * 2 ^ 10 + min 1023 (s.port p).rwdHost)
  else if r = 0x890 then
    (s.word off &&& 0x1FF) ||| BitVec.ofNat 32 ((s.dir.checks.any fun c => c.1 == p).toNat * 2 ^ 10 + (s.dir.removals.any fun c => c.1 == p).toNat * 2 ^ 9)
  else s.word off

/-- The present word of the register at `off` as a source sees it: fields that report state are computed from it; WO fields read zero (R9). A head that has no read context reads zero in BBX_RD_CTL, for R430 gives one to the owner head and the sideband alone and no rule says what another head reads there (DESIGN CHOICE, LOG 57). -/
def State.view (s : State) (w : Via) (off : Nat) : Word :=
  if cxlReg off then (s.port (s.viewHead w)).cxlRegs.get 0 off
  else match regAt off with
  | none => 0
  | some r =>
    let d := s.statusWord off &&& ~~~ r.wo
    match prtReg off with
    | some p => s.prtWord p off &&& ~~~ r.wo
    | none =>
      match off with
      | 0x20044 => withF d Reg.FAB_DLD_DLY.CFG_BAD s.cfgBad.toNat
      | 0x220008 => BitVec.ofNat 32 s.xlt.touched.length
      | 0x220090 => BitVec.ofNat 32 s.poolCount
      | 0x220094 => BitVec.ofNat 32 (bitsOf (heads8.map fun h => decide (h ∈ s.heads) && !(s.elasticOf h).isEmpty) * 256 + bitsOf (heads8.map fun h => (s.port h).accepted))
      | 0x230048 => BitVec.ofNat 32 ((List.range 15).map fun i => (s.dict (i + 1)).state.code * 4 ^ (i + 1)).sum
      | 0x240014 => withF d Reg.DRL_PARK.PARKED (bitsOf ((List.range 8).map s.parked))
      | 0x25000C => BitVec.ofNat 32 s.trm.lost.length
      | 0x610014 => let k := s.f Reg.CRY_SLOT_SEL.SLOT; let x := s.keySlot k; BitVec.ofNat 32 (x.st.code * 2 ^ 30 + x.imported.toNat * 2 ^ 29 + s.slotExtents k)
      | 0x610018 => let k := s.f Reg.CRY_SLOT_SEL.SLOT; BitVec.ofNat 32 (s.slotDicts k * 256 + s.slotRegions k)
      | 0x610020 => s.cryFw
      | 0x740004 => BitVec.ofNat 32 s.ovfGroups
      | 0x750004 => BitVec.ofNat 32 s.pan.next
      | 0x750008 => BitVec.ofNat 32 s.pan.seq.toNat
      | 0x75000C => BitVec.ofNat 32 (s.pan.seq.toNat / 2 ^ 32)
      | 0x750010 => s.pan.epoch
      | 0x750014 => BitVec.ofNat 32 s.pan.nextPin
      | 0x750018 =>
        if s.isOwner w then
          let c := s.readCtx w
          BitVec.ofNat 32 (c.pinned.toNat * 2 ^ 31 + c.done.toNat * 2 ^ 30 + c.result.toNat * 2 ^ 28 + c.slot.toNat)
        else 0
      | 0x75001C => if s.isOwner w then let c := s.readCtx w; BitVec.ofNat 32 (ofLe ((c.buf.drop (4 * c.ptr)).take 4)) else 0
      | 0x0 => 0x1600B1
      | 0x10 => let h := s.viewHead w; BitVec.ofNat 32 ((w == .sideband).toNat * 16 + (s.isOwner w).toNat * 8 + h.val)
      | 0x810000 => BitVec.ofNat 32 s.tb.toNat
      | 0x810004 => BitVec.ofNat 32 (s.tb.toNat / 2 ^ 32)
      | _ =>
        if 0x230110 ≤ off ∧ off < 0x230200 then
          let x := s.dict (dictReg off)
          match off % 16 with
          | 0 => if x.state == .free then 0 else BitVec.ofNat 32 (x.key * 65536 + x.size)
          | 4 => BitVec.ofNat 32 x.refs
          | 8 => BitVec.ofNat 32 (x.refs / 2 ^ 32)
          | _ => 0
        else if 0x400000 ≤ off ∧ off < 0x600000 then
          match off % 0x20000 with
          | 0x10 => s.popWord (drcReg off)
          | _ => d
        else d

/-! ## Reads (R5, R6, R446) -/

/-- Is `off` the low half of a paired register: DEEP_DICTn_REFS, BBX_SEQ, TB_NOW? -/
def pairedLow (off : Nat) : Bool := off == 0x750008 || off == 0x810000 || (decide (0x230110 ≤ off) && decide (off < 0x230200) && off % 16 == 4)

/-- Is `off` the high half of a paired register? -/
def pairedHigh (off : Nat) : Bool := decide (4 ≤ off) && pairedLow (off - 4)

/-- The key of a latched high half. -/
def latchKey (w : Via) (off : Nat) : Nat := viaKey w * 2 ^ 24 + off

/-- Do the registers at `off` answer a source: through a head while the main domains run; PD_AON blocks over the sideband whenever Kickstand runs (R430, R441, R448)? -/
def State.regAnswers (s : State) (w : Via) (off : Nat) : Bool :=
  match w with
  | .head h => s.regsUp && decide (h ∈ s.heads)
  | .sideband => if aonReg off || off == 0 then s.sbUp else s.regsUp

/-- An aligned 32-bit read: a paired low half latches the high half for its source, a high half returns the latch, and BBX_RD_DATA advances its pointer (R5, R430, R446). -/
def State.readWord (s : State) (w : Via) (off : Nat) : Word × State :=
  if !s.regAnswers w off then (0, s)
  else if pairedLow off then (s.view w off, { s with latches := s.latches.set 0 (latchKey w off) (s.view w (off + 4)) })
  else if pairedHigh off then (s.latches.get 0 (latchKey w (off - 4)), s)
  else if off = 0x75001C then
    (s.view w off, if s.isOwner w then s.setCtx w { s.readCtx w with ptr := (s.readCtx w).ptr + 1 } else s)
  else (s.view w off, s)

/-- The 8 bytes of a counter window at a multiple of 8: a counter, where head `h` may read its group, else zero (R418, R419). -/
def State.counterWord (s : State) (h : Head) (off : Nat) : BitVec 64 :=
  let g := off / 65536 % 16
  let k := off % 65536
  if 0x100000 ≤ off then 0
  else if !(s.fbit Reg.PMU_CTL.USER_EN h.val && s.fbit (Reg.PMU_USER_MASKh.GRP_MASK.nth h.val) g) then 0
  else if k < 0x240 then s.alwaysWord g (k / 8)
  else if 0x400 ≤ k ∧ k < 0x420 then s.generalWord (4 * g + (k - 0x400) / 8)
  else 0

/-- The present word at an offset of BAR2. -/
def State.view2 (s : State) (h : Head) (off : Nat) : Word :=
  let v := s.counterWord h (off / 8 * 8)
  if off % 8 = 0 then v.setWidth 32 else (v >>> 32).setWidth 32

/-- The present word at an offset of BAR4: the MSI-X table, 16 bytes a vector with its mask in bit 0 of the last word, and the pending bits (R350; the layout is PCIe's, PRESUMED, LOG 57). -/
def State.view4 (s : State) (h : Head) (off : Nat) : Word :=
  let p := s.port h
  if off < 0x800 then (if off % 16 = 12 then BitVec.ofNat 32 (p.msixMask.getLsbD (off / 16)).toNat else p.msixWords.get 0 off)
  else if 0x1000 ≤ off ∧ off < 0x1010 then (p.msixPend >>> (8 * (off - 0x1000))).setWidth 32
  else 0

/-- The key under which a low half of BAR2 latches its high half. -/
def latchKey2 (h : Head) (off : Nat) : Nat := 2 ^ 28 + latchKey (.head h) off

/-- An aligned 32-bit read of BAR2: a low half latches its high half for the head, a high half returns the latch (R5, R418). -/
def State.readWord2 (s : State) (h : Head) (off : Nat) : Word × State :=
  if off % 8 = 0 then (s.view2 h off, { s with latches := s.latches.set 0 (latchKey2 h off) (s.view2 h (off + 4)) })
  else (s.latches.get 0 (latchKey2 h (off - 4)), s)

/-- An aligned 32-bit read of a BAR. Only BAR0 answers the sideband (R448). -/
def State.readBar (s : State) (w : Via) (bar : Bar) (off : Nat) : Word × State :=
  match bar, w with
  | .b0, _ => s.readWord w off
  | .b2, .head h => s.readWord2 h off
  | .b4, .head h => (s.view4 h off, s)
  | _, .sideband => (0, s)

/-- What a narrower access sees of a word: it clears and latches nothing (R6). In a high half it sees the present bytes, for R5 speaks of a read of the high half and R6 of the addressed bytes (DESIGN CHOICE, LOG 57). -/
def State.peekBar (s : State) (w : Via) (bar : Bar) (off : Nat) : Word :=
  match bar, w with
  | .b0, _ => s.view w off
  | .b2, .head h => s.view2 h off
  | .b4, .head h => s.view4 h off
  | _, .sideband => 0

/-- The registers that an access of `n` bytes at `off` touches, and whether each is covered whole (R6). -/
def pieces (off n : Nat) : List (Nat × Bool) :=
  (List.range ((off + n + 3) / 4 - off / 4)).map fun i =>
    let r := (off / 4 + i) * 4
    (r, decide (off ≤ r) && decide (r + 4 ≤ off + n))

/-- The `n` bytes read from `off` in a BAR: the pieces in ascending order, whole registers read and narrower pieces only looked at (R6). -/
def State.readBytes (s : State) (w : Via) (bar : Bar) (off n : Nat) : List Byte × State :=
  let (bs, s) := (pieces off n).foldl (fun (a : List Byte × State) p =>
    let (v, t) := if p.2 then a.2.readBar w bar p.1 else (a.2.peekBar w bar p.1, a.2)
    (a.1 ++ leBytes 4 v.toNat, t)) ([], s)
  ((bs.drop (off % 4)).take n, s)

/-! ## Writes (R9 to R11, R447, R450, R451) -/

/-- A write under the access codes: RWL fields only with the lock open, and a try under the lock sets LOCK_DROP (R9, R10). A write under the lock of a register with RWL and other fields counts as a discarded one for its RWL fields, whatever it is meant for, since the write carries them all (DESIGN CHOICE, LOG 57). -/
def State.putCodes (s : State) (off : Nat) (r : RegInfo) (v : Word) (lock : Bool) : State :=
  let set := r.rw ||| (if lock then r.rws &&& ~~~ r.rwl else r.rws ||| r.rwl)
  let o := s.word off
  let s := s.setWord off (((o &&& ~~~ set) ||| (v &&& set)) &&& ~~~ (v &&& r.w1c))
  if lock && r.rwl != 0 then s.lockDrop else s

/-- Domains whose units copy setup registers of the block at `off` (R372); the spec names no list (DEDUCED from the BAR0 map, LOG 14). -/
def copyDomains (off : Nat) : List Nat :=
  if 0x100000 ≤ off ∧ off < 0x180000 then [4 + (off - 0x100000) / 0x10000]
  else if 0x210000 ≤ off ∧ off < 0x220000 then [44, 45, 46, 47]
  else if 0x220000 ≤ off ∧ off < 0x230000 then [48, 49, 50, 51]
  else if 0x230000 ≤ off ∧ off < 0x240000 then [52, 53, 54, 55, 56]
  else if 0x400000 ≤ off ∧ off < 0x600000 then [12 + (off - 0x400000) / 0x20000]
  else []

/-- Domains that are not ON hold a stale configuration (R372). -/
def State.staleDomains (s : State) (ds : List Nat) : State :=
  ds.foldl (fun s d => if s.domOn d then s else s.updDom d fun x => { x with stale := true }) s

/-- Does PWR_POLICY still allow the state a domain stands in or goes to? PD_DIRn may be OFF at every value (R358, R359). -/
def State.stateAllowed (s : State) (d : Nat) : Bool :=
  let v := s.policy (domKind d)
  let ret := decide (1 ≤ v)
  let off := match domKind d with
    | .mgt | .cdc | .deep => v == 3
    | _ => true
  match (s.dom d).st with
  | .ret => ret || domKind d == .sns
  | .off => off
  | .stopping o => if o then off else ret
  | .entering o => if o then off else ret
  | _ => true

/-- A write of PWR_POLICY: a domain below its new limit takes wake source 0x8 (R368). -/
def State.policyWritten (s : State) : State :=
  let s := (List.range 58).foldl (fun (s : State) d => if s.stateAllowed d then s else s.latchWake d .policyWrite) s
  if s.fb Reg.PWR_POLICY.SNS_SENT then s else s.latchWake 2 .policyWrite

/-- The division of a word for RTK_INT_PART keeps the sum and the minima (R57). -/
def partOk (v : Word) : Bool :=
  let f (lo : Nat) := (v >>> lo &&& 0x7F).toNat
  f 21 + f 14 + f 7 + f 0 == 64 && decide (1 ≤ f 21) && decide (2 ≤ f 14) && decide (2 ≤ f 7) && decide (8 ≤ f 0)

/-- The rings whose owner a word for CMD_OWNk changes. -/
def State.ownChanged (s : State) (k : Nat) (v : Word) : List Ring :=
  (rings64.filter fun r => r.val / 8 == k).filter fun r =>
    (v >>> (3 * (r.val % 8)) &&& 7) != (s.word (0x800010 + 4 * k) >>> (3 * (r.val % 8)) &&& 7)

/-- A write of an RWL or RWS register whose source may write it, with its register's own rules. `lock` is the lock as the write is judged; the answer says whether the register's own rules discarded it (R57, R327). -/
def State.putReg (s : State) (off : Nat) (v : Word) (lock : Bool) : State × Bool :=
  match regAt off with
  | none => (s, true)
  | some r =>
    if off = 0x24010 ∧ !lock ∧ !partOk v then (s.flag Reg.RTK_STATUS.PART_ERR, true)
    else if 0x800010 ≤ off ∧ off < 0x800030 ∧ !lock then
      match (s.ownChanged ((off - 0x800010) / 4) v).find? fun r => s.sqEn r || s.cqEn r with
      | some q => (s.ringErr (!s.sqEn q) q.val 8, true)
      | none => (s.putCodes off r v lock, false)
    else
      let s := s.putCodes off r v lock
      let s := if r.rwl != 0 && !lock then s.staleDomains (copyDomains off) else s
      let s := if off = 0x700000 ∧ !lock then s.policyWritten else s
      (s, false)

/-- The logs whose VALID, written as 1, clears all their fields: XLT_MAPLOSS, DIR_TMO_LOG, PWR_REFUSE_LOG, PWR_WAKE_LOG, PWR_WAKE_FAIL, HSW_TRIP_LOG. -/
def guardedLogs : List Nat := [0x22000C, 0x21000C, 0x700024, 0x700028, 0x70002C, 0x730014]

/-- W1C registers whose VALID clears the fields it guards. -/
def State.clearGuarded (s : State) (off : Nat) (v : Word) : State :=
  if guardedLogs.contains off && v.getLsbD 31 then s.setWord off 0
  else if off = 0x800000 ∧ v.getLsbD 31 then ((s.setF Reg.CMD_STATUS.CQ 0).setF Reg.CMD_STATUS.RING 0).setF Reg.CMD_STATUS.CODE 0
  else match prtReg off with
    | some p => if off % 0x10000 = 0x890 ∧ v.getLsbD 8 then (s.setF (Reg.PRTn_RGN_STATUS.REJ_ENTRY.nth p.val) 0).setF (Reg.PRTn_RGN_STATUS.REJ_CODE.nth p.val) 0 else s
    | none => s

/-- A write of PRTn_TEST_CTL: LANE_MASK and PATTERN, then LOOP where it changes (R229). LOOP written 0b101 to 0b111 is stored as the 0b000 it is taken as, so it reads 0b000, where R9 gives the last value written (DESIGN CHOICE, LOG 57). -/
def State.writeTestCtl (s : State) (p : Head) (v : Word) : State :=
  let s := (s.setF (Reg.PRTn_TEST_CTL.LANE_MASK.nth p.val) (v >>> 8 &&& 0xFF).toNat).setF (Reg.PRTn_TEST_CTL.PATTERN.nth p.val) (v >>> 4 &&& 3).toNat
  let l := (v &&& 7).toNat
  let l := if 5 ≤ l then 0 else l
  if l = s.f (Reg.PRTn_TEST_CTL.LOOP.nth p.val) then s else s.setLoop p l 0

/-- A write to a register of engine `p` (R447). -/
def State.writePrt (s : State) (w : Via) (p : Head) (off : Nat) (v : Word) : State :=
  let k := off % 0x10000
  if 0x800 ≤ k ∧ k < 0x890 then s.writeRgn w p ⟨(k - 0x800) / 16 % 9, Nat.mod_lt _ (by decide)⟩ (k / 4 % 4) v
  else if k = 0x10 then
    if !s.isOwner w then s.nonowner else if p ∈ s.heads then s.writeTestCtl p v else s
  else if !s.mayWritePort w p then s.nonowner
  else if p ∉ s.heads then s
  else
    let s := ((s.putReg off v s.locked).1).clearGuarded off v
    if k = 0 ∧ v.getLsbD 3 then s.recover p else s

/-- A fetch of a Pannier slot into the buffer of a source (R430). -/
def State.fetchSlot (s : State) (w : Via) (pinned : Bool) (slot : BitVec 16) : State :=
  let held := if pinned then s.pan.pinned else s.pan.ring
  let busy := s.pan.programming.any fun x => if pinned then x.2.1 && s.pan.nextPin == slot.toNat else x.2.2 == slot.toNat
  let c : ReadCtx :=
    if pinned ∧ 256 ≤ slot.toNat then ⟨pinned, slot, true, 1, List.replicate 256 0xFF, 0⟩
    else if busy then ⟨pinned, slot, true, 3, [], 0⟩
    else match held.get PanSlot.erased slot.toNat with
      | .erased => ⟨pinned, slot, true, 1, List.replicate 256 0xFF, 0⟩
      | .torn => ⟨pinned, slot, true, 2, Config.freeBytes s.free, 0⟩
      | .valid r => ⟨pinned, slot, true, 0, r.bytes, 0⟩
  (s.setCtx w c).takeFree

/-- PIN_CLEAR (R427): the whole pinned array is erased and PIN_CLEARED is written with the number of records erased. -/
def State.pinErase (s : State) : State :=
  let n := s.pan.nextPin
  let s := { s with pan := { s.pan with pinned := [], nextPin := 0 } }.setF Reg.BBX_STATUS.PIN_FULL 0
  s.panEnter (s.panRec 0 2 0 4 0 0 0 0x750014 false (leBytes 4 n))

/-- May a source write device-wide registers other than those with owners of their own? -/
def State.wideWrite (s : State) (w : Via) (g : State → State) : State := if s.isOwner w then g s else s.nonowner

/-- A write of HSW_CTL: UNLATCH, then CYCLE with the values HSW has measured (R409 to R411). -/
def State.writeHswCtl (s : State) (v : Word) (m : TripMeas) : State :=
  let s := if v.getLsbD 0 then s.writeUnlatch else s
  if v.getLsbD 1 then s.writeCycle m else s

/-- What HSW has measured, where a write gives no values of its own: the last round's input voltage and output voltage. -/
def State.hswMeas (s : State) : TripMeas :=
  ⟨s.f Reg.HSW_MEAS.IIN_DA / 10, 0, s.f Reg.HSW_MEAS.VIN_MV, s.f Reg.HSW_VOUT.VOUT_MV⟩

/-- An aligned 32-bit write of a register (R447): by its source, under the lock, and by its register's own rules. Every aligned word of the two CXL ranges is kept as a read and write word of reset 0: which offsets hold a register there, and their reserved bits, the spec leaves to CXL (PRESUMED, LOG 57). -/
def State.writeWord (s : State) (w : Via) (off : Nat) (v : Word) : State :=
  if !s.regAnswers w off then s
  else if cxlReg off then
    s.updPort (s.viewHead w) fun p => { p with cxlRegs := p.cxlRegs.set 0 off v }
  else if (regAt off).isNone then s
  else match prtReg off with
  | some p => s.writePrt w p off v
  | none =>
    if 0x800040 ≤ off ∧ off < 0x800080 then
      let h : Head := ⟨(off - 0x800040) / 8 % 8, Nat.mod_lt _ (by decide)⟩
      s.winAccess w h fun s => if off % 8 = 0 then s.writeWin h v else s.writeHead h v
    else if 0x800100 ≤ off ∧ off < 0x800200 then
      let r : Ring := ⟨(off - 0x800100) / 4 % 64, Nat.mod_lt _ (by decide)⟩
      s.ringAccess w false r fun s h => s.writeSq h r v
    else if 0x800200 ≤ off ∧ off < 0x800300 then
      let r : Ring := ⟨(off - 0x800200) / 4 % 64, Nat.mod_lt _ (by decide)⟩
      s.ringAccess w true r fun s h => s.writeCq h r v
    else if off = 0x750020 then
      if w == .sideband then (if v.getLsbD 0 then s.pinErase else s) else s.nonowner
    else s.wideWrite w fun s =>
      if off = 0x750018 then s.fetchSlot w (v.getLsbD 31) (v.setWidth 16)
      else if off = 0x73000C then s.writeHswCtl v s.hswMeas
      else if 0x740100 ≤ off ∧ off < 0x740200 then s.gselWord ((off - 0x740100) / 4) v
      else if off = 0x740008 then s.ovfClearWord v
      else ((s.putReg off v s.locked).1).clearGuarded off v

/-- A write access of any size: whole registers take their word, narrower pieces are discarded (R6). -/
def State.writeAccess (s : State) (w : Via) (off n : Nat) (v : BitVec 32768) : State :=
  (pieces off n).foldl (fun (s : State) p => if p.2 then s.writeWord w p.1 ((v >>> (8 * (p.1 - off))).setWidth 32) else s) s

/-- An aligned 32-bit write of BAR4: a vector's mask, whose clearing sends a pending vector, or its address and data; the pending bits are not written (R350). -/
def State.writeWord4 (s : State) (h : Head) (off : Nat) (v : Word) : State :=
  if 0x800 ≤ off then s
  else if off % 16 = 12 then
    if v.getLsbD 0 then s.updPort h fun p => { p with msixMask := p.msixMask ||| ((1 : BitVec 128) <<< (off / 16)) }
    else s.unmask h ⟨off / 16 % 128, Nat.mod_lt _ (by decide)⟩
  else s.updPort h fun p => { p with msixWords := p.msixWords.set 0 off v }

/-- Do the BARs of a source answer: a head's while its function is there and the main domains run (R444)? -/
def State.barAnswers (s : State) : Via → Bool
  | .head h => s.regsUp && decide (h ∈ s.heads)
  | .sideband => false

/-! ## Rows -/

/-- REGISTER_WRITE (R175, R226, R447). The places of CXL-defined fields are CXL's: the value's low bits carry BI Enable, and the containment bit with the aggregation count above it (LOG 11). -/
def execRegisterWrite (w : Via) (t : RegTarget) (size : Fin 4097) (v : BitVec 32768) (s : State) : Host.Outcome State Fault Refusal :=
  let cxl (g : Port → Port) : Host.Outcome State Fault Refusal :=
    .next (if s.regAnswers w 0x10000 && decide (4 ≤ size.val) then s.updPort (s.viewHead w) g else s)
  match t with
  | .bar0 off => .next (s.writeAccess w off.toNat size.val v)
  | .bar2 _ => .next s
  | .bar4 off =>
    match w with
    | .sideband => .next s
    | .head h =>
      .next (if s.barAnswers w then (pieces off.toNat size.val).foldl (fun (s : State) p => if p.2 then s.writeWord4 h p.1 ((v >>> (8 * (p.1 - off.toNat))).setWidth 32) else s) s else s)
  | .biEnable => cxl fun p => { p with biEnable := v.getLsbD 0 }
  | .ideMode => cxl fun p => { p with ideContain := v.getLsbD 0, ideAgg := clamp 1 5 ((v >>> 1).toNat % 8) }
  | .powerState => cxl fun p => { p with d3hot := v.getLsbD 0 }
  | .cxlOther off => cxl fun p => { p with cxlRegs := p.cxlRegs.set 0 off.toNat (v.setWidth 32) }

/-- PAIRED_LOW_READ (R5, R6, R418, R446): a read access of any size. -/
def execPairedLowRead (w : Via) (bar : Bar) (off : BitVec 24) (size : Fin 4097) (s : State) : Host.Outcome State Fault Refusal :=
  if !(if bar == .b0 then s.regAnswers w off.toNat else s.barAnswers w) then .next s
  else
    let (bs, s) := s.readBytes w bar off.toNat size.val
    .next (s.send (.readData w bar off.toNat bs))

/-- SETUP_LOCK (R451): LOCK is RWL itself. -/
def execSetupLock (w : Via) (s : State) : Host.Outcome State Fault Refusal := .next (s.writeWord w 0x8 1)

/-- RTK_PARTITION_WRITE (R57). -/
def execRtkPartitionWrite (w : Via) (v : Word) (s : State) : Host.Outcome State Fault Refusal := .next (s.writeWord w 0x24010 v)

/-- GENERAL_COUNTER_SELECT (R416, R417). -/
def execGeneralCounterSelect (w : Via) (g : Fin 64) (v : Word) (s : State) : Host.Outcome State Fault Refusal := .next (s.writeWord w (0x740100 + 4 * g.val) v)

/-- OVF_CLEAR (R421). -/
def execOvfClear (w : Via) (v : Word) (s : State) : Host.Outcome State Fault Refusal := .next (s.writeWord w 0x740008 v)

/-- PANNIER_SLOT_FETCH (R430): a write of BBX_RD_CTL through the owner head or the sideband. -/
def execPannierSlotFetch (w : Via) (pinned : Bool) (slot : BitVec 16) (s : State) : Host.Outcome State Fault Refusal :=
  .next (s.writeWord w 0x750018 ((if pinned then 0x80000000 else 0) ||| slot.zeroExtend 32))

/-- PANNIER_READ_DATA (R430, R446). -/
def execPannierReadData (w : Via) (s : State) : Host.Outcome State Fault Refusal :=
  if !s.regAnswers w 0x75001C then .next s
  else
    let (v, s) := s.readWord w 0x75001C
    .next (s.send (.register w 0x75001C v))

/-- PIN_CLEAR (R427): from the sideband only. -/
def execPinClear (w : Via) (s : State) : Host.Outcome State Fault Refusal := .next (s.writeWord w 0x750020 1)

end Sys2Proof.Machine
end

