-- ==== Sys2Proof/Machine/Opcodes.lean ====
section
/-! DEFINITION. The opcodes of the command rings: their starts, their commit steps and what they answer (R23 to R27, R86 to R88, R163 to R165, R308, R337 to R349, R354, R470, R471). -/

namespace Sys2Proof.Machine

/-! ## Starting a command (R337, R349, R352) -/

/-- A fetched or running command. -/
def State.cmdOf (s : State) (id : Nat) : Option Cmd := s.cmd.cmds.find? (·.id == id)

/-- Change a command. -/
def State.updCmd (s : State) (id : Nat) (g : Cmd → Cmd) : State := { s with cmd := { s.cmd with cmds := updWhere (·.id == id) g s.cmd.cmds } }

/-- Are commands paused: an MGT restart (R352), or the error state (R318)? -/
def State.cmdPaused (s : State) : Bool := !s.mainRuns || s.fb Reg.CMD_STATUS.MGT_PAUSE || s.cry.st == .error

/-- Do two commands come from one SQ? -/
def sameSq (a b : Cmd) : Bool := a.sq.isSome && a.sq == b.sq

/-- Does a FENCE opcode hold a later command (R337)? -/
def fenceHolds (f c : Cmd) : Bool :=
  dOp f.desc == 0x0C && f.phase != .ended && f.sq.isSome && (if dArg0 f.desc % 2 = 1 then f.head == c.head && c.sq.isSome else sameSq f c)

/-- May a fetched command start (R337): its SQ's commands start in order, a FENCE flag waits for the completions of every earlier one, and FENCE opcodes hold what is behind them? -/
def State.mayStart (s : State) (c : Cmd) : Bool :=
  let before := s.cmd.cmds.takeWhile (·.id != c.id)
  c.phase == .fetched && !s.cmdPaused && s.partRoom 9 &&
    !(before.any fun b => sameSq b c && b.phase == .fetched) &&
    !(dFlags c.desc % 2 == 1 && before.any fun b => sameSq b c) &&
    !(before.any fun b => fenceHolds b c)

/-- Start a command whose opcode is `op`. -/
def State.startOp (s : State) (id : Nat) (ok : Cmd → Bool) (g : State → Cmd → State) : State :=
  match s.cmdOf id with
  | none => s
  | some c => if ok c && s.mayStart c then g s c else s

/-- Is the command of an opcode? -/
def isOp (n : Nat) (c : Cmd) : Bool := dOp c.desc == n

/-- Clandahar sequences a command: it must run, and PD_MGT is woken for it (R331 text, R368). -/
def State.byMgt (s : State) (g : State → State) : State :=
  if s.mgtUp then g s else if s.mgt.st == .running then s.latchWake 1 .engineRequest else s

/-- A range command begins its steps. -/
def State.beginSteps (s : State) (c : Cmd) : State := s.byMgt fun s => s.updCmd c.id fun c => { c with phase := .running }

/-- Steps of a command's range: pages, or extents where it works on extents. -/
def Cmd.steps (c : Cmd) : Nat := dLen c.desc / dAlign c.desc

/-- End a range command that has made its last step: RESULT counts its commits (R341). -/
def State.endSteps (s : State) (c : Cmd) (status : BitVec 8) : State :=
  match s.cmdOf c.id with
  | none => s
  | some c => s.endCmd c.id status c.made

/-- A step that finds nothing to commit. -/
def State.cmdSkip (s : State) (id : Nat) : State := s.updCmd id fun c => { c with next := c.next + 1 }

/-! ## Lines of a range (R24, R26, R27) -/

/-- Does a range of `n` lines from `l` hold line `x`? -/
def inLines (l n x : Nat) : Bool := decide (l ≤ x) && decide (x < l + n)

/-- The domains that a step on a range of lines needs: the XLT slice, the near-cache slices that hold lines of it, and the directory slices that hold entries of it. -/
def State.stepDomains (s : State) (l n : Nat) : List Nat :=
  distinct ((48 + (Config.xltSlice (extOf l)).val) :: (s.nc.lines.filter fun p => inLines l n p.1).map (fun p => 28 + (slice p.1).val) ++
    (s.dir.entries.filter fun p => inLines l n p.1).map fun p => 44 + dirSlice p.1)

/-- Are the domains that a step on a range of lines needs ON? Those that are not are asked for. -/
def State.stepReady (s : State) (l n : Nat) : Bool × State :=
  let off := (s.stepDomains l n).filter fun d => !s.domOn d && !(s.dom d).failed
  if off.isEmpty then (true, s) else (false, off.foldl (fun s d => s.latchWake d .engineRequest) s)

/-- Is a request of a range of lines ordered and not yet made? A read joined to a fill whose value is known is: it has its value (R47). -/
def State.unmade (s : State) (l n : Nat) : Bool :=
  s.rtk.any (fun r => inLines l n r.line && r.isOpen && r.phase != .fill) || s.nc.fills.any fun f => inLines l n f.line && f.value.isNone

/-- May a step that changes or copies a range of lines commit: its domains are ON, the requests ordered before it are made (R16, R23), and, in an HDM-DB region, no host holds a line of it (R26)? What is missing is asked for. -/
def State.stepClear (s : State) (l n : Nat) : Bool × State :=
  match s.stepReady l n with
  | (false, s) => (false, s)
  | (true, s) =>
    if s.lineDb l then
      let held := (s.dir.entries.filter fun p => inLines l n p.1).map (·.1)
      let waits := s.rtk.any (fun r => inLines l n r.line && r.isOpen) || s.dir.snoops.any fun q => q.covers.any (inLines l n)
      if held.isEmpty && !waits && !s.unmade l n then (true, s) else (false, s.backInval (held.filter fun x => !s.lineOpen x))
    else (!s.unmade l n, s)

/-- Drop a range of lines from the near cache and its buffers before a commit (R23). Writes of it that the pool holds complete. Reads joined to an open fill keep the value at their place, before the commit, and the fill is not cached (R16, R47). -/
def State.dropLines (s : State) (l n : Nat) : State :=
  let pool := s.nc.lines.any fun p => inLines l n p.1 && p.2.pool.isSome
  let held := (s.rtk.filter fun r => inLines l n r.line && (match r.phase with | .pool _ => true | _ => false)).map (·.id)
  let s := held.foldl (fun s id => s.respond id) s
  let open_ := (s.nc.fills.filter fun f => inLines l n f.line && !f.stale).map (·.line)
  let s := open_.foldl (fun s x => (s.freezeReaders x s.nextEntry).endFill x) s
  let s := { s with nc := { s.nc with lines := s.nc.lines.filter fun p => !inLines l n p.1, wbb := s.nc.wbb.filter fun w => !inLines l n w.line } }
  if pool then ((s.rtk.filter fun r => r.phase == .poolFull).map (·.id)).foldl (fun s id => s.serve id) s else s

/-- The dirty lines of a range that are still to be written back. -/
def State.dirtyLines (s : State) (l n : Nat) : List WbLine :=
  (s.nc.wbb.filter fun w => inLines l n w.line && !w.issued) ++
    (s.nc.lines.filter fun p => inLines l n p.1 && p.2.dirty).map fun p => ⟨p.1, p.2.data, p.2.mask, p.2.poison, false, false, none⟩

/-- A line has been written back for a clone: it is clean, and writes that the pool held for it complete. -/
def State.lineClean (s : State) (l : Nat) : State :=
  let s := { s with nc := { s.nc with
    wbb := s.nc.wbb.filter fun w => !(w.line == l && !w.issued)
    lines := updWhere (fun p => p.1 == l) (fun p => (p.1, { p.2 with dirty := false, pool := none })) s.nc.lines } }
  ((s.rtk.filter fun r => r.line == l && (match r.phase with | .pool _ => true | _ => false)).map (·.id)).foldl (fun s id => s.respond id) s

/-- Write back dirty lines, oldest first, the first with what the codecs and DRAM make of it: whether every one is made (R23). -/
def State.flushLines (s : State) (run : CodecRun) : List WbLine → Bool × State
  | [] => (true, s)
  | w :: ws =>
    match s.writeBack w run with
    | .made t => (t.lineClean w.line).flushLines .good ws
    | .dropped t => (t.lineClean w.line).flushLines .good ws
    | .waits t => (false, t)

/-! ## Extents in a step -/

/-- What stands in the way of a step on an extent: a copy of a command, which the step waits for, or a copy of the Derailleur, which yields (R90, R338). -/
inductive InWay where
  | clear
  | yields (c : ExtCopy)
  | waits
  deriving DecidableEq, Repr

def State.inWay (s : State) (e : Nat) : InWay :=
  match s.drl.extCopies.find? (·.ext == e) with
  | none => .clear
  | some c => if c.cmd.isSome then .waits else .yields c

/-- The answer of a step: it waits with the state as it stands, it ends the command, or it commits. -/
inductive StepRes where
  | wait (s : State)
  | stop (s : State) (status : BitVec 8)
  | skip (s : State)
  | made (s : State)

/-- Take a step on an extent clear of copies: a Derailleur copy yields first. -/
def State.onExtent (s : State) (e : Nat) (g : State → StepRes) : StepRes :=
  match s.inWay e with
  | .waits => .wait s
  | .yields c => g (s.abandonExt c)
  | .clear => g s

/-- A page-level step on an extent with page records, made where they are missing: first touch of an UNTOUCHED extent, re-creation of a POISONED one (R74, R470). With no frames for the block it waits, or ends with NO_SPACE where the opcode has that status. -/
def State.withPages (s : State) (e : Nat) (noSpace : Bool) (g : State → StepRes) : StepRes :=
  let lack : StepRes := if noSpace then .stop s 6 else .wait s.wantBlock
  match (s.extRec e).mode with
  | .untouched => match s.firstTouch e with
    | none => lack
    | some s => g s
  | .poisoned => match s.recreate e with
    | none => lack
    | some s => g s
  | _ => g s

/-- Demote a DIRECT extent for a command's step (R342, R343): the step waits for the copy. At FLOOR, or with no frames, a clone ends with NO_SPACE. -/
def State.demoteFor (s : State) (id e : Nat) (noSpace : Bool) : StepRes :=
  if noSpace && s.level == 3 then .stop s 6
  else if !s.extFree e || !s.partRoom 8 then .wait s
  else match s.startExtCopy .demote e (some id) with
    | some s => .wait s
    | none => if noSpace then .stop s 6 else .wait s

/-- Is a page BUSY: a held attempt commits first? -/
def State.pageBusy (s : State) (p : Nat) : Bool := (s.pageRec p).state == .busy

/-! ## ZERO_RANGE, RELEASE_RANGE, SANITIZE (R23, R341, R348, R470, R471) -/

/-- The page step of ZERO_RANGE. -/
def State.zeroStep (s : State) (c : Cmd) (p : Nat) : StepRes :=
  let l := pageLine p
  let e := p / 512
  match s.stepClear l 64 with
  | (false, s) => .wait s
  | (true, s) =>
    s.onExtent e fun s =>
      match (s.extRec e).mode with
      | .untouched => .made (s.dropLines l 64)
      | .direct =>
        let s := (s.dropLines l 64).clearLines l 64
        .made { s with xlt := { s.xlt with zeroing := s.xlt.zeroing.put p () } }
      | _ =>
        if s.pageBusy p then .wait s
        else s.withPages e false fun s =>
          let s := s.dropLines l 64
          if (s.pageRec p).state == .zero then .made s
          else
            let t := s.zeroPage p
            .made (t.freedBy c.head 8 (s.framesUsed - t.framesUsed))

/-- The frames that a step freed hold zeros: SANITIZE has overwritten them, with their parity (R348). `s`: the state before the step. -/
def State.overwritten (t s : State) : State :=
  { t with cap := { t.cap with zeroed := (t.cap.dead.filter fun d => !s.cap.dead.has d.1).foldl (fun (z : Tbl Unit) d => z.put d.1 ()) t.cap.zeroed } }

/-- The extent step of RELEASE_RANGE and SANITIZE: frames that RELEASE_RANGE frees count toward the head's target (R115). -/
def State.untouchStep (s : State) (c : Cmd) (e : Nat) : StepRes :=
  let l := extLine e
  match s.stepClear l 32768 with
  | (false, s) => .wait s
  | (true, s) =>
    if s.inWay e == .waits || (s.extPages e).any s.pageBusy then .wait s
    else
      let s := s.dropLines l 32768
      let x := s.extRec e
      let t := s.untouchExt e
      let t := if dOp c.desc = 7 then t.freedBy c.head (if s.releasing c then 6 else 7) (s.framesUsed - t.framesUsed) else t.overwritten s
      .made (if x.mode == .untouched then t else t.updCmd c.id fun c => { c with keys := if c.keys.contains x.key then c.keys else c.keys ++ [x.key] })

/-- The end of a SANITIZE: with DESTROY_KEYS the slots whose counts its commits brought to zero are destroyed (R319, R348). -/
def State.sanitizeEnd (s : State) (c : Cmd) : State :=
  let ks := if dArg0 c.desc % 2 = 1 then c.keys.filter fun k => (s.keySlot k).st != .empty && s.slotFree k else []
  let s := ks.foldl (fun s k => s.setSlot k KeySlot.empty) s
  s.endCmd c.id 0 (c.made % 2 ^ 32 + ks.length * 2 ^ 32)

/-! ## CLONE_RANGE (R86 to R88, R307, R342, R470) -/

/-- Copy the stored bytes of one page to another. -/
def State.copyPage (s : State) (p q : Nat) : State :=
  let cells := (Memory.slice s.mem (4096 * p) 4096).map fun c => (c.1 - 4096 * p + 4096 * q, c.2)
  let s := s.clearLines (pageLine q) 64
  { s with mem := Memory.putCells s.mem cells }

/-- The lines of a page whose stored copy is the poison pattern. -/
def State.badBits (s : State) (p : Nat) : BitVec 64 :=
  (List.range 64).foldl (fun (b : BitVec 64) i => if s.isBad (pageLine p + i) then b ||| (1 <<< i) else b) 0

/-- A free index of the share blocks, 512 records each; a new block is allocated when every one is full, outside FLOOR (R86, R120). -/
def State.shareIndex (s : State) : Option (Nat × State) :=
  let blocks := (s.cap.runs.filter fun r => r.2.kind == .share).map (·.1)
  let free := blocks.findSome? fun b => ((List.range 512).map fun i => b / 16 * 512 + i).find? fun i => !s.xlt.share.has i
  match free with
  | some i => some (i, s)
  | none => if s.level = 3 then none else (s.alloc .share 16).map fun a => (a.1 / 16 * 512, a.2)

/-- Commit a page as SHARED, naming share record `i`. -/
def State.nameShare (s : State) (q i : Nat) : State :=
  s.replacePage q { PageRec.zero with state := .shared, loc := i, pin := (s.effRec q).pin }

/-- The lines of a page as a read ordered now gives them from storage: those of a near-cache set whose tags are lost are poison (R16, R290). -/
def State.readLines (s : State) (p : Nat) : List LineVal :=
  (List.range 64).map fun i => if s.setLost (pageLine p + i) then ⟨0, true⟩ else s.stored (pageLine p + i)

/-- The form of a clone's own copy: the source's stored form, frame for frame, where its lines are as stored; a dictionary of another key does not follow (R87, R139, R307). A page with poisoned lines is stored OPEN, but for the segments that a PACKED source records as poisoned. -/
def State.ownForm (s : State) (p q : Nat) (ls : List LineVal) : Form :=
  let r := s.storageRec p
  let asStored := ls == s.pageLines p
  if asStored && r.state == .packed then packedAs r.segv
  else if anyPoison ls then .open
  else match r.state with
    | .open => (s.openCopyForm ls none).form
    | .deep => if r.raw then .raw else if r.dict ≠ 0 ∧ s.keyOf p ≠ s.keyOf q then s.freshForm ls else .deep r.gcount r.dict
    | _ => .zero

/-- A clone's destination takes a copy of its own: one read and one write of the page's stored frames (R87, R307). -/
def State.cloneOwn (s : State) (p q : Nat) (run : CodecRun) : StepRes :=
  let x := pageLine p + run.line.val
  match if (s.lineAt x).isEmpty then (some LineVal.zero, s) else (s.resolveLost (pageLine p) 64).meet x (s.stored x) run.read with
  | (none, s) => .wait s
  | (some _, s) =>
    let ls := s.readLines p
    let f := s.ownForm p q ls
    if f == .zero then .made (if (s.pageRec q).state == .zero then s else s.zeroPage q)
    else if s.level = 3 then .stop s 6
    else match s.storeForm q f ls with
      | none => .stop s 6
      | some s => .made s

/-- A clone's destination shares the stored copy of a source that is not yet SHARED: a share record is written with REFS 2, and both pages name it (R87). -/
def State.cloneShare (s : State) (p q : Nat) : StepRes :=
  let r := s.effRec p
  match s.shareIndex with
  | none => .stop s 6
  | some (i, s) =>
    let poison := if r.state == .packed then 0 else s.badBits p
    let s := s.setShare i ⟨r.state, r.loc, r.segv, r.gcount, r.dict, 2, poison⟩
    let s := s.setPage p { PageRec.zero with state := .shared, loc := i, heat := r.heat, pin := r.pin, gen := r.gen + 1 }
    .made ((s.nameShare q i).copyPage p q)

/-- The commit of a clone's page, with both extents mapped or the source UNTOUCHED or POISONED (R87, R342, R470). Lines that read as poison for a lost near-cache set are cloned as poison (R16). -/
def State.clonePage (s : State) (p q : Nat) (run : CodecRun) : StepRes :=
  let zero (s : State) : StepRes := .made (if (s.pageRec q).state == .zero then s else s.zeroPage q)
  let r := s.effRec p
  if (s.extRec (p / 512)).mode == .poisoned then .made (s.poisonPage q)
  else if (List.range 64).any fun i => s.setLost (pageLine p + i) then s.cloneOwn p q run
  else if (s.extRec (p / 512)).mode == .untouched then zero s
  else match r.state with
    | .zero => zero s
    | .poisoned => .made (s.poisonPage q)
    | .shared =>
      let x := s.shareRec r.loc
      if s.keyOf p ≠ s.keyOf q ∨ 65535 ≤ x.refs then (if x.state == .poisoned then .made (s.poisonPage q) else s.cloneOwn p q run)
      else
        let s := s.setShare r.loc { x with refs := x.refs + 1 }
        .made ((s.nameShare q r.loc).copyPage p q)
    | _ => if s.keyOf p ≠ s.keyOf q then s.cloneOwn p q run else s.cloneShare p q

/-- The page step of CLONE_RANGE: DIRECT extents are demoted, the source page's dirty lines are written back, the destination's lines are dropped, and the destination commits (R23). Host copies of both pages are back-invalidated in an HDM-DB region (R26). -/
def State.cloneStep (s : State) (c : Cmd) (p q : Nat) (run : CodecRun) : StepRes :=
  let es := p / 512
  let ed := q / 512
  s.onExtent es fun s => s.onExtent ed fun s =>
    if (s.extRec es).mode == .direct then s.demoteFor c.id es true
    else if (s.extRec ed).mode == .direct then s.demoteFor c.id ed true
    else if s.pageBusy p || s.pageBusy q then .wait s
    else
      let ds := s.dirtyLines (pageLine p) 64
      if ds.any fun w => s.wbHeld w then .stop s 6
      else match s.stepClear (pageLine p) 64 with
      | (false, s) => .wait s
      | (true, s) =>
        match s.flushLines run ds with
        | (false, s) => .wait s
        | (true, s) =>
          match s.stepClear (pageLine q) 64 with
          | (false, s) => .wait s
          | (true, s) => s.withPages ed true fun s => (s.dropLines (pageLine q) 64).clonePage p q (if ds.isEmpty then run else .good)

/-! ## Pins, RESERVE, REKEY_RANGE (R163, R164, R308, R343, R344, R470) -/

/-- The PIN value of a PIN_RANGE or UNPIN_RANGE. -/
def pinValue (c : Cmd) : BitVec 2 := if dOp c.desc = 3 then BitVec.ofNat 2 (dArg0 c.desc / 2) else 0

/-- The extent-level step of PIN_RANGE and UNPIN_RANGE. -/
def State.pinExtStep (s : State) (c : Cmd) (e : Nat) : StepRes :=
  let put (s : State) : StepRes := .made (s.setExt e { s.extRec e with pin := pinValue c })
  if (s.extRec e).mode != .untouched then put s
  else if dOp c.desc = 4 then .skip s
  else match s.firstTouch e with
    | none => .wait s.wantBlock
    | some s => put s

/-- The page-level step of PIN_RANGE: a DIRECT extent is pinned keep-mapped and demoted first. -/
def State.pinPageStep (s : State) (c : Cmd) (p : Nat) : StepRes :=
  let e := p / 512
  match s.inWay e with
  | .waits => .wait s
  | .yields k => if k.kind == .demote then .wait s else .wait (s.abandonExt k)
  | .clear =>
    if (s.extRec e).mode == .direct then (s.setExt e { s.extRec e with pin := 2 }).demoteFor c.id e false
    else s.withPages e false fun s => .made (s.commitPin p (pinValue c))

/-- The page-level step of UNPIN_RANGE: pages with no record have no pin. -/
def State.unpinPageStep (s : State) (p : Nat) : StepRes :=
  match s.inWay (p / 512) with
  | .clear => if (s.extRec (p / 512)).mode == .mapped then .made (s.commitPin p 0) else .skip s
  | .waits => .wait s
  | .yields k => .wait (s.abandonExt k)

/-- Store a page OPEN with its present contents and pin it keep-open in the same commit. -/
def State.openPinned (s : State) (p : Nat) : StepRes :=
  if !s.openRoom then .stop s 6
  else match s.alloc .slot 8 with
    | none => .stop s 6
    | some a => .made ((a.2.flatten p).replacePage p { PageRec.zero with state := .open, loc := a.1, pin := 1 })

/-- The page step of RESERVE. -/
def State.reserveStep (s : State) (p : Nat) : StepRes :=
  let e := p / 512
  if 2 ≤ s.level then .stop s 6
  else match s.stepReady (pageLine p) 64 with
  | (false, s) => .wait s
  | (true, s) =>
    s.onExtent e fun s =>
      if (s.extRec e).mode == .direct then .made s
      else if s.pageBusy p then .wait s
      else s.withPages e true fun s =>
        let r := s.effRec p
        match r.state with
        | .open => .made (s.commitPin p 1)
        | .packed => if s.openRoom then .made ((s.commitPin p 1).offerCand .toOpen p) else .stop s 6
        | .deep => if s.openRoom then .made ((s.commitPin p 1).offerCand (if r.raw then .toOpen else .fromDeep) p) else .stop s 6
        | _ => s.openPinned p

/-- The extent step of REKEY_RANGE: a POISONED extent takes the key in one step, an UNTOUCHED one has no record, any other is copied (R308). -/
def State.rekeyStep (s : State) (c : Cmd) (e : Nat) : StepRes :=
  let k := dArg0 c.desc % 1024
  match s.stepReady (extLine e) 32768 with
  | (false, s) => .wait s
  | (true, s) =>
    match (s.extRec e).mode with
    | .untouched => .skip s
    | .poisoned => .made (s.setExt e { s.extRec e with key := k })
    | _ =>
      s.onExtent e fun s =>
        if (s.extPages e).any s.pageBusy || !s.partRoom 8 then .wait s
        else
          let s := s.closeCopies fun p => p / 512 == e
          .wait ((s.startExtCopy (.rekey k) e (some c.id)).getD s)

/-! ## COMMIT_STEP (R25, R338, R349) -/

/-- The step that a running command makes next. -/
def State.stepOf (s : State) (c : Cmd) (run : CodecRun) : StepRes :=
  let p := c.base + c.next
  let e := c.base / 512 + c.next
  match dOp c.desc with
  | 0x01 => s.zeroStep c p
  | 0x02 => s.cloneStep c p (c.dst + c.next) run
  | 0x03 => if dArg0 c.desc % 2 = 1 then s.pinPageStep c p else s.pinExtStep c e
  | 0x04 => if dArg0 c.desc % 2 = 1 then s.unpinPageStep p else s.pinExtStep c e
  | 0x06 => s.rekeyStep c e
  | 0x07 => s.untouchStep c e
  | 0x08 => s.reserveStep p
  | 0x0A => s.untouchStep c e
  | _ => .wait s

/-- A command whose last step is made ends. -/
def State.settleCmd (s : State) (id : Nat) : State :=
  match s.cmdOf id with
  | none => s
  | some c => if c.phase == .running && decide (c.steps ≤ c.next) then (if dOp c.desc = 0x0A then s.sanitizeEnd c else s.endSteps c 0) else s

/-- The abort flag ends a command: its copy is discarded (R349). A round that has not begun is no longer asked for. -/
def State.abortCmd (s : State) (c : Cmd) : State :=
  let s := (s.drl.extCopies.filter fun k => k.cmd == some c.id).foldl (fun s k => s.restoreExt k) s
  let s := if s.cdc.asked.any fun a => a.1 == c.id then { s with cdc := { s.cdc with asked := none } } else s
  s.endCmd c.id 8 c.made

/-- Is a command running and free to make a step? -/
def State.stepping (s : State) (c : Cmd) : Bool := c.phase == .running && !s.cmdPaused && s.mgtUp

/-- COMMIT_STEP (R25, R338, R349): the next page or extent of a running range command. A training round is stopped by its flag only before it begins. An operation whose entry the tracker has lost is abandoned, and its step still to be made (R290). -/
def execCommitStep (cmd : Nat) (run : CodecRun) (entryLost : Bool) (s : State) : Host.Outcome State Fault Refusal :=
  match s.cmdOf cmd with
  | none => .next s
  | some c =>
    if !s.stepping c then .next s
    else if entryLost then .next (s.sramRecord 3 0xFF 0 false)
    else if dOp c.desc = 0x0E then .next (if c.abort && s.cdc.train.cmd != some c.id then s.abortCmd c else s)
    else if c.steps ≤ c.next then .next (s.settleCmd cmd)
    else if c.abort then .next (s.abortCmd c)
    else
      match s.stepOf c run with
      | .wait s => .next s
      | .stop s st => .next (s.endSteps c st)
      | .skip s => .next ((s.cmdSkip cmd).settleCmd cmd)
      | .made s => .next ((s.cmdMade cmd).settleCmd cmd)

/-! ## The opcodes with steps: their starts -/

/-- ZERO_RANGE (R341, R470, R471). -/
def execZeroRange (cmd : Nat) (s : State) : Host.Outcome State Fault Refusal := .next (s.startOp cmd (isOp 0x01) fun s c => s.beginSteps c)
/-- CLONE_RANGE (R342): it begins with an entry of the compaction and cloning partition (R52, R56). -/
def execCloneRange (cmd : Nat) (s : State) : Host.Outcome State Fault Refusal := .next (s.startOp cmd (isOp 0x02) fun s c => if s.partRoom 10 then s.beginSteps c else s)
/-- PIN_RANGE (R163, R343). -/
def execPinRange (cmd : Nat) (s : State) : Host.Outcome State Fault Refusal := .next (s.startOp cmd (isOp 0x03) fun s c => s.beginSteps c)
/-- UNPIN_RANGE (R164). -/
def execUnpinRange (cmd : Nat) (s : State) : Host.Outcome State Fault Refusal := .next (s.startOp cmd (isOp 0x04) fun s c => s.beginSteps c)
/-- REKEY_RANGE (R308). -/
def execRekeyRange (cmd : Nat) (s : State) : Host.Outcome State Fault Refusal := .next (s.startOp cmd (isOp 0x06) fun s c => s.beginSteps c)
/-- RELEASE_RANGE (R341). -/
def execReleaseRange (cmd : Nat) (s : State) : Host.Outcome State Fault Refusal := .next (s.startOp cmd (isOp 0x07) fun s c => s.beginSteps c)
/-- RESERVE (R344). -/
def execReserve (cmd : Nat) (s : State) : Host.Outcome State Fault Refusal := .next (s.startOp cmd (isOp 0x08) fun s c => s.beginSteps c)
/-- SANITIZE (R348). -/
def execSanitize (cmd : Nat) (s : State) : Host.Outcome State Fault Refusal := .next (s.startOp cmd (isOp 0x0A) fun s c => s.beginSteps c)

/-! ## The opcodes without steps -/

/-- NOP (R341). -/
def execNop (cmd : Nat) (s : State) : Host.Outcome State Fault Refusal := .next (s.startOp cmd (isOp 0x00) fun s c => s.endCmd c.id 0 0)

/-- BAD_OPCODE (R341). -/
def execBadOpcode (cmd : Nat) (s : State) : Host.Outcome State Fault Refusal :=
  .next (s.startOp cmd (fun c => decide (0x0F < dOp c.desc)) fun s c => s.endCmd c.id 1 0)

/-- FENCE (R337): it completes when every earlier fetched command of its scope has its completion. -/
def execFence (cmd : Nat) (s : State) : Host.Outcome State Fault Refusal :=
  .next (s.startOp cmd (isOp 0x0C) fun s c =>
    let before := s.cmd.cmds.takeWhile (·.id != c.id)
    let waits := before.any fun b => if dArg0 c.desc % 2 = 1 then b.head == c.head && b.sq.isSome else sameSq b c
    if waits then s else s.endCmd c.id 0 0)

/-- The HEAT that a hint gives a record with these thresholds (R165). -/
def hintHeat (c : Cmd) (up down : Nat) : Nat :=
  match dArg0 c.desc % 4 with
  | 1 => 255
  | 2 => 0
  | _ => (up + down) / 2

/-- Hint one page record: its HEAT, and the candidate it becomes. -/
def State.hintPage (s : State) (c : Cmd) (p : Nat) : State :=
  let s := s.setPage p { s.pageRec p with heat := hintHeat c s.openUp s.openDownNow }
  let r := s.effRec p
  match dArg0 c.desc % 4 with
  | 1 =>
    if r.state == .deep && !r.raw && r.pin != 3 then s.offerCand .fromDeep p
    else if (r.state == .packed || r.raw) && r.pin != 2 && r.pin != 3 then s.offerCand .toOpen p
    else s
  | 2 =>
    if r.state == .open && r.pin != 1 then s.offerCand .packing p
    else if r.state == .packed && r.pin != 1 && r.pin != 2 then s.offerCand .deepEncoding p
    else s
  | _ => s

/-- Hint one extent record. -/
def State.hintExt (s : State) (c : Cmd) (e : Nat) : State :=
  let s := s.setExt e { s.extRec e with heat := hintHeat c s.dirUp s.dirDown }
  let r := s.extRec e
  match dArg0 c.desc % 4 with
  | 1 => if r.mode == .mapped && r.pin != 2 then s.offerCand .toDirect e else s
  | 2 => if r.mode == .direct && r.pin != 1 then s.offerCand .demote e else s
  | _ => s

/-- The extents that a range of pages touches. -/
def rangeExts (base n : Nat) : List Nat := (List.range ((base + n - 1) / 512 - base / 512 + 1)).map fun i => base / 512 + i

/-- The pages of a range that lie in an extent. -/
def pagesIn (base n e : Nat) : List Nat := ((List.range 512).map fun i => 512 * e + i).filter fun p => decide (base ≤ p) && decide (p < base + n)

/-- HINT_RANGE (R165, R470): each extent record of the range and each page record in it, that of an extent MIGRATING from MAPPED included. -/
def State.hint (s : State) (c : Cmd) : State :=
  let n := dLen c.desc / 4096
  let es := (rangeExts c.base n).filter fun e => (s.extRec e).mode != .untouched && (s.extRec e).mode != .poisoned
  let ps := (es.filter fun e => (s.extView e).1 == .mapped).flatMap (pagesIn c.base n)
  let s := es.foldl (fun s e => s.hintExt c e) s
  let s := ps.foldl (fun s p => s.hintPage c p) s
  s.endCmd c.id 0 (es.length + ps.length)

/-- HINT_RANGE (R165). -/
def execHintRange (cmd : Nat) (s : State) : Host.Outcome State Fault Refusal := .next (s.startOp cmd (isOp 0x05) fun s c => s.byMgt fun s => s.hint c)

/-! ## QUERY_RANGE (R345) -/

/-- MODE as an extent record encodes it (R77). -/
def ExtMode.code : ExtMode → Nat
  | .untouched => 0
  | .direct => 1
  | .mapped => 2
  | .migrating => 3
  | .poisoned => 4

/-- STATE as a page record encodes it (R81). -/
def PageState.code : PageState → Nat
  | .zero => 0
  | .open => 1
  | .packed => 2
  | .deep => 3
  | .shared => 4
  | .poisoned => 5
  | .busy => 6

/-- An extent entry with the number of page entries that follow. -/
def extEntry (r : ExtRec) (k : Nat) : Nat :=
  r.mode.code * 2 ^ 61 + r.key % 1024 * 2 ^ 51 + r.heat % 256 * 2 ^ 43 + r.cls.toNat * 2 ^ 41 + r.pin.toNat * 2 ^ 39 + k % 1024 * 2 ^ 29

/-- A page entry. -/
def State.pageEntry (s : State) (p : Nat) : Nat :=
  let r := s.effRec p
  let frames := if r.state == .shared then (s.shareRec r.loc).asPage.frames else r.frames
  r.state.code * 2 ^ 61 + frames % 16 * 2 ^ 57 + r.heat % 256 * 2 ^ 49 + r.pin.toNat * 2 ^ 47 + r.gen.toNat * 2 ^ 31

/-- The entries of a list of extents in `room` entries, and the first page not reported. -/
def State.queryEntries (s : State) (base n : Nat) : List Nat → Nat → List Nat × Nat
  | [], _ => ([], base + n)
  | e :: es, room =>
    let ps := pagesIn base n e
    let first := (ps.head?).getD base
    if room = 0 then ([], first)
    else
      let x := s.extRec e
      if x.mode != .mapped then
        let r := s.queryEntries base n es (room - 1)
        (extEntry x 0 :: r.1, r.2)
      else
        let k := min ps.length (room - 1)
        let here := extEntry x k :: (ps.take k).map s.pageEntry
        if k < ps.length then (here, first + k)
        else
          let r := s.queryEntries base n es (room - 1 - k)
          (here ++ r.1, r.2)

/-- The output of QUERY_RANGE. -/
def State.queryBytes (s : State) (c : Cmd) : List Byte :=
  let n := dLen c.desc / 4096
  let q := s.queryEntries c.base n (rangeExts c.base n) ((dLen2 c.desc - 64) / 8)
  let p := s.port c.head
  leBytes 8 s.tb.toNat ++ [BitVec.ofNat 8 s.level, BitVec.ofNat 8 (s.f Reg.XLT_CAP_RATIO.RATIO_MEAS)] ++ List.replicate 6 0 ++
    leBytes 8 p.target ++ leBytes 8 p.freedTo ++ leBytes 8 (dAddr c.desc + (q.2 - c.base) * 4096) ++ List.replicate 24 0 ++ q.1.flatMap (leBytes 8)

/-- Write a command's output to its buffer and end it with the bytes written; a line that must wait leaves the command where it stands. -/
def State.output (s : State) (c : Cmd) (bs : List Byte) : State :=
  match s.rangeIn c.head (dAddr2 c.desc) (dLen2 c.desc) with
  | none => s.endCmd c.id 3 0
  | some r =>
    match s.cmdWrites (linesOf (r.dpa (dAddr2 c.desc) / 64) bs (bs.length / 64 + 1)) with
    | .wait _ s => s
    | .landed s => s.endCmd c.id 0 bs.length

/-- QUERY_RANGE (R345). -/
def execQueryRange (cmd : Nat) (s : State) : Host.Outcome State Fault Refusal :=
  .next (s.startOp cmd (isOp 0x09) fun s c => s.byMgt fun s => s.output c (s.queryBytes c))

/-! ## SNAPSHOT_COUNTERS (R346, R420) -/

/-- The groups that a snapshot writes: a head other than the owner sees those it may read (R419, R420). -/
def State.snapGroups (s : State) (c : Cmd) : List Nat :=
  (List.range 16).filter fun g => (dArg0 c.desc).testBit g &&
    (c.head == s.owner || (s.fbit Reg.PMU_CTL.USER_EN c.head.val && s.fbit (Reg.PMU_USER_MASKh.GRP_MASK.nth c.head.val) g))

/-- The counters of a group: 72 always-running, then four general. -/
def State.snapGroup (s : State) (g : Nat) : List Byte :=
  ((List.range 72).map fun i => s.alwaysWord g i).flatMap (fun w => leBytes 8 w.toNat) ++
    ((List.range 4).map fun j => s.generalWord (4 * g + j)).flatMap fun w => leBytes 8 w.toNat

/-- SNAPSHOT_COUNTERS (R346, R420). -/
def State.snapshot (s : State) (c : Cmd) : State :=
  let gs := s.snapGroups c
  let size := 64 + 608 * gs.length
  if dLen2 c.desc < size then s.endCmd c.id 9 0
  else
    let mask := (gs.map fun g => 2 ^ g).sum
    let head := leBytes 8 s.tb.toNat ++ leBytes 2 mask ++ [0, 0] ++ leBytes 4 (76 * gs.length) ++ List.replicate 48 0
    s.output c (head ++ gs.flatMap s.snapGroup)

def execSnapshotCounters (cmd : Nat) (s : State) : Host.Outcome State Fault Refusal :=
  .next (s.startOp cmd (isOp 0x0D) fun s c => s.snapshot c)

/-! ## ABORT (R349) -/

/-- The command that an ABORT names: the earliest fetched from the given SQ of the same head with the given TAG, its completion not yet written. -/
def State.abortTarget (s : State) (c : Cmd) : Option Cmd :=
  s.cmd.cmds.find? fun t => t.id != c.id && t.head == c.head && !t.discard && t.sq.any (fun r => r.val == dArg0 c.desc % 64) && dTag t.desc == dArg1 c.desc % 2 ^ 32

/-- Has a command commit steps still to make? -/
def Cmd.stepsLeft (t : Cmd) : Bool := dSteps t.desc && t.phase != .ended && (dOp t.desc == 0x0E || decide (t.next < t.steps))

/-- ABORT (R349): its completion waits for its target's. -/
def State.abortOp (s : State) (c : Cmd) : State :=
  match s.abortTarget c with
  | none => s.endCmd c.id 0 0
  | some t =>
    let s := s.updCmd c.id fun c => { c with next := t.id + 1 }
    if t.stepsLeft then (s.updCmd t.id fun t => { t with abort := true }).endCmd c.id 0 1 else s.endCmd c.id 0 2

def execAbort (cmd : Nat) (s : State) : Host.Outcome State Fault Refusal := .next (s.startOp cmd (isOp 0x0B) fun s c => s.abortOp c)

/-! ## DICT_CONTROL (R144, R346) -/

/-- Is it DICT_CONTROL with this action? -/
def isDict (a : Nat) (c : Cmd) : Bool := dOp c.desc == 0x0E && dArg0 c.desc == a

/-- DICT_RETIRE (R346): any slot that is not ACTIVE gives BAD_FIELD. -/
def execDictRetire (cmd : Nat) (s : State) : Host.Outcome State Fault Refusal :=
  .next (s.startOp cmd (isDict 1) fun s c => s.byMgt fun s =>
    let d := dArg1 c.desc % 16
    if (s.dict d).state == .active then (s.retireDict d).endCmd c.id 0 0 else s.endCmd c.id 2 0)

/-- DICT_HOLD_TRAINING (R346). -/
def execDictHoldTraining (cmd : Nat) (s : State) : Host.Outcome State Fault Refusal :=
  .next (s.startOp cmd (isDict 2) fun s c => s.byMgt fun s => { s with cdc := { s.cdc with hold := true } }.endCmd c.id 0 0)

/-- DICT_END_HOLD (R346). -/
def execDictEndHold (cmd : Nat) (s : State) : Host.Outcome State Fault Refusal :=
  .next (s.startOp cmd (isDict 3) fun s c => s.byMgt fun s => { s with cdc := { s.cdc with hold := false } }.endCmd c.id 0 0)

/-- DICT_RUN_ROUND (R346): the next round samples its range; it completes when that round ends. -/
def execDictRunRound (cmd : Nat) (s : State) : Host.Outcome State Fault Refusal :=
  .next (s.startOp cmd (isDict 4) fun s c => s.byMgt fun s =>
    if c.abort then s.endCmd c.id 8 0
    else if !s.fb Reg.CDC_CFG.TRAIN_EN || s.cdc.hold then s.endCmd c.id 0x0B 0
    else if s.cdc.asked.isSome then s
    else { s.updCmd c.id fun c => { c with phase := .running } with cdc := { s.cdc with asked := some (c.id, c.base, dLen c.desc / 4096) } })

/-! ## SET_POLICY (R109, R347) -/

/-- SET_POLICY_CAPACITY_CONTRACT (R109, R113, R347). -/
def execSetPolicyCapacityContract (cmd : Nat) (s : State) : Host.Outcome State Fault Refusal :=
  .next (s.startOp cmd (fun c => isOp 0x0F c && dArg0 c.desc % 256 == 1) fun s c =>
    let v := dArg1 c.desc % 65536
    let s := s.updPort c.head fun p => { p with elasticMax := v, accepted := v != 0 }
    (if v = 0 then s.lapseOffer c.head else s).endCmd c.id 0 0)

/-- The entries of SET_POLICY kind 0x02: offset, mask and value. -/
def policyEntries (d : LineData) : List (Nat × Word × Word) :=
  [8, 20, 48].map fun b => (lineNat d b 4, BitVec.ofNat 32 (lineNat d (b + 4) 4), BitVec.ofNat 32 (lineNat d (b + 8) 4))

/-- Does an offset name an RWL register outside GEN, CRY and the region tables? -/
def policyOffset (off : Nat) : Bool :=
  decide (0x10000 ≤ off) && !(decide (0x610000 ≤ off) && decide (off < 0x620000)) &&
    !((prtReg off).isSome && decide (0x800 ≤ off % 0x10000) && decide (off % 0x10000 < 0x890)) && (regAt off).any fun r => r.rwl != 0

/-- Apply one entry as if the lock were open; the answer says whether its register's own rules discarded it. -/
def State.policyWrite (s : State) (x : Nat × Word × Word) : State × Bool :=
  let w1c := ((regAt x.1).map (·.w1c)).getD 0
  s.putReg x.1 ((s.word x.1 &&& ~~~ x.2.1 &&& ~~~ w1c) ||| (x.2.2 &&& x.2.1)) false

/-- SET_POLICY_REGISTER (R347, R372): one bad offset and nothing is applied. -/
def execSetPolicyRegister (cmd : Nat) (s : State) : Host.Outcome State Fault Refusal :=
  .next (s.startOp cmd (fun c => dPolicy2 c.desc) fun s c =>
    let xs := policyEntries c.desc
    if xs.any fun x => x.2.1 != 0 && !policyOffset x.1 then s.endCmd c.id 2 0
    else
      let r := xs.foldl (fun (a : State × Nat × Nat) x =>
        if x.2.1 = 0 then (a.1, a.2.1, 2 * a.2.2)
        else
          let t := a.1.policyWrite x
          (t.1, a.2.1 + (if t.2 then a.2.2 else 0), 2 * a.2.2)) (s, 0, 1)
      (r.1.staleDomains (List.range 58)).endCmd c.id 0 r.2.1)

end Sys2Proof.Machine
end

