-- ==== Sys2Proof/Machine/Mailbox.lean ====
section
/-! DEFINITION. The standard mailbox of each head (R35, R36, R112 to R115, R353, R354). -/

namespace Sys2Proof.Machine

/-- Answer a mailbox command at once with a value of the state. -/
def State.mbxAnswer (s : State) (h : Head) (i : Instr) (r : State → Reply) : State := s.mailbox h i fun s => s.mbxReply h (r s)

/-- *Mailbox commands* that are supported. -/
def mailboxOps : List Nat :=
  [0x0001, 0x0002, 0x0100, 0x0101, 0x0102, 0x0103, 0x0200, 0x0300, 0x0301, 0x0400, 0x0401, 0x4000, 0x4100, 0x4200, 0x4201, 0x4202,
   0x4300, 0x4301, 0x4302, 0x4800, 0x4801, 0x4802, 0x4803, 0xC000]

/-! ## Identity, logs, policies -/

/-- IDENTIFY (R353): the values are the product's own. -/
def execIdentify (h : Head) (s : State) : Host.Outcome State Fault Refusal := .next (s.mbxAnswer h (.identify h) fun _ => .bytes Config.identity)

/-- The words of Background Operation Status: the opcode of the last background operation, whether it runs, and its return code. -/
def bgWords (b : Option Background) : List Nat :=
  match b with
  | none => [0, 0, 0]
  | some b => [b.cmd, b.running.toNat, b.ret]

/-- BACKGROUND_OPERATION_STATUS (R353, R354). -/
def execBackgroundOperationStatus (h : Head) (s : State) : Host.Outcome State Fault Refusal :=
  .next (s.mbxAnswer h (.backgroundOperationStatus h) fun s => .nats (bgWords (s.port h).bg))

/-- The records of a head's log, oldest first. -/
def State.logOf (s : State) (h : Head) (l : EventLog) : List EventRec := s.events.filter fun r => r.head == h && r.log == l

/-- GET_EVENT_RECORDS (R35). -/
def execGetEventRecords (h : Head) (log : EventLog) (s : State) : Host.Outcome State Fault Refusal :=
  .next (s.mbxAnswer h (.getEventRecords h log) fun s => .events (s.logOf h log))

/-- CLEAR_EVENT_RECORDS (R353): every record of the log, or the records of the given handles; a handle that the log does not hold clears nothing. -/
def execClearEventRecords (h : Head) (log : EventLog) (handles : Option (List Nat)) (s : State) : Host.Outcome State Fault Refusal :=
  .next (s.mailbox h (.clearEventRecords h log handles) fun s =>
    match handles with
    | none => ({ s with events := s.events.filter fun r => !(r.head == h && r.log == log) }).mbxReply h .ok
    | some ns =>
      if ns.all fun n => (s.logOf h log).any (·.handle == n) then
        ({ s with events := s.events.filter fun r => !(r.head == h && r.log == log && ns.contains r.handle) }).mbxReply h .ok
      else s.mbxReply h (.refused "INVALID_HANDLE"))

/-- GET_EVENT_INTERRUPT_POLICY (R353). -/
def execGetEventInterruptPolicy (h : Head) (s : State) : Host.Outcome State Fault Refusal :=
  .next (s.mbxAnswer h (.getEventInterruptPolicy h) fun s => .policy (s.port h).evtPolicy)

/-- SET_EVENT_INTERRUPT_POLICY (R350, R353). -/
def execSetEventInterruptPolicy (h : Head) (p : EventPolicy) (s : State) : Host.Outcome State Fault Refusal :=
  .next (s.mailbox h (.setEventInterruptPolicy h p) fun s => (s.updPort h fun q => { q with evtPolicy := p }).mbxReply h .ok)

/-- GET_FW_INFO (R353): slots A and B, and the one to be tried at the next MGT restart. -/
def execGetFwInfo (h : Head) (s : State) : Host.Outcome State Fault Refusal :=
  .next (s.mbxAnswer h (.getFwInfo h) fun s => .fwInfo s.aon.activeB (s.aon.slotA.map (·.svn)) (s.aon.slotB.map (·.svn)) s.aon.pendingFw)

/-- GET_TIMESTAMP (R353). -/
def execGetTimestamp (h : Head) (s : State) : Host.Outcome State Fault Refusal := .next (s.mbxAnswer h (.getTimestamp h) fun s => .quad s.tb)

/-- TB takes a value, and the TB_SET record carries the old and the new (R36, R423). -/
def State.setTb (s : State) (v : BitVec 64) : State :=
  let r := s.panRec 0 0 0 3 0 0 0 0x750000 false (leBytes 8 s.tb.toNat ++ leBytes 8 v.toNat)
  ({ s with tb := v }).panEnter r

/-- SET_TIMESTAMP (R36): through the owner head or the sideband. -/
def execSetTimestamp (w : Via) (v : BitVec 64) (s : State) : Host.Outcome State Fault Refusal :=
  match w with
  | .sideband => .next (s.sideband (.setTimestamp w v) fun s => (s.setTb v).send (.sideband .ok))
  | .head h => .next (s.mailbox h (.setTimestamp w v) fun s =>
      if h = s.owner then (s.setTb v).mbxReply h .ok else s.mbxReply h (.refused "UNSUPPORTED"))

/-- GET_SUPPORTED_LOGS (R353). -/
def execGetSupportedLogs (h : Head) (s : State) : Host.Outcome State Fault Refusal :=
  .next (s.mbxAnswer h (.getSupportedLogs h) fun _ => .names ["Command Effects Log"])

/-- GET_LOG (R353): each supported opcode with its effects word. -/
def execGetLog (h : Head) (s : State) : Host.Outcome State Fault Refusal :=
  .next (s.mbxAnswer h (.getLog h) fun _ => .nats (mailboxOps.flatMap fun n => [n, Config.effects n]))

/-! ## The memory device -/

/-- Volatile capacity of a head in 256 MiB units: its static region; Dynamic Capacity is reported apart. -/
def State.staticUnits (s : State) (h : Head) : Nat := if (s.region h 0).valid then (s.region h 0).size / 128 else 0

/-- IDENTIFY_MEMORY_DEVICE (R353): total, volatile and persistent capacity, LSA size, poison list size. -/
def execIdentifyMemoryDevice (h : Head) (s : State) : Host.Outcome State Fault Refusal :=
  .next (s.mbxAnswer h (.identifyMemoryDevice h) fun s => .nats [s.staticUnits h, s.staticUnits h, 0, 0, 1024])

/-- GET_PARTITION_INFO (R353): active volatile and persistent capacity, and what is pending of each. -/
def execGetPartitionInfo (h : Head) (s : State) : Host.Outcome State Fault Refusal :=
  .next (s.mbxAnswer h (.getPartitionInfo h) fun s => .nats [s.staticUnits h, 0, 0, 0])

/-- GET_HEALTH_INFO (R353): the spec does not give its content. -/
def execGetHealthInfo (h : Head) (s : State) : Host.Outcome State Fault Refusal :=
  .next (s.mailbox h (.getHealthInfo h) fun s => s.takeFree.mbxReply h (.bytes (Config.freeBytes s.free)))

/-- GET_ALERT_CONFIGURATION (R353). -/
def execGetAlertConfiguration (h : Head) (s : State) : Host.Outcome State Fault Refusal :=
  .next (s.mbxAnswer h (.getAlertConfiguration h) fun s => .bytes (leBytes 12 (s.port h).alertCfg.toNat))

/-- SET_ALERT_CONFIGURATION (R353). -/
def execSetAlertConfiguration (h : Head) (cfg : BitVec 96) (s : State) : Host.Outcome State Fault Refusal :=
  .next (s.mailbox h (.setAlertConfiguration h cfg) fun s => (s.updPort h fun p => { p with alertCfg := cfg }).mbxReply h .ok)

/-! ## Poison -/

/-- Listed lines that a head maps. -/
def State.poisonOf (s : State) (h : Head) : List Nat := s.poisonList.filter fun l => (s.regionsOf h).any (·.hasExt (extOf l))

/-- GET_POISON_LIST (R353): the overflow flag, then the DPAs of at most 1,024 lines. -/
def execGetPoisonList (h : Head) (s : State) : Host.Outcome State Fault Refusal :=
  .next (s.mbxAnswer h (.getPoisonList h) fun s =>
    let ls := s.poisonOf h
    .nats ((decide (1024 < ls.length)).toNat :: (ls.take 1024).map (64 * ·)))

/-- A 64-byte write of a mailbox command, ordered at its home slice as a host write of the head: its reply comes when the write completes. With no entry free in the CMD partition it waits for one (R56). An address that the head does not map, or that is not a line's, is refused. -/
def State.mbxWrite (s : State) (h : Head) (hdpa : Nat) (d : LineData) (poison : Bool) : State :=
  match s.regionAt h hdpa with
  | none => s.mbxReply h (.refused "INVALID_PHYSICAL_ADDRESS")
  | some g =>
    if hdpa % 64 ≠ 0 then s.mbxReply h (.refused "INVALID_PHYSICAL_ADDRESS")
    else
      let r := s.newEntry h .inner (.wr .i) 0 hdpa (g.dpa hdpa / 64) g.db fullMask d poison
      let r := { r with synthetic := true }
      if s.partRoom 9 then (s.pushEntry r).serve r.id else s.pushEntry { r with phase := .part }

/-- INJECT_POISON (R353). -/
def execInjectPoison (h : Head) (hdpa : BitVec 46) (s : State) : Host.Outcome State Fault Refusal :=
  .next (s.mailbox h (.injectPoison h hdpa) fun s => s.mbxWrite h hdpa.toNat 0 true)

/-- CLEAR_POISON (R17, R353). -/
def execClearPoison (h : Head) (hdpa : BitVec 46) (data : LineData) (s : State) : Host.Outcome State Fault Refusal :=
  .next (s.mailbox h (.clearPoison h hdpa data) fun s => s.mbxWrite h hdpa.toNat data false)

/-! ## Dynamic Capacity (R112 to R115) -/

/-- Base, length and block size of a Dynamic Capacity region, in bytes. -/
def dcRegion (r : Region) : List Nat := [if r.valid then r.hbase * 2097152 else 0, if r.valid then r.size * 2097152 else 0, 68719476736]

/-- The eight Dynamic Capacity regions of a head: their number, then each. -/
def State.dcConfig (s : State) (h : Head) : List Nat := 8 :: (([1, 2, 3, 4, 5, 6, 7, 8] : List (Fin 9)).flatMap fun e => dcRegion (s.region h e))

/-- The elastic extents of a head: their number, then base and length of each, in bytes. -/
def State.dcExtents (s : State) (h : Head) : List Nat :=
  let rs := s.elasticOf h
  rs.length :: rs.flatMap fun r => [r.hbase * 2097152, r.size * 2097152]

/-- GET_DYNAMIC_CAPACITY_CONFIGURATION (R353). -/
def execGetDynamicCapacityConfiguration (h : Head) (s : State) : Host.Outcome State Fault Refusal :=
  .next (s.mbxAnswer h (.getDynamicCapacityConfiguration h) fun s => .nats (s.dcConfig h))

/-- GET_DYNAMIC_CAPACITY_EXTENT_LIST (R353). -/
def execGetDynamicCapacityExtentList (h : Head) (s : State) : Host.Outcome State Fault Refusal :=
  .next (s.mbxAnswer h (.getDynamicCapacityExtentList h) fun s => .nats (s.dcExtents h))

/-- Is the place of an offer still free: its entry, and its HDPA and DPA ranges? -/
def State.offerFits (s : State) (h : Head) (o : Offer) : Bool :=
  !(s.region h o.e).valid && !s.rgnBusy h o.e &&
    !((s.regionsOf h).any fun r => overlaps r.hbase r.size o.hbase o.size) && !(s.allRegions.any fun r => overlaps r.dbase r.size o.dbase o.size)

/-- ADD_DYNAMIC_CAPACITY_RESPONSE (R112, R113): the whole extent, or none of it; a part lapses the offer with Invalid Input. -/
def execAddDynamicCapacityResponse (h : Head) (a : OfferAnswer) (s : State) : Host.Outcome State Fault Refusal :=
  .next (s.mailbox h (.addDynamicCapacityResponse h a) fun s =>
    match (s.port h).offer with
    | none => s.mbxReply h (.refused "INVALID_INPUT")
    | some o =>
      match a with
      | .whole => if s.offerFits h o then (s.acceptOffer h o).mbxReply h .ok else (s.lapseOffer h).mbxReply h (.refused "INVALID_INPUT")
      | .refuse => (s.lapseOffer h).mbxReply h .ok
      | .partly => (s.lapseOffer h).mbxReply h (.refused "INVALID_INPUT"))

/-- A background operation runs on the mailbox. -/
def State.bgBusy (s : State) (h : Head) : Bool := (s.port h).bg.any (·.running)

/-- Begin a background operation. -/
def State.beginBackground (s : State) (h : Head) (op : Nat) : State := (s.updPort h fun p => { p with bg := some ⟨true, op, 0⟩ }).mbxReply h .started

/-- The descriptor by which an extent is released: RELEASE_RANGE of its range. -/
def releaseDesc (a n : Nat) : LineData := lineOf ([0x07, 0, 0, 0, 0, 0, 0, 0] ++ leBytes 8 a ++ leBytes 8 n)

/-- Does a range name one whole elastic extent of the head? -/
def State.wholeExtent (s : State) (h : Head) (x : BitVec 46 × BitVec 46) : Bool :=
  (s.elasticOf h).any fun r => r.hbase * 2097152 == x.1.toNat && r.size * 2097152 == x.2.toNat

/-- RELEASE_DYNAMIC_CAPACITY (R115): whole elastic extents of the head, as a background operation that commits each as RELEASE_RANGE does. -/
def execReleaseDynamicCapacity (h : Head) (ranges : List (BitVec 46 × BitVec 46)) (s : State) : Host.Outcome State Fault Refusal :=
  .next (s.mailbox h (.releaseDynamicCapacity h ranges) fun s =>
    if s.bgBusy h then s.mbxReply h (.refused "BUSY")
    else if ranges.isEmpty || !ranges.all (s.wholeExtent h) || distinct ranges != ranges then s.mbxReply h (.refused "INVALID_INPUT")
    else
      let s := s.beginBackground h 0x4803
      ranges.foldl (fun (s : State) x =>
        s.addCmd { s.newCmd none h (releaseDesc x.1.toNat x.2.toNat) 0 false with phase := .running, status := 0 }) s)

/-! ## Execute Descriptor (R354) -/

/-- EXECUTE_DESCRIPTOR (R354): opcodes with commit steps run as a background operation, one at a time. -/
def execExecuteDescriptor (h : Head) (d : BitVec 512) (s : State) : Host.Outcome State Fault Refusal :=
  .next (s.mailbox h (.executeDescriptor h d) fun s =>
    let c := s.newCmd none h d 0 false
    if dSteps d && c.phase == .fetched then
      if s.bgBusy h then s.mbxReply h (.refused "BUSY")
      else (s.beginBackground h 0xC000).addCmd c
    else s.addCmd c)

/-- MAILBOX_UNSUPPORTED (R353). -/
def execMailboxUnsupported (h : Head) (opcode : BitVec 16) (s : State) : Host.Outcome State Fault Refusal :=
  if mailboxOps.contains opcode.toNat then .next s
  else .next (s.mbxAnswer h (.mailboxUnsupported h opcode) fun _ => .refused "UNSUPPORTED")

end Sys2Proof.Machine
end

