-- ==== Sys2Proof/Machine/Sideband.lean ====
section
/-! DEFINITION. The sideband: MCTP control, PLDM monitoring, the CXL Fabric Manager API and the vendor commands (R440 to R443). -/

namespace Sys2Proof.Machine

/-- Answer over the sideband. -/
def State.sbSend (s : State) (r : Reply) : State := s.send (.sideband r)

/-! ## Control (R440, R441): Kickstand answers before an EID is assigned -/

/-- An MCTP control message. -/
def State.control (s : State) (g : State → State) : State := if s.sbUp then g s else s

/-- SET_ENDPOINT_ID (R440). -/
def execSetEndpointId (eid : BitVec 8) (s : State) : Host.Outcome State Fault Refusal :=
  .next (s.control fun s => { s with aon := { s.aon with eid := eid } }.sbSend .ok)

/-- GET_ENDPOINT_ID (R441). -/
def execGetEndpointId (s : State) : Host.Outcome State Fault Refusal := .next (s.control fun s => s.sbSend (.nats [s.aon.eid.toNat]))

/-- GET_MCTP_VERSION_SUPPORT (R441). -/
def execGetMctpVersionSupport (s : State) : Host.Outcome State Fault Refusal := .next (s.control fun s => s.sbSend (.bytes Config.mctpVersions))

/-- GET_MESSAGE_TYPE_SUPPORT (R441): *Sideband message types*. -/
def execGetMessageTypeSupport (s : State) : Host.Outcome State Fault Refusal := .next (s.control fun s => s.sbSend (.nats [0x00, 0x01, 0x05, 0x06, 0x07, 0x7E]))

/-- GET_ENDPOINT_UUID (R441). -/
def execGetEndpointUuid (s : State) : Host.Outcome State Fault Refusal := .next (s.control fun s => s.sbSend (.bytes Config.uuid))

/-! ## PLDM (R442) -/

/-- The value of a sensor other than a counter. -/
def State.sensorValue (s : State) : Sensor → Reply
  | .die i => .numbers [s.cad.die.get 0 i]
  | .dimm n => .numbers [s.cad.dimm.get 0 n]
  | .rail _ => .word (Config.freeWord s.free)
  | .iin => .nats [s.f Reg.HSW_MEAS.IIN_DA]
  | .devPower => .nats [s.f Reg.CAD_POWER.DEV_DW]
  | .dramPower => .nats [s.f Reg.CAD_POWER.DRAM_DW]
  | .state i => .nats [(s.stateSensors[i.val]?).getD 0]

/-- The 64 bits of counter `n` = 76g + i of the sensor numbers: always-running counters to 71, then the general ones (R420, R442). -/
def State.counterSensor (s : State) (n : Nat) : BitVec 64 :=
  if n % 76 < 72 then s.alwaysWord (n / 76) (n % 76) else s.generalWord (4 * (n / 76) + (n % 76 - 72))

/-- A read of a counter sensor: the low one latches the high half (R5, R442). -/
def State.readCounter (s : State) (id : Nat) : State :=
  let k := id - 0x4000
  let key := 9 * 2 ^ 24 + k / 2
  if k % 2 = 0 then
    let v := s.counterSensor (k / 2)
    { s with latches := s.latches.set 0 key ((v >>> 32).setWidth 32) }.sbSend (.word (v.setWidth 32))
  else s.sbSend (.word (s.latches.get 0 key))

/-- PLDM_SENSOR_READ (R442): sensors other than counters have the numbers of the PDR repository. -/
def execPldmSensorRead (id : BitVec 16) (s : State) : Host.Outcome State Fault Refusal :=
  .next (s.sideband (.pldmSensorRead id) fun s =>
    if 0x4000 ≤ id.toNat ∧ id.toNat ≤ 0x497F then s.readCounter id.toNat
    else match Config.sensorOf id.toNat with
      | none => s.sbSend (.refused "INVALID_SENSOR_ID")
      | some x => s.takeFree.sbSend (s.sensorValue x))

/-- SET_EVENT_RECEIVER (R442). -/
def execSetEventReceiver (eid : Option (BitVec 8)) (s : State) : Host.Outcome State Fault Refusal :=
  .next (s.sideband (.setEventReceiver eid) fun s => { s with aon := { s.aon with receiver := eid } }.sbSend .ok)

/-- ACTIVATE_FIRMWARE (R438, R442). -/
def execActivateFirmware (s : State) : Host.Outcome State Fault Refusal :=
  .next (s.sideband .activateFirmware fun s => (s.sbSend .ok).restartMgt .activateFirmware)

/-! ## Fabric-manager commands (R443) -/

/-- FM_IDENTIFY (R443). -/
def execFmIdentify (s : State) : Host.Outcome State Fault Refusal := .next (s.sideband .fmIdentify fun s => s.sbSend (.bytes Config.identity))

/-- FM_BACKGROUND_OPERATION_STATUS (R443): no supported command of the FM API runs in the background. -/
def execFmBackgroundOperationStatus (s : State) : Host.Outcome State Fault Refusal :=
  .next (s.sideband .fmBackgroundOperationStatus fun s => s.sbSend (.nats (bgWords none)))

/-- FM_GET_RESPONSE_MESSAGE_LIMIT (R443). -/
def execFmGetResponseMessageLimit (s : State) : Host.Outcome State Fault Refusal :=
  .next (s.sideband .fmGetResponseMessageLimit fun s => s.sbSend (.nats [s.mgt.fmLimit.toNat]))

/-- FM_SET_RESPONSE_MESSAGE_LIMIT (R443). -/
def execFmSetResponseMessageLimit (limit : BitVec 8) (s : State) : Host.Outcome State Fault Refusal :=
  .next (s.sideband (.fmSetResponseMessageLimit limit) fun s => { s with mgt := { s.mgt with fmLimit := limit } }.sbSend .ok)

/-- GET_MULTI_HEADED_INFO (R443): the number of heads, then the engine of each. -/
def execGetMultiHeadedInfo (s : State) : Host.Outcome State Fault Refusal :=
  .next (s.sideband .getMultiHeadedInfo fun s => s.sbSend (.nats (s.heads.length :: s.heads.map (·.val))))

/-- An answer about a head that the straps present. -/
def State.ofHead (s : State) (h : Head) (r : Reply) : State := s.sbSend (if h ∈ s.heads then r else .refused "INVALID_INPUT")

/-- GET_HEAD_INFO (R443): rate, width and link state. -/
def execGetHeadInfo (h : Head) (s : State) : Host.Outcome State Fault Refusal :=
  .next (s.sideband (.getHeadInfo h) fun s => s.ofHead h (.nats [(s.port h).rate, (s.port h).width, (s.port h).up.toNat]))

/-- GET_DCD_INFO (R443): hosts, regions per host, block size. -/
def execGetDcdInfo (s : State) : Host.Outcome State Fault Refusal :=
  .next (s.sideband .getDcdInfo fun s => s.sbSend (.nats [s.heads.length, 8, 68719476736]))

/-- GET_HOST_DC_REGION_CONFIGURATION (R443). -/
def execGetHostDcRegionConfiguration (h : Head) (s : State) : Host.Outcome State Fault Refusal :=
  .next (s.sideband (.getHostDcRegionConfiguration h) fun s => s.ofHead h (.nats (s.dcConfig h)))

/-- GET_DC_REGION_EXTENT_LISTS (R443). -/
def execGetDcRegionExtentLists (h : Head) (s : State) : Host.Outcome State Fault Refusal :=
  .next (s.sideband (.getDcRegionExtentLists h) fun s => s.ofHead h (.nats (s.dcExtents h)))

/-- FM_UNSUPPORTED (R443). -/
def execFmUnsupported (opcode : BitVec 16) (s : State) : Host.Outcome State Fault Refusal :=
  .next (s.sideband (.fmUnsupported opcode) fun s => s.sbSend (.refused "UNSUPPORTED"))

/-! ## Vendor commands (R441) -/

/-- A vendor command that Kickstand serves: it needs an EID and the standby rails. -/
def State.kickServes (s : State) (g : State → State) : State := if s.sbUp && s.aon.eid != 0 then g s else s

/-- READ_REGISTER (R5, R441): Kickstand serves GEN_ID and the HSW, BBX and SNS blocks, Clandahar the rest. -/
def execReadRegister (off : BitVec 24) (s : State) : Host.Outcome State Fault Refusal :=
  let g (s : State) : State :=
    let r := s.readWord .sideband (off.toNat / 4 * 4)
    r.2.send (.register .sideband (off.toNat / 4 * 4) r.1)
  if off.toNat / 4 == 0 || aonReg off.toNat then .next (s.kickServes g) else .next (s.sideband (.readRegister off) g)

/-- The HSW and BBX blocks. -/
def kickWrites (off : Nat) : Bool := (decide (0x730000 ≤ off) && decide (off < 0x740000)) || (decide (0x750000 ≤ off) && decide (off < 0x760000))

/-- WRITE_REGISTER (R441): with the rights of the owner head; Kickstand serves the HSW and BBX blocks. -/
def execWriteRegister (off : BitVec 24) (v : Word) (s : State) : Host.Outcome State Fault Refusal :=
  let g (s : State) : State := (s.writeWord .sideband (off.toNat / 4 * 4) v).sbSend .ok
  if kickWrites off.toNat then .next (s.kickServes g) else .next (s.sideband (.writeRegister off v) g)

/-- READ_PANNIER_SLOT (R430, R441): RESULT, then the 256 bytes, all read. -/
def execReadPannierSlot (pinned : Bool) (slot : BitVec 16) (s : State) : Host.Outcome State Fault Refusal :=
  .next (s.kickServes fun s =>
    let s := s.fetchSlot .sideband pinned slot
    let c := s.readCtx .sideband
    (s.setCtx .sideband { c with ptr := 64 }).sbSend (.bytes (BitVec.ofNat 8 c.result.toNat :: padTo 256 c.buf)))

/-- CLEAR_PINNED (R427, R441). -/
def execClearPinned (s : State) : Host.Outcome State Fault Refusal := .next (s.kickServes fun s => s.pinErase.sbSend .ok)

/-- DEVICE_RESET_COMMAND (R436, R441): refused while HSW_PG is low. -/
def execDeviceResetCommand (s : State) : Host.Outcome State Fault Refusal :=
  .next (s.kickServes fun s => if s.hsw.pg then (s.sbSend .ok).deviceReset else s.sbSend (.refused "HSW_PG"))

/-- MGT_RESTART_COMMAND (R438, R441): refused while HSW_PG is low. -/
def execMgtRestartCommand (s : State) : Host.Outcome State Fault Refusal :=
  .next (s.kickServes fun s => if s.hsw.pg then (s.sbSend .ok).restartMgt .vendorCommand else s.sbSend (.refused "HSW_PG"))

end Sys2Proof.Machine
end

