-- ==== Sys2Proof/Machine/Held.lean ====
section
/-! DEFINITION. The ready point of MGT and the wake of a domain, with the mailbox and sideband work that waited for them (R321, R322, R366, R368, R438, R439). -/

namespace Sys2Proof.Machine

/-- The state after a meaning that ends in a next state. -/
def after (s : State) : Host.Outcome State Fault Refusal → State
  | .next t => t
  | _ => s

/-- Run a mailbox command or a sideband message that was held. -/
def runHeld (i : Instr) (s : State) : State :=
  match i with
  | .identify h => after s (execIdentify h s)
  | .backgroundOperationStatus h => after s (execBackgroundOperationStatus h s)
  | .getEventRecords h l => after s (execGetEventRecords h l s)
  | .clearEventRecords h l n => after s (execClearEventRecords h l n s)
  | .getEventInterruptPolicy h => after s (execGetEventInterruptPolicy h s)
  | .setEventInterruptPolicy h p => after s (execSetEventInterruptPolicy h p s)
  | .getFwInfo h => after s (execGetFwInfo h s)
  | .getTimestamp h => after s (execGetTimestamp h s)
  | .setTimestamp w v => after s (execSetTimestamp w v s)
  | .getSupportedLogs h => after s (execGetSupportedLogs h s)
  | .getLog h => after s (execGetLog h s)
  | .identifyMemoryDevice h => after s (execIdentifyMemoryDevice h s)
  | .getPartitionInfo h => after s (execGetPartitionInfo h s)
  | .getHealthInfo h => after s (execGetHealthInfo h s)
  | .getAlertConfiguration h => after s (execGetAlertConfiguration h s)
  | .setAlertConfiguration h c => after s (execSetAlertConfiguration h c s)
  | .getPoisonList h => after s (execGetPoisonList h s)
  | .injectPoison h a => after s (execInjectPoison h a s)
  | .clearPoison h a d => after s (execClearPoison h a d s)
  | .getDynamicCapacityConfiguration h => after s (execGetDynamicCapacityConfiguration h s)
  | .getDynamicCapacityExtentList h => after s (execGetDynamicCapacityExtentList h s)
  | .addDynamicCapacityResponse h a => after s (execAddDynamicCapacityResponse h a s)
  | .releaseDynamicCapacity h r => after s (execReleaseDynamicCapacity h r s)
  | .executeDescriptor h d => after s (execExecuteDescriptor h d s)
  | .mailboxUnsupported h o => after s (execMailboxUnsupported h o s)
  | .spdmSession w r => after s (execSpdmSession w r s)
  | .showStatus w => after s (execShowStatus w s)
  | .getCertificate w => after s (execGetCertificate w s)
  | .challenge w n => after s (execChallenge w n s)
  | .getMeasurements w => after s (execGetMeasurements w s)
  | .getKemKey w => after s (execGetKemKey w s)
  | .generateSlot w k => after s (execGenerateSlot w k s)
  | .importSlot w k x => after s (execImportSlot w k x s)
  | .retireSlot w k => after s (execRetireSlot w k s)
  | .destroySlot w k => after s (execDestroySlot w k s)
  | .setUserRoots w r => after s (execSetUserRoots w r s)
  | .setIdePolicy w b => after s (execSetIdePolicy w b s)
  | .selfTest w r => after s (execSelfTest w r s)
  | .advanceSvn w => after s (execAdvanceSvn w s)
  | .zeroizeAll w => after s (execZeroizeAll w s)
  | .pldmFirmwareUpdate x => after s (execPldmFirmwareUpdate x s)
  | .pldmSensorRead n => after s (execPldmSensorRead n s)
  | .setEventReceiver e => after s (execSetEventReceiver e s)
  | .activateFirmware => after s (execActivateFirmware s)
  | .fmIdentify => after s (execFmIdentify s)
  | .fmBackgroundOperationStatus => after s (execFmBackgroundOperationStatus s)
  | .fmGetResponseMessageLimit => after s (execFmGetResponseMessageLimit s)
  | .fmSetResponseMessageLimit l => after s (execFmSetResponseMessageLimit l s)
  | .getMultiHeadedInfo => after s (execGetMultiHeadedInfo s)
  | .getHeadInfo h => after s (execGetHeadInfo h s)
  | .getDcdInfo => after s (execGetDcdInfo s)
  | .getHostDcRegionConfiguration h => after s (execGetHostDcRegionConfiguration h s)
  | .getDcRegionExtentLists h => after s (execGetDcRegionExtentLists h s)
  | .fmUnsupported o => after s (execFmUnsupported o s)
  | .readRegister o => after s (execReadRegister o s)
  | .writeRegister o v => after s (execWriteRegister o v s)
  | _ => s

/-- Everything that was held runs, the mailboxes' commands first; what must wait again is held again. -/
def State.runAll (s : State) : State :=
  let s := s.mgt.held.foldl (fun s x => runHeld x.2 s) s
  let sb := s.mgt.heldSb
  sb.foldl (fun s i => runHeld i s) { s with mgt := { s.mgt with heldSb := [] } }

/-- The mailbox and sideband work that waited for PD_MGT runs once it is ON, after a wake or a rollback (R363, R368). -/
def State.heldDone (s : State) (d : Nat) : State := if d = 1 ∧ s.mgtUp = true then s.runAll else s

/-- DOMAIN_WAKE (R366, R368): the work that waited for PD_MGT runs once it is ON. -/
def execDomainWake (d : DomainId) (src : WakeSource) (chk : WakeChecks) (s : State) : Host.Outcome State Fault Refusal :=
  .next ((s.wake d.val src chk).heldDone d.val)

/-- PARTICIPANT_STOPPED (R362, R364): the last answer brings the commit checks. -/
def execParticipantStopped (d : DomainId) (unit : Nat) (s : State) : Host.Outcome State Fault Refusal :=
  match (s.dom d.val).st with
  | .stopping off =>
    if decide (participants (domKind d.val) ≤ unit) || (s.dom d.val).stopped.contains unit || s.openWork d.val then .next s
    else
      let s := s.updDom d.val fun x => { x with stopped := x.stopped ++ [unit] }
      .next (if (s.dom d.val).stopped.length = participants (domKind d.val) then (s.commitEntry d.val off).heldDone d.val else s)
  | _ => .next s

/-- PARTICIPANT_REFUSE (R363, R364). -/
def execParticipantRefuse (d : DomainId) (unit : Nat) (code : Fin 16) (s : State) : Host.Outcome State Fault Refusal :=
  match (s.dom d.val).st with
  | .stopping _ =>
    if decide (participants (domKind d.val) ≤ unit) || (s.dom d.val).stopped.contains unit || !refusesWith (domKind d.val) unit code.val then .next s
    else .next ((s.refuse d.val unit code.val).heldDone d.val)
  | _ => .next s

/-- STOP_TIMEOUT (R363): NO_ANSWER. -/
def execStopTimeout (d : DomainId) (s : State) : Host.Outcome State Fault Refusal :=
  match (s.dom d.val).st with
  | .stopping _ => .next ((s.refuse d.val 0xFF 2).heldDone d.val)
  | _ => .next s

/-- The slot that the ROM runs: the one marked active, or, for a PENDING image, the other; then the remaining one (R321, R322). `true` is slot B. -/
def State.bootSlot (s : State) (imgA imgB : Bool) : Option (Bool × FwImage) :=
  let try_ (b : Bool) : Option (Bool × FwImage) :=
    ((if b then s.aon.slotB else s.aon.slotA).filter fun i => s.imageOk i (if b then imgB else imgA)).map fun i => (b, i)
  let first := if s.aon.trying then !s.aon.activeB else s.aon.activeB
  match try_ first with
  | some x => some x
  | none => try_ (!first)

/-- The board profile of an image sets CLK_MODE at a device reset (R9, R433). -/
def State.loadProfile (s : State) (i : FwImage) : State :=
  match i.clkMode with
  | none => s
  | some m => heads8.foldl (fun s h => s.setF (Reg.PRTn_LINK_CFG.CLK_MODE.nth h.val) m.toNat) s

/-- Clandahar has reached its ready point with an image: a PENDING image that runs becomes the active one, and one that did not verify is no longer PENDING (R322). -/
def State.fwReady (s : State) (b : Bool) (i : FwImage) : State :=
  let start := s.aon.boot == .tested
  let s := if start then s.loadProfile i else s
  let s := { s with
    aon := { s.aon with
      running := some i, activeB := if s.aon.trying then b else s.aon.activeB
      pendingFw := s.aon.pendingFw && !s.aon.trying, trying := false, boot := if start then .firmware else s.aon.boot }
    cry := { s.cry with measured := some i.manifest, identity := s.cry.identity || start }
    mgt := { s.mgt with st := .running, dogAt := s.now } }
  (s.setF Reg.CMD_STATUS.MGT_PAUSE 0).runAll

/-- READY_POINT (R321, R322, R431, R438, R439): step 9 of a start, or the end of an MGT restart. Where neither image verifies, MGT stays in the recovery loader. -/
def execReadyPoint (imgA imgB : Bool) (s : State) : Host.Outcome State Fault Refusal :=
  if s.mgt.st != .booting || !s.mainRuns || !s.domOn 1 then .next s
  else match s.bootSlot imgA imgB with
    | none => .next { s with mgt := { s.mgt with st := .recovery }, aon := { s.aon with trying := false, pendingFw := false } }
    | some (b, i) => .next (s.fwReady b i)

end Sys2Proof.Machine
end

