-- ==== Sys2Proof/Machine/Pannier.lean ====
section
/-! DEFINITION. The Pannier: records raised, the programming of slots, erases, write tokens and the scan at power-up (R422 to R429). -/

namespace Sys2Proof.Machine

/-- PANNIER_RECORD_RAISE (R424): TIME is TB at the event, and REG_VAL the register's value then. -/
def execPannierRecordRaise (r : PanSrc) (s : State) : Host.Outcome State Fault Refusal :=
  .next (s.panEnter { s.panRec r.domain.val r.unit.toNat r.kind.toNat r.event r.sev.val r.addr.toNat r.addrKind.val r.regOff.toNat false r.detail with seq := 0 })

/-- SLOT_PROGRAM_DONE (R422): the slot holds its record, and the next queued one starts. -/
def execSlotProgramDone (s : State) : Host.Outcome State Fault Refusal :=
  match s.pan.programming with
  | none => .next s
  | some (r, pin, slot) => .next (s.panProgrammed r pin slot).panStart

/-- SECTOR_ERASE_DONE (R422): the sector after the one being written is erased, and writes go on. -/
def execSectorEraseDone (s : State) : Host.Outcome State Fault Refusal :=
  if !s.pan.erasing then .next s
  else
    let sec := (s.pan.next / 16 + 1) % 4096
    .next (State.panStart { s with pan := { s.pan with erasing := false, ring := s.pan.ring.filter fun p => p.1 / 16 != sec } })

/-- WRITE_TOKEN_REFILL (R426): one second's 8 tokens, up to 4,096. -/
def execWriteTokenRefill (s : State) : Host.Outcome State Fault Refusal :=
  if !s.aon.kick then .next s
  else
    .next (State.dropReport { s with pan := { s.pan with tokens := min 4096 (s.pan.tokens + 8) } })

/-- The valid records of an array with their slots. -/
def validRecs (t : Tbl PanSlot) : List (Nat × PanRec) :=
  t.filterMap fun p =>
    match p.2 with
    | .valid r => some (p.1, r)
    | _ => none

/-- The record with the highest SEQ. -/
def highestRec (rs : List (Nat × PanRec)) : Option (Nat × PanRec) :=
  rs.foldl (fun (a : Option (Nat × PanRec)) x =>
    match a with
    | none => some x
    | some b => if b.2.seq < x.2.seq then some x else a) none

/-- The first slot from `at_` that is not torn, and how many torn ones were skipped. -/
def skipTorn (t : Tbl PanSlot) : Nat → Nat → Nat × Nat
  | 0, at_ => (at_, 0)
  | n + 1, at_ =>
    match t.get PanSlot.erased at_ with
    | .torn => let r := skipTorn t n ((at_ + 1) % 65536); (r.1, r.2 + 1)
    | _ => (at_, 0)

/-- HSW_TRIP_LOG as a gate-off record gives it. -/
def tripWord (d : List Byte) : Word :=
  BitVec.ofNat 32 (2 ^ 31 + ofLe (d.take 1) % 16 * 2 ^ 27 + min 2047 (ofLe ((d.drop 1).take 4)) * 2 ^ 16 + min 65535 (ofLe ((d.drop 5).take 4)))

/-- What POWER_UP carries of HSW_TRIP_LOG: the register where it has logged a gate-off since standby good, else the last gate-off record of the die (R423, "A sled pulled with records queued"). -/
def State.tripLogFound (s : State) : Word :=
  if s.fb Reg.HSW_TRIP_LOG.VALID then s.word 0x730014
  else match highestRec ((validRecs s.pan.ring).filter fun x => x.2.gateOff) with
    | none => 0
    | some x => tripWord x.2.detail

/-- Number records from `q` upward in their order, with an EPOCH. -/
def renumber (q : BitVec 64) (e : BitVec 32) : List (PanRec × Bool) → List (PanRec × Bool)
  | [] => []
  | (r, x) :: l => ({ r with seq := q, epoch := e }, x) :: renumber (q + 1) e l

/-- PANNIER_SCAN_DONE (R425, R429): the write point follows the highest valid SEQ, EPOCH rises by one, and POWER_UP is written ahead of what has waited. -/
def execPannierScanDone (s : State) : Host.Outcome State Fault Refusal :=
  if !s.aon.kick || s.pan.ready then .next s
  else
    let rs := validRecs s.pan.ring
    let top := highestRec rs
    let start := match top with
      | none => 0
      | some x => (x.1 + 1) % 65536
    let (at_, torn) := skipTorn s.pan.ring 65536 start
    let q : BitVec 64 := (top.elim 0 (·.2.seq)) + 1
    let e : BitVec 32 := BitVec.ofNat 32 (rs.foldl (fun m x => max m x.2.epoch.toNat) 0 + 1)
    let s := if torn = 0 then s else (s.flag Reg.BBX_STATUS.TORN).count 15 28 torn
    let up := s.panRec 0 2 0 1 0 0 0 0x750000 false (leBytes 4 torn ++ leBytes 4 s.tripLogFound.toNat)
    let full := decide (64 ≤ s.pan.queue.length)
    let s := if full then s.panDrop up else s
    let queue := renumber q e (if full then s.pan.queue else (up, true) :: s.pan.queue)
    .next (State.panStart { s with pan := { s.pan with
      ready := true, next := at_, nextPin := s.pan.pinned.length, queue := queue, seq := q + BitVec.ofNat 64 queue.length, epoch := e } })

end Sys2Proof.Machine
end

