-- ==== Sys2Proof/Machine/Trimmer.lean ====
section
/-! DEFINITION. The Trimmer: the walk of the positions in use, what it does with a line, and the end of a lap (R284 to R289). -/

namespace Sys2Proof.Machine

/-- The absolute position and slot of an SA (R272): the direct area's data first, then the frame area. -/
def State.saPos (s : State) (sa : Nat) : PosSlot :=
  let m := sa / 512
  if m < s.dirFrames then s.directAt m else s.frameAt (m - s.dirFrames)

/-- Is an SA's position a mirrored one? -/
def State.saMirrored (s : State) (sa : Nat) : Bool :=
  !s.lean && (decide (sa / 512 < s.dirFrames) || !(s.drl.stripes.any fun t => t.pos == (s.saPos sa).pos - s.frameBase))

/-- The places that hold the line of an SA: its own, and its mirror copy's, which has no SA (R273, R285). -/
def State.saPlaces (s : State) (sa : Nat) : List PosSlot := s.saPos sa :: (if s.saMirrored sa then [copyPos s.w (s.saPos sa)] else [])

/-- The place on channel `c` that holds the line of an SA. -/
def State.saOn (s : State) (sa : Nat) (c : Chan) : Option PosSlot := (s.saPlaces sa).find? fun q => s.slotChan q.slot == some c

/-- The rank set of an SA. -/
def State.saRank (s : State) (sa : Nat) : RankSet := ⟨s.rankSetOf (s.saPos sa).pos % 8, Nat.mod_lt _ (by decide)⟩

/-- A lap that runs past twice its target: LAP_SLOW, a Warning event record and a Pannier record, once per lap (R289). -/
def State.lapSlow (s : State) : State :=
  if s.trm.slow || decide (s.now ≤ s.trm.lapStart + 2 * s.trimLap * 3600000000000) then s
  else
    let s := { s with trm := { s.trm with slow := true } }
    let s := (s.flag Reg.TRM_EVENTS.LAP_SLOW).event [s.owner] .warning .lapSlow 0
    s.pannier 3 0xFF 7 .lapSlow 1 0 0 0x250008 true

/-- Progress of the lap, per mille of the positions in use (TRM_STATUS). -/
def State.lapProgress (s : State) : Nat :=
  let ps := s.positionsInUse
  (ps.filter fun q => decide (q < s.trm.pos)).length * 1000 / max 1 ps.length

/-- A line that cannot be recovered enters the lost-line table; a full table records nothing further (R286 to R288). -/
def State.recordLost (s : State) (sa : Nat) (c : Chan) : State :=
  if s.trm.lost.contains sa || decide (1024 ≤ s.trm.lost.length) then s
  else
    let s := { s with trm := { s.trm with lost := s.trm.lost ++ [sa] } }
    let s := (s.flag Reg.TRM_EVENTS.LOST).count 11 21
    s.pannier (12 + c.val) 5 7 .lostLine 2 sa 2 0x250008 false

/-- The Trimmer rewrites a place of a line (R286). -/
def State.rewrite (s : State) (q : Option PosSlot) : State := (q.map fun q => s.chanIssue q (.engine q.pos true)).getD s

/-- *Trimmer actions* (R286): rewrites leave the stored value as it is. A stripe line is read as a whole, and a mirrored one from its other copy, before it is rewritten. -/
def State.trimFound (s : State) (sa : Nat) (c : Chan) (found : TrimFinding) : State :=
  match found with
  | .good => s
  | .errors b recovered =>
    match s.outerCode c b with
    | some ds => (s.corrected c (sa / 64) ds).rewrite (s.saOn sa c)
    | none =>
      let s := s.noteBurst c b.rank
      if recovered && !s.lean then
        let s := if s.saMirrored sa then ((s.saPlaces sa).find? fun q => s.slotChan q.slot != some c).elim s fun q => s.chanIssue q (.engine q.pos false) else s
        (s.rewrite (s.saOn sa c)).count 11 (if s.saMirrored sa then 16 else 17)
      else s.recordLost sa c
  | .poison => { s with trm := { s.trm with poisonSeen := s.trm.poisonSeen + 1 } }
  | .mirrorsDiffer primary =>
    if s.saMirrored sa then ((s.rewrite (if primary then some (s.saPos sa) else (s.saPlaces sa)[1]?)).flag Reg.TRM_EVENTS.MIRROR_FIX).count 11 19 else s
  | .parityWrong =>
    if s.lean || s.saMirrored sa then s
    else (((s.rewrite (some ⟨(s.saPos sa).pos, paritySlot s.w ((s.saPos sa).pos - s.frameBase)⟩)).flag Reg.TRM_EVENTS.PARITY_FIX).count 11 20).pannier (12 + c.val) 5 7 .parityFixed 1 sa 2 0x250008 false

/-- The data of a page whose dictionary slot is lost is lost with it: the page is committed POISONED as the Trimmer reaches it (R145). -/
def State.trimLostDict (s : State) (sa : Nat) : State :=
  if sa / 512 < s.dirFrames || !(s.cdc.dicts.any fun d => d.2.lost) then s
  else
    match s.cap.runs.find? (runHas (sa / 512 - s.dirFrames)) with
    | none => s
    | some r =>
      match (s.xlt.page.map (·.1)).find? fun p => (s.storageRec p).state == .deep && (s.storageRec p).loc == r.1 && (s.dict (s.storageRec p).dict).lost with
      | none => s
      | some p => s.loseLine (pageLine p) true

/-- The walk pays for 4 KiB at a time (R377). -/
def State.trimPaid (s : State) : Option State :=
  if s.trm.credit = 0 then (s.takeItem 3).map fun s => { s with trm := { s.trm with credit := 63 } }
  else some { s with trm := { s.trm with credit := s.trm.credit - 1 } }

/-- May the Trimmer read a line now: it walks, the channel holds the line, the line's position is in use and not behind the walk, and its channel serves C0 reads (R244, R282, R285)? -/
def State.mayTrim (s : State) (sa : Nat) (c : Chan) : Bool :=
  s.fb Reg.TRM_CFG.TRM_EN && s.cap.chans.contains c && s.chanRuns c && (s.chan c).band != 3 && !(s.chan c).resync && s.partRoom 11 && (s.saOn sa c).isSome &&
    s.posInUse (s.saPos sa).pos && decide (s.trm.pos ≤ (s.saPos sa).pos)

/-- A step of a returning channel's resynchronization (R282, R283): the next position in use is registered and its frame on the channel made again. The table holds 64 lines, 8 positions: with more, the write of the oldest has been issued. -/
def State.resyncStep (s : State) (c : Chan) : State :=
  match s.positionsInUse.find? fun q => decide ((s.chan c).cursor ≤ q) with
  | none => s.updChan c fun x => { x with resyncing := [] }
  | some q => (s.updChan c fun x => { x with cursor := q + 1, resyncing := (x.resyncing ++ [q]).drop (x.resyncing.length - 7) }).count 11 23 |>.countCmd c (.engine q true) 8

/-- TRIMMER_READ (R282, R284 to R288): a loss walk goes first; on a returning channel the resynchronization cursor takes a step; otherwise one line of the walk is read and its finding acted on. A parked rank is woken for it. -/
def execTrimmerRead (sa : BitVec 44) (c : Chan) (found : TrimFinding) (s : State) : Host.Outcome State Fault Refusal :=
  let a := sa.toNat / 64 * 64
  if !s.fb Reg.XLT_STATUS.READY || s.cry.st == .error then .next s
  else if !s.trm.walks.isEmpty then .next s.walkStep
  else if (s.chan c).resync then .next (s.resyncStep c)
  else if !s.mayTrim a c then .next s
  else match s.trimPaid with
    | none => .next s
    | some s =>
      let r := s.saRank a
      let s := if (s.rank c r).any (·.asleep) then s.wakeRank c r else s
      let s := ((s.saOn a c).map fun q => s.chanIssue q (.engine q.pos false)).getD s
      let s := { s with trm := { s.trm with pos := (s.saPos a).pos } }
      let s := s.setF Reg.TRM_STATUS.PROGRESS (min 999 s.lapProgress)
      .next (((s.trimFound a c found).trimLostDict a).lapSlow)

/-- TRIMMER_LAP_END (R289): with no position in use left ahead of the walk, the lap's duration is recorded and the next lap starts. -/
def execTrimmerLapEnd (s : State) : Host.Outcome State Fault Refusal :=
  if !s.fb Reg.XLT_STATUS.READY || !s.fb Reg.TRM_CFG.TRM_EN || s.positionsInUse.any (fun q => decide (s.trm.pos < q)) then .next s
  else
    let s := s.lapSlow
    let s := (s.setF Reg.TRM_STATUS.LAST_LAP_H (min 0xFFFF ((s.now - s.trm.lapStart) / 3600000000000))).setF Reg.TRM_STATUS.PROGRESS 0
    .next { s with trm := { s.trm with pos := 0, credit := 0, lapStart := s.now, slow := false, poisonSeen := 0 } }

end Sys2Proof.Machine
end

