-- ==== Sys2Proof/Machine/Dispatch.lean ====
section
/-! DEFINITION. The meaning of each command: one arm per constructor of Instr. -/

namespace Sys2Proof.Machine

def exec (i : Instr) (s : State) : Host.Outcome State Fault Refusal :=
  match i with
  | .memRd h hpa tag mv snp f => Sys2Proof.Machine.execMemRd h hpa tag mv snp f s
  | .memRdData h hpa tag f => Sys2Proof.Machine.execMemRdData h hpa tag f s
  | .memSpecRd h hpa tag => Sys2Proof.Machine.execMemSpecRd h hpa tag s
  | .memWr h hpa tag mv data poison f => Sys2Proof.Machine.execMemWr h hpa tag mv data poison f s
  | .memWrPtl h hpa tag mv mask data poison f => Sys2Proof.Machine.execMemWrPtl h hpa tag mv mask data poison f s
  | .memInv h hpa tag nt mv => Sys2Proof.Machine.execMemInv h hpa tag nt mv s
  | .memClnEvct h hpa tag => Sys2Proof.Machine.execMemClnEvct h hpa tag s
  | .memRdFwd h hpa tag => Sys2Proof.Machine.execMemRdFwd h hpa tag s
  | .memWrFwd h hpa tag data => Sys2Proof.Machine.execMemWrFwd h hpa tag data s
  | .birspI h line => Sys2Proof.Machine.execBirspI h line s
  | .birspS h line => Sys2Proof.Machine.execBirspS h line s
  | .birspE h line => Sys2Proof.Machine.execBirspE h line s
  | .birspIBlk h line => Sys2Proof.Machine.execBirspIBlk h line s
  | .biConflict h line tag => Sys2Proof.Machine.execBiConflict h line tag s
  | .snoopTimeout snoop => Sys2Proof.Machine.execSnoopTimeout snoop s
  | .fillDataArrival line o => Sys2Proof.Machine.execFillDataArrival line o s
  | .waitingRequestServed line => Sys2Proof.Machine.execWaitingRequestServed line s
  | .wayFreedResume entry => Sys2Proof.Machine.execWayFreedResume entry s
  | .writeBackBufferResume entry => Sys2Proof.Machine.execWriteBackBufferResume entry s
  | .snoopSlotResume entry => Sys2Proof.Machine.execSnoopSlotResume entry s
  | .directorySetResume entry => Sys2Proof.Machine.execDirectorySetResume entry s
  | .stripeGuardResume line run => Sys2Proof.Machine.execStripeGuardResume line run s
  | .writeBack line run => Sys2Proof.Machine.execWriteBack line run s
  | .writeBackDone line => Sys2Proof.Machine.execWriteBackDone line s
  | .poolHoldTimeout entry => Sys2Proof.Machine.execPoolHoldTimeout entry s
  | .mapReadReturn k primary secondary => Sys2Proof.Machine.execMapReadReturn k primary secondary s
  | .bitmapRebuildDone word => Sys2Proof.Machine.execBitmapRebuildDone word s
  | .pageCopyEnd copy run entryLost => Sys2Proof.Machine.execPageCopyEnd copy run entryLost s
  | .heldAttemptTimeout copy => Sys2Proof.Machine.execHeldAttemptTimeout copy s
  | .extentCopyRoundEnd ext page run entryLost => Sys2Proof.Machine.execExtentCopyRoundEnd ext page run entryLost s
  | .stripeCloseTimeout stripe => Sys2Proof.Machine.execStripeCloseTimeout stripe s
  | .offerLapse h => Sys2Proof.Machine.execOfferLapse h s
  | .breach h => Sys2Proof.Machine.execBreach h s
  | .candidateBuilt signature size meanCand meanBest meanNone => Sys2Proof.Machine.execCandidateBuilt signature size meanCand meanBest meanNone s
  | .dictReloadDone slot bothBad => Sys2Proof.Machine.execDictReloadDone slot bothBad s
  | .channelTraining pops => Sys2Proof.Machine.execChannelTraining pops s
  | .channelTrained c => Sys2Proof.Machine.execChannelTrained c s
  | .refresh c r commandsWait => Sys2Proof.Machine.execRefresh c r commandsWait s
  | .zqCalibration c slot => Sys2Proof.Machine.execZqCalibration c slot s
  | .dqsOscillatorReadout c r drift => Sys2Proof.Machine.execDqsOscillatorReadout c r drift s
  | .readDqRecentre c r subB => Sys2Proof.Machine.execReadDqRecentre c r subB s
  | .writeDqRecentre c r subB => Sys2Proof.Machine.execWriteDqRecentre c r subB s
  | .powerDownEntry c r => Sys2Proof.Machine.execPowerDownEntry c r s
  | .selfRefreshEntry c r => Sys2Proof.Machine.execSelfRefreshEntry c r s
  | .parkedEntry c r => Sys2Proof.Machine.execParkedEntry c r s
  | .quietEntry c => Sys2Proof.Machine.execQuietEntry c s
  | .rankWake c r => Sys2Proof.Machine.execRankWake c r s
  | .alertN c subB => Sys2Proof.Machine.execAlertN c subB s
  | .channelB3Timeout c => Sys2Proof.Machine.execChannelB3Timeout c s
  | .ecsReadout c d count => Sys2Proof.Machine.execEcsReadout c d count s
  | .softPpr c resource => Sys2Proof.Machine.execSoftPpr c resource s
  | .channelNoDataTimeout c => Sys2Proof.Machine.execChannelNoDataTimeout c s
  | .channelReturn c => Sys2Proof.Machine.execChannelReturn c s
  | .resynchronizationDone c => Sys2Proof.Machine.execResynchronizationDone c s
  | .trimmerRead sa c found => Sys2Proof.Machine.execTrimmerRead sa c found s
  | .spdmSession w root => Sys2Proof.Machine.execSpdmSession w root s
  | .sessionEnd w => Sys2Proof.Machine.execSessionEnd w s
  | .showStatus w => Sys2Proof.Machine.execShowStatus w s
  | .getCertificate w => Sys2Proof.Machine.execGetCertificate w s
  | .challenge w nonce => Sys2Proof.Machine.execChallenge w nonce s
  | .getMeasurements w => Sys2Proof.Machine.execGetMeasurements w s
  | .getKemKey w => Sys2Proof.Machine.execGetKemKey w s
  | .generateSlot w slot => Sys2Proof.Machine.execGenerateSlot w slot s
  | .importSlot w slot k => Sys2Proof.Machine.execImportSlot w slot k s
  | .retireSlot w slot => Sys2Proof.Machine.execRetireSlot w slot s
  | .destroySlot w slot => Sys2Proof.Machine.execDestroySlot w slot s
  | .setUserRoots w roots => Sys2Proof.Machine.execSetUserRoots w roots s
  | .setIdePolicy w anySession => Sys2Proof.Machine.execSetIdePolicy w anySession s
  | .selfTest w r => Sys2Proof.Machine.execSelfTest w r s
  | .advanceSvn w => Sys2Proof.Machine.execAdvanceSvn w s
  | .zeroizeAll w => Sys2Proof.Machine.execZeroizeAll w s
  | .keyProg h st rx k1 key => Sys2Proof.Machine.execKeyProg h st rx k1 key s
  | .kSetGo h st rx k1 => Sys2Proof.Machine.execKSetGo h st rx k1 s
  | .ideMacFail h => Sys2Proof.Machine.execIdeMacFail h s
  | .drbgReseed healthFail => Sys2Proof.Machine.execDrbgReseed healthFail s
  | .xtsPeriodicTest engine pass spareOk => Sys2Proof.Machine.execXtsPeriodicTest engine pass spareOk s
  | .xtsEngineFail engine periodic spareOk => Sys2Proof.Machine.execXtsEngineFail engine periodic spareOk s
  | .jtagInstruction ji => Sys2Proof.Machine.execJtagInstruction ji s
  | .pldmFirmwareUpdate img => Sys2Proof.Machine.execPldmFirmwareUpdate img s
  | .ringWindowEnable w h base => Sys2Proof.Machine.execRingWindowEnable w h base s
  | .ringWindowDisable w h => Sys2Proof.Machine.execRingWindowDisable w h s
  | .sqEnable w r v => Sys2Proof.Machine.execSqEnable w r v s
  | .sqDisable w r => Sys2Proof.Machine.execSqDisable w r s
  | .cqEnable w r v => Sys2Proof.Machine.execCqEnable w r v s
  | .cqDisable w r => Sys2Proof.Machine.execCqDisable w r s
  | .sqDoorbell r => Sys2Proof.Machine.execSqDoorbell r s
  | .cqDoorbell r => Sys2Proof.Machine.execCqDoorbell r s
  | .completionWrite cmd => Sys2Proof.Machine.execCompletionWrite cmd s
  | .nop cmd => Sys2Proof.Machine.execNop cmd s
  | .zeroRange cmd => Sys2Proof.Machine.execZeroRange cmd s
  | .cloneRange cmd => Sys2Proof.Machine.execCloneRange cmd s
  | .pinRange cmd => Sys2Proof.Machine.execPinRange cmd s
  | .unpinRange cmd => Sys2Proof.Machine.execUnpinRange cmd s
  | .hintRange cmd => Sys2Proof.Machine.execHintRange cmd s
  | .rekeyRange cmd => Sys2Proof.Machine.execRekeyRange cmd s
  | .releaseRange cmd => Sys2Proof.Machine.execReleaseRange cmd s
  | .reserve cmd => Sys2Proof.Machine.execReserve cmd s
  | .queryRange cmd => Sys2Proof.Machine.execQueryRange cmd s
  | .sanitize cmd => Sys2Proof.Machine.execSanitize cmd s
  | .abort cmd => Sys2Proof.Machine.execAbort cmd s
  | .fence cmd => Sys2Proof.Machine.execFence cmd s
  | .snapshotCounters cmd => Sys2Proof.Machine.execSnapshotCounters cmd s
  | .dictRetire cmd => Sys2Proof.Machine.execDictRetire cmd s
  | .dictHoldTraining cmd => Sys2Proof.Machine.execDictHoldTraining cmd s
  | .dictEndHold cmd => Sys2Proof.Machine.execDictEndHold cmd s
  | .dictRunRound cmd => Sys2Proof.Machine.execDictRunRound cmd s
  | .setPolicyCapacityContract cmd => Sys2Proof.Machine.execSetPolicyCapacityContract cmd s
  | .setPolicyRegister cmd => Sys2Proof.Machine.execSetPolicyRegister cmd s
  | .badOpcode cmd => Sys2Proof.Machine.execBadOpcode cmd s
  | .interruptModerationTimeout r => Sys2Proof.Machine.execInterruptModerationTimeout r s
  | .identify h => Sys2Proof.Machine.execIdentify h s
  | .backgroundOperationStatus h => Sys2Proof.Machine.execBackgroundOperationStatus h s
  | .getEventRecords h log => Sys2Proof.Machine.execGetEventRecords h log s
  | .clearEventRecords h log handles => Sys2Proof.Machine.execClearEventRecords h log handles s
  | .getEventInterruptPolicy h => Sys2Proof.Machine.execGetEventInterruptPolicy h s
  | .setEventInterruptPolicy h p => Sys2Proof.Machine.execSetEventInterruptPolicy h p s
  | .getFwInfo h => Sys2Proof.Machine.execGetFwInfo h s
  | .getTimestamp h => Sys2Proof.Machine.execGetTimestamp h s
  | .setTimestamp w v => Sys2Proof.Machine.execSetTimestamp w v s
  | .getSupportedLogs h => Sys2Proof.Machine.execGetSupportedLogs h s
  | .getLog h => Sys2Proof.Machine.execGetLog h s
  | .identifyMemoryDevice h => Sys2Proof.Machine.execIdentifyMemoryDevice h s
  | .getPartitionInfo h => Sys2Proof.Machine.execGetPartitionInfo h s
  | .getHealthInfo h => Sys2Proof.Machine.execGetHealthInfo h s
  | .getAlertConfiguration h => Sys2Proof.Machine.execGetAlertConfiguration h s
  | .setAlertConfiguration h cfg => Sys2Proof.Machine.execSetAlertConfiguration h cfg s
  | .getPoisonList h => Sys2Proof.Machine.execGetPoisonList h s
  | .injectPoison h hdpa => Sys2Proof.Machine.execInjectPoison h hdpa s
  | .clearPoison h hdpa data => Sys2Proof.Machine.execClearPoison h hdpa data s
  | .getDynamicCapacityConfiguration h => Sys2Proof.Machine.execGetDynamicCapacityConfiguration h s
  | .getDynamicCapacityExtentList h => Sys2Proof.Machine.execGetDynamicCapacityExtentList h s
  | .addDynamicCapacityResponse h a => Sys2Proof.Machine.execAddDynamicCapacityResponse h a s
  | .releaseDynamicCapacity h ranges => Sys2Proof.Machine.execReleaseDynamicCapacity h ranges s
  | .executeDescriptor h d => Sys2Proof.Machine.execExecuteDescriptor h d s
  | .mailboxUnsupported h opcode => Sys2Proof.Machine.execMailboxUnsupported h opcode s
  | .domainEntryRequest d off byCadence => Sys2Proof.Machine.execDomainEntryRequest d off byCadence s
  | .idlePolicyTimeout d => Sys2Proof.Machine.execIdlePolicyTimeout d s
  | .participantStopped d unit => Sys2Proof.Machine.execParticipantStopped d unit s
  | .participantRefuse d unit code => Sys2Proof.Machine.execParticipantRefuse d unit code s
  | .stopTimeout d => Sys2Proof.Machine.execStopTimeout d s
  | .domainStateReached d => Sys2Proof.Machine.execDomainStateReached d s
  | .domainWake d src chk => Sys2Proof.Machine.execDomainWake d src chk s
  | .wakeTimeout d cause => Sys2Proof.Machine.execWakeTimeout d cause s
  | .wakeDetectorPeriod p present => Sys2Proof.Machine.execWakeDetectorPeriod p present s
  | .cadencePeriod est => Sys2Proof.Machine.execCadencePeriod est s
  | .senseRound r => Sys2Proof.Machine.execSenseRound r s
  | .thermtrip temp m => Sys2Proof.Machine.execThermtrip temp m s
  | .standbyGood coolMv straps => Sys2Proof.Machine.execStandbyGood coolMv straps s
  | .standbyLoss holdOk => Sys2Proof.Machine.execStandbyLoss holdOk s
  | .gateTurnOn vinMv => Sys2Proof.Machine.execGateTurnOn vinMv s
  | .faultTimerExpiry m => Sys2Proof.Machine.execFaultTimerExpiry m s
  | .fastTrip m => Sys2Proof.Machine.execFastTrip m s
  | .shortTimeout m => Sys2Proof.Machine.execShortTimeout m s
  | .rampTimeout m => Sys2Proof.Machine.execRampTimeout m s
  | .fetFault m => Sys2Proof.Machine.execFetFault m s
  | .undervoltage m => Sys2Proof.Machine.execUndervoltage m s
  | .overvoltage m => Sys2Proof.Machine.execOvervoltage m s
  | .hswEnRelease m => Sys2Proof.Machine.execHswEnRelease m s
  | .cycle w m => Sys2Proof.Machine.execCycle w m s
  | .unlatch w => Sys2Proof.Machine.execUnlatch w s
  | .pannierRecordRaise r => Sys2Proof.Machine.execPannierRecordRaise r s
  | .pannierSlotFetch w pinned slot => Sys2Proof.Machine.execPannierSlotFetch w pinned slot s
  | .pannierReadData w => Sys2Proof.Machine.execPannierReadData w s
  | .pinClear w => Sys2Proof.Machine.execPinClear w s
  | .generalCounterSelect w g v => Sys2Proof.Machine.execGeneralCounterSelect w g v s
  | .ovfClear w v => Sys2Proof.Machine.execOvfClear w v s
  | .pairedLowRead w bar off size => Sys2Proof.Machine.execPairedLowRead w bar off size s
  | .setupLock w => Sys2Proof.Machine.execSetupLock w s
  | .rtkPartitionWrite w v => Sys2Proof.Machine.execRtkPartitionWrite w v s
  | .registerWrite w t size v => Sys2Proof.Machine.execRegisterWrite w t size v s
  | .regionEntryEnable w n e v => Sys2Proof.Machine.execRegionEntryEnable w n e v s
  | .regionEntryRemove w n e v => Sys2Proof.Machine.execRegionEntryRemove w n e v s
  | .regionRemovalDone n e => Sys2Proof.Machine.execRegionRemovalDone n e s
  | .hdmDecoderCommit h dec base size ways gran => Sys2Proof.Machine.execHdmDecoderCommit h dec base size ways gran s
  | .portBringUp p c => Sys2Proof.Machine.execPortBringUp p c s
  | .linkUp p g gcmOk => Sys2Proof.Machine.execLinkUp p g gcmOk s
  | .linkDown p => Sys2Proof.Machine.execLinkDown p s
  | .portReset p hot => Sys2Proof.Machine.execPortReset p hot s
  | .recoveryTimeout p => Sys2Proof.Machine.execRecoveryTimeout p s
  | .viral p => Sys2Proof.Machine.execViral p s
  | .flitReceive p f => Sys2Proof.Machine.execFlitReceive p f s
  | .nak p seq => Sys2Proof.Machine.execNak p seq s
  | .replayTimerExpiry p => Sys2Proof.Machine.execReplayTimerExpiry p s
  | .creditReturnTimer p => Sys2Proof.Machine.execCreditReturnTimer p s
  | .s2mCreditWithholdTimeout p => Sys2Proof.Machine.execS2mCreditWithholdTimeout p s
  | .laneFailure p good => Sys2Proof.Machine.execLaneFailure p good s
  | .retrain w p => Sys2Proof.Machine.execRetrain w p s
  | .l0pHostRequest p rx width => Sys2Proof.Machine.execL0pHostRequest p rx width s
  | .l0pNarrow p => Sys2Proof.Machine.execL0pNarrow p s
  | .l0pWiden p byCadence => Sys2Proof.Machine.execL0pWiden p byCadence s
  | .noReceiverTimeout p => Sys2Proof.Machine.execNoReceiverTimeout p s
  | .devloadInterval delays => Sys2Proof.Machine.execDevloadInterval delays s
  | .phyLoop w p errors => Sys2Proof.Machine.execPhyLoop w p errors s
  | .remoteLoopFollower w p => Sys2Proof.Machine.execRemoteLoopFollower w p s
  | .remoteLoopLeader w p errors => Sys2Proof.Machine.execRemoteLoopLeader w p errors s
  | .portLoop w p => Sys2Proof.Machine.execPortLoop w p s
  | .loopOff w p => Sys2Proof.Machine.execLoopOff w p s
  | .mainRailFault r mv => Sys2Proof.Machine.execMainRailFault r mv s
  | .railNotGoodTimeout r => Sys2Proof.Machine.execRailNotGoodTimeout r s
  | .refclkLoss p => Sys2Proof.Machine.execRefclkLoss p s
  | .mgtRestart cause => Sys2Proof.Machine.execMgtRestart cause s
  | .setEndpointId eid => Sys2Proof.Machine.execSetEndpointId eid s
  | .pldmSensorRead id => Sys2Proof.Machine.execPldmSensorRead id s
  | .setEventReceiver eid => Sys2Proof.Machine.execSetEventReceiver eid s
  | .fmSetResponseMessageLimit limit => Sys2Proof.Machine.execFmSetResponseMessageLimit limit s
  | .getHeadInfo h => Sys2Proof.Machine.execGetHeadInfo h s
  | .getHostDcRegionConfiguration h => Sys2Proof.Machine.execGetHostDcRegionConfiguration h s
  | .getDcRegionExtentLists h => Sys2Proof.Machine.execGetDcRegionExtentLists h s
  | .fmUnsupported opcode => Sys2Proof.Machine.execFmUnsupported opcode s
  | .readRegister off => Sys2Proof.Machine.execReadRegister off s
  | .writeRegister off v => Sys2Proof.Machine.execWriteRegister off v s
  | .readPannierSlot pinned slot => Sys2Proof.Machine.execReadPannierSlot pinned slot s
  | .commitStep cmd run entryLost => Sys2Proof.Machine.execCommitStep cmd run entryLost s
  | .readyPoint imgA imgB => Sys2Proof.Machine.execReadyPoint imgA imgB s
  | .mainRailsGood straps => Sys2Proof.Machine.execMainRailsGood straps s
  | .powerUpKatDone r flash => Sys2Proof.Machine.execPowerUpKatDone r flash s
  | .devResetRelease straps => Sys2Proof.Machine.execDevResetRelease straps s
  | .alertNDeassert c subB bufferLost => Sys2Proof.Machine.execAlertNDeassert c subB bufferLost s
  | .linkRecovery p byHost back => Sys2Proof.Machine.execLinkRecovery p byHost back s
  | .msiXUnmask h vec => Sys2Proof.Machine.execMsiXUnmask h vec s
  | .refclkReturn p => Sys2Proof.Machine.execRefclkReturn p s
  | .poolLineWriteBack run => Sys2Proof.Machine.execPoolLineWriteBack run s
  | .heatEvent => Sys2Proof.Machine.execHeatEvent s
  | .heatEpoch => Sys2Proof.Machine.execHeatEpoch s
  | .coldSweepVisit => Sys2Proof.Machine.execColdSweepVisit s
  | .sweepLapEnd => Sys2Proof.Machine.execSweepLapEnd s
  | .pressureMeasure => Sys2Proof.Machine.execPressureMeasure s
  | .elasticOffer => Sys2Proof.Machine.execElasticOffer s
  | .releaseTarget => Sys2Proof.Machine.execReleaseTarget s
  | .trainingRound => Sys2Proof.Machine.execTrainingRound s
  | .candidateWaitTimeout => Sys2Proof.Machine.execCandidateWaitTimeout s
  | .memoryReady => Sys2Proof.Machine.execMemoryReady s
  | .trimmerLapEnd => Sys2Proof.Machine.execTrimmerLapEnd s
  | .entropyHealthFail => Sys2Proof.Machine.execEntropyHealthFail s
  | .fwReadyTimeout => Sys2Proof.Machine.execFwReadyTimeout s
  | .descriptorFetch => Sys2Proof.Machine.execDescriptorFetch s
  | .sentinelWake => Sys2Proof.Machine.execSentinelWake s
  | .paceStep => Sys2Proof.Machine.execPaceStep s
  | .powerGood => Sys2Proof.Machine.execPowerGood s
  | .coolDownDischarged => Sys2Proof.Machine.execCoolDownDischarged s
  | .retryCountClear => Sys2Proof.Machine.execRetryCountClear s
  | .slotProgramDone => Sys2Proof.Machine.execSlotProgramDone s
  | .sectorEraseDone => Sys2Proof.Machine.execSectorEraseDone s
  | .writeTokenRefill => Sys2Proof.Machine.execWriteTokenRefill s
  | .pannierScanDone => Sys2Proof.Machine.execPannierScanDone s
  | .regionCheckAfterWake => Sys2Proof.Machine.execRegionCheckAfterWake s
  | .devReset => Sys2Proof.Machine.execDevReset s
  | .dramRefclkLoss => Sys2Proof.Machine.execDramRefclkLoss s
  | .xtalLoss => Sys2Proof.Machine.execXtalLoss s
  | .mgtWatchdog => Sys2Proof.Machine.execMgtWatchdog s
  | .getEndpointId => Sys2Proof.Machine.execGetEndpointId s
  | .getMctpVersionSupport => Sys2Proof.Machine.execGetMctpVersionSupport s
  | .getMessageTypeSupport => Sys2Proof.Machine.execGetMessageTypeSupport s
  | .getEndpointUuid => Sys2Proof.Machine.execGetEndpointUuid s
  | .activateFirmware => Sys2Proof.Machine.execActivateFirmware s
  | .fmIdentify => Sys2Proof.Machine.execFmIdentify s
  | .fmBackgroundOperationStatus => Sys2Proof.Machine.execFmBackgroundOperationStatus s
  | .fmGetResponseMessageLimit => Sys2Proof.Machine.execFmGetResponseMessageLimit s
  | .getMultiHeadedInfo => Sys2Proof.Machine.execGetMultiHeadedInfo s
  | .getDcdInfo => Sys2Proof.Machine.execGetDcdInfo s
  | .clearPinned => Sys2Proof.Machine.execClearPinned s
  | .deviceResetCommand => Sys2Proof.Machine.execDeviceResetCommand s
  | .mgtRestartCommand => Sys2Proof.Machine.execMgtRestartCommand s
  | .xtalStarted => Sys2Proof.Machine.execXtalStarted s

end Sys2Proof.Machine
end

