-- ==== Sys2Proof/Machine/Xts.lean ====
section
/-! DEFINITION. Memory encryption: what stands in DRAM for the stored lines, and the parity over it (R96, R275, R306, R307). State holds plaintext by device address (LOG 15); the ciphertext of a unit follows from it, the unit's SA and the key slot of its extent, so a move to another SA or key is a new encryption. -/

namespace Sys2Proof.Machine

/-- The tweak of a unit times α in GF(2^128) (R306). -/
def mulAlpha (t : BitVec 128) : BitVec 128 := (t <<< 1) ^^^ (if t.getLsbD 127 then 0x87 else 0)

/-- The tweak of AES block `i` of a data unit: the encrypted granule index times α^i (R306). -/
def xtsTweak (tweakKey : BitVec 256) (unit : Nat) : Nat → BitVec 128
  | 0 => Config.aes tweakKey (BitVec.ofNat 128 unit)
  | i + 1 => mulAlpha (xtsTweak tweakKey unit i)

/-- AES-256-XTS of one 64-byte data unit with granule index `unit`: four blocks, no ciphertext stealing (R306). -/
def xtsUnit (k : KeySlot) (unit : Nat) (d : LineData) : LineData :=
  (List.range 4).foldl (fun (c : LineData) i =>
    let t := xtsTweak k.tweakKey unit i
    c ||| (((Config.aes k.dataKey (d.extractLsb' (128 * i) 128 ^^^ t)) ^^^ t).zeroExtend 512 <<< (128 * i))) 0

/-- The plaintext of granule `g` of a page stored as `r`: a line of its own, or a granule of what a codec made (R82, R83, R129). -/
def State.unitPlain (s : State) (p : Nat) (r : PageRec) (g : Nat) : LineData :=
  let line (i : Nat) : LineData := Memory.readLine s.mem (pageLine p + i)
  match r.state with
  | .open => line g
  | .packed =>
    match (List.range 16).find? fun k => decide (segvStart r.segv k ≤ g) && decide (g < segvStart r.segv k + segGranules (segvAt r.segv k)) with
    | none => 0
    | some k =>
      let i := g - segvStart r.segv k
      if segvAt r.segv k = 4 then line (4 * k + i) else Config.segUnit ((List.range 4).map fun j => line (4 * k + j)) i
  | .deep => if r.raw then line g else Config.pageUnit ((List.range 64).map line) (if r.dict = 0 then none else some (s.dict r.dict).signature) g
  | _ => 0

/-- The granule index, SA div 64, of granule `g` of a page stored as `r` (R272). -/
def State.unitSa (s : State) (r : PageRec) (g : Nat) : Nat :=
  let k := g / 8
  (s.dirFrames + (if r.state == .open then r.loc + k else s.dataFrame (2 * k + 4) r.loc k)) * 8 + g % 8

/-- The stored units of a page with their SAs, encrypted under the key slot of its extent (R96, R306, R307). -/
def State.pageCipher (s : State) (p : Nat) : List (Nat × LineData) :=
  let r := s.storageRec p
  let k := s.keySlot (s.extRec (p / 512)).key
  let n := match r.state with
    | .open => 64
    | .packed => segvTotal r.segv
    | .deep => r.gcount
    | _ => 0
  (List.range n).map fun g => (s.unitSa r g, xtsUnit k (s.unitSa r g) (s.unitPlain p r g))

/-- What stands in DRAM for line `l`: the SA and the ciphertext of each unit that a read of it touches. The mirror copy of a unit holds the same ciphertext, made under the primary SA (R306). -/
def State.lineCipher (s : State) (l : Nat) : List (Nat × LineData) :=
  match (s.extView (extOf l)).1 with
  | .direct => (s.lineSas l).map fun a => (a, xtsUnit (s.keySlot (s.extRec (extOf l)).key) a (Memory.readLine s.mem l))
  | .mapped => (s.pageCipher (pageKey l)).filter fun u => (s.lineSas l).contains u.1
  | _ => []

/-- The ciphertext that stands at an SA of the frame area, in granules: that of the page stored there, zeros in a frame that was unused when its stripe closed or that SANITIZE overwrote, else what a freed frame still holds (R275, R348). -/
def State.unitAt (s : State) (sa : Nat) : LineData :=
  let n := sa / 8 - s.dirFrames
  match (s.xlt.page.map (·.1)).findSome? fun p => (s.pageCipher p).lookup sa with
  | some c => c
  | none => if s.cap.dead.has n && !s.cap.zeroed.has n then Config.staleUnit sa else 0

/-- The parity frame's line at offset `i` of the stripe at position `q` of the frame area: the XOR of the ciphertext of its data frames (R275, R306). -/
def State.parityUnit (s : State) (q i : Nat) : LineData :=
  ((List.range s.w).filter fun c => c != paritySlot s.w q).foldl (fun (x : LineData) c => x ^^^ s.unitAt ((s.dirFrames + (q * s.w + c)) * 8 + i)) 0

end Sys2Proof.Machine
end

