-- ==== Sys2Proof/Safety.lean ====
section
/-! DEFINITION. The terms in which statements speak of a run: completion with an effect, what a record may change, the states of whole losses, and the hypotheses under which a command is served. -/

namespace Sys2Proof.Machine

/-- Command `i` completes at `s` in a next state of which `P` holds. -/
def Gives (i : Instr) (s : State) (P : State → Prop) : Prop := ∃ t : State, exec i s = .next t ∧ P t

/-- `t` differs from `s` at most in registers, counters and what records leave: event records, Pannier records, messages and held or pending interrupts. -/
def Noted (s t : State) : Prop :=
  { t with csr := s.csr, pmu := s.pmu, pan := s.pan, events := s.events, nextHandle := s.nextHandle, out := s.out, free := s.free, ports := s.ports,
           cmd := { t.cmd with heldMsix := s.cmd.heldMsix } } = s ∧
  ∀ h, { t.port h with msixPend := (s.port h).msixPend, lastEvt := (s.port h).lastEvt } = s.port h

/-! ## Losses of whole domains -/

/-- No link is up. -/
def NoLinks (t : State) : Prop := ∀ h : Head, (t.port h).up = false ∧ (t.port h).active = false

/-- What every loss of the main domains takes, and what it keeps (R32, R305, R436, R452). -/
def MainLost (s t : State) : Prop :=
  t.mem = [] ∧ t.bad = [] ∧ t.xlt = {} ∧ t.nc = {} ∧ t.dir = {} ∧ t.rtk = [] ∧ t.cry.slots = [] ∧ t.cry.metaKey = none ∧ t.cry.sessions = [] ∧
  t.cmd = {} ∧ t.pmu = {} ∧ t.chans = [] ∧ t.events = [] ∧ t.mgt.st = .reset ∧ NoLinks t ∧
  t.pending = s.pending ∧ t.tb = s.tb ∧ t.repairs = s.repairs ∧ t.pan.ring = s.pan.ring ∧ t.pan.pinned = s.pan.pinned ∧
  t.aon.svnFuse = s.aon.svnFuse ∧ t.aon.slotA = s.aon.slotA ∧ t.aon.slotB = s.aon.slotB ∧ t.aon.kick = s.aon.kick

/-- The gate has turned off at this moment (R405). -/
def GateWentOff (s t : State) : Prop := MainLost s t ∧ t.hsw.pg = false ∧ t.hsw.offAt = s.now ∧ t.aon.rails = false

/-- The gate has turned off as a trip: the cell is charged, and HSW cools down or is latched off (R405 to R409). -/
def Tripped (s t : State) : Prop := GateWentOff s t ∧ t.hsw.cell = true ∧ (t.hsw.gate = .cool ∨ t.hsw.gate = .latched)

/-! ## When a command is served -/

/-- Kickstand serves the sideband, and an EID is assigned (R440, R441). -/
def KickServes (s : State) : Prop := s.sbUp = true ∧ s.aon.eid ≠ 0

/-- Clandahar serves the sideband (R439 to R441). -/
def SidebandServes (s : State) : Prop := KickServes s ∧ s.mainRuns = true ∧ s.mgtUp = true

/-- Clandahar serves the mailbox of head `h`, which has nothing in work or held (R353). -/
def MailboxServes (s : State) (h : Head) : Prop :=
  s.mainRuns = true ∧ h ∈ s.heads ∧ (s.port h).up = true ∧ (∀ r ∈ s.rtk, ¬(r.head = h ∧ r.chan = .inner)) ∧ s.mgtUp = true ∧
  (s.port h).mbxHeld = none ∧ ∀ x ∈ s.mgt.held, x.1 ≠ h

/-- A service request over `w` reaches CRY, which is operational (R295). -/
def CryReached (s : State) (w : Via) : Prop :=
  s.cry.st = .operational ∧
    match w with
    | .sideband => SidebandServes s
    | .head h => s.mainRuns = true ∧ h ∈ s.heads ∧ (s.port h).up = true

/-- CRY has entered its error state with a cause: keys are overwritten, and stored memory is as it was (R318). -/
def CryFailed (s t : State) (c : ErrCause) : Prop :=
  t.cry.st = .error ∧ t.cry.errCause = some c ∧ t.cry.metaKey = none ∧
  (∀ k, (t.keySlot k).dataKey = 0 ∧ (t.keySlot k).tweakKey = 0 ∧ (t.keySlot k).st = (s.keySlot k).st) ∧ t.mem = s.mem

/-- MGT has begun a restart: ring commands pause, sideband sessions end, and nothing that a host stored changes (R352, R438). -/
def MgtRestarted (s t : State) : Prop :=
  t.mgt.st = .booting ∧ t.mgt.dogAt = s.now ∧ t.mgt.updating = false ∧ t.fb Reg.CMD_STATUS.MGT_PAUSE = true ∧
  (∀ x ∈ t.cry.sessions, x.via ≠ .sideband) ∧ t.cdc.train.st = .idle ∧ t.aon.trying = s.aon.pendingFw ∧
  t.mem = s.mem ∧ t.bad = s.bad ∧ t.nc = s.nc ∧ t.xlt = s.xlt ∧ t.dir = s.dir ∧ t.rtk = s.rtk ∧ t.ports = s.ports ∧ t.chans = s.chans ∧ t.cry.slots = s.cry.slots

/-! ## Commands of the rings -/

/-- The command `id` is `c`, of opcode `op`, and may start. -/
def Starts (s : State) (id : Nat) (op : Nat) (c : Cmd) : Prop := s.cmdOf id = some c ∧ s.mayStart c = true ∧ dOp c.desc = op

/-- Every other command in progress is as it was. -/
def OtherCmds (s t : State) (id : Nat) : Prop := (t.cmd.cmds.filter (·.id != id)) = s.cmd.cmds.filter (·.id != id)

/-- The command has ended with a status and a result, and every other command is as it was. -/
def CmdEnded (s t : State) (id : Nat) (status : BitVec 8) (result : Nat) : Prop :=
  (t.cmdOf id).map (fun c => (c.phase, c.status, c.result)) = some (.ended, status, BitVec.ofNat 64 result) ∧ OtherCmds s t id

/-- Nothing but the list of commands in progress has changed. -/
def OnlyCmds (s t : State) : Prop := { t with cmd := { t.cmd with cmds := s.cmd.cmds } } = s

/-! ## Host requests -/

/-- A request of head `h` for host address `hpa` is accepted and decodes to HDPA `a` in region `g`; no earlier response waits at the port. -/
def HostReady (s : State) (h : Head) (hpa a : Nat) (g : Region) : Prop :=
  (s.port h).active = true ∧ (s.port h).reqHost ≠ 0 ∧ (s.port h).rwdHost ≠ 0 ∧ (s.port h).loopWait = false ∧ (s.port h).memActive = true ∧
  s.portLoop h = false ∧ s.hdpaOf h hpa = some a ∧ s.regionAt h a = some g ∧ (s.port h).ready = [] ∧ (s.port h).txRoom = true

/-- No request of head `h` is outstanding under a tag (R228). -/
def TagFree (s : State) (h : Head) (tag : BitVec 16) : Prop := ∀ q ∈ s.rtk, q.head = h → q.chan = .inner ∨ q.synthetic = true ∨ q.tag ≠ tag

/-- The near cache holds line `l` whole as `n`, its slices are ON, its bitmap word is not being rebuilt, and no request is open for it. -/
def NcHolds (s : State) (l : Nat) (n : NcLine) : Prop :=
  s.nc.lines.look l = some n ∧ n.filling = false ∧ n.mask = fullMask ∧ (∀ d ∈ lineDomains l false, s.domOn d = true) ∧
  (∀ r ∈ s.rtk, r.line ≠ l ∧ r.id ≠ s.nextEntry) ∧ s.setLost l = false ∧ s.cry.st ≠ .error ∧ s.xlt.rebuilds.contains (extOf l / 64) = false

/-- No data has changed: RTK, memory, the near cache's lines, its buffers, the directory, translation and the rings are as they were. -/
def ReadKept (s t : State) : Prop :=
  t.rtk = s.rtk ∧ t.mem = s.mem ∧ t.nc.lines = s.nc.lines ∧ t.nc.wbb = s.nc.wbb ∧ t.dir = s.dir ∧ t.xlt = s.xlt ∧ { t.cmd with heldMsix := s.cmd.heldMsix } = s.cmd

/-- No data but near-cache line `l` has changed. -/
def WriteKept (s : State) (l : Nat) (t : State) : Prop :=
  t.rtk = s.rtk ∧ t.mem = s.mem ∧ (∀ k, k ≠ l → t.nc.lines.look k = s.nc.lines.look k) ∧ t.nc.wbb = s.nc.wbb ∧ t.dir = s.dir ∧ t.cmd.cmds = s.cmd.cmds

/-- The entry `r` waits with nothing before it on its line; its slices are ON, the near cache holds its line whole as `n`, and its port can take the answer. -/
def Servable (s : State) (r : RtkEntry) (n : NcLine) : Prop :=
  s.entry r.id = some r ∧ s.blocked r = false ∧ (∀ d ∈ lineDomains r.line r.db, s.domOn d = true) ∧ s.xlt.rebuilds.contains (extOf r.line / 64) = false ∧
  s.setLost r.line = false ∧ s.nc.lines.look r.line = some n ∧ n.filling = false ∧ n.poison = false ∧ r.kept = none ∧ r.synthetic = false ∧ r.chan = .req ∧ r.conflicts = [] ∧
  (s.port r.head).ready = [] ∧ (s.port r.head).txRoom = true ∧ (s.port r.head).drs ≠ 0 ∧ (s.port r.head).ndr ≠ 0 ∧ (s.port r.head).loopWait = false

/-- The read `r` has been answered with the data of `n`, and its entry is free (R48, R55). -/
def ReadServed (s : State) (r : RtkEntry) (n : NcLine) (t : State) : Prop :=
  (∃ g, Msg.data r.head r.tag ⟨n.data, false⟩ g (s.devloadOf r.head) ∈ t.out) ∧ t.entry r.id = none ∧ t.mem = s.mem

/-! ## Links -/

/-- The link of head `p` has gone down (R222 to R224, R296, R311). -/
def LinkLost (s : State) (p : Head) (t : State) : Prop :=
  (t.port p).up = false ∧ (t.port p).active = false ∧ (t.port p).reqHost = 0 ∧ (t.port p).rwdHost = 0 ∧ (t.port p).replay = [] ∧ (t.port p).rxSeq = 0 ∧
  (t.port p).ioTx = .clear ∧ (t.port p).ioRx = .clear ∧ (t.port p).cmTx = .clear ∧ (t.port p).cmRx = .clear ∧
  (∀ x ∈ t.cry.sessions, x.via ≠ .head p) ∧ (∀ r ∈ t.rtk, r.head = p → r.synthetic = true) ∧
  t.mem = s.mem ∧ t.tb = s.tb ∧ t.cry.slots = s.cry.slots ∧ t.hsw = s.hsw ∧ t.repairs = s.repairs

/-- Recovery of head `p`'s link has begun, at full width (R220). -/
def Recovered (s : State) (p : Head) (t : State) : Prop :=
  t.port p = { s.port p with ltssm := .recovery, txWidth := (s.port p).width, rxWidth := (s.port p).width
                             replayDue := (s.port p).replay.any fun x => x.replays != 0, replay := (s.port p).replay.map fun x => { x with replays := 0 } } ∧ (∀ g, g ≠ p → t.port g = s.port g) ∧
  t.fb (Reg.PRTn_LINK_ERR.RETRAINED.nth p.val) = true ∧ { t with ports := s.ports, csr := s.csr, pmu := s.pmu } = s

/-! ## Power domains and channels -/

/-- The entry of domain `d` has been refused with a code, and what waited for the domain goes on (R363, R365). -/
def Refused (s : State) (d unit code : Nat) (t : State) : Prop :=
  ∃ u : State, t = (u.replay d ((s.dom d).latch.map (·.1))).heldDone d ∧ u.domOn d = true ∧ (u.dom d).latch = [] ∧ 
    (u.dom d).holdUntil = s.now + (if (s.dom d).lastCode = code ∧ (s.dom d).refusals ≠ 0 then min 64 (2 * (s.dom d).holdMs) else s.refuseHold) * 1000000 ∧ (∀ j, j ≠ d → u.dom j = s.dom j) ∧
    u.fb Reg.PWR_STATUS.REFUSED = true ∧ u.fb Reg.PWR_REFUSE_LOG.VALID = true ∧ u.f Reg.PWR_REFUSE_LOG.DOMAIN = d ∧ u.f Reg.PWR_REFUSE_LOG.UNIT = unit ∧
    u.f Reg.PWR_REFUSE_LOG.CODE = code ∧ { u with csr := s.csr, pmu := s.pmu, doms := s.doms } = s

/-- Domain `d` has woken for a source, and what waited for it goes on (R366, R368). -/
def Woken (s : State) (d : Nat) (src : WakeSource) (t : State) : Prop :=
  ∃ u : State, t = u.replay d [src] ∧ u.domOn d = true ∧ (u.dom d).latch = [] ∧ (∀ j, j ≠ d → u.dom j = s.dom j) ∧
    u.fb Reg.PWR_WAKE_LOG.VALID = true ∧ u.f Reg.PWR_WAKE_LOG.DOMAIN = d ∧ u.f Reg.PWR_WAKE_LOG.SOURCE = srcCode src ∧
    (∀ c, (domKind d ≠ .ch ∨ c ≠ chOf d) → u.chan c = s.chan c) ∧ { u with csr := s.csr, pmu := s.pmu, doms := s.doms, chans := s.chans } = s

/-- Rank `r` of channel `c` is `x`, and no other rank and nothing but the channel's ranks and the counters has changed. -/
def RankIs (s : State) (c : Chan) (r : RankSet) (x : Rank) (t : State) : Prop :=
  t.rank c r = some x ∧ (∀ j, j ≠ r → t.rank c j = s.rank c j) ∧ (∀ d, d ≠ c → t.chan d = s.chan d) ∧
  { t.chan c with ranks := (s.chan c).ranks } = s.chan c ∧ { t with chans := s.chans, pmu := s.pmu } = s

/-- Nothing but the channels, the power domains' latches and the counters has changed: what commands issued to the DIMMs change. -/
def IssuedOnly (s t : State) : Prop := { t with chans := s.chans, doms := s.doms, pmu := s.pmu } = s

/-- Channel `c` has entered FAILED, and no data has changed (R280). -/
def ChanFailed (s : State) (c : Chan) (t : State) : Prop :=
  (t.chan c).st = .failed ∧ t.fbit Reg.DRC_GLB_STATUS.FAILED c.val = true ∧ t.domOn (12 + c.val) = false ∧ (∀ d, d ≠ c → t.chan d = s.chan d) ∧
  s.events <+: t.events ∧ t.mem = s.mem ∧ t.bad = s.bad ∧ t.nc = s.nc ∧ t.dir = s.dir ∧ t.rtk = s.rtk ∧ t.xlt = s.xlt ∧ t.cap = s.cap

/-- No data that a host can read has changed. -/
def DataKept (s t : State) : Prop := t.mem = s.mem ∧ t.bad = s.bad ∧ t.nc = s.nc ∧ t.dir = s.dir ∧ t.rtk = s.rtk ∧ t.xlt = s.xlt

end Sys2Proof.Machine
end

