-- ==== Sys2Proof/Certificates/Slice0/Obligations.lean ====
section
/-! DEFINITION. The statements about the model, one named proposition each; OBLIGATIONS.json lists them. -/

open Sys2Proof Sys2Proof.Machine

/-- A step runs the command in front, or passes a nanosecond with none (00_scope.md, 18_register_space.md, 01_what_every_host_sees.md). For every command
c, queue rest q and state s whose queue is c followed by q, step at s is exec of c at s with the queue q. With no command waiting and no microsecond
completed, a step advances the model's clock and, while Kickstand runs, TB by one, clears the zeroing marks, and changes nothing else. That the empty
queue stands for the passing of time is the model's choice of log entry 3. -/
def Obligations.StepTakesFront : Prop :=
  (∀ (s : State) (c : Instr) (q : List Instr), s.pending = c :: q → step s = exec c { s with pending := q }) ∧
  (∀ s : State, s.pending = [] →
    (s.aon.kick = true → s.mainRuns = false →
      step s = .next { s with now := s.now + 1, tb := s.tb + 1, xlt := { s.xlt with zeroing := [] } }) ∧
    (s.aon.kick = false → step s = .next { s with now := s.now + 1, xlt := { s.xlt with zeroing := [] } }))

/-- No command adds to the queue or takes from it (00_scope.md). For every command and every state, when exec answers a next state its queue is the queue
before; so commands run once each, in the order in which they were put. -/
def Obligations.ExecKeepsQueue : Prop :=
  ∀ (c : Instr) (s t : State), exec c s = .next t → t.pending = s.pending

/-- The repair list and the lost-line table never hold more than 1,024 entries (09_dram_channels.md, 10_guarding_stored_data.md). For every state whose
repair list holds at most 1,024 entries, whatever step answers next holds at most 1,024. For every state whose lost-line table holds at most 1,024
entries, whatever step answers next holds at most 1,024. -/
def Obligations.TablesBounded : Prop :=
  (∀ s t : State, s.repairs.length ≤ 1024 → step s = .next t → t.repairs.length ≤ 1024) ∧
  (∀ s t : State, s.trm.lost.length ≤ 1024 → step s = .next t → t.trm.lost.length ≤ 1024)

/-- Stored memory and the register file keep their canonical form (03_extents_pages_translation.md, 18_register_space.md). For every state whose stored
memory lists rising addresses and no zero byte, and whose register file lists rising offsets, whatever step answers next has both. -/
def Obligations.CanonicalFormKept : Prop :=
  ∀ s t : State, Memory.wf s.mem = true → s.csr.sorted = true → step s = .next t → Memory.wf t.mem = true ∧ t.csr.sorted = true

/-- What reset holds (18_register_space.md, 03_extents_pages_translation.md). At reset no command waits, memory lists nothing and is in canonical form, TB
is 0, no record of the map area is present, both bounded tables are within their bounds, and every register of the register space reads its reset
value. -/
def Obligations.ResetState : Prop :=
  State.reset.pending = [] ∧ State.reset.mem = [] ∧ Memory.wf State.reset.mem = true ∧ State.reset.tb = 0 ∧ State.reset.xlt.touched = [] ∧
    State.reset.xlt.ext = [] ∧ State.reset.xlt.page = [] ∧ State.reset.repairs.length ≤ 1024 ∧ State.reset.trm.lost.length ≤ 1024 ∧
    ∀ off : Nat, State.reset.word off = resetWord off

/-- A trip turns the gate off and every main domain loses its state (15_sled_power_and_hot_swap.md). FAULT_TIMER_EXPIRY and FAST_TRIP with the gate on or
ramping, SHORT_TIMEOUT and RAMP_TIMEOUT in a ramp and FET_FAULT with the gate on turn the gate off as a trip: power good falls, the cool-down cell is
charged, HSW cools down or is latched off, memory, keys and the near cache are lost, no link is up; the repair list, fuses, the Pannier die, TB and
the queue stay. -/
def Obligations.GateTrips : Prop :=
  ∀ (s : State) (m : TripMeas),
    ((s.hsw.gate = .on ∨ s.hsw.gate = .ramp) → ∀ i ∈ [Instr.faultTimerExpiry m, Instr.fastTrip m], Gives i s (Tripped s)) ∧
    (s.hsw.gate = .ramp → ∀ i ∈ [Instr.shortTimeout m, Instr.rampTimeout m], Gives i s (Tripped s)) ∧
    (s.hsw.gate = .on → Gives (.fetFault m) s (Tripped s))

/-- Turn-on, gate-offs that are no trip, the cell and the latch (15_sled_power_and_hot_swap.md). With the gate on: UNDERVOLTAGE and OVERVOLTAGE leave HSW
waiting, HSW_EN_RELEASE leaves it off with HSW_EN_n high, and CYCLE over the sideband leaves it waiting with the cycle noted. Power good falls, the
cell is as before, and the main domains lose their state. GATE_TURN_ON with the conditions of turn-on held and HSW_VIN between 10.8 V and 13.2 V
starts the ramp; POWER_GOOD in a ramp turns the gate on; COOL_DOWN_DISCHARGED discharges the cell; RETRY_COUNT_CLEAR with power good clears TRIPS;
UNLATCH over the sideband releases a latch-off into the off time. Each leaves memory and every other part of the state but HSW, its registers and its
counters as it was. -/
def Obligations.GateOffsAndCell : Prop :=
  (∀ (s : State) (m : TripMeas), s.hsw.gate = .on → s.aon.kick = true →
    (∀ i ∈ [Instr.undervoltage m, Instr.overvoltage m], Gives i s fun t => GateWentOff s t ∧ t.hsw.gate = .wait ∧ t.hsw.cell = s.hsw.cell) ∧
    (s.hsw.en = true → Gives (.hswEnRelease m) s fun t => GateWentOff s t ∧ t.hsw.gate = .off ∧ t.hsw.en = false ∧ t.hsw.enAt = s.now ∧ t.hsw.cell = s.hsw.cell) ∧
    (s.aon.holding = false → Gives (.cycle .sideband m) s fun t => GateWentOff s t ∧ t.hsw.gate = .wait ∧ t.hsw.cycling = true ∧ t.hsw.cell = s.hsw.cell)) ∧
  (∀ s : State,
    (∀ v : Nat, s.mayTurnOn = true → 10800 ≤ v → v ≤ 13200 → Gives (.gateTurnOn v) s fun t =>
      t.hsw = { s.hsw with gate := .ramp, en := true, cycling := false } ∧ t.mem = s.mem ∧ t.cry = s.cry ∧ t.ports = s.ports ∧ t.nc = s.nc ∧ t.out = s.out) ∧
    (s.hsw.gate = .ramp → exec .powerGood s = .next { s with hsw := { s.hsw with gate := .on, pg := true } }) ∧
    exec .coolDownDischarged s = .next { s with hsw := { s.hsw with cell := false } } ∧
    (s.hsw.pg = true → Gives .retryCountClear s fun t => t.f Reg.HSW_STATUS.TRIPS = 0 ∧ t.hsw = s.hsw ∧ t.mem = s.mem ∧ t.pmu = s.pmu ∧ t.out = s.out) ∧
    (s.aon.kick = true → s.aon.holding = false → s.hsw.gate = .latched →
      exec (.unlatch .sideband) s = .next { s with hsw := { s.hsw with gate := .cool } }))

/-- Standby, and step 7 of a start (15_sled_power_and_hot_swap.md, 16_counters_and_pannier.md, 17_start_up_defaults_sideband.md). STANDBY_GOOD from
power-off starts TB from zero, resets the AON blocks, keeps the cell above 0.8 V and gives 4,096 write tokens; STANDBY_LOSS ends every domain, and
keeps the fuses, the repair list and the flash. MAIN_RAILS_GOOD in standby with power good and DEV_RESET_n high, and DEV_RESET_RELEASE with the rails
good, latch the straps of that moment; PD_MGT, PD_FAB and PD_CRY are then ON and the channels OFF, and memory is as it was. -/
def Obligations.StartSteps : Prop :=
  (∀ s : State,
    (∀ (mv : Nat) (b : Straps), s.aon.kick = false → Gives (.standbyGood mv b) s fun t =>
      t.tb = 0 ∧ t.aon.kick = true ∧ t.aon.boot = .standby ∧ t.aon.straps = none ∧ t.aon.balls = b ∧ t.hsw.gate = .off ∧ t.hsw.pg = false ∧
      t.hsw.cell = decide (800 < mv) ∧ t.pan.tokens = 4096 ∧ t.pan.ready = false ∧ t.pan.ring = s.pan.ring ∧ t.repairs = s.repairs ∧ t.mem = s.mem ∧ t.domOn 0 = true) ∧
    (∀ ok : Bool, s.aon.kick = true → Gives (.standbyLoss ok) s fun t =>
      t.aon.kick = false ∧ t.aon.boot = .off ∧ t.mem = [] ∧ t.csr = [] ∧ t.doms = [] ∧ t.cry.slots = [] ∧ t.repairs = s.repairs ∧
      t.aon.svnFuse = s.aon.svnFuse ∧ t.aon.slotA = s.aon.slotA ∧ t.aon.slotB = s.aon.slotB ∧ t.tb = s.tb)) ∧
  (∀ (s : State) (b : Straps),
    (s.aon.kick = true → s.hsw.pg = true → s.aon.boot = .standby → s.aon.inReset = false → Gives (.mainRailsGood b) s fun t =>
      t.aon.straps = some b ∧ t.aon.rails = true ∧ t.aon.boot = .rails ∧ t.domOn 1 = true ∧ t.domOn 3 = true ∧ t.domOn 57 = true ∧ (∀ c < 16, t.domOn (12 + c) = false) ∧ t.mem = s.mem ∧ t.tb = s.tb) ∧
    (s.aon.inReset = true → s.aon.rails = true → s.aon.railFault = false → Gives (.devResetRelease b) s fun t =>
      t.aon.straps = some b ∧ t.aon.inReset = false ∧ t.aon.boot = .rails ∧ t.domOn 1 = true ∧ t.mem = s.mem ∧ t.tb = s.tb))

/-- Device resets and rail faults reset every main domain and keep what PD_AON holds (17_start_up_defaults_sideband.md, 19_package_and_electrical.md).
DEV_RESET, DEVICE_RESET_COMMAND with power good and MAIN_RAIL_FAULT with a reading beyond the fault limits lose memory, keys, rings and counters, take
every link down, and keep TB, the waiting commands, the fuses, the image slots, the repair list and the Pannier die. -/
def Obligations.ResetsOfMainDomains : Prop :=
  ∀ s : State, s.aon.kick = true →
    (s.aon.inReset = false → Gives .devReset s fun t => MainLost s t ∧ t.aon.inReset = true) ∧
    (s.aon.holding = false → s.aon.eid ≠ 0 → s.hsw.pg = true → Gives .deviceResetCommand s fun t => MainLost s t ∧ Msg.sideband .ok ∈ t.out) ∧
    (∀ (r : Rail) (mv : Nat), s.aon.rails = true → s.aon.railFault = false → (mv < (railLimits r).1 ∨ (railLimits r).2 < mv) →
      Gives (.mainRailFault r mv) s fun t => MainLost s t ∧ t.aon.railFault = true)

/-- GEN_ID reads 0x001600B1 through every head and through the sideband (R2). A read of offset 0 returns 0x001600B1 through any presented head while the
registers answer, and through the sideband, READ_REGISTER included, whenever Kickstand serves it; the read changes nothing but the message sent. -/
def Obligations.GenIdReads : Prop :=
  ∀ s : State,
    (∀ h : Head, s.mainRuns = true → h ∈ s.heads → s.readWord (.head h) 0 = (0x001600B1, s)) ∧
    (s.sbUp = true → s.readWord .sideband 0 = (0x001600B1, s)) ∧
    (KickServes s → exec (.readRegister 0) s = .next { s with out := s.out ++ [.register .sideband 0 0x001600B1] })

/-- An offset with no register reads zero and takes no write (R7). At a 4-byte-aligned BAR0 offset where no register is defined and which is no
CXL-defined one, a 4-byte read returns four bytes of zero and changes nothing but the message sent, and a 4-byte write changes nothing at all. -/
def Obligations.UndefinedOffsets : Prop :=
  ∀ (s : State) (w : Via) (off : BitVec 24) (v : BitVec 32768), off.toNat % 4 = 0 → regAt off.toNat = none → cxlReg off.toNat = false →
    exec (.registerWrite w (.bar0 off) 4 v) s = .next s ∧
    (s.regAnswers w off.toNat = true → exec (.pairedLowRead w .b0 off 4) s = .next { s with out := s.out ++ [.readData w .b0 off.toNat [0, 0, 0, 0]] })

/-- A read of a low half latches the high half for its source alone (R5). A 4-byte PAIRED_LOW_READ of the low half of a paired register answers that half
and latches its high half for the source that read it; a later read of the high half through that source returns what the register held at the
low-half read, no other source's latch changes, and nothing else changes but the message sent. -/
def Obligations.LowHalfLatchesHighHalf : Prop :=
  ∀ (s : State) (w : Via) (off : BitVec 24), pairedLow off.toNat = true → s.regAnswers w off.toNat = true →
    ∃ t : State, exec (.pairedLowRead w .b0 off 4) s = .next t ∧
      t.out = s.out ++ [.readData w .b0 off.toNat (leBytes 4 (s.view w off.toNat).toNat)] ∧
      (∀ u : State, u.latches = t.latches → u.regAnswers w (off.toNat + 4) = true → u.readWord w (off.toNat + 4) = (s.view w (off.toNat + 4), u)) ∧
      (∀ (w' : Via) (o : Nat), w' ≠ w → o < 2 ^ 24 → t.latches.get 0 (latchKey w' o) = s.latches.get 0 (latchKey w' o)) ∧
      { t with out := s.out, latches := s.latches } = s

/-- SETUP_LOCK, RTK_PARTITION, PMU_GSEL and PMU_OVF_CLR (R451, R10, R447, R57, R58, R417, R421, R418, R419). Through the owner head or the sideband with
the lock open, SETUP_LOCK sets LOCK and changes no other register; with the lock set it changes only LOCK_DROP; through another presented head it is
discarded and changes only NONOWN_DROP. Nothing outside the registers changes. With the lock open, through the owner head or the sideband, a word
whose four fields total 64 with TRM at least 1, COPY and CMD at least 2 and DRL at least 8 is the new division; any other sets PART_ERR and leaves the
division. Only those registers change. Through the owner head or the sideband, a write of PMU_GSELg with CLR zeroes general counter g and then names
its source, and without CLR leaves its value; OVF_CLEAR with ALL clears every OVF bit, and with a group and index clears that counter's OVF alone,
keeping its value. No other counter, no memory and nothing else changes. A 64-bit read of a counter's place in BAR2 through a head returns it where
USER_EN and the head's GRP_MASK allow its group, and eight zero bytes otherwise; it changes nothing but a latch and the message. -/
def Obligations.SetupRegisters : Prop :=
  (∀ (s : State) (w : Via), s.regAnswers w 0x8 = true →
    (s.isOwner w = true → s.locked = false → Gives (.setupLock w) s fun t =>
      t.locked = true ∧ (∀ off, off ≠ 0x8 → t.word off = s.word off) ∧ { t with csr := s.csr } = s) ∧
    (s.isOwner w = true → s.locked = true → Gives (.setupLock w) s fun t =>
      t.locked = true ∧ t.fb Reg.GEN_STATUS.LOCK_DROP = true ∧ (∀ off, off ≠ 0x4 → t.word off = s.word off) ∧ { t with csr := s.csr } = s) ∧
    (s.isOwner w = false → Gives (.setupLock w) s fun t =>
      t.locked = s.locked ∧ t.fb Reg.GEN_STATUS.NONOWN_DROP = true ∧ (∀ off, off ≠ 0x4 → t.word off = s.word off) ∧ { t with csr := s.csr } = s)) ∧
  (∀ (s : State) (w : Via) (v : Word), s.regAnswers w 0x24010 = true → s.isOwner w = true → s.locked = false →
    (partOk v = true → Gives (.rtkPartitionWrite w v) s fun t =>
      t.word 0x24010 &&& 0xFFFFFFF = v &&& 0xFFFFFFF ∧ (∀ off, off ≠ 0x24010 → t.word off = s.word off) ∧ { t with csr := s.csr } = s) ∧
    (partOk v = false → Gives (.rtkPartitionWrite w v) s fun t =>
      t.fb Reg.RTK_STATUS.PART_ERR = true ∧ (∀ off, off ≠ 0x24000 → t.word off = s.word off) ∧ { t with csr := s.csr } = s)) ∧
  (∀ (s : State) (w : Via), s.regAnswers w 0x740100 = true → s.isOwner w = true →
    (∀ (g : Fin 64) (v : Word), Gives (.generalCounterSelect w g v) s fun t =>
      t.word (0x740100 + 4 * g.val) = v &&& 0xB03FF07F ∧
      t.pmu.general.get Counter.zero g.val = (if v.getLsbD 30 then Counter.zero else s.pmu.general.get Counter.zero g.val) ∧
      (∀ j, j ≠ g.val → t.pmu.general.get Counter.zero j = s.pmu.general.get Counter.zero j) ∧ t.pmu.always = s.pmu.always ∧
      (∀ off, off ≠ 0x740100 + 4 * g.val → t.word off = s.word off) ∧ { t with csr := s.csr, pmu := s.pmu } = s) ∧
    (∀ v : Word, v.getLsbD 31 = true → Gives (.ovfClear w v) s fun t =>
      (∀ c ∈ t.pmu.always, c.2.ovf = false) ∧ (∀ c ∈ t.pmu.general, c.2.ovf = false) ∧ { t with pmu := s.pmu } = s) ∧
    (∀ v : Word, v.getLsbD 31 = false → (v &&& 0x7F).toNat < 72 → Gives (.ovfClear w v) s fun t =>
      let k := pmuKey (v >>> 12 &&& 0xF).toNat (v &&& 0x7F).toNat
      t.pmu.always.get Counter.zero k = { s.pmu.always.get Counter.zero k with ovf := false } ∧
      (∀ j, j ≠ k → t.pmu.always.get Counter.zero j = s.pmu.always.get Counter.zero j) ∧ t.pmu.general = s.pmu.general ∧ { t with pmu := s.pmu } = s) ∧
    (∀ h ∈ s.heads, s.regsUp = true → ∀ (g : Fin 16) (i : Fin 72), Gives (.pairedLowRead (.head h) .b2 (BitVec.ofNat 24 (65536 * g.val + 8 * i.val)) 8) s fun t =>
      { t with out := s.out, latches := s.latches } = s ∧
      t.out = s.out ++ [.readData (.head h) .b2 (65536 * g.val + 8 * i.val)
        (leBytes 8 (if s.fbit Reg.PMU_CTL.USER_EN h.val = true ∧ s.fbit (Reg.PMU_USER_MASKh.GRP_MASK.nth h.val) g.val = true then (s.alwaysWord g.val i.val).toNat else 0))]))

/-- REGISTER_WRITE by its source and target (R9, R10, R11, R447, R445, R418). A 4-byte write to a device-wide register through a head other than the owner
changes nothing but NONOWN_DROP. Through the owner head or the sideband with the lock open, DRL_CFG takes the written value in its writable bits and
no other register changes; with the lock set it keeps its value and LOCK_DROP is set. A write of at least 4 bytes of BI Enable, of the IDE mode, of
the power state or of another CXL-defined register changes only that register of the head, or of the owner head for the sideband. A write to BAR2 is
discarded. -/
def Obligations.RegisterWritesBySource : Prop :=
  ∀ (s : State) (w : Via) (v : BitVec 32768),
    (∀ off : BitVec 24, off.toNat % 4 = 0 → 0x200000 ≤ off.toNat → off.toNat < 0x800000 → (regAt off.toNat).isSome = true → s.regAnswers w off.toNat = true → s.isOwner w = false →
      Gives (.registerWrite w (.bar0 off) 4 v) s fun t => t.fb Reg.GEN_STATUS.NONOWN_DROP = true ∧ (∀ o, o ≠ 0x4 → t.word o = s.word o) ∧ { t with csr := s.csr } = s) ∧
    (s.regAnswers w 0x240000 = true → s.isOwner w = true →
      (s.locked = false → Gives (.registerWrite w (.bar0 0x240000) 4 v) s fun t =>
        t.word 0x240000 = (s.word 0x240000 &&& 0xFFFFFFF0 ||| v.setWidth 32 &&& 0xF) ∧ (∀ o, o ≠ 0x240000 → t.word o = s.word o) ∧ { t with csr := s.csr, doms := s.doms } = s) ∧
      (s.locked = true → Gives (.registerWrite w (.bar0 0x240000) 4 v) s fun t =>
        t.word 0x240000 = s.word 0x240000 ∧ t.fb Reg.GEN_STATUS.LOCK_DROP = true ∧ { t with csr := s.csr } = s)) ∧
    (∀ (off : BitVec 20) (size : Fin 4097), exec (.registerWrite w (.bar2 off) size v) s = .next s) ∧
    (s.regAnswers w 0x10000 = true → ∀ size : Fin 4097, 4 ≤ size.val →
      exec (.registerWrite w .biEnable size v) s = .next (s.updPort (s.viewHead w) fun p => { p with biEnable := v.getLsbD 0 }) ∧
      exec (.registerWrite w .ideMode size v) s = .next (s.updPort (s.viewHead w) fun p => { p with ideContain := v.getLsbD 0, ideAgg := clamp 1 5 ((v >>> 1).toNat % 8) }) ∧
      exec (.registerWrite w .powerState size v) s = .next (s.updPort (s.viewHead w) fun p => { p with d3hot := v.getLsbD 0 }) ∧
      ∀ off : BitVec 24, exec (.registerWrite w (.cxlOther off) size v) s = .next (s.updPort (s.viewHead w) fun p => { p with cxlRegs := p.cxlRegs.set 0 off.toNat (v.setWidth 32) }))

/-- MCTP control and Fabric Manager API messages (R440, R441, R443). While Kickstand runs on good standby, with or without an EID: SET_ENDPOINT_ID sets
the EID and is acknowledged; GET_ENDPOINT_ID answers it; GET_MCTP_VERSION_SUPPORT, GET_MESSAGE_TYPE_SUPPORT and GET_ENDPOINT_UUID answer the versions,
the types 0x00, 0x01, 0x05, 0x06, 0x07 and 0x7E, and the UUID. Nothing else changes. With an EID assigned and Clandahar running with PD_MGT ON, each
FM API command answers what the rules give and changes nothing else (FM_SET_RESPONSE_MESSAGE_LIMIT also the limit); an unsupported opcode is answered
Unsupported. -/
def Obligations.SidebandQueries : Prop :=
  (∀ s : State, s.sbUp = true →
    (∀ e : BitVec 8, exec (.setEndpointId e) s = .next { s with aon := { s.aon with eid := e }, out := s.out ++ [.sideband .ok] }) ∧
    exec .getEndpointId s = .next { s with out := s.out ++ [.sideband (.nats [s.aon.eid.toNat])] } ∧
    exec .getMctpVersionSupport s = .next { s with out := s.out ++ [.sideband (.bytes Config.mctpVersions)] } ∧
    exec .getMessageTypeSupport s = .next { s with out := s.out ++ [.sideband (.nats [0x00, 0x01, 0x05, 0x06, 0x07, 0x7E])] } ∧
    exec .getEndpointUuid s = .next { s with out := s.out ++ [.sideband (.bytes Config.uuid)] }) ∧
  (∀ s : State, SidebandServes s →
    exec .fmIdentify s = .next { s with out := s.out ++ [.sideband (.bytes Config.identity)] } ∧
    exec .fmBackgroundOperationStatus s = .next { s with out := s.out ++ [.sideband (.nats (bgWords none))] } ∧
    exec .fmGetResponseMessageLimit s = .next { s with out := s.out ++ [.sideband (.nats [s.mgt.fmLimit.toNat])] } ∧
    (∀ l : BitVec 8, exec (.fmSetResponseMessageLimit l) s = .next { s with mgt := { s.mgt with fmLimit := l }, out := s.out ++ [.sideband .ok] }) ∧
    exec .getMultiHeadedInfo s = .next { s with out := s.out ++ [.sideband (.nats (s.heads.length :: s.heads.map (·.val)))] } ∧
    exec .getDcdInfo s = .next { s with out := s.out ++ [.sideband (.nats [s.heads.length, 8, 68719476736])] } ∧
    (∀ h ∈ s.heads, exec (.getHeadInfo h) s = .next { s with out := s.out ++ [.sideband (.nats [(s.port h).rate, (s.port h).width, (s.port h).up.toNat])] } ∧
      exec (.getHostDcRegionConfiguration h) s = .next { s with out := s.out ++ [.sideband (.nats (s.dcConfig h))] } ∧
      exec (.getDcRegionExtentLists h) s = .next { s with out := s.out ++ [.sideband (.nats (s.dcExtents h))] }) ∧
    (∀ op : BitVec 16, exec (.fmUnsupported op) s = .next { s with out := s.out ++ [.sideband (.refused "UNSUPPORTED")] }))

/-- PLDM sensor reads and the event receiver (R442, R5). With Clandahar serving: a read of a counter's low sensor answers the low half of the counter and
latches its high half, which the next read of the high sensor answers; a number that the PDR repository gives no sensor is refused; SET_EVENT_RECEIVER
sets the receiver. Nothing else changes, but that a sensor read takes a free value. -/
def Obligations.PldmCommands : Prop :=
  ∀ s : State, SidebandServes s →
    (∀ id : BitVec 16, 0x4000 ≤ id.toNat → id.toNat ≤ 0x497F → id.toNat % 2 = 0 →
      ∃ t u : State, exec (.pldmSensorRead id) s = .next t ∧ { t with out := s.out, latches := s.latches } = s ∧
        t.out = s.out ++ [.sideband (.word ((s.counterSensor ((id.toNat - 0x4000) / 2)).setWidth 32))] ∧
        exec (.pldmSensorRead (id + 1)) t = .next u ∧
        u = { t with out := t.out ++ [.sideband (.word ((s.counterSensor ((id.toNat - 0x4000) / 2) >>> 32).setWidth 32))] }) ∧
    (∀ id : BitVec 16, (id.toNat < 0x4000 ∨ 0x497F < id.toNat) →
      (Config.sensorOf id.toNat = none → exec (.pldmSensorRead id) s = .next { s with out := s.out ++ [.sideband (.refused "INVALID_SENSOR_ID")] }) ∧
      ∀ x, Config.sensorOf id.toNat = some x → ∃ r, exec (.pldmSensorRead id) s = .next { s with free := s.free + 1, out := s.out ++ [.sideband r] } ∧
        (∀ i, x = .die i → r = .numbers [s.cad.die.get 0 i.val]) ∧ (∀ n, x = .dimm n → r = .numbers [s.cad.dimm.get 0 n.val]) ∧
        (x = .devPower → r = .nats [s.f Reg.CAD_POWER.DEV_DW]) ∧ (x = .dramPower → r = .nats [s.f Reg.CAD_POWER.DRAM_DW])) ∧
    (∀ e : Option (BitVec 8), exec (.setEventReceiver e) s = .next { s with aon := { s.aon with receiver := e }, out := s.out ++ [.sideband .ok] })

/-- Vendor commands that read and write registers and the Pannier (R441, R448, R430, R427). READ_REGISTER of the HSW, BBX and SNS blocks needs Kickstand
alone and of the rest Clandahar; both answer the word that the register reads as and keep everything but a latch. WRITE_REGISTER of a plain register
of the HSW block changes that block's register and is acknowledged. READ_PANNIER_SLOT answers RESULT and the 256 bytes: those of the record in a valid
slot, 0xFF in an erased one. CLEAR_PINNED erases the pinned array. -/
def Obligations.SidebandVendorCommands : Prop :=
  ∀ s : State, KickServes s →
    (∀ off : BitVec 24, off.toNat % 4 = 0 → (aonReg off.toNat = true ∨ SidebandServes s) → pairedLow off.toNat = false → off.toNat ≠ 0x75001C → Gives (.readRegister off) s fun t =>
      t = { s with out := s.out ++ [.register .sideband off.toNat (s.readWord .sideband off.toNat).1] }) ∧
    (∀ v : Word, Gives (.writeRegister 0x730008 v) s fun t =>
      t.word 0x730008 = (s.word 0x730008 &&& 0xFFF00000 ||| v &&& 0xFFFFF) ∧ (∀ off, off ≠ 0x730008 → t.word off = s.word off) ∧
      t.out = s.out ++ [.sideband .ok] ∧ { t with csr := s.csr, out := s.out } = s) ∧
    (s.pan.programming = none → ∀ slot : BitVec 16,
      (∀ r, s.pan.ring.look slot.toNat = some (.valid r) → Gives (.readPannierSlot false slot) s fun t =>
        t.out = s.out ++ [.sideband (.bytes (0 :: padTo 256 r.bytes))] ∧ t.pan.ring = s.pan.ring ∧ { t with out := s.out, free := s.free, pan := s.pan } = s) ∧
      (s.pan.ring.look slot.toNat = none → Gives (.readPannierSlot false slot) s fun t =>
        t.out = s.out ++ [.sideband (.bytes (1 :: List.replicate 256 0xFF))] ∧ t.pan.ring = s.pan.ring ∧ { t with out := s.out, free := s.free, pan := s.pan } = s)) ∧
    Gives .clearPinned s fun t => t.pan.pinned = [] ∧ t.pan.nextPin = 0 ∧ t.pan.ring = s.pan.ring ∧ t.out = s.out ++ [.sideband .ok] ∧
      { t with out := s.out, pan := s.pan, csr := s.csr, pmu := s.pmu } = s

/-- The Pannier: reads, the queue, and programming (R430, R446, R427, R422, R424, R425, R426, R429). Through the owner head or the sideband, a fetch of a
slot that is not being programmed gives RESULT 0 and the record's bytes, 1 and 0xFF for an erased slot, 2 for a torn one, from its first byte, in the
reader's own context; each read of the data answers the next four bytes and moves on by four. PIN_CLEAR over the sideband erases the pinned array;
through a head it is discarded. The ring array never changes, nor anything outside the Pannier, the messages and the flags named. PANNIER_RECORD_RAISE
of a record that is not exempt, with a token and fewer than 56 records waiting, takes one token and the next SEQ; with no token it is dropped and
DROPPED is set. SLOT_PROGRAM_DONE puts the record in progress into its slot and moves on by one slot; SECTOR_ERASE_DONE erases the sector after the
one being written and no other; WRITE_TOKEN_REFILL adds 8 tokens up to 4,096; PANNIER_SCAN_DONE ends the scan, raises EPOCH above every EPOCH of the
die and leaves its records. Memory and every block but the Pannier, its registers and counters stay as they were. -/
def Obligations.PannierRecords : Prop :=
  (∀ (s : State) (w : Via),
    (s.regAnswers w 0x750018 = true → s.isOwner w = true → s.pan.programming = none → ∀ slot : BitVec 16, Gives (.pannierSlotFetch w false slot) s fun t =>
      (∀ r, s.pan.ring.look slot.toNat = some (.valid r) → t.readCtx w = ⟨false, slot, true, 0, r.bytes, 0⟩) ∧
      (s.pan.ring.look slot.toNat = none → t.readCtx w = ⟨false, slot, true, 1, List.replicate 256 0xFF, 0⟩) ∧
      (s.pan.ring.look slot.toNat = some .torn → (t.readCtx w).result = 2 ∧ (t.readCtx w).done = true) ∧
      (∀ w', viaKey w' ≠ viaKey w → t.readCtx w' = s.readCtx w') ∧ { t with free := s.free, pan := { t.pan with ctx := s.pan.ctx } } = s) ∧
    (s.regAnswers w 0x75001C = true → s.isOwner w = true → Gives (.pannierReadData w) s fun t =>
      t.out = s.out ++ [.register w 0x75001C (BitVec.ofNat 32 (ofLe (((s.readCtx w).buf.drop (4 * (s.readCtx w).ptr)).take 4)))] ∧
      t.readCtx w = { s.readCtx w with ptr := (s.readCtx w).ptr + 1 } ∧ { t with out := s.out, pan := { t.pan with ctx := s.pan.ctx } } = s) ∧
    (s.sbUp = true → Gives (.pinClear .sideband) s fun t => t.pan.pinned = [] ∧ t.pan.nextPin = 0 ∧ t.pan.ring = s.pan.ring ∧
      { t with pan := s.pan, csr := s.csr, pmu := s.pmu } = s) ∧
    (∀ h : Head, s.regAnswers (.head h) 0x750020 = true → Gives (.pinClear (.head h)) s fun t => t.fb Reg.GEN_STATUS.NONOWN_DROP = true ∧ { t with csr := s.csr } = s)) ∧
  (∀ s : State, s.aon.kick = true →
    (∀ r : PanSrc, s.aon.holding = false →
      (PanRec.exempt (s.panRec r.domain.val r.unit.toNat r.kind.toNat r.event r.sev.val r.addr.toNat r.addrKind.val r.regOff.toNat false r.detail) = false →
        (0 < s.pan.tokens → s.pan.queue.length < 56 → Gives (.pannierRecordRaise r) s fun t =>
          t.pan.tokens = s.pan.tokens - 1 ∧ t.pan.seq = s.pan.seq + 1 ∧ t.pan.ring = s.pan.ring ∧ { t with pan := s.pan, csr := s.csr } = s) ∧
        (s.pan.tokens = 0 → Gives (.pannierRecordRaise r) s fun t =>
          t.fb Reg.BBX_STATUS.DROPPED = true ∧ t.pan.queue = s.pan.queue ∧ t.pan.seq = s.pan.seq ∧ { t with pan := s.pan, csr := s.csr, pmu := s.pmu } = s))) ∧
    (∀ r pin slot, s.pan.programming = some (r, pin, slot) → Gives .slotProgramDone s fun t =>
      t.pan.ring = s.pan.ring.put slot (.valid r) ∧ t.pan.next = (slot + 1) % 65536 ∧ (pin = false → t.pan.pinned = s.pan.pinned) ∧
      (pin = true → t.pan.pinned = s.pan.pinned.put s.pan.nextPin (.valid r)) ∧ { t with pan := s.pan, csr := s.csr, pmu := s.pmu } = s) ∧
    (s.pan.erasing = true → Gives .sectorEraseDone s fun t =>
      t.pan.erasing = false ∧ (∀ k, t.pan.ring.look k = if k / 16 = (s.pan.next / 16 + 1) % 4096 then none else s.pan.ring.look k) ∧ { t with pan := s.pan, csr := s.csr } = s) ∧
    (s.pan.drops = [] → exec .writeTokenRefill s = .next { s with pan := { s.pan with tokens := min 4096 (s.pan.tokens + 8) } }) ∧
    (s.pan.ready = false → Gives .pannierScanDone s fun t =>
      t.pan.ready = true ∧ t.pan.ring = s.pan.ring ∧ t.pan.pinned = s.pan.pinned ∧ { t with pan := s.pan, csr := s.csr, pmu := s.pmu } = s ∧
      ∀ k r, (k, PanSlot.valid r) ∈ s.pan.ring → r.epoch.toNat < 2 ^ 32 - 1 → (∀ j q, (j, PanSlot.valid q) ∈ s.pan.ring → q.epoch.toNat < 2 ^ 32 - 1) → r.epoch.toNat < t.pan.epoch.toNat))

/-- Region entries and HDM decoders (R174, R359, R447, R176, R67). Through the owner head or the sideband with the lock open and the entry not busy: an
HDM-H entry, or any with the directory slices ON, that passes every check is valid with the written KEY, CLASS and KIND and its ranges as they were,
and nothing but its CTL register changes; one that fails a check stays as it was and REJ is set with the entry and the code. An HDM-DB entry while a
directory slice is not ON waits as a pending check. A busy entry is rejected with code 0xC. Through the owner head or the sideband with the lock open,
a write that clears VALID of a valid entry that is not the static one and not busy: an HDM-H entry that does not hold the ring window stops decoding
at once; an HDM-DB entry stays valid with its removal in progress. REGION_REMOVAL_DONE ends a removal once no line of it is held and none of its
snoops is open. REGION_CHECK_AFTER_WAKE with the directory slices ON settles every pending check and changes only registers beside them.
HDM_DECODER_COMMIT on a presented head: with 1, 2, 3, 4, 6, 8, 12 or 16 ways and a granularity of 256 B to 16 KiB the decoder commits with the given
range; any other setting sets its error and decodes nothing. Other decoders, other heads and everything else stay as they were. -/
def Obligations.RegionTable : Prop :=
  (∀ (s : State) (w : Via) (n : Head) (e : Fin 9) (v : Word), s.mainRuns = true → s.isOwner w = true → n ∈ s.heads → s.locked = false →
    let r := s.proposed n e (v ||| 1)
    (s.rgnBusy n e = false → (r.db = false ∨ s.dirOn = true) → s.rgnFail r = none → Gives (.regionEntryEnable w n e v) s fun t =>
      t.region n e = { s.region n e with key := r.key, cls := r.cls, db := r.db, origin := false, valid := true } ∧
      (∀ off, off ≠ rgnOff n e + 12 → t.word off = s.word off) ∧ { t with csr := s.csr } = s) ∧
    (s.rgnBusy n e = false → (r.db = false ∨ s.dirOn = true) → ∀ c, s.rgnFail r = some c → c ≤ 12 → Gives (.regionEntryEnable w n e v) s fun t =>
      t.region n e = s.region n e ∧ t.fb (Reg.PRTn_RGN_STATUS.REJ.nth n.val) = true ∧ t.f (Reg.PRTn_RGN_STATUS.REJ_ENTRY.nth n.val) = e.val ∧
      t.f (Reg.PRTn_RGN_STATUS.REJ_CODE.nth n.val) = c ∧ { t with csr := s.csr } = s) ∧
    (s.rgnBusy n e = false → r.db = true → s.dirOn = false → Gives (.regionEntryEnable w n e v) s fun t =>
      t.dir.checks = s.dir.checks ++ [(n, e, v ||| 1)] ∧ t.region n e = s.region n e ∧ t.csr = s.csr ∧ { t with dir := s.dir, doms := s.doms } = s) ∧
    (s.rgnBusy n e = true → Gives (.regionEntryEnable w n e v) s fun t =>
      t.region n e = s.region n e ∧ t.f (Reg.PRTn_RGN_STATUS.REJ_CODE.nth n.val) = 12 ∧ { t with csr := s.csr } = s)) ∧
  (∀ (s : State) (n : Head) (e : Fin 9),
    (∀ (w : Via) (v : Word), s.mainRuns = true → s.isOwner w = true → n ∈ s.heads → s.locked = false → s.rgnBusy n e = false →
      (s.region n e).valid = true → (s.region n e).origin = false →
      ((s.region n e).db = false → s.windowIn n e = false → Gives (.regionEntryRemove w n e v) s fun t =>
        (t.region n e).valid = false ∧ (∀ off, off ≠ rgnOff n e + 12 → t.word off = s.word off) ∧ { t with csr := s.csr, dir := s.dir } = s ∧ t.dir.entries = s.dir.entries) ∧
      ((s.region n e).db = true → s.heldIn n (s.region n e) = [] → Gives (.regionEntryRemove w n e v) s fun t =>
        (t.region n e).valid = true ∧ t.rgnBusy n e = true ∧ t = { s with dir := { s.dir with removals := s.dir.removals ++ [(n, e)] } })) ∧
    ((n, e) ∈ s.dir.removals → s.heldIn n (s.region n e) = [] → (∀ q ∈ s.dir.snoops, q.cause ≠ .removal n e) → s.windowIn n e = false →
      Gives (.regionRemovalDone n e) s fun t =>
        (t.region n e).valid = false ∧ (n, e) ∉ t.dir.removals ∧ (∀ x ∈ s.dir.removals, x ≠ (n, e) → x ∈ t.dir.removals) ∧
        (∀ off, off ≠ rgnOff n e + 12 → t.word off = s.word off) ∧ { t with csr := s.csr, dir := { t.dir with removals := s.dir.removals } } = s) ∧
    (s.dirOn = true → Gives .regionCheckAfterWake s fun t =>
      t.dir.checks = [] ∧ { t with csr := s.csr, dir := { t.dir with checks := s.dir.checks } } = s)) ∧
  (∀ (s : State) (h : Head) (i : Fin 4) (base size : BitVec 52) (ways : Fin 17) (gran : Nat), s.mainRuns = true → h ∈ s.heads →
    Gives (.hdmDecoderCommit h i base size ways gran) s fun t =>
      let ok := decide (ways.val ∈ [1, 2, 3, 4, 6, 8, 12, 16] ∧ gran ∈ [256, 512, 1024, 2048, 4096, 8192, 16384])
      (t.port h).hdm.look i.val = some ⟨ok, !ok, base.toNat, size.toNat, ways.val, gran⟩ ∧
      (∀ j, j ≠ i.val → (t.port h).hdm.look j = (s.port h).hdm.look j) ∧ { t.port h with hdm := (s.port h).hdm } = s.port h ∧
      (∀ g, g ≠ h → t.port g = s.port g) ∧ { t with ports := s.ports } = s)

/-- The ring window and the enabling of rings (R325, R327, R447, R328, R330). Through its own head, with the window disabled: a base whose whole window
lies in one valid firm region entry enables the window, any other sets WIN_ERR and leaves it disabled; the base is taken either way. With the window
enabled and no ring enabled it is disabled; with a ring enabled code 0xA is logged and it stays. Only CMD_WINh, or CMD_STATUS for the logged error,
changes. Through the owning head with the window enabled: a disabled SQ whose area fits and whose CQ is enabled and the head's own takes the written
word, is enabled and starts at count 0; a disabled CQ whose area fits likewise. An enabled SQ is disabled with its other fields as they were and its
doorbell counts dropped; an enabled CQ that no enabled SQ names and that awaits no completion likewise. Through another head nothing changes but
NONOWN_DROP and the logged error. -/
def Obligations.RingControl : Prop :=
  (∀ (s : State) (h : Head), s.mainRuns = true → h ∈ s.heads →
    (∀ base : BitVec 25, s.fb (Reg.CMD_WINh.EN.nth h.val) = false →
      let u := s.setF (Reg.CMD_WINh.BASE_2M.nth h.val) base.toNat
      (u.windowOk h = true → Gives (.ringWindowEnable (.head h) h base) s fun t =>
        t.fb (Reg.CMD_WINh.EN.nth h.val) = true ∧ t.f (Reg.CMD_WINh.BASE_2M.nth h.val) = base.toNat ∧ t.fb (Reg.CMD_WINh.WIN_ERR.nth h.val) = false ∧
        (∀ off, off ≠ 0x800040 + 8 * h.val → t.word off = s.word off) ∧ { t with csr := s.csr } = s) ∧
      (u.windowOk h = false → Gives (.ringWindowEnable (.head h) h base) s fun t =>
        t.fb (Reg.CMD_WINh.EN.nth h.val) = false ∧ t.f (Reg.CMD_WINh.BASE_2M.nth h.val) = base.toNat ∧ t.fb (Reg.CMD_WINh.WIN_ERR.nth h.val) = true ∧
        (∀ off, off ≠ 0x800040 + 8 * h.val → t.word off = s.word off) ∧ { t with csr := s.csr } = s)) ∧
    (s.fb (Reg.CMD_WINh.EN.nth h.val) = true →
      (s.anyRing h = false → Gives (.ringWindowDisable (.head h) h) s fun t =>
        t.fb (Reg.CMD_WINh.EN.nth h.val) = false ∧ t.f (Reg.CMD_WINh.BASE_2M.nth h.val) = s.f (Reg.CMD_WINh.BASE_2M.nth h.val) ∧
        (∀ off, off ≠ 0x800040 + 8 * h.val → t.word off = s.word off) ∧ { t with csr := s.csr } = s) ∧
      (s.anyRing h = true → Gives (.ringWindowDisable (.head h) h) s fun t =>
        t.fb (Reg.CMD_WINh.EN.nth h.val) = true ∧ t.f Reg.CMD_STATUS.CODE = 0xA ∧ (∀ off, off ≠ 0x800000 → t.word off = s.word off) ∧ { t with csr := s.csr } = s)) ∧
    (∀ w, w ≠ Via.head h → Gives (.ringWindowDisable w h) s fun t => t.fb Reg.GEN_STATUS.NONOWN_DROP = true ∧ (∀ off, off ≠ 4 → t.word off = s.word off) ∧ { t with csr := s.csr } = s)) ∧
  (∀ (s : State) (h : Head) (r : Ring), s.mainRuns = true → h ∈ s.heads → s.ringOwner r = h → s.fb (Reg.CMD_WINh.EN.nth h.val) = true →
    (∀ v : BitVec 31, s.sqEn r = false →
      let u := s.setWord (0x800100 + 4 * r.val) (v.zeroExtend 32)
      u.ringFits h (u.sqOff r) (64 * u.sqSize r) (some r) none = true → u.cqEn (u.sqCq r) = true → u.ringOwner (u.sqCq r) = h →
      Gives (.sqEnable (.head h) r v) s fun t =>
        t.word (0x800100 + 4 * r.val) = 0x80000000 ||| v.zeroExtend 32 ∧ t.sqEn r = true ∧ t.cmd = { s.cmd with sqs := s.cmd.sqs.put r.val ⟨0, 0⟩ } ∧
        (∀ off, off ≠ 0x800100 + 4 * r.val → t.word off = s.word off) ∧ { t with csr := s.csr, cmd := s.cmd } = s) ∧
    (s.sqEn r = true → Gives (.sqDisable (.head h) r) s fun t =>
      t.word (0x800100 + 4 * r.val) = s.word (0x800100 + 4 * r.val) &&& 0x7FFFFFFF ∧ t.sqEn r = false ∧
      t.cmd = { s.cmd with bells := s.cmd.bells.filter fun b => !(!b.cq && b.ring == r) } ∧
      (∀ off, off ≠ 0x800100 + 4 * r.val → t.word off = s.word off) ∧ { t with csr := s.csr, cmd := s.cmd } = s) ∧
    (∀ v : BitVec 31, s.cqEn r = false →
      let u := s.setWord (0x800200 + 4 * r.val) (v.zeroExtend 32 &&& 0x7FF1FFFF)
      u.ringFits h (u.cqOff r) (32 * u.cqSize r) none (some r) = true →
      Gives (.cqEnable (.head h) r v) s fun t =>
        t.word (0x800200 + 4 * r.val) = 0x80000000 ||| (v.zeroExtend 32 &&& 0x7FF1FFFF) ∧ t.cqEn r = true ∧ t.cmd = { s.cmd with cqs := s.cmd.cqs.put r.val ⟨0, 0, 0, 0⟩ } ∧
        (∀ off, off ≠ 0x800200 + 4 * r.val → t.word off = s.word off) ∧ { t with csr := s.csr, cmd := s.cmd } = s) ∧
    (s.cqEn r = true → s.cqWaits r = false → (∀ q : Ring, s.sqEn q = true → s.sqCq q ≠ r) → Gives (.cqDisable (.head h) r) s fun t =>
      t.cqEn r = false ∧ t.cmd = { s.cmd with bells := s.cmd.bells.filter fun b => !(b.cq && b.ring == r) } ∧
      (∀ off, off ≠ 0x800200 + 4 * r.val → t.word off = s.word off) ∧ { t with csr := s.csr, cmd := s.cmd } = s) ∧
    (∀ g : Head, g ≠ h → Gives (.sqDisable (.head g) r) s fun t => t.sqEn r = s.sqEn r ∧ t.fb Reg.GEN_STATUS.NONOWN_DROP = true ∧ t.f Reg.CMD_STATUS.CODE = 4 ∧ { t with csr := s.csr } = s))

/-- Doorbell counts move a ring forward, or are discarded, or stop it (R329, R330). A count passed for an enabled SQ that is above the count seen and at
most the ring size above the count fetched becomes the count seen; one further on disables the SQ and logs code 0x5. A count passed for an enabled CQ
above the count seen and at most the count produced becomes the count seen. One not above the count seen is discarded and counted. The taken count
leaves the doorbell queue, and memory stays as it was. -/
def Obligations.Doorbells : Prop :=
  ∀ (s : State) (r : Ring),
    (∀ p u q, s.takeBell false r = some (p, u) → s.cmd.sqs.look r.val = some q → s.sqEn r = true →
      (q.seen < p → p ≤ q.fetched + s.sqSize r → exec (.sqDoorbell r) s = .next { u with cmd := { u.cmd with sqs := u.cmd.sqs.put r.val { q with seen := p } } }) ∧
      (q.seen < p → q.fetched + s.sqSize r < p → Gives (.sqDoorbell r) s fun t => t.sqEn r = false ∧ t.f Reg.CMD_STATUS.CODE = 5 ∧ t.mem = s.mem ∧ t.cmd.cmds = s.cmd.cmds) ∧
      (p ≤ q.seen → Gives (.sqDoorbell r) s fun t => { t with pmu := s.pmu } = u)) ∧
    (∀ p u q, s.takeBell true r = some (p, u) → s.cmd.cqs.look r.val = some q → s.cqEn r = true →
      (q.seen < p → p ≤ q.produced → exec (.cqDoorbell r) s = .next { u with cmd := { u.cmd with cqs := u.cmd.cqs.put r.val { q with seen := p } } }) ∧
      (p ≤ q.seen → Gives (.cqDoorbell r) s fun t => { t with pmu := s.pmu } = u) ∧
      (q.seen < p → q.produced < p → Gives (.cqDoorbell r) s fun t => t.f Reg.CMD_STATUS.CODE = 6 ∧ { t with pmu := s.pmu, csr := s.csr } = u))

/-- DESCRIPTOR_FETCH takes the next descriptor of the ring whose turn it is (R337, R52). With no MGT restart pausing the rings, fewer than 64 commands in
progress, an entry free in the CMD partition and CRY not in error: when the line of the next descriptor can be read, the command is added last with
the state of the checks at fetch, the ring's fetched count advances by one, and nothing else changes but what the read left, the turn and the
counters. -/
def Obligations.DescriptorFetch : Prop :=
  ∀ (s u : State) (r : Ring) (b n : Nat) (q : Sq) (v : LineVal), s.fb Reg.CMD_STATUS.MGT_PAUSE = false → s.cmd.cmds.length < 64 → s.partRoom 9 = true → s.cry.st ≠ .error →
    s.sqTurn = some r → s.window (s.ringOwner r) = some (b, n) → s.cmd.sqs.look r.val = some q → s.cmdRead (b + s.sqOff r / 64 + q.fetched % s.sqSize r) = (some v, u) →
    Gives .descriptorFetch s fun t =>
      t.cmd.cmds = u.cmd.cmds ++ [u.newCmd (some r) (s.ringOwner r) v.data q.fetched v.poison] ∧
      t.cmd.sqs.look r.val = some { q with fetched := q.fetched + 1 } ∧ t.cmd.cqs = u.cmd.cqs ∧ { t with cmd := u.cmd, pmu := u.pmu } = u

/-- COMPLETION_WRITE, INTERRUPT_MODERATION_TIMEOUT and MSI_X_UNMASK (R330, R334, R336, R350, R352, R354). An ended command of a ring whose CQ has room:
its 32-byte completion is written at the CQ's produced place by one write with byte enables, the command leaves the list and PRODUCED rises by one; a
command whose rings were reset is dropped with no write; an Execute Descriptor's completion is returned through the mailbox.
INTERRUPT_MODERATION_TIMEOUT with unsignalled completions sends the CQ's vector once and clears the count. MSI_X_UNMASK clears the mask, and sends a
pending vector once. -/
def Obligations.CompletionWritten : Prop :=
  ∀ s : State,
    (∀ (id : Nat) (c : Cmd), s.cmd.cmds.find? (·.id == id) = some c → c.phase = .ended → s.targetOpen c = false →
      (c.discard = true → Gives (.completionWrite id) s fun t => t.cmd = { s.cmd with cmds := s.cmd.cmds.filter (·.id != c.id) } ∧ { t with cmd := s.cmd, pmu := s.pmu } = s) ∧
      (c.discard = false → c.sq = none → s.releasing c = false → (s.port c.head).up = true → dSteps c.desc = false → Gives (.completionWrite id) s fun t =>
        t.out = s.out ++ [.mailbox c.head (.completion ⟨BitVec.ofNat 32 (dTag c.desc), 0x3F, c.status, c.result, c.endTime s.tb⟩)] ∧
        t.cmd = { s.cmd with cmds := s.cmd.cmds.filter (·.id != c.id) } ∧ { t with cmd := s.cmd, pmu := s.pmu, out := s.out } = s) ∧
      (∀ sq b n q u, c.discard = false → c.sq = some sq → s.window c.head = some (b, n) → s.cmd.cqs.look c.cq.val = some q → s.cqRoom c.cq = true →
        let half := 32 * (q.produced % s.cqSize c.cq % 2)
        s.cmdWrite (b + s.cqOff c.cq / 64 + q.produced % s.cqSize c.cq / 2)
          (lineOf (completionBytes c s.tb (q.produced / s.cqSize c.cq % 2 == 0) (((s.cmd.sqs.look sq.val).map (·.fetched)).getD 0)) <<< (8 * half)) (0xFFFFFFFF <<< half) = .landed u →
        Gives (.completionWrite id) s fun t =>
          t.cmd.cmds = u.cmd.cmds.filter (·.id != c.id) ∧ (t.cmd.cqs.look c.cq.val).map (·.produced) = some (q.produced + 1) ∧
          t.mem = u.mem ∧ t.nc = u.nc ∧ t.xlt = u.xlt ∧ t.rtk = u.rtk)) ∧
    (∀ (r : Ring) (q : Cq), s.cmd.cqs.look r.val = some q → q.unsignalled ≠ 0 → (s.port (s.ringOwner r)).up = true →
      (s.port (s.ringOwner r)).msixMask.getLsbD (s.f (Reg.CMD_CQr.VEC.nth r.val)) = false → Gives (.interruptModerationTimeout r) s fun t =>
        t.out = s.out ++ [.msix (s.ringOwner r) (s.f (Reg.CMD_CQr.VEC.nth r.val))] ∧ t.cmd.cqs.look r.val = some { q with unsignalled := 0 } ∧
        { t with cmd := s.cmd, pmu := s.pmu, out := s.out } = s) ∧
    (∀ (h : Head) (x : Fin 128), (s.port h).up = true → Gives (.msiXUnmask h x) s fun t =>
      (t.port h).msixMask.getLsbD x.val = false ∧ (t.port h).msixPend.getLsbD x.val = false ∧
      (∀ y : Fin 128, y ≠ x → (t.port h).msixMask.getLsbD y.val = (s.port h).msixMask.getLsbD y.val ∧ (t.port h).msixPend.getLsbD y.val = (s.port h).msixPend.getLsbD y.val) ∧
      t.out = (if (s.port h).msixPend.getLsbD x.val then s.out ++ [.msix h x.val] else s.out) ∧ { t with ports := s.ports, out := s.out, pmu := s.pmu } = s)

/-- Range commands start, and short ones end at their start (R337, R341, R342, R343, R344, R308, R348, R346, R349). ZERO_RANGE, CLONE_RANGE, PIN_RANGE,
UNPIN_RANGE, REKEY_RANGE, RELEASE_RANGE, RESERVE and SANITIZE: a fetched command of the opcode that may start, with Clandahar serving (and for
CLONE_RANGE an entry free in the compaction and cloning partition), runs from then on; no other command, no memory and nothing else changes. A command
that may start: NOP ends with SUCCESS; a descriptor of an opcode above 0x0F with BAD_OPCODE; a FENCE that no earlier command of its scope precedes
with SUCCESS; an ABORT whose target is not found with RESULT 0, one whose target has commit steps left with RESULT 1 and the target flagged, any other
with RESULT 2; DICT_HOLD_TRAINING and DICT_END_HOLD set and clear the hold; DICT_RETIRE of a slot that is not ACTIVE ends with BAD_FIELD, and of an
ACTIVE one, with no candidate waiting for a slot, makes it FREE, or RETIRING while pages name it; DICT_RUN_ROUND with training enabled and none asked
for asks for a round. Nothing else changes. -/
def Obligations.ShortCommands : Prop :=
  (∀ (s : State) (id : Nat) (c : Cmd) (op : Nat), Starts s id op c → s.mgtUp = true →
    ∀ x ∈ [(0x01, Instr.zeroRange id), (0x02, .cloneRange id), (0x03, .pinRange id), (0x04, .unpinRange id), (0x06, .rekeyRange id), (0x07, .releaseRange id), (0x08, .reserve id), (0x0A, .sanitize id)],
      x.1 = op → (op = 2 → s.partRoom 10 = true) → Gives x.2 s fun t => (t.cmdOf id).map (·.phase) = some .running ∧ OtherCmds s t id ∧ OnlyCmds s t) ∧
  (∀ (s : State) (id : Nat) (c : Cmd), s.cmdOf id = some c → s.mayStart c = true →
    (dOp c.desc = 0 → Gives (.nop id) s fun t => CmdEnded s t id 0 0 ∧ OnlyCmds s t) ∧
    (0x0F < dOp c.desc → Gives (.badOpcode id) s fun t => CmdEnded s t id 1 0 ∧ OnlyCmds s t) ∧
    (dOp c.desc = 0x0C → (∀ b ∈ s.cmd.cmds.takeWhile (·.id != id), (dArg0 c.desc % 2 = 1 → b.head ≠ c.head ∨ b.sq = none) ∧ (dArg0 c.desc % 2 = 0 → sameSq b c = false)) →
      Gives (.fence id) s fun t => CmdEnded s t id 0 0 ∧ OnlyCmds s t) ∧
    (dOp c.desc = 0x0B →
      (s.abortTarget c = none → Gives (.abort id) s fun t => CmdEnded s t id 0 0 ∧ OnlyCmds s t) ∧
      (∀ x, s.abortTarget c = some x → x.stepsLeft = true → Gives (.abort id) s fun t =>
        (t.cmdOf id).map (fun c => (c.phase, c.status, c.result)) = some (.ended, 0, 1) ∧ (t.cmdOf x.id).map (·.abort) = some true ∧ OnlyCmds s t) ∧
      (∀ x, s.abortTarget c = some x → x.stepsLeft = false → Gives (.abort id) s fun t => CmdEnded s t id 0 2 ∧ OnlyCmds s t)) ∧
    (dOp c.desc = 0x0E → s.mgtUp = true →
      (dArg0 c.desc = 1 → (s.dict (dArg1 c.desc % 16)).state ≠ .active → Gives (.dictRetire id) s fun t => CmdEnded s t id 2 0 ∧ OnlyCmds s t) ∧
      (dArg0 c.desc = 1 → (s.dict (dArg1 c.desc % 16)).state = .active → s.cdc.train.st ≠ .waiting → Gives (.dictRetire id) s fun t => CmdEnded s t id 0 0 ∧
        (t.dict (dArg1 c.desc % 16)).state = (if (s.dict (dArg1 c.desc % 16)).refs = 0 then .free else .retiring) ∧
        (∀ d, d ≠ dArg1 c.desc % 16 → t.dict d = s.dict d) ∧ { t with cdc := s.cdc, cmd := { t.cmd with cmds := s.cmd.cmds } } = s) ∧
      (dArg0 c.desc = 2 → Gives (.dictHoldTraining id) s fun t => CmdEnded s t id 0 0 ∧ t.cdc = { s.cdc with hold := true } ∧ { t with cdc := s.cdc, cmd := { t.cmd with cmds := s.cmd.cmds } } = s) ∧
      (dArg0 c.desc = 3 → Gives (.dictEndHold id) s fun t => CmdEnded s t id 0 0 ∧ t.cdc = { s.cdc with hold := false } ∧ { t with cdc := s.cdc, cmd := { t.cmd with cmds := s.cmd.cmds } } = s) ∧
      (dArg0 c.desc = 4 → c.abort = false → s.fb Reg.CDC_CFG.TRAIN_EN = true → s.cdc.hold = false → s.cdc.asked = none → Gives (.dictRunRound id) s fun t =>
        t.cdc = { s.cdc with asked := some (id, c.base, dLen c.desc / 4096) } ∧ (t.cmdOf id).map (·.phase) = some .running ∧ OtherCmds s t id ∧
        { t with cdc := s.cdc, cmd := { t.cmd with cmds := s.cmd.cmds } } = s)))

/-- COMMIT_STEP of ZERO_RANGE on a page of a DIRECT extent (R23, R341, R471). A running ZERO_RANGE with a step left whose page lies in a DIRECT extent
that no copy holds, with nothing of the page in the near cache, its buffers or RTK: every byte of the page then reads zero in storage, every other
byte reads as before, the extent stays DIRECT and no frame is freed, and the command has made one commit more. A running command of any range opcode
with no step left ends with SUCCESS and RESULT its commits, and changes nothing else; SANITIZE is left out of this clause. -/
def Obligations.CommitStepZeroes : Prop :=
  ∀ (s : State) (id : Nat) (c : Cmd), s.cmdOf id = some c → s.stepping c = true →
    (dOp c.desc = 1 → c.abort = false → c.next < c.steps →
      let p := c.base + c.next
      s.stepClear (pageLine p) 64 = (true, s) → s.inWay (p / 512) = .clear → (s.extRec (p / 512)).mode = .direct →
      (∀ x ∈ s.nc.lines, inLines (pageLine p) 64 x.1 = false) → (∀ x ∈ s.nc.wbb, inLines (pageLine p) 64 x.line = false) →
      (∀ x ∈ s.nc.fills, inLines (pageLine p) 64 x.line = false) → (∀ x ∈ s.rtk, inLines (pageLine p) 64 x.line = false) →
      ∀ run, Gives (.commitStep id run false) s fun t =>
        (∀ a, Memory.read t.mem a = if a / 4096 = p then 0 else Memory.read s.mem a) ∧ (∀ l, l / 64 = p → t.isBad l = false) ∧
        t.xlt = { s.xlt with zeroing := s.xlt.zeroing.put p () } ∧ (t.cmdOf id).map (·.made) = some (c.made + 1) ∧ OtherCmds s t id ∧
        { t with mem := s.mem, bad := s.bad, xlt := s.xlt, cmd := s.cmd } = s) ∧
    (dOp c.desc ∈ [1, 2, 3, 4, 6, 7, 8] → c.steps ≤ c.next → ∀ run, Gives (.commitStep id run false) s fun t =>
      CmdEnded s t id 0 c.made ∧ OnlyCmds s t)

/-- SET_POLICY (R109, R347, R10). Kind 0x01: the sending head's elastic maximum becomes ARG1[15:0] and its acceptance whether that is not zero. Kind 0x02:
an entry whose offset names no RWL register outside GEN, CRY and the region tables ends the command with BAD_FIELD and nothing is applied; a sole
entry for DRL_CFG writes its masked bits whatever the lock, and ends with SUCCESS and RESULT 0. -/
def Obligations.PolicyCommands : Prop :=
  ∀ (s : State) (id : Nat) (c : Cmd), Starts s id 0x0F c →
    (dArg0 c.desc % 256 = 1 → Gives (.setPolicyCapacityContract id) s fun t => CmdEnded s t id 0 0 ∧
      (t.port c.head).elasticMax = dArg1 c.desc % 65536 ∧ (t.port c.head).accepted = decide (dArg1 c.desc % 65536 ≠ 0) ∧
      (∀ g, g ≠ c.head → t.port g = s.port g) ∧ { t with ports := s.ports, pmu := s.pmu, cmd := { t.cmd with cmds := s.cmd.cmds } } = s) ∧
    (dArg0 c.desc % 256 = 2 → (∃ x ∈ policyEntries c.desc, x.2.1 ≠ 0 ∧ policyOffset x.1 = false) → Gives (.setPolicyRegister id) s fun t =>
      CmdEnded s t id 2 0 ∧ OnlyCmds s t) ∧
    (∀ m v o1 o2 v1 v2, dArg0 c.desc % 256 = 2 → policyEntries c.desc = [(0x240000, m, v), (o1, 0, v1), (o2, 0, v2)] → m ≠ 0 → Gives (.setPolicyRegister id) s fun t =>
      CmdEnded s t id 0 0 ∧ t.word 0x240000 &&& 0xF = (s.word 0x240000 &&& ~~~m ||| v &&& m) &&& 0xF ∧ (∀ off, off ≠ 0x240000 → t.word off = s.word off) ∧
      { t with csr := s.csr, doms := s.doms, cmd := { t.cmd with cmds := s.cmd.cmds } } = s)

/-- HINT_RANGE, QUERY_RANGE and SNAPSHOT_COUNTERS (R165, R345, R346, R420). HINT_RANGE over untouched memory ends with SUCCESS and RESULT 0 and changes
nothing else; over any range it ends with SUCCESS, sets the HEAT of every DIRECT, MAPPED and MIGRATING extent record of the range to the value its
kind names, with every other field of the record as it was, and changes no data. QUERY_RANGE and SNAPSHOT_COUNTERS with room for their output end with
SUCCESS and RESULT the bytes written, once every line of the output has landed in order at the buffer, and change nothing else beside those writes; a
snapshot into a buffer that is too short ends with status 0x09 and writes nothing. -/
def Obligations.CommandsWithOutput : Prop :=
  ∀ (s : State) (id : Nat) (c : Cmd) (op : Nat), Starts s id op c →
    (op = 5 → s.mgtUp = true → (∀ e, (s.extRec e).mode = .untouched) → Gives (.hintRange id) s fun t => CmdEnded s t id 0 0 ∧ OnlyCmds s t) ∧
    (op = 5 → s.mgtUp = true → Gives (.hintRange id) s fun t =>
      (t.cmdOf id).map (fun c => (c.phase, c.status)) = some (.ended, 0) ∧ OtherCmds s t id ∧ t.mem = s.mem ∧ t.bad = s.bad ∧ t.nc = s.nc ∧ t.rtk = s.rtk ∧
      ∀ e ∈ rangeExts c.base (dLen c.desc / 4096), (s.extRec e).mode ≠ .untouched → (s.extRec e).mode ≠ .poisoned →
        t.extRec e = { s.extRec e with heat := hintHeat c s.dirUp s.dirDown }) ∧
    (∀ r u, s.rangeIn c.head (dAddr2 c.desc) (dLen2 c.desc) = some r →
      (op = 9 → s.mgtUp = true → s.cmdWrites (linesOf (r.dpa (dAddr2 c.desc) / 64) (s.queryBytes c) ((s.queryBytes c).length / 64 + 1)) = .landed u →
        exec (.queryRange id) s = .next (u.endCmd id 0 (s.queryBytes c).length)) ∧
      (op = 0x0D → 64 + 608 * (s.snapGroups c).length ≤ dLen2 c.desc →
        let bs := leBytes 8 s.tb.toNat ++ leBytes 2 ((s.snapGroups c).map fun g => 2 ^ g).sum ++ [0, 0] ++ leBytes 4 (76 * (s.snapGroups c).length) ++ List.replicate 48 0 ++ (s.snapGroups c).flatMap s.snapGroup
        bs.length = 64 + 608 * (s.snapGroups c).length ∧
        (s.cmdWrites (linesOf (r.dpa (dAddr2 c.desc) / 64) bs (bs.length / 64 + 1)) = .landed u → exec (.snapshotCounters id) s = .next (u.endCmd id 0 bs.length)))) ∧
    (op = 0x0D → dLen2 c.desc < 64 + 608 * (s.snapGroups c).length → Gives (.snapshotCounters id) s fun t => CmdEnded s t id 9 0 ∧ OnlyCmds s t)

/-- Mailbox commands that report and set (R353, R35, R36, R350). On a presented head with its link up, Clandahar serving, no other command of its mailbox
in work and no held result, each reporting command of the mailbox answers what the rules give and changes nothing else; an opcode that *Mailbox
commands* does not support is answered Unsupported; Get Health Info, whose content the spec does not give, takes a free value. On a head whose mailbox
is served: Clear Event Records removes the records of the log, or of the given handles where the log holds every one of them, and no other; Set Event
Interrupt Policy and Set Alert Configuration set the head's own; Set Timestamp loads TB through the owner head, is unsupported through another, and
over the sideband loads TB too, whatever Clandahar was held for. Nothing else changes but the record of TB_SET. -/
def Obligations.MailboxReports : Prop :=
  (∀ (s : State) (h : Head), MailboxServes s h →
    (∀ x ∈ ([(.identify h, .bytes Config.identity), (.backgroundOperationStatus h, .nats (bgWords (s.port h).bg)),
        (.getEventInterruptPolicy h, .policy (s.port h).evtPolicy),
        (.getFwInfo h, .fwInfo s.aon.activeB (s.aon.slotA.map (·.svn)) (s.aon.slotB.map (·.svn)) s.aon.pendingFw), (.getTimestamp h, .quad s.tb),
        (.getSupportedLogs h, .names ["Command Effects Log"]), (.getLog h, .nats (mailboxOps.flatMap fun n => [n, Config.effects n])),
        (.identifyMemoryDevice h, .nats [s.staticUnits h, s.staticUnits h, 0, 0, 1024]), (.getPartitionInfo h, .nats [s.staticUnits h, 0, 0, 0]),
        (.getAlertConfiguration h, .bytes (leBytes 12 (s.port h).alertCfg.toNat)),
        (.getPoisonList h, .nats ((decide (1024 < (s.poisonOf h).length)).toNat :: ((s.poisonOf h).take 1024).map (64 * ·))),
        (.getDynamicCapacityConfiguration h, .nats (s.dcConfig h)), (.getDynamicCapacityExtentList h, .nats (s.dcExtents h))] : List (Instr × Reply)),
      Gives x.1 s fun t => t.out = s.out ++ [.mailbox h x.2] ∧ { t with out := s.out, pmu := s.pmu } = s) ∧
    (∀ l : EventLog, Gives (.getEventRecords h l) s fun t =>
      t.out = s.out ++ [.mailbox h (.events (s.events.filter fun r => r.head == h && r.log == l))] ∧ { t with out := s.out, pmu := s.pmu } = s) ∧
    (∀ op : BitVec 16, op.toNat ∉ mailboxOps → Gives (.mailboxUnsupported h op) s fun t =>
      t.out = s.out ++ [.mailbox h (.refused "UNSUPPORTED")] ∧ { t with out := s.out, pmu := s.pmu } = s) ∧
    Gives (.getHealthInfo h) s fun t =>
      t.out = s.out ++ [.mailbox h (.bytes (Config.freeBytes s.free))] ∧ t.free = s.free + 1 ∧ { t with out := s.out, pmu := s.pmu, free := s.free } = s) ∧
  (∀ (s : State) (h : Head),
    (MailboxServes s h → ∀ l : EventLog,
      (Gives (.clearEventRecords h l none) s fun t => t.events = (s.events.filter fun r => !(r.head == h && r.log == l)) ∧
        t.out = s.out ++ [.mailbox h .ok] ∧ { t with out := s.out, pmu := s.pmu, events := s.events } = s) ∧
      (∀ ns : List Nat, (∀ n ∈ ns, ∃ r ∈ s.events, r.head = h ∧ r.log = l ∧ r.handle = n) → Gives (.clearEventRecords h l (some ns)) s fun t =>
        t.events = (s.events.filter fun r => !(r.head == h && r.log == l && ns.contains r.handle)) ∧ t.out = s.out ++ [.mailbox h .ok] ∧ { t with out := s.out, pmu := s.pmu, events := s.events } = s) ∧
      (∀ (ns : List Nat) (n : Nat), n ∈ ns → (∀ r ∈ s.events, ¬(r.head = h ∧ r.log = l ∧ r.handle = n)) → Gives (.clearEventRecords h l (some ns)) s fun t =>
        t.out = s.out ++ [.mailbox h (.refused "INVALID_HANDLE")] ∧ { t with out := s.out, pmu := s.pmu } = s)) ∧
    (MailboxServes s h →
      (∀ p : EventPolicy, Gives (.setEventInterruptPolicy h p) s fun t => t.port h = { s.port h with evtPolicy := p } ∧ (∀ g, g ≠ h → t.port g = s.port g) ∧
        t.out = s.out ++ [.mailbox h .ok] ∧ { t with out := s.out, pmu := s.pmu, ports := s.ports } = s) ∧
      (∀ c : BitVec 96, Gives (.setAlertConfiguration h c) s fun t => t.port h = { s.port h with alertCfg := c } ∧ (∀ g, g ≠ h → t.port g = s.port g) ∧
        t.out = s.out ++ [.mailbox h .ok] ∧ { t with out := s.out, pmu := s.pmu, ports := s.ports } = s) ∧
      (∀ v : BitVec 64, h = s.owner → Gives (.setTimestamp (.head h) v) s fun t => t.tb = v ∧ t.out = s.out ++ [.mailbox h .ok] ∧
        t.pan.ring = s.pan.ring ∧ { t with tb := s.tb, out := s.out, pmu := s.pmu, pan := s.pan, csr := s.csr } = s) ∧
      (∀ v : BitVec 64, h ≠ s.owner → Gives (.setTimestamp (.head h) v) s fun t => t.out = s.out ++ [.mailbox h (.refused "UNSUPPORTED")] ∧ { t with out := s.out, pmu := s.pmu } = s)) ∧
    (SidebandServes s → ∀ v : BitVec 64, Gives (.setTimestamp .sideband v) s fun t => t.tb = v ∧ t.out = s.out ++ [.sideband .ok] ∧
        t.pan.ring = s.pan.ring ∧ { t with tb := s.tb, out := s.out, pmu := s.pmu, pan := s.pan, csr := s.csr } = s))

/-- INJECT_POISON and CLEAR_POISON are writes of the head (R353, R17, R31). On a head whose mailbox is served, for a line of an HDM-H region that the near
cache holds whole, with its slices ON, no request open for it, no pressure hold, an entry free in the CMD partition and no port loop awaited:
INJECT_POISON leaves the line poison, CLEAR_POISON leaves it the given data without poison, both answer when the write has landed, and no stored byte
changes. An address the head does not map, or that is not a line's, is refused and nothing changes. -/
def Obligations.MailboxPoison : Prop :=
  ∀ (s : State) (h : Head) (a : BitVec 46), MailboxServes s h →
    ((s.regionAt h a.toNat = none ∨ a.toNat % 64 ≠ 0) →
      (Gives (.injectPoison h a) s fun t => t.out = s.out ++ [.mailbox h (.refused "INVALID_PHYSICAL_ADDRESS")] ∧ { t with out := s.out, pmu := s.pmu } = s) ∧
      ∀ d, Gives (.clearPoison h a d) s fun t => t.out = s.out ++ [.mailbox h (.refused "INVALID_PHYSICAL_ADDRESS")] ∧ { t with out := s.out, pmu := s.pmu } = s) ∧
    (∀ g n, a.toNat % 64 = 0 → s.regionAt h a.toNat = some g →
      let l := g.dpa a.toNat / 64
      NcHolds s l n → g.db = false → s.level ≠ 3 → s.partRoom 9 = true → (s.port h).loopWait = false →
      (Gives (.injectPoison h a) s fun t => (t.current l).poison = true ∧ t.mem = s.mem ∧ t.rtk = s.rtk ∧ t.out = s.out ++ [.mailbox h .ok]) ∧
      ∀ d, Gives (.clearPoison h a d) s fun t => t.current l = ⟨d, false⟩ ∧ t.mem = s.mem ∧ t.rtk = s.rtk ∧ t.out = s.out ++ [.mailbox h .ok])

/-- Dynamic Capacity and Execute Descriptor over a mailbox (R112, R113, R115, R353, R354, R340, R349). On a head whose mailbox is served: accepting a
pending offer whole whose place is still free makes its entry valid as HDM-H with CLASS elastic over the offered ranges; refusing lapses it; accepting
a part lapses it and is answered Invalid Input, as is a response with no offer pending. A release of whole elastic extents begins a background
operation with one internal command per extent; any other list is answered Invalid Input, and Busy while one runs. Memory stays as it was. On a head
whose mailbox is served: a descriptor whose opcode has no commit steps, or that the checks end, becomes a command in progress with no ring; one with
commit steps also starts a background operation, and while one runs is answered Busy. Nothing else changes. -/
def Obligations.MailboxDynamicCapacity : Prop :=
  (∀ (s : State) (h : Head), MailboxServes s h →
    (∀ o, (s.port h).offer = some o →
      (s.offerFits h o = true → o.hbase < 2 ^ 25 → o.dbase < 2 ^ 25 → o.size < 2 ^ 25 → o.e ≠ 0 → Gives (.addDynamicCapacityResponse h .whole) s fun t =>
        t.region h o.e = ⟨h, o.e, o.hbase, o.dbase, o.size, (s.region h 0).key, true, 1, false, true⟩ ∧ (t.port h).offer = none ∧
        (∀ n e, (n, e) ≠ (h, o.e) → t.region n e = s.region n e) ∧ t.out = s.out ++ [.mailbox h .ok] ∧ { t with csr := s.csr, ports := s.ports, out := s.out, pmu := s.pmu } = s) ∧
      (Gives (.addDynamicCapacityResponse h .refuse) s fun t => (t.port h).offer = none ∧ t.csr = s.csr ∧ t.out = s.out ++ [.mailbox h .ok] ∧ { t with ports := s.ports, out := s.out, pmu := s.pmu } = s) ∧
      (Gives (.addDynamicCapacityResponse h .partly) s fun t => (t.port h).offer = none ∧ t.csr = s.csr ∧ t.out = s.out ++ [.mailbox h (.refused "INVALID_INPUT")] ∧
        { t with ports := s.ports, out := s.out, pmu := s.pmu } = s)) ∧
    (∀ a, (s.port h).offer = none → Gives (.addDynamicCapacityResponse h a) s fun t => t.out = s.out ++ [.mailbox h (.refused "INVALID_INPUT")] ∧ { t with out := s.out, pmu := s.pmu } = s) ∧
    (∀ rs : List (BitVec 46 × BitVec 46),
      (s.bgBusy h = false → rs ≠ [] → (∀ x ∈ rs, s.wholeExtent h x = true) → distinct rs = rs → Gives (.releaseDynamicCapacity h rs) s fun t =>
        (t.port h).bg = some ⟨true, 0x4803, 0⟩ ∧ t.cmd.cmds.length = s.cmd.cmds.length + rs.length ∧ s.cmd.cmds <+: t.cmd.cmds ∧
        t.out = s.out ++ [.mailbox h .started] ∧ { t with cmd := s.cmd, ports := s.ports, out := s.out, pmu := s.pmu } = s) ∧
      (s.bgBusy h = false → (rs = [] ∨ (∃ x ∈ rs, s.wholeExtent h x = false)) → Gives (.releaseDynamicCapacity h rs) s fun t =>
        t.out = s.out ++ [.mailbox h (.refused "INVALID_INPUT")] ∧ { t with out := s.out, pmu := s.pmu } = s) ∧
      (s.bgBusy h = true → Gives (.releaseDynamicCapacity h rs) s fun t => t.out = s.out ++ [.mailbox h (.refused "BUSY")] ∧ { t with out := s.out, pmu := s.pmu } = s))) ∧
  (∀ (s : State) (h : Head) (d : BitVec 512), MailboxServes s h →
    ((dSteps d = false ∨ (s.fetchFails h d true).isSome = true) → Gives (.executeDescriptor h d) s fun t =>
      ∃ c, t.cmd = { s.cmd with cmds := s.cmd.cmds ++ [c], nextCmd := s.cmd.nextCmd + 1 } ∧ c.desc = d ∧ c.sq = none ∧ c.head = h ∧
        (∀ st, s.fetchFails h d true = some st → c.phase = .ended ∧ c.status = st) ∧ (s.fetchFails h d true = none → c.phase = .fetched) ∧ { t with cmd := s.cmd, pmu := s.pmu } = s) ∧
    (dSteps d = true → s.fetchFails h d true = none → s.bgBusy h = false → Gives (.executeDescriptor h d) s fun t =>
      (∃ c, t.cmd = { s.cmd with cmds := s.cmd.cmds ++ [c], nextCmd := s.cmd.nextCmd + 1 } ∧ c.desc = d ∧ c.sq = none ∧ c.head = h ∧ c.phase = .fetched) ∧
      (t.port h).bg = some ⟨true, 0xC000, 0⟩ ∧ t.out = s.out ++ [.mailbox h .started] ∧ { t with cmd := s.cmd, ports := s.ports, out := s.out, pmu := s.pmu } = s) ∧
    (dSteps d = true → s.fetchFails h d true = none → s.bgBusy h = true → Gives (.executeDescriptor h d) s fun t =>
      t.out = s.out ++ [.mailbox h (.refused "BUSY")] ∧ { t with out := s.out, pmu := s.pmu } = s))

/-- Services that need no role, and JTAG (R294, R295, R296, R297, R323, R320). Where CRY is operational and the request reaches it: SPDM_SESSION gives a
session the role of its root, none without one, and refuses a root on no list; SHOW_STATUS, GET_CERTIFICATE, CHALLENGE and GET_MEASUREMENTS answer
with the APPROVED flag and change nothing but counters. SESSION_END ends the sessions of its path. Sampling the balls acts at any time. EXTEST and
internal state act only once Zeroize All has been made, internal state also only with a good unlock token, which sets the debug unlock; otherwise they
change nothing. -/
def Obligations.CryOpenServices : Prop :=
  (∀ (s : State) (w : Via),
    (exec (.sessionEnd w) s = .next { s with cry := { s.cry with sessions := s.cry.sessions.filter (·.via != w) } }) ∧
    (CryReached s w →
      (∀ root r, s.roleOf root = some r → exec (.spdmSession w root) s = .next { s with
        cry := { s.cry with sessions := s.cry.sessions.filter (·.via != w) ++ [⟨w, r⟩] }, out := s.out ++ [.service w .ok s.approved] }) ∧
      (∀ root, s.roleOf root = none → Gives (.spdmSession w root) s fun t => t.out = s.out ++ [.service w (.refused "INVALID_REQUEST") s.approved] ∧ { t with out := s.out, pmu := s.pmu } = s) ∧
      ∀ n : BitVec 256, ∀ x ∈ ([(.showStatus w, .nats [s.cryStatus.toNat, s.cryFw.toNat, s.approved.toNat]), (.getCertificate w, .bytes Config.certificates),
          (.challenge w n, .bytes (Config.sign (leBytes 32 n.toNat))), (.getMeasurements w, .bytes (s.measurements ++ Config.sign s.measurements))] : List (Instr × Reply)),
        Gives x.1 s fun t => t.out = s.out ++ [.service w x.2 s.approved] ∧ { t with out := s.out, pmu := s.pmu } = s)) ∧
  (∀ s : State, exec (.jtagInstruction .sample) s = .next { s with out := s.out ++ [.jtagData] } ∧
    (s.cry.zeroized = true → exec (.jtagInstruction .extest) s = .next { s with out := s.out ++ [.jtagData] } ∧
      exec (.jtagInstruction (.internal true)) s = .next { s with cry := { s.cry with debugOpen := true }, out := s.out ++ [.jtagData] }) ∧
    (s.cry.zeroized = false → exec (.jtagInstruction .extest) s = .next s ∧ exec (.jtagInstruction (.internal true)) s = .next s) ∧
    exec (.jtagInstruction (.internal false)) s = .next s)

/-- Services of the User on key slots (R295, R299, R300, R302, R303). In a session with the User or CO role: GENERATE_SLOT and a good IMPORT_SLOT make an
EMPTY slot ACTIVE, an import with the wrapped keys; RETIRE_SLOT makes an ACTIVE slot with no region RETIRING; DESTROY_SLOT empties a slot that no
extent, region or dictionary names; GET_KEM_KEY answers the present key. Each is refused, with nothing changed but counters, where the slot's state or
use, or the wrap, does not allow it, and without the role. No other slot changes, nor memory. -/
def Obligations.CryUserServices : Prop :=
  ∀ (s : State) (w : Via) (k : KeyId), CryReached s w →
    (s.hasRole w .user = true →
      ((s.keySlot k.val).st = .empty → Gives (.generateSlot w k) s fun t => (t.keySlot k.val).st = .active ∧ (t.keySlot k.val).imported = false ∧
        (∀ j, j ≠ k.val → t.keySlot j = s.keySlot j) ∧ t.out = s.out ++ [.service w .ok s.approved] ∧ { t with cry := s.cry, free := s.free, out := s.out, pmu := s.pmu } = s) ∧
      (∀ x : Wrapped, (s.keySlot k.val).st = .empty → x.kemGen = s.cry.kemGen → x.slot = k → x.tagOk = true → x.dataKey ≠ x.tweakKey → Gives (.importSlot w k x) s fun t =>
        t.keySlot k.val = ⟨.active, true, x.dataKey, x.tweakKey⟩ ∧ (∀ j, j ≠ k.val → t.keySlot j = s.keySlot j) ∧
        t.out = s.out ++ [.service w .ok s.approved] ∧ { t with cry := s.cry, free := s.free, out := s.out, pmu := s.pmu } = s) ∧
      (∀ x : Wrapped, (s.keySlot k.val).st = .empty → (x.kemGen ≠ s.cry.kemGen ∨ x.slot ≠ k ∨ x.tagOk = false ∨ x.dataKey = x.tweakKey) → Gives (.importSlot w k x) s fun t =>
        t.out = s.out ++ [.service w (.refused "BAD_WRAP") s.approved] ∧ { t with out := s.out, pmu := s.pmu } = s) ∧
      ((s.keySlot k.val).st = .active → s.slotRegions k.val = 0 → Gives (.retireSlot w k) s fun t => t.keySlot k.val = { s.keySlot k.val with st := .retiring } ∧
        (∀ j, j ≠ k.val → t.keySlot j = s.keySlot j) ∧ t.out = s.out ++ [.service w .ok s.approved] ∧ { t with cry := { t.cry with slots := s.cry.slots }, out := s.out, pmu := s.pmu } = s) ∧
      ((s.keySlot k.val).st = .active → s.slotRegions k.val ≠ 0 → Gives (.retireSlot w k) s fun t =>
        t.out = s.out ++ [.service w (.refused "IN_USE") s.approved] ∧ { t with out := s.out, pmu := s.pmu } = s) ∧
      ((s.keySlot k.val).st ≠ .empty → s.slotFree k.val = true → Gives (.destroySlot w k) s fun t => t.keySlot k.val = KeySlot.empty ∧
        (∀ j, j ≠ k.val → t.keySlot j = s.keySlot j) ∧ t.out = s.out ++ [.service w .ok s.approved] ∧ { t with cry := { t.cry with slots := s.cry.slots }, out := s.out, pmu := s.pmu } = s) ∧
      ((s.keySlot k.val).st ≠ .empty → s.slotFree k.val = false → Gives (.destroySlot w k) s fun t =>
        t.out = s.out ++ [.service w (.refused "IN_USE") s.approved] ∧ { t with out := s.out, pmu := s.pmu } = s) ∧
      (Gives (.getKemKey w) s fun t => t.out = s.out ++ [.service w (.bytes (Config.kemKey s.cry.kemGen)) s.approved] ∧ { t with out := s.out, pmu := s.pmu } = s)) ∧
    (s.hasRole w .user = false → ∀ i ∈ [Instr.generateSlot w k, .retireSlot w k, .destroySlot w k, .getKemKey w], Gives i s fun t =>
      t.out = s.out ++ [.service w (.refused "NOT_AUTHORIZED") s.approved] ∧ { t with out := s.out, pmu := s.pmu } = s)

/-- Services of the CO (R294, R295, R314, R319, R322, R324). In a session with the CO role: SET_USER_ROOTS with at most four hashes sets them,
SET_IDE_POLICY sets the policy, ADVANCE_SVN with no image PENDING raises the SVN fuse to the running image's SVN and never lowers it, SELF_TEST that
finds every engine good changes nothing, and ZEROIZE_ALL erases every key slot, sets the zeroized mark and resets the device, which loses all memory.
Without the CO role each is refused. -/
def Obligations.CryOfficerServices : Prop :=
  ∀ (s : State) (w : Via), CryReached s w →
    (s.hasRole w .co = true →
      (∀ rs : List (BitVec 384), rs.length ≤ 4 → Gives (.setUserRoots w rs) s fun t => t.aon = { s.aon with userRoots := rs } ∧
        t.out = s.out ++ [.service w .ok s.approved] ∧ { t with aon := s.aon, out := s.out, pmu := s.pmu } = s) ∧
      (∀ b : Bool, Gives (.setIdePolicy w b) s fun t => t.aon = { s.aon with ideAny := b } ∧ t.out = s.out ++ [.service w .ok s.approved] ∧
        { t with aon := s.aon, out := s.out, pmu := s.pmu } = s) ∧
      (∀ i, s.aon.pendingFw = false → s.aon.running = some i → Gives (.advanceSvn w) s fun t => t.aon.svnFuse = max s.aon.svnFuse i.svn ∧
        t.out = s.out ++ [.service w .ok s.approved] ∧ { t with aon := { t.aon with svnFuse := s.aon.svnFuse }, out := s.out, pmu := s.pmu } = s) ∧
      (s.aon.pendingFw = true → Gives (.advanceSvn w) s fun t => t.out = s.out ++ [.service w (.refused "PENDING") s.approved] ∧ { t with out := s.out, pmu := s.pmu } = s) ∧
      (Gives (.selfTest w ⟨none, 0, 0⟩) s fun t => t.out = s.out ++ [.service w .ok s.approved] ∧ { t with out := s.out, pmu := s.pmu } = s) ∧
      (Gives (.zeroizeAll w) s fun t => t.mem = [] ∧ t.cry.slots = [] ∧ t.cry.metaKey = none ∧ t.cry.zeroized = true ∧ Msg.service w .ok s.approved ∈ t.out ∧
        t.tb = s.tb ∧ t.repairs = s.repairs ∧ t.aon.svnFuse = s.aon.svnFuse ∧ t.pending = s.pending ∧ ∀ h, (t.port h).up = false)) ∧
    (s.hasRole w .co = false → ∀ i ∈ [Instr.setUserRoots w [], .setIdePolicy w false, .advanceSvn w, .selfTest w ⟨none, 0, 0⟩, .zeroizeAll w], Gives i s fun t =>
      t.out = s.out ++ [.service w (.refused "NOT_AUTHORIZED") s.approved] ∧ { t with out := s.out, pmu := s.pmu } = s)

/-- IDE key management and a failed MAC (R227, R295, R309, R310, R311). Over a head's own DOE with CRY operational and a session that may program IDE:
KEY_PROG with a port whose GCM test has not failed loads the key set of that stream and direction and leaves every other key; K_SET_GO with the set
loaded and the GCM test passed makes the direction use it, in Recovery only once the link is back in L0; both are acknowledged. IDE_MAC_FAIL on a
protected link clears both streams' keys, sets IDE_FAIL and takes the link down. -/
def Obligations.IdeKeys : Prop :=
  ∀ (s : State) (h : Head), CryReached s (.head h) →
    (s.ideAllowed h = true → ∀ (st : IdeStream) (rx k1 : Bool),
      (∀ key : BitVec 256, (s.port h).gcm ≠ some false → Gives (.keyProg h st rx k1 key) s fun t =>
        (if k1 then ((t.port h).ideDir st rx).k1 else ((t.port h).ideDir st rx).k0) = some (key, !s.hasRole (.head h) .user) ∧
        (if k1 then ((t.port h).ideDir st rx).k0 = ((s.port h).ideDir st rx).k0 else ((t.port h).ideDir st rx).k1 = ((s.port h).ideDir st rx).k1) ∧
        (∀ st' rx', (st', rx') ≠ (st, rx) → (t.port h).ideDir st' rx' = (s.port h).ideDir st' rx') ∧ (∀ g, g ≠ h → t.port g = s.port g) ∧
        t.out = s.out ++ [.ideAck h] ∧ { t with ports := s.ports, out := s.out, pmu := s.pmu } = s) ∧
      ((if k1 then ((s.port h).ideDir st rx).k1 else ((s.port h).ideDir st rx).k0) ≠ none → (s.port h).gcm = some true → (s.port h).ltssm ≠ .recovery → Gives (.kSetGo h st rx k1) s fun t =>
        (t.port h).ideDir st rx = { (s.port h).ideDir st rx with useK1 := k1, go := true } ∧
        (∀ st' rx', (st', rx') ≠ (st, rx) → (t.port h).ideDir st' rx' = (s.port h).ideDir st' rx') ∧ (∀ g, g ≠ h → t.port g = s.port g) ∧
        t.out = s.out ++ [.ideAck h] ∧ { t with ports := s.ports, out := s.out, pmu := s.pmu } = s) ∧
      ((if k1 then ((s.port h).ideDir st rx).k1 else ((s.port h).ideDir st rx).k0) ≠ none → (s.port h).gcm = some true → (s.port h).ltssm = .recovery → Gives (.kSetGo h st rx k1) s fun t =>
        t.port h = { s.port h with goDue := (s.port h).goDue ++ [(st, rx, k1)] } ∧ (∀ g, g ≠ h → t.port g = s.port g) ∧
        t.out = s.out ++ [.ideAck h] ∧ { t with ports := s.ports, out := s.out, pmu := s.pmu } = s)) ∧
    (s.ideAllowed h = false → ∀ st rx k1 key, Gives (.keyProg h st rx k1 key) s fun t =>
      t.out = s.out ++ [.service (.head h) (.refused "NOT_AUTHORIZED") s.approved] ∧ { t with out := s.out, pmu := s.pmu } = s) ∧
    (((s.port h).ioRx.go = true ∨ (s.port h).cmRx.go = true) → Gives (.ideMacFail h) s fun t =>
      (t.port h).up = false ∧ (t.port h).rasIde = true ∧ (t.port h).ioTx = .clear ∧ (t.port h).ioRx = .clear ∧ (t.port h).cmTx = .clear ∧ (t.port h).cmRx = .clear ∧
      t.fb (Reg.PRTn_LINK_ERR.IDE_FAIL.nth h.val) = true ∧ t.mem = s.mem)

/-- Self-tests, entropy, the DRBG and the XTS engines (R312, R313, R314, R316, R318). POWER_UP_KAT_DONE at step 8 with every engine good makes CRY
operational and starts the boot ROM, and a User root list that fails its HMAC is empty from then on, with an event record; with a shared engine bad it
leads to the error state. A first entropy health failure is noted, a second within 1 s leads to the error state. DRBG_RESEED with good health starts
the count again. A passed periodic test changes nothing; a failed one, or a failed consistency check, with the spare free puts the engine out of
service and the spare on its channel, and no channel fails. In the error state every key slot and the metadata key are overwritten. -/
def Obligations.CrySelfTests : Prop :=
  ∀ s : State,
    (s.aon.boot = .rails → s.cry.st = .selfTest → s.aon.inReset = false → s.aon.railFault = false →
      (exec (.powerUpKatDone ⟨none, 0, 0⟩ ⟨false, false⟩) s = .next { s with
        aon := { s.aon with boot := .tested, trying := s.aon.pendingFw }, cry := { s.cry with st := .operational, drbgAt := s.now }, mgt := { s.mgt with st := .booting, dogAt := s.now } }) ∧
      (∀ policyBad, Gives (.powerUpKatDone ⟨none, 0, 0⟩ ⟨true, policyBad⟩) s fun t => t.aon.userRoots = [] ∧ t.aon.ideAny = (policyBad || s.aon.ideAny) ∧ t.cry.st = .operational ∧ s.events <+: t.events ∧ s.events.length < t.events.length) ∧
      (∀ c x g f, Gives (.powerUpKatDone ⟨some c, x, g⟩ f) s fun t => CryFailed s t c ∧ t.aon.boot = .rails)) ∧
    (s.mainRuns = true → s.cry.st ≠ .error →
      ((∀ a ∈ s.cry.entropyAt, a + 1000000000 ≤ s.now) → Gives .entropyHealthFail s fun t => t.cry = { s.cry with entropyAt := [s.now] } ∧ { t with cry := s.cry, pmu := s.pmu } = s) ∧
      (∀ a ∈ s.cry.entropyAt, s.now < a + 1000000000 → Gives .entropyHealthFail s fun t => CryFailed s t .entropy)) ∧
    (s.cry.st = .operational →
      (Gives (.drbgReseed false) s fun t => t.cry.drbgReqs = 0 ∧ t.cry.drbgAt = s.now ∧ { t with cry := s.cry, free := s.free, pmu := s.pmu } = s ∧ t.cry.slots = s.cry.slots) ∧
      (Gives (.drbgReseed true) s fun t => CryFailed s t .drbg) ∧
      (∀ e ok, exec (.xtsPeriodicTest e true ok) s = .next s) ∧
      (∀ e : Fin 17, e.val < 16 → s.fbit Reg.XTS_STATUS.ENGINE_OOS e.val = false → s.fb Reg.XTS_STATUS.SPARE_ACTIVE = false → s.fb Reg.XTS_STATUS.SPARE_FAIL = false →
        ∀ i ∈ [Instr.xtsPeriodicTest e false true, .xtsEngineFail e true true, .xtsEngineFail e false true], Gives i s fun t =>
          t.fbit Reg.XTS_STATUS.ENGINE_OOS e.val = true ∧ t.fb Reg.XTS_STATUS.SPARE_ACTIVE = true ∧ t.f Reg.XTS_STATUS.SPARE_CH = e.val ∧
          t.chans = s.chans ∧ t.mem = s.mem ∧ t.cry = s.cry ∧ t.rtk = s.rtk ∧ t.nc = s.nc))

/-- Firmware updates, boots and restarts of MGT (R321, R322, R352, R437, R438). PLDM_FIRMWARE_UPDATE over a sideband that is served writes the inactive
slot, and sets PENDING only for an image that verifies. READY_POINT runs the image of the active slot, or of the other for a PENDING image that is
being tried, and where neither verifies leaves MGT in the recovery loader with PENDING clear. FW_READY_TIMEOUT clears PENDING. ACTIVATE_FIRMWARE, the
watchdog, the restart command and the restart causes put MGT into its boot ROM with ring commands paused and the sideband sessions ended; host memory
stays as it was. -/
def Obligations.FirmwareImages : Prop :=
  ∀ s : State,
    (SidebandServes s → ∀ img : FwImage, Gives (.pldmFirmwareUpdate img) s fun t =>
      t.aon.pendingFw = s.imageOk img true ∧ (if s.aon.activeB then t.aon.slotA = some img ∧ t.aon.slotB = s.aon.slotB else t.aon.slotB = some img ∧ t.aon.slotA = s.aon.slotA) ∧
      t.out = s.out ++ [.sideband (if s.imageOk img true then .ok else .refused "VERIFY")] ∧
      { t with out := s.out, aon := { t.aon with slotA := s.aon.slotA, slotB := s.aon.slotB, pendingFw := s.aon.pendingFw } } = s) ∧
    (s.mgt.st = .booting → s.mainRuns = true → s.domOn 1 = true → s.mgt.held = [] → s.mgt.heldSb = [] → ∀ a b : Bool,
      (s.bootSlot a b = none → exec (.readyPoint a b) s = .next { s with mgt := { s.mgt with st := .recovery }, aon := { s.aon with trying := false, pendingFw := false } }) ∧
      (∀ x i, s.bootSlot a b = some (x, i) → Gives (.readyPoint a b) s fun t =>
        t.mgt.st = .running ∧ t.aon.running = some i ∧ t.aon.activeB = (if s.aon.trying then x else s.aon.activeB) ∧ t.aon.trying = false ∧ t.cry.measured = some i.manifest ∧
        t.fb Reg.CMD_STATUS.MGT_PAUSE = false ∧ (s.aon.boot = .tested → t.aon.boot = .firmware ∧ t.cry.identity = true) ∧
        { t with csr := s.csr, aon := s.aon, cry := s.cry, mgt := s.mgt } = s)) ∧
    (s.mgt.st = .booting → s.aon.trying = true → exec .fwReadyTimeout s = .next { s with aon := { s.aon with trying := false, pendingFw := false }, mgt := { s.mgt with dogAt := s.now } }) ∧
    (SidebandServes s → Gives .activateFirmware s fun t => MgtRestarted s t ∧ Msg.sideband .ok ∈ t.out) ∧
    (KickServes s → s.hsw.pg = true → s.mgt.st ≠ .reset → Gives .mgtRestartCommand s fun t => MgtRestarted s t ∧ Msg.sideband .ok ∈ t.out) ∧
    (s.mgt.st = .running → Gives .mgtWatchdog s (MgtRestarted s)) ∧
    (s.mgt.st ≠ .reset → (Gives (.mgtRestart .sramError) s (MgtRestarted s)) ∧ Gives (.mgtRestart .brownout) s fun t => MgtRestarted s t ∧ t.fb Reg.PWR_STATUS.BROWNOUT = true)

/-- A port trains to the rate and width that both sides and its lanes allow (R196, R203, R204, R205, R206, R207, R216, R361, R432, R465). PORT_BRING_UP of
a presented head whose link is down, with the main domains running, REFCLK, a receiver, no hold and no loop of LOOP 1 to 3, and at least one usable
width: the link is in L0 at the lesser of MAX_RATE and the host's rate, at 32 GT/s where equalization at 64 GT/s fails or has failed since the last
port reset, at the widest width of the lanes that are good and have not failed, with CXL.mem only from 8 GT/s up and 256-byte flits only at 64 GT/s;
it advertises its CXL.io credits, and a fence that a port reset came after ends. With no receiver it stays in Detect. Before the main domains run, or
without REFCLK, it waits, and REFCLK_RETURN brings it up; where its domain is not ON, the wake latch of the domain is set. No other port changes, nor
memory. -/
def Obligations.PortTraining : Prop :=
  ∀ (s : State) (p : Head) (c : LinkCap), p ∈ s.heads → s.portsHeld = false → (s.port p).up = false →
    let lanes := c.goodLanes &&& (s.port p).goodLanes
    let on := s.domOn (4 + p.val) = true
    (s.mainRuns = true → c.refclk = true → on → c.receiver = true → s.loopDown p = false → linkWidth (s.tandem p) lanes ≠ 0 → Gives (.portBringUp p c) s fun t =>
      let want := min (if (s.port p).eqFailed then min 4 (s.maxRate p) else s.maxRate p) c.hostRate.val
      (t.port p).ltssm = .l0 ∧ (t.port p).up = true ∧ (t.port p).rate = (if want = 5 ∧ c.eq64Fails = true then 4 else want) ∧
      (t.port p).width = linkWidth (s.tandem p) lanes ∧ (t.port p).goodLanes = lanes ∧ (t.port p).txWidth = (t.port p).width ∧ (t.port p).rxWidth = (t.port p).width ∧
      (t.port p).flit256 = ((t.port p).rate == 5) ∧ (t.port p).mem = (c.cxlMem && decide (2 ≤ (t.port p).rate)) ∧ (t.port p).active = (s.port p).active ∧
      ((s.port p).resetSeen = true → t.fenced p = false) ∧ t.mem = s.mem ∧ t.rtk = s.rtk ∧
      (want ≠ 5 ∨ c.eq64Fails = false → t.out = s.out ++ [.ioCredits p 64 1024 32 32] ∧ (∀ g, g ≠ p → t.port g = s.port g) ∧ ((s.port p).resetSeen = false → t.csr = s.csr) ∧
        { t with ports := s.ports, doms := s.doms, out := s.out, csr := s.csr } = s)) ∧
    (s.mainRuns = true → c.refclk = true → on → c.receiver = false → Gives (.portBringUp p c) s fun t =>
      (t.port p).ltssm = .detect ∧ (t.port p).up = false ∧ (∀ g, g ≠ p → t.port g = s.port g) ∧ { t with ports := s.ports } = s) ∧
    (s.mainRuns = true → c.refclk = true → s.domOn (4 + p.val) = false → Gives (.portBringUp p c) s fun t =>
      t.port p = { s.port p with perst := false, cap := some c, refclk := true, waiting := none } ∧ (∀ g, g ≠ p → t.port g = s.port g) ∧
      (t.dom (4 + p.val)).latch = (s.dom (4 + p.val)).latch ++ (if (s.dom (4 + p.val)).latch.any (·.1 == .perst) then [] else [(.perst, s.tb)]) ∧
      (∀ j, j ≠ 4 + p.val → t.dom j = s.dom j) ∧ { t with ports := s.ports, doms := s.doms } = s) ∧
    ((s.mainRuns = false ∨ c.refclk = false) → Gives (.portBringUp p c) s fun t =>
      (t.port p).waiting = some c ∧ (t.port p).up = false ∧ (∀ g, g ≠ p → t.port g = s.port g) ∧ { t with ports := s.ports } = s) ∧
    ((s.port p).waiting = some c → s.mainRuns = true → on → c.receiver = true → s.loopDown p = false → linkWidth (s.tandem p) lanes ≠ 0 → Gives (.refclkReturn p) s fun t =>
      (t.port p).up = true ∧ (t.port p).ltssm = .l0 ∧ (t.port p).width = linkWidth (s.tandem p) lanes ∧ t.mem = s.mem)

/-- LINK_UP returns every credit that no held entry still takes (R54, R208, R213, R215, R224). On a trained link that negotiated CXL.mem and is not yet
active: CXL.mem runs, the host's credits of each channel are the link's (512 in a tandem, else 256) less the entries of that channel that the head
still holds, flits numbered from zero carry them, none beyond what a flit's field holds, the receive sequence starts from zero, the granted S2M
credits are held, and Memory_Active is whether memory is ready. No other port changes, nor memory. -/
def Obligations.LinkUpCredits : Prop :=
  ∀ (s : State) (p : Head) (g : S2mGrant), (s.port p).up = true → (s.port p).active = false → (s.port p).mem = true → (s.port p).ltssm = .l0 →
    (∀ x ∈ s.cmd.heldMsix, x.1 ≠ p) → Gives (.linkUp p g true) s fun t =>
      let req := (if s.tandem p then 512 else 256) - s.detachedOn p .req
      let rwd := (if s.tandem p then 512 else 256) - s.detachedOn p .rwd
      (t.port p).active = true ∧ (t.port p).reqHost = req ∧ (t.port p).rwdHost = rwd ∧ (t.port p).ndr = g.ndr ∧ (t.port p).drs = g.drs ∧ (t.port p).bisnp = g.bisnp ∧
      (t.port p).rxSeq = 0 ∧ (t.port p).memActive = s.fb Reg.XLT_STATUS.READY ∧ (t.port p).gcm = some true ∧
      (((t.port p).replay.map (·.reqInc)).sum = req ∧ ((t.port p).replay.map (·.rwdInc)).sum = rwd) ∧
      (∀ x ∈ (t.port p).replay, x.reqInc ≤ fieldMax ∧ x.rwdInc ≤ fieldMax ∧ x.msg = none ∧ x.replays = 0) ∧ (t.port p).replay.map (·.seq) = List.range (t.port p).replay.length ∧
      t.out = s.out ++ ((t.port p).replay.map fun x => Msg.flit p x.seq x.reqInc x.rwdInc) ∧ (∀ r ∈ t.rtk, r.head = p → r.synthetic = true ∧ r.detached = true) ∧
      (∀ h, h ≠ p → t.port h = s.port h) ∧ { t with ports := s.ports, rtk := s.rtk, out := s.out, pmu := s.pmu } = s

/-- What takes a link down (R110, R222, R223, R224, R227, R296, R311). On an up link LINK_DOWN, VIRAL, RECOVERY_TIMEOUT in Recovery, REFCLK_LOSS, a hot
reset, PORTn_PERST_n and a LANE_FAILURE that leaves no lane take it down: credits, sequences and IDE keys go, the DOE sessions of the head end, and
every entry of the head is synthetic from then on. A port reset also clears the head's HDM decoders, CXL registers, policies and acceptance. Stored
memory, TB, the key slots and the hot-swap block stay as they were. -/
def Obligations.LinkDownEvents : Prop :=
  ∀ (s : State) (p : Head), (s.port p).up = true →
    (∀ i ∈ [Instr.linkDown p, .viral p, .refclkLoss p, .portReset p true, .laneFailure p 0], (i = .laneFailure p 0 → (s.port p).goodLanes ≠ 0) → Gives i s (LinkLost s p)) ∧
    ((s.port p).ltssm = .recovery → Gives (.recoveryTimeout p) s (LinkLost s p)) ∧
    (s.mainRuns = true → p ∈ s.heads → Gives (.portReset p false) s (LinkLost s p)) ∧
    (∀ hot, (hot = true ∨ (s.mainRuns = true ∧ p ∈ s.heads)) → Gives (.portReset p hot) s fun t =>
      (t.port p).hdm = [] ∧ (t.port p).cxlRegs = [] ∧ (t.port p).biEnable = false ∧ (t.port p).accepted = false ∧ (t.port p).offer = none ∧
      (t.port p).evtPolicy = ⟨none, none, none, none, none⟩ ∧ (t.port p).resetSeen = true ∧ (hot = false → (t.port p).perst = true))

/-- Recovery, lost lanes and L0p (R204, R210, R220, R221, R447, R218, R391). LINK_RECOVERY into Recovery from L0, and RETRAIN through a source that may
write the port, change the port's LTSSM to Recovery with full widths and set RETRAINED; credits, entries and the flits to replay stay. The return is
to L0 with L0p held off for 10 us, and a replay that Recovery broke off goes on. A LANE_FAILURE that leaves a narrower width narrows the link through
Recovery and sets DEGRADED. On a port that may use L0p: a host request for a link width no wider than the trained one is granted for its direction;
L0P_NARROW halves the transmit width down to the least allowed, not before the hold-off ends; L0P_WIDEN restores the trained width after the hold-off,
for Cadence only at stage 0. Nothing else changes. -/
def Obligations.RecoveryLanesL0p : Prop :=
  (∀ (s : State) (p : Head), (s.port p).up = true →
    ((s.port p).ltssm = .l0 → (∀ b : Bool, Gives (.linkRecovery p b false) s fun t => Recovered s p t) ∧
      (∀ w, s.mainRuns = true → s.mayWritePort w p = true → Gives (.retrain w p) s fun t => Recovered s p t)) ∧
    (∀ w, s.mainRuns = true → s.mayWritePort w p = false → Gives (.retrain w p) s fun t => t.fb Reg.GEN_STATUS.NONOWN_DROP = true ∧ { t with csr := s.csr } = s) ∧
    ((s.port p).ltssm = .recovery → (s.port p).goDue = [] → ∀ b : Bool,
      ((s.port p).replayDue = false → Gives (.linkRecovery p b true) s fun t =>
        t.port p = { s.port p with ltssm := .l0, l0pAfter := s.now + 10000 } ∧ (∀ g, g ≠ p → t.port g = s.port g) ∧ { t with ports := s.ports } = s) ∧
      ((s.port p).replayDue = true → (∀ x ∈ (s.port p).replay, x.replays < 3) → Gives (.linkRecovery p b true) s fun t =>
        t.port p = { s.port p with ltssm := .l0, l0pAfter := s.now + 10000, replayDue := false, replay := (s.port p).replay.map fun x => { x with replays := x.replays + 1 } } ∧
        t.out = s.out ++ ((s.port p).replay.map fun x => Msg.replay p x.seq x.reqInc x.rwdInc) ∧ (∀ g, g ≠ p → t.port g = s.port g) ∧
        { t with ports := s.ports, out := s.out, pmu := s.pmu } = s)) ∧
    (∀ good : BitVec 16, let left := (s.port p).goodLanes &&& good
      left ≠ (s.port p).goodLanes → 0 < min (s.port p).width (linkWidth (s.tandem p) left) → min (s.port p).width (linkWidth (s.tandem p) left) < (s.port p).width →
      Gives (.laneFailure p good) s fun t => (t.port p).width = linkWidth (s.tandem p) left ∧ (t.port p).up = true ∧ (t.port p).ltssm = (s.port p).ltssm ∧ (t.port p).goodLanes = left ∧
        (t.port p).replay = (s.port p).replay ∧ (t.port p).reqHost = (s.port p).reqHost ∧ t.fb (Reg.PRTn_LINK_ERR.DEGRADED.nth p.val) = true ∧ t.rtk = s.rtk ∧ t.mem = s.mem)) ∧
  (∀ (s : State) (p : Head), s.l0pOk p = true →
    (∀ (rx : Bool) (w : Fin 17), w.val ∈ [1, 2, 4, 8, 16] → w.val ≤ (s.port p).width → Gives (.l0pHostRequest p rx w) s fun t =>
      t.port p = (if rx then { s.port p with rxWidth := w.val } else { s.port p with txWidth := w.val }) ∧ t.out = s.out ++ [.l0pAck p rx w.val] ∧
      (∀ g, g ≠ p → t.port g = s.port g) ∧ { t with ports := s.ports, out := s.out } = s) ∧
    ((s.port p).l0pAfter ≤ s.now → s.l0pMin p ≤ (s.port p).txWidth / 2 → 0 < (s.port p).txWidth / 2 → Gives (.l0pNarrow p) s fun t =>
      t.port p = { s.port p with txWidth := (s.port p).txWidth / 2 } ∧ t.out = s.out ++ [.l0pRequest p ((s.port p).txWidth / 2)] ∧
      (∀ g, g ≠ p → t.port g = s.port g) ∧ { t with ports := s.ports, out := s.out } = s) ∧
    (∀ byCadence : Bool, (byCadence = true → s.cad.stage = 0) → (s.port p).l0pAfter ≤ s.now → (s.port p).txWidth < (s.port p).width → Gives (.l0pWiden p byCadence) s fun t =>
      t.port p = { s.port p with txWidth := (s.port p).width } ∧ t.out = s.out ++ [.l0pRequest p (s.port p).width] ∧
      (∀ g, g ≠ p → t.port g = s.port g) ∧ { t with ports := s.ports, out := s.out } = s))

/-- Flits are taken in sequence once, and replayed in order (R209, R210, R212, R213). On a link in L0: a good flit with the expected number whose slots
carry credits and messages, with nothing waiting at the port and no containment mode of IDE, adds the S2M credits, advances the sequence and is
acknowledged; one with an earlier number is dropped; a later one and a bad one are answered with a Nak for the expected number and change no credit. A
Nak, with nothing waiting at the port, drops the flits up to its number and replays the rest in order; with an empty buffer nothing is replayed. The
replay timer replays every unacknowledged flit in order. -/
def Obligations.Flits : Prop :=
  ∀ (s : State) (p : Head), (s.port p).up = true → (s.port p).ltssm = .l0 →
    (∀ f : Flit, f.fecFixed = false →
      (f.crc = .good → f.seq = (s.port p).rxSeq → (s.port p).halfDone = none → (s.port p).acks = [] → (s.port p).ready = [] → (s.port p).ideContain = false →
        (∀ q ∈ s.dir.snoops, ¬(q.host = p ∧ q.sent = false)) → ∀ g : S2mGrant, f.first = [.credits g] → f.second = [.message] → Gives (.flitReceive p f) s fun t =>
        t.port p = { s.port p with rxSeq := (s.port p).rxSeq + 1, ndr := (s.port p).ndr + g.ndr, drs := (s.port p).drs + g.drs, bisnp := (s.port p).bisnp + g.bisnp } ∧
        (∀ h, h ≠ p → t.port h = s.port h) ∧ t.out = s.out ++ [.ack p f.seq] ∧ { t with ports := s.ports, out := s.out, pmu := s.pmu } = s) ∧
      (f.crc = .good → f.seq < (s.port p).rxSeq → Gives (.flitReceive p f) s fun t => { t with pmu := s.pmu } = s) ∧
      (f.crc = .good → (s.port p).rxSeq < f.seq → Gives (.flitReceive p f) s fun t => t.out = s.out ++ [.nak p (s.port p).rxSeq] ∧ { t with out := s.out, pmu := s.pmu } = s) ∧
      (f.crc = .bad → Gives (.flitReceive p f) s fun t => t.out = s.out ++ [.nak p (s.port p).rxSeq] ∧ t.fb (Reg.PRTn_LINK_ERR.FEC_UE.nth p.val) = true ∧
        { t with out := s.out, pmu := s.pmu, csr := s.csr } = s)) ∧
    (∀ seq : Nat, (∀ x ∈ (s.port p).replay, x.replays < 3) → (s.port p).acks = [] → (s.port p).ready = [] → (∀ q ∈ s.dir.snoops, ¬(q.host = p ∧ q.sent = false)) → Gives (.nak p seq) s fun t =>
      (t.port p).replay = (((s.port p).replay.filter fun x => decide (seq < x.seq)).map fun x => { x with replays := x.replays + 1 }) ∧
      t.out = s.out ++ (((s.port p).replay.filter fun x => decide (seq < x.seq)).map fun x => Msg.replay p x.seq x.reqInc x.rwdInc) ∧
      (∀ h, h ≠ p → t.port h = s.port h) ∧ { t with ports := s.ports, out := s.out, pmu := s.pmu } = s) ∧
    ((∀ x ∈ (s.port p).replay, x.replays < 3) → Gives (.replayTimerExpiry p) s fun t =>
      (t.port p).replay = ((s.port p).replay.map fun x => { x with replays := x.replays + 1 }) ∧
      t.out = s.out ++ ((s.port p).replay.map fun x => Msg.replay p x.seq x.reqInc x.rwdInc) ∧ { t with ports := s.ports, out := s.out, pmu := s.pmu } = s)

/-- Credits return in flits, paced and withheld as the rules say (R119, R213, R214, R217, R390). CREDIT_RETURN_TIMER on an active link in L0 with room in
the replay buffer at PACE 100 sends one flit with the lesser of the Req credits due and what its field holds, and of the RwD credits due unless the
pool withholds them; with PACE below 100 the increments of one microsecond never total more than PACE percent of the link's lines per microsecond.
S2M_CREDIT_WITHHOLD_TIMEOUT on a starved port writes an event record and leaves the port waiting. -/
def Obligations.CreditReturn : Prop :=
  ∀ (s : State) (p : Head),
    ((s.port p).active = true → (s.port p).ltssm = .l0 → (s.port p).txRoom = true →
      let req := min ((s.port p).freedReq - (s.port p).sentReq).toNat fieldMax
      let rwd := if s.rwdHeld p then 0 else min ((s.port p).freedRwd - (s.port p).sentRwd).toNat fieldMax
      (100 ≤ s.f Reg.CAD_PACE.PACE → req + rwd < 2 ^ 32 → 0 < req + rwd → Gives (.creditReturnTimer p) s fun t =>
        t.out = s.out ++ [.flit p (s.port p).txSeq req rwd] ∧ (t.port p).sentReq = (s.port p).sentReq + BitVec.ofNat 32 req ∧ (t.port p).sentRwd = (s.port p).sentRwd + BitVec.ofNat 32 rwd ∧ (t.port p).reqHost = (s.port p).reqHost + req ∧
        (t.port p).rwdHost = (s.port p).rwdHost + rwd ∧ (∀ h, h ≠ p → t.port h = s.port h) ∧ { t with ports := s.ports, out := s.out, pmu := s.pmu } = s) ∧
      (s.f Reg.CAD_PACE.PACE < 100 → Gives (.creditReturnTimer p) s fun t =>
        (t.port p).reqHost + (t.port p).rwdHost ≤ (s.port p).reqHost + (s.port p).rwdHost +
          ((s.port p).linesPerUs * s.f Reg.CAD_PACE.PACE / 100 - (if (s.port p).paceUs = s.now / 1000 then (s.port p).paceUsed else 0)) ∧
        (∀ h, h ≠ p → t.port h = s.port h) ∧ { t with ports := s.ports, out := s.out, pmu := s.pmu } = s)) ∧
    (s.starved p = true → Gives (.s2mCreditWithholdTimeout p) s fun t => s.events.length < t.events.length ∧ s.events <+: t.events ∧ t.rtk = s.rtk ∧ t.mem = s.mem ∧ t.csr = s.csr)

/-- DevLoad rises at once and falls by one after 8 lower intervals (R65). At each DEVLOAD_INTERVAL with the main domains running, for every presented head
with measured level v between the computed measures and Cadence's floor: its DevLoad becomes v where v is not below it; where v is below it for the
eighth interval in a row it falls by one; else it stays and the interval is counted. Nothing but the heads' DevLoad state changes. -/
def Obligations.DevLoadMoves : Prop :=
  ∀ (s : State) (delays : List (Option Nat)), s.mainRuns = true → Gives (.devloadInterval delays) s fun t =>
    { t with ports := s.ports } = s ∧ (∀ h, h ∉ s.heads → t.port h = s.port h) ∧
    ∀ h ∈ s.heads,
      let v := max (max (occLevel s.dldWords.1 (s.port h).occPeak (2 * s.linkCredits h)) (dlyLevel s.dldWords.2 (delays[h.val]?).join)) s.devFloor
      ((s.port h).devload.toNat ≤ v → (t.port h).devload.toNat = v ∧ (t.port h).dlBelow = 0) ∧
      (v < (s.port h).devload.toNat → 7 ≤ (s.port h).dlBelow → (t.port h).devload.toNat = (s.port h).devload.toNat - 1 ∧ (t.port h).dlBelow = 0) ∧
      (v < (s.port h).devload.toNat → (s.port h).dlBelow < 7 → (t.port h).devload = (s.port h).devload ∧ (t.port h).dlBelow = (s.port h).dlBelow + 1)

/-- Test loops (R202, R229, R230, R447). Through the owner head or the sideband with the main domains running, on an engine that carries a head and has no
request waiting for the port loop: PHY_LOOP and the remote loops set LOOP to 1, 2 or 3, take the link down and are active at once, the ones that lead
showing their locked lanes; PORT_LOOP with no entry of the head in RTK is active at once with the link as it was; LOOP_OFF of a port loop with no
entry waiting ends it. On an engine that carries no head nothing changes, and through another source nothing but NONOWN_DROP. Memory stays as it was. -/
def Obligations.TestLoops : Prop :=
  ∀ (s : State) (w : Via) (p : Head), s.mainRuns = true →
    (s.isOwner w = true → p ∈ s.heads → (∀ r ∈ s.rtk, ¬(r.head = p ∧ r.loopWaits = true)) →
      (∀ n : Nat, ∀ x ∈ [(1, Instr.phyLoop w p n), (2, .remoteLoopFollower w p), (3, .remoteLoopLeader w p n)], Gives x.2 s fun t =>
        t.f (Reg.PRTn_TEST_CTL.LOOP.nth p.val) = x.1 ∧ t.fb (Reg.PRTn_TEST_STATUS.ACTIVE.nth p.val) = true ∧ (t.port p).up = false ∧
        (x.1 ≠ 2 → t.f (Reg.PRTn_TEST_STATUS.LANE_LOCK.nth p.val) = s.f (Reg.PRTn_TEST_CTL.LANE_MASK.nth p.val)) ∧ t.mem = s.mem) ∧
      ((∀ r ∈ s.rtk, r.head ≠ p) → Gives (.portLoop w p) s fun t =>
        t.f (Reg.PRTn_TEST_CTL.LOOP.nth p.val) = 4 ∧ t.portLoop p = true ∧ t.port p = { s.port p with loopWait := false } ∧ (∀ g, g ≠ p → t.port g = s.port g) ∧ { t with csr := s.csr, ports := s.ports } = s) ∧
      (s.f (Reg.PRTn_TEST_CTL.LOOP.nth p.val) = 4 → (∀ r ∈ s.rtk, r.head ≠ p) → Gives (.loopOff w p) s fun t =>
        t.f (Reg.PRTn_TEST_CTL.LOOP.nth p.val) = 0 ∧ t.portLoop p = false ∧ t.port p = { s.port p with loopWait := false } ∧ (∀ g, g ≠ p → t.port g = s.port g) ∧ { t with csr := s.csr, ports := s.ports } = s)) ∧
    (s.isOwner w = true → p ∉ s.heads → ∀ i ∈ [Instr.phyLoop w p 0, .remoteLoopFollower w p, .remoteLoopLeader w p 0, .portLoop w p, .loopOff w p], exec i s = .next s) ∧
    (s.isOwner w = false → ∀ i ∈ [Instr.phyLoop w p 0, .remoteLoopFollower w p, .remoteLoopLeader w p 0, .portLoop w p, .loopOff w p], Gives i s fun t =>
      t.fb Reg.GEN_STATUS.NONOWN_DROP = true ∧ (∀ off, off ≠ 4 → t.word off = s.word off) ∧ { t with csr := s.csr } = s)

/-- Host requests of a line in an HDM-H region (R37, R42, R43, R54, R177, R178, R199). A request with a credit, from a head whose memory is active and
with no loop in effect, for a line of an HDM-H region that the near cache holds whole, with its slices ON and no request open for it: reads answer the
line's value, poison included, with no state granted, MEM_RD_FWD also with Cmp; writes complete with Cmp and the line then holds the written bytes
over its old ones; MEM_INV, MEM_CLN_EVCT and MEM_WR_FWD complete with Cmp and change no data, whatever their metadata; MEM_SPEC_RD sends nothing. One
credit is taken and returned, RTK is as before, and no stored byte and no translation record changes. MEM_SPEC_RD of a line that the near cache does
not hold, stored in a DIRECT extent, opens a fill of it and sends nothing. -/
def Obligations.HostRequestsHdmH : Prop :=
  ∀ (s : State) (h : Head) (hpa : BitVec 52) (tag : BitVec 16) (g : Region) (a : Nat),
    let l := g.dpa a / 64
    HostReady s h hpa.toNat a g → g.db = false → (s.port h).ndr ≠ 0 → (s.port h).drs ≠ 0 →
    (∀ n, NcHolds s l n →
      (n.poison = false →
        (∀ mv snp, ∀ i ∈ [Instr.memRd h hpa tag mv snp .none, .memRdData h hpa tag .none], Gives i s fun t => Msg.data h tag ⟨n.data, false⟩ .none (s.devloadOf h) ∈ t.out ∧ ReadKept s t) ∧
        (TagFree s h tag → ∀ i ∈ [Instr.memRd h hpa tag .noOp .noOp .none, .memRdData h hpa tag .none], Gives i s fun t =>
          t.out = s.out ++ [.data h tag ⟨n.data, false⟩ .none (s.devloadOf h)] ∧ ReadKept s t ∧ t.csr = s.csr) ∧
        Gives (.memRdFwd h hpa tag) s fun t => Msg.data h tag ⟨n.data, false⟩ .none (s.devloadOf h) ∈ t.out ∧ Msg.cmp h tag .none (s.devloadOf h) ∈ t.out ∧ ReadKept s t) ∧
      (n.poison = true → ∀ mv snp, ∀ i ∈ [Instr.memRd h hpa tag mv snp .none, .memRdData h hpa tag .none, .memRdFwd h hpa tag], Gives i s fun t =>
        (∃ d, Msg.data h tag ⟨d, true⟩ .none (s.devloadOf h) ∈ t.out) ∧ ReadKept s t) ∧
      (Gives (.memSpecRd h hpa tag) s fun t => t.out = s.out ∧ ReadKept s t ∧ t.csr = s.csr) ∧
      (∀ nt mv, ∀ i ∈ [Instr.memInv h hpa tag nt mv, .memClnEvct h hpa tag], Gives i s fun t => Msg.cmp h tag .none (s.devloadOf h) ∈ t.out ∧ ReadKept s t) ∧
      (TagFree s h tag → ∀ nt, ∀ i ∈ [Instr.memInv h hpa tag nt .noOp, .memClnEvct h hpa tag], Gives i s fun t => t.out = s.out ++ [.cmp h tag .none (s.devloadOf h)] ∧ ReadKept s t ∧ t.csr = s.csr) ∧
      (∀ d, Gives (.memWrFwd h hpa tag d) s fun t => Msg.cmp h tag .none (s.devloadOf h) ∈ t.out ∧ ReadKept s t) ∧
      (s.level ≠ 3 → ∀ (mv : MetaVal) (d : LineData) (poison : Bool),
        (Gives (.memWr h hpa tag mv d poison .none) s fun t => t.current l = ⟨d, poison⟩ ∧ Msg.cmp h tag .none (s.devloadOf h) ∈ t.out ∧ WriteKept s l t) ∧
        (∀ m, Gives (.memWrPtl h hpa tag mv m d poison .none) s fun t =>
          (t.nc.lines.look l).map (fun x => (x.data, x.poison)) = some (if m = 0 then (n.data, n.poison) else (mergeLine n.data d m, if m = fullMask then poison else n.poison || poison)) ∧
          Msg.cmp h tag .none (s.devloadOf h) ∈ t.out ∧ WriteKept s l t) ∧
        (TagFree s h tag → ∀ m, m ≠ 0 → ∀ i ∈ [Instr.memWr h hpa tag .noOp d poison .none, .memWrPtl h hpa tag .noOp m d poison .none], Gives i s fun t => t.out = s.out ++ [.cmp h tag .none (s.devloadOf h)]))) ∧
    (s.nc.lines.look l = none → s.wbbLine l = none → s.setLost l = false → (∀ d ∈ lineDomains l false, s.domOn d = true) → s.xlt.rebuilds.contains (extOf l / 64) = false →
      s.xlt.touched.has (extOf l) = true → s.xlt.extCache.has (extOf l) = true → (s.extRec (extOf l)).mode = .direct → s.xlt.zeroing.has (pageKey l) = false → s.lineLost l = false →
      (∃ w < 16, ∀ p ∈ s.ncMembers (setKey l), p.2.way.val ≠ w) → (∀ r ∈ s.rtk, r.id ≠ s.nextEntry) → Gives (.memSpecRd h hpa tag) s fun t =>
        (t.nc.lines.look l).map (fun x => (x.filling, x.mask)) = some (true, 0) ∧ (∃ f, t.nc.fills = s.nc.fills ++ [f] ∧ f.line = l ∧ f.value = some (s.stored l)) ∧
        t.out = s.out ∧ t.rtk = s.rtk ∧ t.mem = s.mem ∧ ∀ k, k ≠ l → t.nc.lines.look k = s.nc.lines.look k)

/-- Grants and evictions in an HDM-DB region (R175, R177, R180, R190). In an HDM-DB region, from a head that uses back-invalidation and is not fenced, for
a line that no host holds and the near cache holds whole: MemRd with A and SnpInv and MemRdData are answered with E and leave the head the line's
owner, MemRd with S and SnpData with S and in shared presence, MemInv with A with E; MemRd with No-Op grants nothing and leaves the directory as it
was. For a line that the head alone holds, MemClnEvct, MemInv with I and, from its owner, MemWr with I leave no host holding it. No stored byte
changes. -/
def Obligations.HostRequestsHdmDb : Prop :=
  ∀ (s : State) (h : Head) (hpa : BitVec 52) (tag : BitVec 16) (g : Region) (a : Nat) (n : NcLine),
    let l := g.dpa a / 64
    HostReady s h hpa.toNat a g → g.db = true → NcHolds s l n → n.poison = false → s.domOn (44 + dirSlice l) = true → s.biOn h = true → s.fenced h = false → s.dirLost l = false → (∀ q ∈ s.dir.snoops, l ∉ q.lines) →
    (s.port h).ndr ≠ 0 → (s.port h).drs ≠ 0 →
    (s.dir.entries.look l = none → (s.dirFree l).isSome = true → s.dirSetAhead (s.newEntry h .req (.rd .a) tag a l true 0 0 false) = false →
      (∀ i ∈ [Instr.memRd h hpa tag .a .inv .none, .memRdData h hpa tag .none], Gives i s fun t =>
        Msg.data h tag ⟨n.data, false⟩ .e (s.devloadOf h) ∈ t.out ∧ t.holdsEm l h = true ∧ (∀ k, k ≠ h → t.holds l k = false) ∧ t.mem = s.mem ∧ t.rtk = s.rtk) ∧
      (Gives (.memRd h hpa tag .s .data .none) s fun t => Msg.data h tag ⟨n.data, false⟩ .s (s.devloadOf h) ∈ t.out ∧ t.holds l h = true ∧ t.holdsEm l h = false ∧ t.mem = s.mem ∧ t.rtk = s.rtk) ∧
      (Gives (.memInv h hpa tag false .a) s fun t => Msg.cmp h tag .e (s.devloadOf h) ∈ t.out ∧ t.holdsEm l h = true ∧ t.mem = s.mem ∧ t.rtk = s.rtk) ∧
      (Gives (.memRd h hpa tag .noOp .noOp .none) s fun t => Msg.data h tag ⟨n.data, false⟩ .none (s.devloadOf h) ∈ t.out ∧ t.dir.entries = s.dir.entries ∧ t.mem = s.mem ∧ t.rtk = s.rtk)) ∧
    (∀ e, s.dir.entries.look l = some e → e.pres = presBit h → e.busy = false → e.rebuild = false →
      (∀ i ∈ [Instr.memClnEvct h hpa tag, .memInv h hpa tag false .i], Gives i s fun t => Msg.cmp h tag .none (s.devloadOf h) ∈ t.out ∧ t.dir.entries.look l = none ∧ t.mem = s.mem ∧ t.rtk = s.rtk) ∧
      (e.state = .em → s.level ≠ 3 → ∀ d, Gives (.memWr h hpa tag .i d false .none) s fun t => Msg.cmp h tag .none (s.devloadOf h) ∈ t.out ∧ t.dir.entries.look l = none ∧ t.current l = ⟨d, false⟩ ∧ t.mem = s.mem ∧ t.rtk = s.rtk))

/-- Snoop answers, and what resumes a waiting request (R181, R182, R186, R193, R194, R199, R44, R45, R46, R189). From an active head that is not fenced,
an answer that suits an outstanding snoop settles the line in the directory, and with the snoop's last line what it was sent for goes on. For a snoop
of one line that a step of CMD or of the Guard asked for: BIRspI, and BIRspIBlk, leave the host with no copy and close the snoop; BIRspS to BISnpData
or BISnpCur leaves it in S; BIRspE to BISnpCur leaves its state. A BIRspIBlk to a block snoop clears the host on every line it covers. An answer to no
snoop is a violation and changes no line. A snoop that expires fences its host, and a BIConflict with no request ordered before is acknowledged at
once. No stored byte changes. WAITING_REQUEST_SERVED serves the first open request of its line where it waits behind an earlier one; WAY_FREED_RESUME,
WRITE_BACK_BUFFER_RESUME, SNOOP_SLOT_RESUME and DIRECTORY_SET_RESUME serve the entry that waits for that resource once it is free; where the resource
is not free, or the entry waits for another, nothing changes. A read so served whose line the near cache holds whole is answered with that data and
its entry is free, and one that asked for ownership of a line that no other host holds leaves its host the owner. -/
def Obligations.SnoopsAndResumes : Prop :=
  (∀ (s : State) (h : Head) (line : BitVec 40), (s.port h).active = true → s.fenced h = false →
    (∀ q, s.snoopTo h line.toNat = some q →
      let u := s.count 2 47 1 (some h.val)
      exec (.birspI h line) s = .next ((u.clearPres line.toNat q.host).lineAnswered q line.toNat) ∧
      (q.op = .cur → exec (.birspE h line) s = .next (u.lineAnswered q line.toNat)) ∧
      (q.op = .cur ∨ q.op = .data → exec (.birspS h line) s = .next (u.answeredS q line.toNat))) ∧
    (∀ q, s.snoopTo h line.toNat = some q → q.lines = [line.toNat] → (q.cause = .command ∨ q.cause = .fault) →
      (Gives (.birspI h line) s fun t => t.holds line.toNat h = false ∧ q.id ∉ t.dir.snoops.map (·.id) ∧ t.mem = s.mem ∧ t.nc = s.nc ∧ t.rtk = s.rtk) ∧
      ((q.op = .cur ∨ q.op = .data) → Gives (.birspS h line) s fun t => t.holds line.toNat h = s.holds line.toNat h ∧ t.holdsEm line.toNat h = false ∧ q.id ∉ t.dir.snoops.map (·.id) ∧ t.mem = s.mem ∧ t.nc = s.nc) ∧
      (q.op = .cur → Gives (.birspE h line) s fun t => t.holdsEm line.toNat h = s.holdsEm line.toNat h ∧ q.id ∉ t.dir.snoops.map (·.id) ∧ t.mem = s.mem ∧ t.nc = s.nc)) ∧
    (∀ q, s.snoopBlk h line.toNat = some q → q.op = .invBlk → (q.cause = .command ∨ q.cause = .fault) → Gives (.birspIBlk h line) s fun t =>
      (∀ j ∈ q.lines, t.holds j h = false) ∧ q.id ∉ t.dir.snoops.map (·.id) ∧ t.mem = s.mem ∧ t.nc = s.nc) ∧
    (s.snoopTo h line.toNat = none → Gives (.birspI h line) s fun t => t.fb Reg.DIR_STATUS.VIOL = true ∧ t.dir = s.dir ∧ t.mem = s.mem ∧ t.nc = s.nc ∧ t.rtk = s.rtk) ∧
    (∀ q, s.dir.snoops.find? (·.id == q.id) = some q → q.host = h → s.timerStopped q = false → Gives (.snoopTimeout q.id) s fun t => t.fenced h = true ∧ t.fb Reg.DIR_STATUS.TMO = true ∧ t.mem = s.mem) ∧
    ((s.port h).reqHost ≠ 0 → (s.port h).ndr ≠ 0 → (s.port h).txRoom = true → (∀ q, s.snoopTo h line.toNat = some q → ∀ r ∈ s.rtk, r.head = h → r.line = line.toNat → q.place ≤ r.id) → ∀ tag, Gives (.biConflict h line tag) s fun t =>
      t.out = s.out ++ [.biConflictAck h tag (s.devloadOf h)] ∧ (t.port h).reqHost = (s.port h).reqHost - 1 ∧ (t.port h).freedReq = (s.port h).freedReq + 1 ∧ { t with ports := s.ports, out := s.out, pmu := s.pmu } = s)) ∧
  (∀ (s : State) (id : Nat) (r : RtkEntry), s.entry id = some r →
    (∀ line : BitVec 40, s.rtk.find? (fun r => r.line == line.toNat && r.isOpen) = some r → r.phase = .line → exec (.waitingRequestServed line) s = .next (s.serve id)) ∧
    (r.phase = .way → s.wayFree r.line = true → exec (.wayFreedResume id) s = .next (s.serve id)) ∧
    (r.phase ≠ .way → exec (.wayFreedResume id) s = .next s) ∧
    (r.phase = .wbb → s.wbbUsed (slice r.line) < 64 → exec (.writeBackBufferResume id) s = .next (s.serve id)) ∧
    (r.phase = .wbb → 64 ≤ s.wbbUsed (slice r.line) → exec (.writeBackBufferResume id) s = .next s) ∧
    (r.phase = .slot → 0 < s.slotsFree r.line → exec (.snoopSlotResume id) s = .next (s.serve id)) ∧
    (r.phase = .dirSet → s.dirSetAhead r = false → s.causeDone (.evict id) = true → exec (.directorySetResume id) s = .next (s.serve id)) ∧
    (r.phase = .dirSet → s.dirSetAhead r = true → exec (.directorySetResume id) s = .next s) ∧
    (∀ (n : NcLine) (v : MetaVal), r.id = id → Servable s r n → r.op = .rd v →
      ((r.db = false ∨ r.coherent = true) →
        (∀ line : BitVec 40, s.rtk.find? (fun r => r.line == line.toNat && r.isOpen) = some r → r.phase = .line → Gives (.waitingRequestServed line) s (ReadServed s r n)) ∧
        (r.phase = .way → s.wayFree r.line = true → Gives (.wayFreedResume id) s (ReadServed s r n)) ∧
        (r.phase = .wbb → s.wbbUsed (slice r.line) < 64 → Gives (.writeBackBufferResume id) s (ReadServed s r n))) ∧
      (r.db = true → r.coherent = false → v = .a → s.biOn r.head = true → s.fenced r.head = false → s.dirLost r.line = false →
        (∀ e, r.phase = .slot → 0 < s.slotsFree r.line → s.dir.entries.look r.line = some e → e.pres = presBit r.head → e.busy = false → e.rebuild = false →
          Gives (.snoopSlotResume id) s fun t => ReadServed s r n t ∧ t.holdsEm r.line r.head = true) ∧
        (r.phase = .dirSet → s.dirSetAhead r = false → s.causeDone (.evict id) = true → s.dir.entries.look r.line = none → (s.dirFree r.line).isSome = true →
          Gives (.directorySetResume id) s fun t => ReadServed s r n t ∧ t.holdsEm r.line r.head = true))))

/-- Entries of power domains: asked, answered, refused and reached (R219, R358, R359, R362, R363, R364, R365, R357). An ON domain past its hold-off that
may be asked for a state enters its stop phase at DOMAIN_ENTRY_REQUEST, at IDLE_POLICY_TIMEOUT and, for a port with no receiver, at
NO_RECEIVER_TIMEOUT. In the stop phase PARTICIPANT_STOPPED notes the answer of a participant with no work open, and the last answer with no wake
source latched commits the entry; PARTICIPANT_REFUSE and STOP_TIMEOUT refuse it with their code and log it; DOMAIN_STATE_REACHED ends a committed
entry in RET or OFF, in which a directory slice loses its entries. Nothing else changes. -/
def Obligations.PowerDomainEntries : Prop :=
  ∀ (s : State) (d : DomainId),
    (s.mainRuns = true → s.domOn d.val = true → (s.dom d.val).holdUntil ≤ s.now →
      (∀ off byCad, s.mayAsk d.val off byCad = true → (byCad = true → s.cadenceAsks d.val = true) →
        exec (.domainEntryRequest d off byCad) s = .next (s.updDom d.val fun x => { x with st := .stopping off, stopped := [] })) ∧
      (∀ off, off = s.mayAsk d.val true false → (domKind d.val = .ch → (s.chan (chOf d.val)).st = .quiet) → s.mayAsk d.val off false = true →
        exec (.idlePolicyTimeout d) s = .next (s.updDom d.val fun x => { x with st := .stopping off, stopped := [] })) ∧
      (∀ p : Head, d.val = 4 + p.val → (s.port p).up = false → (s.port p).receiver = false → 1 ≤ s.f Reg.PWR_POLICY.PRT →
        exec (.noReceiverTimeout p) s = .next (s.updDom d.val fun x => { x with st := .stopping false, stopped := [] }))) ∧
    (∀ off, (s.dom d.val).st = .stopping off →
      (∀ n, n < participants (domKind d.val) → n ∉ (s.dom d.val).stopped →
        (s.openWork d.val = false →
          ((s.dom d.val).stopped.length + 1 ≠ participants (domKind d.val) →
            exec (.participantStopped d n) s = .next (s.updDom d.val fun x => { x with stopped := x.stopped ++ [n] })) ∧
          ((s.dom d.val).stopped.length + 1 = participants (domKind d.val) → (s.dom d.val).latch = [] → s.lastCodec d.val = false →
            Gives (.participantStopped d n) s fun t => (t.dom d.val).st = .entering off ∧ (∀ j, j ≠ d.val → t.dom j = s.dom j) ∧ { t with doms := s.doms } = s)) ∧
        ∀ code : Fin 16, refusesWith (domKind d.val) n code.val = true → Gives (.participantRefuse d n code) s (Refused s d.val n code.val)) ∧
      Gives (.stopTimeout d) s (Refused s d.val 0xFF 2)) ∧
    ((s.dom d.val).st = .entering false → Gives (.domainStateReached d) s fun t =>
      (t.dom d.val).st = .ret ∧ (∀ j, j ≠ d.val → t.dom j = s.dom j) ∧ (domKind d.val = .ch → (t.chan (chOf d.val)).st = .ret) ∧
      (∀ c, (domKind d.val ≠ .ch ∨ c ≠ chOf d.val) → t.chan c = s.chan c) ∧ { t with doms := s.doms, pmu := s.pmu, chans := s.chans } = s) ∧
    ((s.dom d.val).st = .entering true → Gives (.domainStateReached d) s fun t =>
      (t.dom d.val).st = .off ∧ (∀ j, j ≠ d.val → t.dom j = s.dom j) ∧
      (domKind d.val = .dir → t.dir.entries = s.dir.entries.filter fun e => dirSlice e.1 + 44 != d.val) ∧ (domKind d.val = .deep → t.cdc.buffer = []) ∧
      { t with doms := s.doms, pmu := s.pmu, chans := s.chans, dir := { t.dir with entries := s.dir.entries }, cdc := { t.cdc with buffer := s.cdc.buffer } } = s)

/-- Wakes of power domains and their failure (R360, R361, R366, R368, R370, R371). DOMAIN_WAKE of a domain that may wake, outside its stop phase, with
nothing latched and its checks passed, turns it ON, logs the source and lets what waited for it go on; so does SENTINEL_WAKE for PD_SNS while SNS_SENT
is 1. WAKE_DETECTOR_PERIOD notes the receiver, and latches a wake where one has appeared. A first WAKE_TIMEOUT of a latched wake has it tried again; a
second turns the domain OFF as failed, and for a near-cache or translation slice or PD_DEEP is a power fault that takes every link down. Stored memory
stays as it was. -/
def Obligations.PowerDomainWakes : Prop :=
  ∀ (s : State) (d : DomainId),
    (s.mayWake d.val = true → (∀ off, (s.dom d.val).st ≠ .stopping off) → (s.dom d.val).latch = [] → (s.dom d.val).stale = false →
      (∀ src, d.val ≠ 1 → Gives (.domainWake d src ⟨false, false, false, false⟩) s (Woken s d.val src)) ∧
      (∀ src, d.val = 1 → (s.dom 1).st = .ret → s.mgt.held = [] → s.mgt.heldSb = [] → Gives (.domainWake d src ⟨false, false, false, false⟩) s fun t =>
        t.domOn 1 = true ∧ t.f Reg.PWR_WAKE_LOG.SOURCE = srcCode src ∧ { t with csr := s.csr, pmu := s.pmu, doms := s.doms } = s) ∧
      (d.val = 2 → s.fb Reg.PWR_POLICY.SNS_SENT = true → Gives .sentinelWake s (Woken s 2 .sentinel))) ∧
    (∀ (p : Head) (present : Bool), s.mainRuns = true → d.val = 4 + p.val → (s.dom d.val).st = .ret → Gives (.wakeDetectorPeriod p present) s fun t =>
      t.port p = { s.port p with receiver := present } ∧ (∀ g, g ≠ p → t.port g = s.port g) ∧ (∀ j, j ≠ d.val → t.dom j = s.dom j) ∧
      (t.dom d.val).latch = (s.dom d.val).latch ++ (if present && !(s.port p).receiver && !((s.dom d.val).latch.any (·.1 == .detector)) then [(.detector, s.tb)] else []) ∧
      { t with ports := s.ports, doms := s.doms } = s) ∧
    (s.mayWake d.val = true → (s.dom d.val).latch ≠ [] → ∀ cause,
      (((s.dom d.val).st = .ret ∨ (s.dom d.val).st = .entering false) → exec (.wakeTimeout d cause) s = .next (s.updDom d.val fun x => { x with st := .waking false true })) ∧
      (((s.dom d.val).st = .off ∨ (s.dom d.val).st = .entering true) → exec (.wakeTimeout d cause) s = .next (s.updDom d.val fun x => { x with st := .waking true true })) ∧
      (∀ o, (s.dom d.val).st = .waking o true → domKind d.val ∈ [.nc, .xlt, .deep] → s.fb Reg.PWR_STATUS.PFAULT = false → Gives (.wakeTimeout d cause) s fun t =>
        (t.dom d.val).st = .off ∧ (t.dom d.val).failed = true ∧ t.fb Reg.PWR_STATUS.PFAULT = true ∧ t.fb Reg.PWR_STATUS.WAKE_FAIL = true ∧ (∀ h : Head, (t.port h).up = false) ∧ t.mem = s.mem ∧ t.bad = s.bad) ∧
      (∀ o, (s.dom d.val).st = .waking o true → domKind d.val = .mgt → Gives (.wakeTimeout d cause) s fun t =>
        (t.dom d.val).st = .off ∧ (t.dom d.val).failed = true ∧ t.fb Reg.PWR_STATUS.WAKE_FAIL = true ∧ t.f Reg.PWR_WAKE_FAIL.DOMAIN = d.val ∧ Noted { s with doms := t.doms } t))

/-- Rails that stay away, lost clocks, and memory ready (R102, R208, R305, R431, R461, R464). RAIL_NOT_GOOD_TIMEOUT writes a Pannier record and waits on.
XTAL_LOSS and XTAL_STARTED change the source of TB and never its count. DRAM_REFCLK_LOSS fails every channel in use. MEMORY_READY with the channels
settled and CRY operational generates slot 0 and the metadata key, leaves every other slot EMPTY, advertises memory and sets Memory_Active on every
head whose link is up. No stored byte changes. -/
def Obligations.RailsClocksAndMemoryReady : Prop :=
  ∀ s : State,
    (∀ r, s.aon.kick = true → s.hsw.pg = true → s.aon.rails = false → Gives (.railNotGoodTimeout r) s fun t =>
      t.pan.ring = s.pan.ring ∧ t.pan.pinned = s.pan.pinned ∧ { t with pan := s.pan, csr := s.csr, pmu := s.pmu } = s) ∧
    (s.aon.kick = true → exec .xtalStarted s = .next { s with aon := { s.aon with xtal := true } }) ∧
    (s.aon.kick = true → s.aon.xtal = true → Gives .xtalLoss s fun t => t.aon.xtal = false ∧ Noted { s with aon := { s.aon with xtal := false } } t) ∧
    (s.mainRuns = true → Gives .dramRefclkLoss s fun t => (∀ c ∈ s.cap.chans, (t.chan c).st = .failed) ∧ (∀ c, c ∉ s.cap.chans → t.chan c = s.chan c) ∧ DataKept s t) ∧
    (s.mainRuns = true → s.aon.boot = .trained → s.cry.st = .operational → (∀ c ∈ s.cap.chans, s.chanSettled c = true) → Gives .memoryReady s fun t =>
      t.aon.boot = .ready ∧ t.fb Reg.XLT_STATUS.READY = true ∧ (t.keySlot 0).st = .active ∧ (t.keySlot 0).imported = false ∧ (∀ k, k ≠ 0 → t.keySlot k = KeySlot.empty) ∧
      t.cry.metaKey.isSome = true ∧ t.cap.usable = 4096 * firmUnitsOf s.lean s.cap.rawMib s.cap.dirMib s.w ∧
      (∀ h ∈ s.heads, (s.port h).up = true → (t.port h).memActive = true) ∧ (∀ h, (s.port h).up = false → t.port h = s.port h) ∧ DataKept s t)

/-- Training of the channels (R102, R234, R237, R238, R281, R282). CHANNEL_TRAINING after the ready point: with no DIMM that the reference configuration
could name, memory never becomes ready; where every channel of the largest set trains and has an engine, that set is in use, each channel of it is
being trained with fresh ranks, and the raw capacity is that of its DIMMs. CHANNEL_TRAINED puts a channel of the set into service and its domain ON;
one that returns begins resynchronization. No stored byte changes. -/
def Obligations.ChannelTraining : Prop :=
  ∀ s : State,
    (∀ pops : List ChanPop, s.aon.boot = .firmware → s.aon.inReset = false → pops.length = 16 →
      (refConf pops = none → Gives (.channelTraining pops) s fun t => t.aon.boot = .noMemory ∧ t.cap = s.cap ∧ t.chans = s.chans ∧ DataKept s t) ∧
      (∀ r cs, refConf pops = some r → chanSet (fun c => (pops[c.val]?).any (popPopulated · r)) = some cs → (∀ c ∈ cs, (pops[c.val]?).any popFails = false ∧ s.hasEngine c.val = true) →
        Gives (.channelTraining pops) s fun t => t.aon.boot = .trained ∧ t.cap.chans = cs ∧ t.cap.rawMib = cs.length * r.dimms * r.sizeGib * 1024 ∧ t.cap.rankSets = r.rankSets ∧
          (∀ c ∈ cs, (t.chan c).retraining = true ∧ (t.chan c).ranks = freshRanks r.rankSets) ∧ DataKept s t)) ∧
    (∀ c : Chan, (s.chan c).retraining = true → c ∈ s.cap.chans → Gives (.channelTrained c) s fun t =>
      (t.chan c).st = .active ∧ (t.chan c).trained = true ∧ (t.chan c).retraining = false ∧ (t.chan c).ranks = freshRanks s.cap.rankSets ∧
      (t.chan c).resync = ((s.chan c).st == .failed) ∧ t.domOn (12 + c.val) = true ∧ t.fbit Reg.DRC_GLB_STATUS.FAILED c.val = false ∧
      ((s.chan c).st = .failed → t.fbit Reg.TRM_RESYNC.RESYNC c.val = true) ∧ (∀ d, d ≠ c → t.chan d = s.chan d) ∧ { t with chans := s.chans, doms := s.doms, csr := s.csr } = s)

/-- Refresh, periodic retraining and rank states (R242, R243, R246, R248, R249, R250). On a channel that runs: REFRESH of an awake rank is postponed while
commands wait and fewer than four are, and otherwise issues them all; a calibration, a DQS readout beyond one delay step and a DQ re-centring mark
retraining as due on a sleeping rank and leave an awake one as it is; POWER_DOWN_ENTRY, SELF_REFRESH_ENTRY and PARKED_ENTRY move a rank to its state;
QUIET_ENTRY with every rank asleep makes the channel QUIET; RANK_WAKE makes the rank ACTIVE and the channel with it. No other rank or channel changes. -/
def Obligations.ChannelUpkeep : Prop :=
  ∀ (s : State) (c : Chan) (r : RankSet) (x : Rank), s.chanRuns c = true → s.rank c r = some x →
    (x.asleep = false → ∀ wait : Bool,
      (wait = true → x.postponed < 4 → Gives (.refresh c r wait) s (RankIs s c r { x with postponed := x.postponed + 1 })) ∧
      ((wait = false ∨ 4 ≤ x.postponed) → Gives (.refresh c r wait) s fun t => t.rank c r = some { x with postponed := 0 } ∧ (∀ j, j ≠ r → t.rank c j = s.rank c j) ∧
        (t.chan c).retry.getLast? = some (s.now, true, .refresh r) ∧ { t.chan c with ranks := (s.chan c).ranks, retry := (s.chan c).retry } = s.chan c ∧
        (∀ d, d ≠ c → t.chan d = s.chan d) ∧ { t with chans := s.chans, pmu := s.pmu } = s)) ∧
    (∀ slot : Fin 2, Gives (.zqCalibration c slot) s fun t => { t with chans := s.chans } = s ∧ (∀ d, d ≠ c → t.chan d = s.chan d) ∧
      t.rank c r = some (if r ∈ s.slotRanks slot.val ∧ x.asleep = true then { x with retrainDue := true } else x)) ∧
    (∀ drift, (1 < drift ∨ x.asleep = true) → Gives (.dqsOscillatorReadout c r drift) s (RankIs s c r (if x.asleep then { x with retrainDue := true } else x))) ∧
    (∀ subB : Bool, (if subB then (s.chan c).pauseB else (s.chan c).pauseA) = false →
      ∀ i ∈ [Instr.readDqRecentre c r subB, .writeDqRecentre c r subB], Gives i s (RankIs s c r (if x.asleep then { x with retrainDue := true } else x))) ∧
    (s.f (Reg.DRCn_PWR_CFG.PD_IDLE.nth c.val) ≠ 0 → x.st = .active → Gives (.powerDownEntry c r) s (RankIs s c r { x with st := .powerDown })) ∧
    (s.drl.released.getLsbD r.val = false → x.asleep = false → Gives (.selfRefreshEntry c r) s (RankIs s c r { x with st := .selfRefresh })) ∧
    (s.drl.released.getLsbD r.val = true → Gives (.parkedEntry c r) s (RankIs s c r { x with st := .parked })) ∧
    ((s.chan c).st = .active → s.f (Reg.DRCn_PWR_CFG.QUIET_IDLE.nth c.val) ≠ 0 → (∀ q ∈ (s.chan c).ranks, q.2.asleep = true) →
      exec (.quietEntry c) s = .next (s.updChan c fun x => { x with st := .quiet })) ∧
    ((s.chan c).st = .active → Gives (.rankWake c r) s (RankIs s c r { x with st := .active, retrainDue := false })) ∧
    ((s.chan c).st = .quiet → Gives (.rankWake c r) s fun t => t.rank c r = some { x with st := .active, retrainDue := false } ∧ (t.chan c).st = .active ∧
      (∀ d, d ≠ c → t.chan d = s.chan d) ∧ { t with chans := s.chans } = s) ∧
    ((s.chan c).st = .ret → exec (.rankWake c r) s = .next (s.latchWake (12 + c.val) .hostRequest))

/-- Alerts, repairs, failures and returns of a channel (R247, R252, R253, R255, R256, R257, R266, R280, R281, R282). On a channel that runs: an ALERT_N
that is not the third in 1 ms notes the alert; the third starts re-centring; ALERT_N_DEASSERT ends both and issues again what the retry buffer holds
for the subchannel; with the buffer lost it fails the channel. ECS_READOUT of a row with 4 errors or more offers it for repair; SOFT_PPR repairs the
oldest candidate and lists it, or marks its device with no resource left. CHANNEL_NO_DATA_TIMEOUT, and CHANNEL_B3_TIMEOUT in guarded mode, fail the
channel; in lean mode the latter is an event record alone. CHANNEL_RETURN of a channel whose cause has cleared begins its retraining, and
RESYNCHRONIZATION_DONE re-admits it. No stored byte changes. -/
def Obligations.ChannelErrors : Prop :=
  ∀ (s : State) (c : Chan),
    (∀ subB lost : Bool, let was := if subB then (s.chan c).alertB else (s.chan c).alertA
      (was = false ∨ lost = false → Gives (.alertNDeassert c subB lost) s fun t => (if subB then (t.chan c).alertB || (t.chan c).pauseB else (t.chan c).alertA || (t.chan c).pauseA) = false ∧
        (if subB then (t.chan c).alertA = (s.chan c).alertA ∧ (t.chan c).pauseA = (s.chan c).pauseA else (t.chan c).alertB = (s.chan c).alertB ∧ (t.chan c).pauseB = (s.chan c).pauseB) ∧
        (t.chan c).retry = (if was then (s.chan c).retry.filter (fun e => e.2.1 != subB) ++ ((s.chan c).retry.filter fun e => e.2.1 == subB).map (fun e => (s.now, e.2)) else (s.chan c).retry) ∧
        { t.chan c with retry := (s.chan c).retry, alertA := (s.chan c).alertA, alertB := (s.chan c).alertB, pauseA := (s.chan c).pauseA, pauseB := (s.chan c).pauseB } = s.chan c ∧
        (∀ d, d ≠ c → t.chan d = s.chan d) ∧ { t with chans := s.chans, pmu := s.pmu } = s) ∧
      (was = true → lost = true → s.chanRuns c = true → Gives (.alertNDeassert c subB lost) s (ChanFailed s c))) ∧
    ((s.chan c).resync = true → (∀ q ∈ s.positionsInUse, q < (s.chan c).cursor) → Gives (.resynchronizationDone c) s fun t => (t.chan c).resync = false ∧ t.fbit Reg.TRM_RESYNC.RESYNC c.val = false ∧
      (∀ d, d ≠ c → t.chan d = s.chan d) ∧ Noted { s with chans := t.chans } t) ∧
    (s.mayReturn c = true → Gives (.channelReturn c) s fun t => (t.chan c).retraining = true ∧ (t.chan c).st = .failed ∧ (∀ d, d ≠ c → t.chan d = s.chan d) ∧ { t with chans := s.chans, csr := s.csr } = s) ∧
    (s.chanRuns c = true →
      Gives (.channelNoDataTimeout c) s (ChanFailed s c) ∧
      ((s.chan c).band = 3 → s.lean = false → Gives (.channelB3Timeout c) s (ChanFailed s c)) ∧
      ((s.chan c).band = 3 → s.lean = true → Gives (.channelB3Timeout c) s fun t => t.events.length = s.events.length + s.heads.length ∧ Noted s t) ∧
      (∀ (subB : Bool), let recent := ((s.chan c).alerts.filter fun t => decide (s.now < t + 1000000)) ++ [s.now]
        (recent.length < 3 → Gives (.alertN c subB) s fun t => t.chan c = { s.chan c with
            alerts := recent, alertA := (s.chan c).alertA || !subB, alertB := (s.chan c).alertB || subB
            retry := (s.chan c).retry.filter fun e => (if e.2.1 then (s.chan c).alertB else (s.chan c).alertA) || decide (s.now < e.1 + (s.chan c).retryNs) } ∧
          t.fb (Reg.DRCn_ERR.CA_PAR.nth c.val) = true ∧ (∀ d, d ≠ c → t.chan d = s.chan d) ∧ { t with chans := s.chans, csr := s.csr, pmu := s.pmu } = s) ∧
        (3 ≤ recent.length → (∀ t ∈ (s.chan c).recentred, t + 1000000 ≤ s.now) → Gives (.alertN c subB) s fun t => (t.chan c).alerts = [] ∧ (t.chan c).recentred = some s.now ∧
          (if subB then (t.chan c).pauseB else (t.chan c).pauseA) = true ∧ (∀ d, d ≠ c → t.chan d = s.chan d) ∧ { t with chans := s.chans, csr := s.csr, pmu := s.pmu } = s) ∧
        (3 ≤ recent.length → (∃ t ∈ (s.chan c).recentred, s.now < t + 1000000) → Gives (.alertN c subB) s fun t => ChanFailed s c t ∧ t.fb (Reg.DRCn_ERR.REPLAY_FAIL.nth c.val) = true)) ∧
      (∀ (d : DevRow) (n : Nat), s.fb Reg.DRC_GLB_CFG.ECS_EN = true → 4 ≤ n → Gives (.ecsReadout c d n) s fun t =>
        (∃ q ∈ (t.chan c).cands, q.1 = d) ∧ { t.chan c with cands := (s.chan c).cands } = s.chan c ∧ (∀ j, j ≠ c → t.chan j = s.chan j) ∧ { t with chans := s.chans } = s) ∧
      (∀ d t0 rest, (s.chan c).cands = (d, t0) :: rest → s.fb Reg.DRC_GLB_CFG.PPR_SOFT_EN = true →
        (if d.subB then (s.chan c).alertB || (s.chan c).pauseB else (s.chan c).alertA || (s.chan c).pauseA) = false → (∀ x, s.rank c d.rank = some x → x.asleep = false) →
        (s.pprFree c d = true → Gives (.softPpr c true) s fun t => t.repairs = (if s.repairs.length < 1024 then s.repairs ++ [⟨c, s.dimmSerial c d.rank, d, false⟩] else s.repairs) ∧ t.chan c = { s.chan c with cands := rest } ∧
          t.fb (Reg.DRCn_ERR.PPR_DONE.nth c.val) = true ∧ (∀ j, j ≠ c → t.chan j = s.chan j) ∧ { t with chans := s.chans, repairs := s.repairs, csr := s.csr, pmu := s.pmu } = s) ∧
        (s.rankMarked c d = false → ∀ b, b && s.pprFree c d = false → Gives (.softPpr c b) s fun t => (t.chan c).marks = (s.chan c).marks ++ [(d.rank, d.subB, d.dev)] ∧ (t.chan c).cands = rest ∧
          t.fb (Reg.DRCn_ERR.PPR_EXHAUST.nth c.val) = true ∧ (∀ j, j ≠ c → t.chan j = s.chan j) ∧ DataKept s t)))

/-- The Trimmer, heat and the cold sweep change no stored byte (R94, R149, R151, R152, R285, R286, R287, R289). TRIMMER_READ of a line that the walk may
read, with an item paid for, moves the walk to its position and records its finding: a line that the outer code cannot correct and nothing else
recovers enters the lost-line table while it has room, differing mirrors are noted as mended; whatever it finds, no data changes. TRIMMER_LAP_END
begins a new lap. HEAT_EVENT raises the HEAT of a cached page by one, up to 255; HEAT_EPOCH halves cached HEAT; COLD_SWEEP_VISIT moves on by one
record; SWEEP_LAP_END begins the next lap with nothing seen, and frees only runs that were not seen and that no copy is to fill. No stored byte
changes. -/
def Obligations.TrimmerAndSweep : Prop :=
  ∀ s : State,
    (∀ (sa : BitVec 44) (c : Chan) (found : TrimFinding), let a := sa.toNat / 64 * 64
      s.fb Reg.XLT_STATUS.READY = true → s.cry.st ≠ .error → s.trm.walks = [] → s.mayTrim a c = true → s.trm.credit ≠ 0 → (∀ d ∈ s.cdc.dicts, d.2.lost = false) → Gives (.trimmerRead sa c found) s fun t =>
        t.trm.pos = (s.saPos a).pos ∧ t.trm.credit = s.trm.credit - 1 ∧ DataKept s t ∧ t.cap = s.cap ∧
        (∀ b rec, found = .errors b rec → s.outerCode c b = none → (rec = false ∨ s.lean = true) → s.trm.lost.length < 1024 → a ∈ t.trm.lost) ∧
        ((∀ b rec, found = .errors b rec → (s.outerCode c b).isSome = true ∨ (rec = true ∧ s.lean = false)) → t.trm.lost = s.trm.lost) ∧
        (∀ b, found = .mirrorsDiffer b → s.saMirrored a = true → t.fb Reg.TRM_EVENTS.MIRROR_FIX = true) ∧
        (found = .parityWrong → s.lean = false → s.saMirrored a = false → t.fb Reg.TRM_EVENTS.PARITY_FIX = true)) ∧
    (s.fb Reg.XLT_STATUS.READY = true → s.fb Reg.TRM_CFG.TRM_EN = true → (∀ q ∈ s.positionsInUse, q ≤ s.trm.pos) → Gives .trimmerLapEnd s fun t =>
      t.trm = { s.trm with pos := 0, credit := 0, lapStart := s.now, slow := false, poisonSeen := 0 } ∧ t.f Reg.TRM_STATUS.PROGRESS = 0 ∧
      t.f Reg.TRM_STATUS.LAST_LAP_H = min 0xFFFF ((s.now - s.trm.lapStart) / 3600000000000) ∧ Noted { s with trm := t.trm } t) ∧
    (∀ l q, s.nc.heatQ = l :: q → Gives .heatEvent s fun t => t.nc = { s.nc with heatQ := q } ∧ { t with nc := s.nc, xlt := s.xlt, drl := s.drl, csr := s.csr, pmu := s.pmu } = s ∧
      ((s.extRec (extOf l)).mode = .mapped → s.pageCached (pageKey l) = true → t.pageRec (pageKey l) = { s.pageRec (pageKey l) with heat := min 255 ((s.pageRec (pageKey l)).heat + 1) }) ∧
      (∀ p, p ≠ pageKey l → t.pageRec p = s.pageRec p) ∧ ∀ e, { t.extRec e with heat := (s.extRec e).heat } = s.extRec e) ∧
    (Gives .heatEpoch s fun t => t.drl.epoch = s.drl.epoch + 1 ∧ { t with xlt := s.xlt, drl := s.drl, csr := s.csr, pmu := s.pmu } = s ∧
      ((s.xlt.extCache.map (·.1)).Nodup → ∀ x ∈ s.xlt.extCache, t.extRec x.1 = { s.extRec x.1 with heat := (s.extRec x.1).heat / 2 }) ∧
      ∀ e, { t.extRec e with heat := (s.extRec e).heat } = s.extRec e) ∧
    (∀ u, s.drl.sweepExt < s.extents → s.cry.st ≠ .error → s.sweepPaid = some u →
      ((s.extView s.drl.sweepExt).1 ≠ .mapped → ∀ i, s.drl.sweepPage = some i → i ≠ 511 → exec .coldSweepVisit s = .next { u with drl := { u.drl with sweepPage := some (i + 1) } }) ∧
      ((s.extView s.drl.sweepExt).1 ≠ .mapped → s.drl.sweepPage = some 511 → exec .coldSweepVisit s = .next { u with drl := { u.drl with sweepExt := s.drl.sweepExt + 1, sweepPage := none } }) ∧
      ((s.extRec s.drl.sweepExt).mode = .untouched → s.drl.sweepPage = none → Gives .coldSweepVisit s fun t => t.drl = { u.drl with sweepExt := s.drl.sweepExt + 1 } ∧
        t.xlt.visitExt.get 0 s.drl.sweepExt = s.drl.epoch ∧ { t with drl := u.drl, xlt := { t.xlt with visitExt := u.xlt.visitExt } } = u) ∧
      ((s.extRec s.drl.sweepExt).mode = .mapped → s.drl.sweepPage = none → Gives .coldSweepVisit s fun t => t.drl.sweepPage = some 0 ∧ t.drl.sweepExt = s.drl.sweepExt ∧
        t.mem = s.mem ∧ t.bad = s.bad ∧ t.nc = s.nc ∧ t.rtk = s.rtk)) ∧
    (s.extents ≤ s.drl.sweepExt → Gives .sweepLapEnd s fun t => t.drl.sweepExt = 0 ∧ t.drl.sweepPage = none ∧ t.drl.lapStart = s.now ∧ DataKept s t ∧
      (∀ x ∈ t.cap.runs, x.2.seen = false) ∧
      ∀ n r, s.cap.runs.look n = some r → (r.seen = true ∨ n ∈ s.drl.copies.map (·.dst) ∨ (∃ c ∈ s.drl.extCopies, n = c.dst * 16 ∨ ∃ q ∈ c.recs, n = q.2.loc)) → (∀ x ∈ s.cap.runs, x.1 = n → x.2 = r) →
        t.cap.runs.look n = some { r with seen := false })

/-- Pressure levels, offers, release targets and breach (R107, R108, R111, R112, R113, R114, R122). PRESSURE_MEASURE with memory ready: the level rises at
once to what the free frames call for; it falls by one at the tenth measure in a row above its bound; otherwise the measures are counted or the count
starts again. ELASTIC_OFFER at GREEN offers one extent to the head with the least elastic capacity; OFFER_LAPSE takes a pending offer back;
RELEASE_TARGET at RED or worse sets each accepting head's share, never below an unmet target of the running period; BREACH marks a head whose target
is unmet. No stored byte changes. -/
def Obligations.PressureContract : Prop :=
  ∀ s : State,
    (s.fb Reg.XLT_STATUS.READY = true →
      (s.level < s.rawLevel → Gives .pressureMeasure s fun t => t.level = s.rawLevel ∧ t.cap.fall = 0 ∧ DataKept s t) ∧
      (s.rawLevel ≤ s.level → s.level ≠ 0 → s.aboveTop s.level = true → 9 ≤ s.cap.fall → Gives .pressureMeasure s fun t => t.level = s.level - 1 ∧ t.cap.fall = 0 ∧ DataKept s t) ∧
      (s.rawLevel ≤ s.level → s.level ≠ 0 → s.aboveTop s.level = true → s.cap.fall < 9 → Gives .pressureMeasure s fun t =>
        t.level = s.level ∧ t.cap = { s.cap with fall := s.cap.fall + 1 } ∧ { t with cap := s.cap, csr := s.csr } = s) ∧
      (s.rawLevel ≤ s.level → s.level ≠ 0 → s.aboveTop s.level = false → Gives .pressureMeasure s fun t =>
        t.level = s.level ∧ t.cap = { s.cap with fall := 0 } ∧ { t with cap := s.cap, csr := s.csr } = s)) ∧
    (∀ h o, (s.port h).offer = some o → Gives (.offerLapse h) s fun t => t.port h = { s.port h with offer := none } ∧ (∀ g, g ≠ h → t.port g = s.port g) ∧ { t with ports := s.ports, pmu := s.pmu } = s) ∧
    (∀ h e d b size, s.fb Reg.XLT_STATUS.READY = true → s.level = 0 → s.fb Reg.XLT_CAP_CFG.ELASTIC_EN = true → leastHead s.elasticHeld (s.heads.filter s.offerTo) = some h →
      size = min (s.offerable / (s.heads.filter s.accepting).length) ((s.port h).elasticMax - s.elasticHeld h / 32768) → size ≠ 0 → s.freeEntry h = some e →
      lowestFit s.dpaTaken (size * 32768) s.extents = some d → lowestFit (s.hdpaTaken h) (size * 32768) (2 ^ 25) = some b → Gives .elasticOffer s fun t =>
        (t.port h).offer = some ⟨e, b, d, size * 32768, s.now⟩ ∧ (∀ g, g ≠ h → t.port g = s.port g) ∧ t.csr = s.csr ∧ s.events.length < t.events.length ∧ DataKept s t ∧ t.cap = s.cap) ∧
    (2 ≤ s.level → Gives .releaseTarget s fun t => (∀ h ∈ s.heads, (s.port h).accepted = true →
        (t.port h).target = (if (s.port h).targetMet = false ∧ s.now < (s.port h).targetAt + 10000000000 then max (s.port h).target (s.releaseShare h) else s.releaseShare h)) ∧
      (∀ h, (s.port h).accepted = false → t.port h = s.port h) ∧ DataKept s t ∧ t.cap = s.cap ∧ t.csr = s.csr) ∧
    (∀ h, (s.port h).targetMet = false → s.fbit Reg.XLT_CAP_STATUS.BREACH_HEADS h.val = false → Gives (.breach h) s fun t => t.fbit Reg.XLT_CAP_STATUS.BREACH_HEADS h.val = true ∧ Noted s t)

/-- Dictionary training, admission and reload (R140, R141, R144, R145, R349). TRAINING_ROUND with training enabled, no hold, no round and Clandahar
running begins sampling the named pages. CANDIDATE_BUILT of a candidate that gains enough, with a slot FREE and no abort, makes the first FREE slot
ACTIVE with the key, size and signature and ends the round; one that does not is discarded; CANDIDATE_WAIT_TIMEOUT discards a waiting one.
DICT_RELOAD_DONE with a good copy and nothing waiting ends the reload; with both copies bad the slot is lost and RETIRING, or FREE where no record
names it. No stored byte changes. -/
def Obligations.DictionaryTraining : Prop :=
  ∀ s : State,
    (∀ k ps cmd, s.fb Reg.CDC_CFG.TRAIN_EN = true → s.cdc.hold = false → s.cdc.train.st = .idle → s.mgt.st = .running → s.roundSample = some (k, ps, cmd) →
      exec .trainingRound s = .next { s with cdc := { s.cdc with asked := none, train := ⟨.sampling, k, ps, 0, 0, s.now, cmd⟩ } }) ∧
    (∀ (g : BitVec 64) (size : Fin 32769) (cand best plain : Nat), (s.cdc.train.st = .sampling ∨ s.cdc.train.st = .building) → s.mgt.st = .running →
      (s.candidateGood cand best plain = true → s.cdc.train.cmd.any s.aborted = false → ∀ i, (List.range 15).find? (fun i => (s.dict (i + 1)).state == .free) = some i →
        Gives (.candidateBuilt g size cand best plain) s fun t => t.dict (i + 1) = ⟨.active, s.cdc.train.key, size.val, g, 0, false, false⟩ ∧ (∀ j, j ≠ i + 1 → t.dict j = s.dict j) ∧
          t.cdc.train.st = .idle ∧ { t with cdc := s.cdc, pmu := s.pmu, cmd := { t.cmd with cmds := s.cmd.cmds } } = s) ∧
      (s.candidateGood cand best plain = false → Gives (.candidateBuilt g size cand best plain) s fun t => t.cdc.dicts = s.cdc.dicts ∧ t.cdc.train.st = .idle ∧
          { t with cdc := s.cdc, pmu := s.pmu, cmd := { t.cmd with cmds := s.cmd.cmds } } = s)) ∧
    (s.cdc.train.st = .waiting → Gives .candidateWaitTimeout s fun t => t.cdc.dicts = s.cdc.dicts ∧ t.cdc.train.st = .idle ∧
      { t with cdc := s.cdc, pmu := s.pmu, cmd := { t.cmd with cmds := s.cmd.cmds } } = s) ∧
    (∀ d : DictId, (s.dict d.val).reloading = true → (∀ r ∈ s.rtk, r.phase ≠ .dict d.val) → (∀ f ∈ s.nc.fills, f.value ≠ none) →
      (Gives (.dictReloadDone d false) s fun t => t.dict d.val = { s.dict d.val with reloading := false } ∧ (∀ j, j ≠ d.val → t.dict j = s.dict j) ∧ { t with cdc := s.cdc } = s) ∧
      ((s.dict d.val).refs ≠ 0 → Gives (.dictReloadDone d true) s fun t => t.dict d.val = { s.dict d.val with reloading := false, lost := true, state := .retiring } ∧
        (∀ j, j ≠ d.val → t.dict j = s.dict j) ∧ Noted { s with cdc := t.cdc } t) ∧
      ((s.dict d.val).refs = 0 → s.cdc.train.st ≠ .waiting → Gives (.dictReloadDone d true) s fun t => t.dict d.val = Dict.free ∧ (∀ j, j ≠ d.val → t.dict j = s.dict j) ∧ Noted { s with cdc := t.cdc } t))

/-- Page copies, extent copies and stripes (R160, R161, R162, R166). PAGE_COPY_END of a copy whose page has been committed anew is discarded and the
record stays; one whose page was written meanwhile is recopied, in at most three repeats; one to OPEN whose page is unchanged commits the page OPEN at
its destination. HELD_ATTEMPT_TIMEOUT abandons a held attempt, gives a BUSY page its record back and leaves the page alone for the lap.
EXTENT_COPY_ROUND_END with no page left to pay: no marked page commits a promotion as DIRECT at its destination; marked pages are recopied in up to
three rounds, then the extent is held for 8 or fewer, else the record gets its source back. STRIPE_CLOSE_TIMEOUT writes an open stripe. -/
def Obligations.CopiesAndStripes : Prop :=
  ∀ s : State, s.cry.st ≠ .error →
    (∀ (id : Nat) (c : PageCopy) (run : CodecRun), s.drl.copies.find? (·.id == id) = some c → (∀ t ∈ s.drl.stripes, t.id ∈ c.stripes → t.written = true) → c.share = false → s.copyMeets c.page run = some s →
      ((s.effRec c.page).gen ≠ c.gen → (s.pageRec c.page).state ≠ .busy → Gives (.pageCopyEnd id run false) s fun t => (∀ x ∈ t.drl.copies, x.id ≠ c.id) ∧ DataKept s t) ∧
      ((s.effRec c.page).gen = c.gen → (s.extRec (c.page / 512)).mode = .mapped → (s.pageRec c.page).state ≠ .busy → (s.pageRec c.page).dsc = true → c.repeats < 3 → Gives (.pageCopyEnd id run false) s fun t =>
        t.pageRec c.page = { s.pageRec c.page with dsc := false } ∧ (∀ p, p ≠ c.page → t.pageRec p = s.pageRec p) ∧ (t.drl.copies.find? (·.id == id)).map (·.repeats) = some (c.repeats + 1) ∧
        { t with drl := s.drl, xlt := { t.xlt with page := s.xlt.page }, pmu := s.pmu, chans := s.chans, doms := s.doms } = s) ∧
      ((s.effRec c.page).gen = c.gen → (s.extRec (c.page / 512)).mode = .mapped → (s.pageRec c.page).dsc = false → c.kind = .toOpen → c.dstLen = 8 → s.ownSlot c = true → s.roomFor true = true →
        Gives (.pageCopyEnd id run false) s fun t => t.pageRec c.page = { PageRec.zero with
            state := .open, loc := c.dst, pin := (s.effRec c.page).pin, heat := (s.pageRec c.page).heat, gen := (t.pageRec c.page).gen } ∧
          (∀ p, p ≠ c.page → t.pageRec p = s.pageRec p) ∧ (∀ x ∈ t.drl.copies, x.id ≠ c.id) ∧ t.xlt.ext = s.xlt.ext ∧ t.nc = s.nc ∧ t.dir = s.dir ∧ t.rtk = s.rtk)) ∧
    (∀ (id : Nat) (c : PageCopy), s.drl.copies.find? (·.id == id) = some c → c.share = false → c.held.isSome = true → Gives (.heldAttemptTimeout id) s fun t =>
      (∀ x ∈ t.drl.copies, x.id ≠ c.id) ∧ c.page ∈ t.drl.leave ∧ t.fb Reg.DRL_STATUS.ABANDON = true ∧
      t.pageRec c.page = (if (s.pageRec c.page).state = .busy then { s.xlt.shadow.get PageRec.zero c.page with heat := (s.pageRec c.page).heat, dsc := (s.pageRec c.page).dsc } else s.pageRec c.page) ∧
      (∀ p, p ≠ c.page → t.pageRec p = s.pageRec p) ∧ t.xlt.ext = s.xlt.ext ∧ t.mem = s.mem ∧ t.bad = s.bad ∧ t.nc = s.nc ∧ t.dir = s.dir ∧ t.rtk = s.rtk) ∧
    (∀ (e : BitVec 25) (c : ExtCopy) (page : Fin 512) (run : CodecRun), s.drl.extCopies.find? (·.ext == e.toNat) = some c → c.left = 0 → c.cmd = none → s.roundMeets c page.val run = some s →
      (c.mask = 0 → c.kind = .promote → c.srcMode = .mapped → s.recsWritten c = true → (s.extRec e.toNat).pin ≠ 2 → Gives (.extentCopyRoundEnd e page run false) s fun t =>
        (t.extRec e.toNat).mode = .direct ∧ (t.extRec e.toNat).loc = c.dst ∧ (∀ j, j ≠ e.toNat → t.extRec j = s.extRec j) ∧ (∀ x ∈ t.drl.extCopies, x.ext ≠ e.toNat) ∧ t.nc = s.nc ∧ t.rtk = s.rtk) ∧
      (c.mask ≠ 0 → c.rounds < 3 → c.kind.mapsTo c.srcMode = false → Gives (.extentCopyRoundEnd e page run false) s fun t =>
        (t.drl.extCopies.find? (·.ext == e.toNat)).map (fun x => (x.mask, x.rounds, x.left)) = some (0, c.rounds + 1, markedPages c.mask) ∧ { t with drl := s.drl, pmu := s.pmu, chans := s.chans, doms := s.doms } = s) ∧
      (c.mask ≠ 0 → 3 ≤ c.rounds → markedPages c.mask ≤ 8 → c.kind.mapsTo c.srcMode = false → Gives (.extentCopyRoundEnd e page run false) s fun t =>
        (t.drl.extCopies.find? (·.ext == e.toNat)).map (fun x => (x.mask, x.paused)) = some (0, some s.now) ∧ { t with drl := s.drl, pmu := s.pmu, chans := s.chans, doms := s.doms } = s) ∧
      (c.mask ≠ 0 → 3 ≤ c.rounds → 8 < markedPages c.mask → Gives (.extentCopyRoundEnd e page run false) s fun t =>
        t.extRec e.toNat = { s.extRec e.toNat with mode := c.srcMode, loc := c.srcLoc } ∧ (∀ j, j ≠ e.toNat → t.extRec j = s.extRec j) ∧ (∀ x ∈ t.drl.extCopies, x.ext ≠ e.toNat) ∧
        t.fb Reg.DRL_STATUS.ABANDON = true ∧ t.mem = s.mem ∧ t.bad = s.bad ∧ t.nc = s.nc)) ∧
    (∀ (id : Nat) (x : Stripe), s.drl.stripes.find? (·.id == id) = some x → x.written = false → Gives (.stripeCloseTimeout id) s fun t =>
      (∀ y ∈ t.drl.stripes, y.pos = x.pos → y.written = true) ∧ t.cap.runs = s.cap.runs ∧ { t with drl := s.drl, cap := s.cap } = s)

/-- Fills, write-backs and what they let go on (R43, R76, R79, R93, R97, R98, R99, R117, R118, R274, R277). FILL_DATA_ARRIVAL with good data and no
request on the line: the bytes the line did not hold are the data's, the line is whole, and no stored byte changes. WRITE_BACK of a line of a DIRECT
extent: every byte of memory outside the line's enabled bytes is as before, and those are the line's; a write-back whose translation slice sleeps
waits in its buffer. WRITE_BACK_DONE frees the buffer line. STRIPE_GUARD_RESUME with its guard clear takes the held write-back of the line;
POOL_HOLD_TIMEOUT answers the held write; POOL_LINE_WRITE_BACK writes the next pool line back. MAP_READ_RETURN of a good record with nothing waiting
fills its cache and changes no record; BITMAP_REBUILD_DONE sets each bit exactly when its record is not UNTOUCHED. -/
def Obligations.FillsAndWriteBacks : Prop :=
  ∀ (s : State) (line : BitVec 40), let l := line.toNat
    (∀ v second host since n, s.nc.fills.find? (fun f => f.line == l) = some ⟨l, some v, false, [], second, host, since⟩ → s.cry.st ≠ .error → s.nc.lines.look l = some n → s.lostHere l = false →
      s.redirected ((s.copyChan l second).getD 0) = false → (s.storageRec (pageKey l)).state ≠ .deep → (∀ r ∈ s.rtk, r.line ≠ l) → Gives (.fillDataArrival line .good) s fun t =>
        t.nc.lines.look l = some (n.filled v) ∧ (∀ k, k ≠ l → t.nc.lines.look k = s.nc.lines.look k) ∧ t.nc.fills = dropFirst (fun g => g.line == l) s.nc.fills ∧ t.nc.wbb = s.nc.wbb ∧
        { t with nc := s.nc, pmu := s.pmu } = s) ∧
    (∀ w run, s.nc.wbb.find? (fun w => w.line == l && !w.issued) = some w → s.cry.st ≠ .error →
      (s.wbHeld w run.bad = false → s.domOn (48 + (Config.xltSlice (extOf l)).val) = true → s.granulesBusy l = false → s.resyncBusy l = false → s.lineLost l = false →
        s.xlt.rebuilds.contains (extOf l / 64) = false → s.xlt.extCache.has (extOf l) = true → (s.extRec (extOf l)).mode = .direct → s.xlt.zeroing.has (pageKey l) = false →
        Gives (.writeBack line run) s fun t =>
          (∀ a, Memory.read t.mem a = if a / 64 = l ∧ w.mask.getLsbD (a % 64) = true then lineByte w.data (a % 64) else Memory.read s.mem a) ∧
          t.isBad l = (w.poison || (s.isBad l && w.mask != fullMask)) ∧ (∀ k, k ≠ l → t.isBad k = s.isBad k) ∧ (∃ x ∈ t.nc.wbb, x.line = l ∧ x.issued = true) ∧
          t.nc.lines = s.nc.lines ∧ t.rtk = s.rtk ∧ t.dir = s.dir ∧ t.xlt.ext = s.xlt.ext ∧ t.xlt.page = s.xlt.page) ∧
      (s.domOn (48 + (Config.xltSlice (extOf l)).val) = false → Gives (.writeBack line run) s fun t =>
        t.nc.wbb = updWbb l (fun w => { w with held := true }) s.nc.wbb ∧ { t with nc := { t.nc with wbb := s.nc.wbb } } = s)) ∧
    (Gives (.writeBackDone line) s fun t => t.nc = { s.nc with wbb := dropFirst (fun w => w.line == l && w.issued) s.nc.wbb } ∧
      (∀ c, { t.chan c with drain := (s.chan c).drain } = s.chan c) ∧ { t with nc := s.nc, chans := s.chans } = s) ∧
    (∀ run, ((s.guardOf l).all s.guardFree = true → (∀ r ∈ s.rtk, ¬(r.line = l ∧ r.phase = .guard)) →
        (∀ w, s.nc.wbb.find? (fun w => w.line == l && !w.issued) = some w → w.held = true → exec (.stripeGuardResume line run) s = .next (s.issueWb w run)) ∧
        ((∀ w ∈ s.nc.wbb, w.line ≠ l) → exec (.stripeGuardResume line run) s = .next s)) ∧
      ((s.guardOf l).all s.guardFree = false → exec (.stripeGuardResume line run) s = .next s)) ∧
    (∀ id r since, s.entry id = some r → r.phase = .pool since → r.synthetic = false → r.op = .wr .noOp → (s.port r.head).ready = [] → (s.port r.head).txRoom = true → (s.port r.head).ndr ≠ 0 →
      Gives (.poolHoldTimeout id) s fun t =>
        Msg.cmp r.head r.tag r.grant (s.devloadOf r.head) ∈ t.out ∧ s.out <+: t.out ∧ t.entry id = none ∧ DataKept { s with rtk := t.rtk } t) ∧
    (∀ n run u, s.nextPool = some (l, n) → s.writeBack ⟨l, n.data, n.mask, n.poison, false, false, none⟩ run = .made u → (∀ r ∈ u.rtk, (∀ k, r.phase ≠ .pool k) ∧ r.phase ≠ .poolFull) →
      exec (.poolLineWriteBack run) s = .next (u.setNc l { n with dirty := false, pool := none })) ∧
    (∀ (e : BitVec 25) (b : MapCopy) (u : State), s.reading (.ext e) = true → (s.setExt e.toNat (s.extRec e.toNat)).fillExt e.toNat = some u →
      (∀ r ∈ s.rtk, r.phase ≠ .map (.ext e)) → (∀ f ∈ s.nc.fills, f.value ≠ none) → Gives (.mapReadReturn (.ext e) .current b) s fun t =>
        t.xlt.extCache.has e.toNat = true ∧ t.reading (.ext e) = false ∧ (∀ j, t.extRec j = s.extRec j) ∧ { t with xlt := s.xlt } = s) ∧
    (∀ word : BitVec 19, word.toNat ∈ s.xlt.rebuilds → (∀ r ∈ s.rtk, r.phase ≠ .bitmap word.toNat) → (∀ f ∈ s.nc.fills, f.value ≠ none) → Gives (.bitmapRebuildDone word) s fun t =>
      (∀ i < 64, t.xlt.touched.has (64 * word.toNat + i) = ((s.extRec (64 * word.toNat + i)).mode != .untouched)) ∧ (∀ e, e / 64 ≠ word.toNat → t.xlt.touched.has e = s.xlt.touched.has e) ∧
      word.toNat ∉ t.xlt.rebuilds ∧ t.fb Reg.XLT_STATUS.BMP_UE = true ∧ { t with csr := s.csr, xlt := { t.xlt with touched := s.xlt.touched, rebuilds := s.xlt.rebuilds } } = s)

/-- Periods of Cadence, rounds of SENSE, and THERMTRIP (R374, R376, R382, R386, R388, R390, R410, R412). CADENCE_PERIOD while the main domains run and
memory is not ready, or CRY is in error, grants the period's tokens and steps the host stage, and changes nothing outside Cadence but registers,
counters and sensor messages. PACE_STEP in stage 3 lowers PACE by 25 to its minimum while an entry condition holds, and raises it by 25 up to 100
after a release. SENSE_ROUND publishes the input voltage, and leaves every stored byte, key and link. THERMTRIP at or above the D3 bound asserts
THERMTRIP_n and trips a gate that is on; in the off time it is recorded and the hold is added. -/
def Obligations.CadenceAndSense : Prop :=
  ∀ s : State, s.aon.kick = true →
    (∀ est, s.mainRuns = true → (s.fb Reg.XLT_STATUS.READY = false ∨ s.cry.st = .error) → Gives (.cadencePeriod est) s fun t =>
      t.cad.dieLeft = s.grant s.devCapOn (scaled s.cad.scaleDev est.fgDev) ∧ t.cad.dramLeft = s.grant s.dramCapOn (scaled s.cad.scaleDram est.fgDram) ∧ t.cad.items = [] ∧
      { t with cad := s.cad, csr := s.csr, pmu := s.pmu, out := s.out } = s) ∧
    (s.mainRuns = true → s.fb Reg.CAD_CFG.PACE_EN = true → s.cad.stage = 3 →
      (s.stage3Holds = true → Gives .paceStep s fun t => t.f Reg.CAD_PACE.PACE = max s.paceMin (s.f Reg.CAD_PACE.PACE - 25) ∧ t.cad = { s.cad with releasing := false } ∧ { t with cad := s.cad, csr := s.csr } = s) ∧
      (s.stage3Holds = false → s.cad.releasing = true → Gives .paceStep s fun t => t.f Reg.CAD_PACE.PACE = min 100 (s.f Reg.CAD_PACE.PACE + 25) ∧ { t with csr := s.csr } = s)) ∧
    (∀ r : Readings, (s.mainRuns = false ∨ s.domOn 2 = true) → Gives (.senseRound r) s fun t => t.f Reg.HSW_MEAS.VIN_MV = r.vinMv.toNat ∧ DataKept s t ∧ t.cry = s.cry ∧ t.tb = s.tb ∧
      (∀ h, (t.port h).up = (s.port h).up) ∧ (s.mainRuns = true → t.fb Reg.PWR_POLICY.SNS_SENT = true → (t.dom 2).st = .ret)) ∧
    (∀ (temp : Int) (m : TripMeas), s.aon.holding = false → 4 * (105 + gradeUp) ≤ temp →
      ((s.hsw.gate = .on ∨ s.hsw.gate = .ramp) → Gives (.thermtrip temp m) s fun t => Tripped s t ∧ t.aon.thermtrip = true ∧ t.hsw.thermHeld = true) ∧
      (s.hsw.gate ≠ .on → s.hsw.gate ≠ .ramp → Gives (.thermtrip temp m) s fun t => t.f Reg.HSW_STATUS.LAST_CAUSE = 6 ∧ t.hsw = { s.hsw with thermHeld := true } ∧ t.aon = { s.aon with thermtrip := true } ∧
        { t with hsw := s.hsw, aon := s.aon, csr := s.csr, pan := s.pan, pmu := s.pmu } = s))

/-- A period of Cadence changes no data that a host can read (R374, R376, R379, R381). CADENCE_PERIOD while the main domains run, in every state: the
tokens of the period are granted, the host stage steps and gated work starts as far as the tokens go, and no stored byte, poison bit, near-cache line,
directory entry, request or key changes, nor does the time base. -/
def Obligations.CadencePeriodKeepsData : Prop :=
  ∀ (s : State) (est : PowerEst), s.mainRuns = true → Gives (.cadencePeriod est) s fun t =>
    t.mem = s.mem ∧ t.bad = s.bad ∧ t.nc = s.nc ∧ t.dir = s.dir ∧ t.rtk = s.rtk ∧ t.cry = s.cry ∧ t.tb = s.tb ∧ t.cad.codecPrev = s.cad.codecWork ∧ t.cad.estN = s.cad.estN + 1
end

