-- ==== Sys2Proof/Laws/Tbl.lean ====
section
/-! SUPPORT. Laws of tables: a look after a put, a removal or a set; keys stay rising; no default is listed. -/

namespace Sys2Proof

theorem Tbl.look_put {α : Type} (t : Tbl α) (k j : Nat) (v : α) : (t.put k v).look j = if j = k then some v else t.look j := by
  induction t with
  | nil => simp only [Tbl.put, Tbl.look, eq_comm (a := k)]
  | cons p t ih =>
    obtain ⟨i, w⟩ := p
    simp only [Tbl.put]
    split
    · simp only [Tbl.look, eq_comm (a := j)]
    · split
      · rename_i h1 h2; subst h2; simp only [Tbl.look, eq_comm (a := j)]; split <;> rfl
      · rename_i h1 h2
        simp only [Tbl.look, ih]
        by_cases h : i = j
        · subst h; simp [Ne.symm h2]
        · simp [h]

@[simp] theorem Tbl.look_put_self {α : Type} (t : Tbl α) (k : Nat) (v : α) : (t.put k v).look k = some v := by simp [Tbl.look_put]

theorem Tbl.look_put_ne {α : Type} (t : Tbl α) {k j : Nat} (v : α) (h : j ≠ k) : (t.put k v).look j = t.look j := by simp [Tbl.look_put, h]

theorem Tbl.look_del {α : Type} (t : Tbl α) (k j : Nat) : (t.del k).look j = if j = k then none else t.look j := by
  induction t with
  | nil => simp [Tbl.del, Tbl.look]
  | cons p t ih =>
    obtain ⟨i, w⟩ := p
    simp only [Tbl.del]
    split
    · rename_i h; subst h
      rw [ih]; simp only [Tbl.look]
      by_cases h : j = i <;> simp [h, eq_comm]
    · rename_i h
      simp only [Tbl.look, ih]
      by_cases h' : i = j
      · subst h'; simp [h]
      · simp [h']

@[simp] theorem Tbl.look_del_self {α : Type} (t : Tbl α) (k : Nat) : (t.del k).look k = none := by simp [Tbl.look_del]

@[simp] theorem Tbl.look_nil {α : Type} (k : Nat) : Tbl.look ([] : Tbl α) k = none := rfl

@[simp] theorem Tbl.get_nil {α : Type} (d : α) (k : Nat) : Tbl.get d [] k = d := rfl

theorem Tbl.get_set {α : Type} [DecidableEq α] (d : α) (t : Tbl α) (k j : Nat) (v : α) :
    (Tbl.set d t k v).get d j = if j = k then v else t.get d j := by
  unfold Tbl.set Tbl.get
  split
  · rename_i h; subst h; rw [Tbl.look_del]; split <;> simp
  · rw [Tbl.look_put]; split <;> simp

@[simp] theorem Tbl.get_set_self {α : Type} [DecidableEq α] (d : α) (t : Tbl α) (k : Nat) (v : α) : (Tbl.set d t k v).get d k = v := by
  simp [Tbl.get_set]

theorem Tbl.get_set_ne {α : Type} [DecidableEq α] (d : α) (t : Tbl α) {k j : Nat} (v : α) (h : j ≠ k) :
    (Tbl.set d t k v).get d j = t.get d j := by simp [Tbl.get_set, h]

/-- The `getD` spelling of a look in a table after a set. -/
theorem Tbl.look_set_getD {α : Type} [DecidableEq α] (d : α) (t : Tbl α) (k j : Nat) (v : α) :
    ((Tbl.set d t k v).look j).getD d = if j = k then v else (t.look j).getD d := Tbl.get_set d t k j v

@[simp] theorem Tbl.put_put {α : Type} (t : Tbl α) (k : Nat) (v w : α) : (t.put k v).put k w = t.put k w := by
  induction t with
  | nil => simp [Tbl.put]
  | cons p t ih =>
    obtain ⟨i, x⟩ := p
    simp only [Tbl.put]
    split
    · simp [Tbl.put]
    · split
      · simp [Tbl.put]
      · rename_i h1 h2; simp [Tbl.put, h1, h2, ih]

/-! ## Rising keys -/

theorem Tbl.sorted_iff {α : Type} (t : Tbl α) : t.sorted = true ↔ t.Pairwise fun a b => a.1 < b.1 := by
  induction t with
  | nil => simp [Tbl.sorted]
  | cons p t ih =>
    cases t with
    | nil => simp [Tbl.sorted]
    | cons q t =>
      obtain ⟨j, v⟩ := p
      obtain ⟨k, w⟩ := q
      simp only [Tbl.sorted, Bool.and_eq_true, decide_eq_true_eq, ih]
      constructor
      · rintro ⟨h, hp⟩
        refine List.pairwise_cons.2 ⟨?_, hp⟩
        intro a ha
        rcases List.mem_cons.1 ha with rfl | ha
        · exact h
        · exact Nat.lt_trans h ((List.pairwise_cons.1 hp).1 a ha)
      · intro hp
        exact ⟨(List.pairwise_cons.1 hp).1 _ (List.mem_cons_self ..), (List.pairwise_cons.1 hp).2⟩

theorem Tbl.mem_put {α : Type} (t : Tbl α) (k : Nat) (v : α) {p : Nat × α} (h : p ∈ t.put k v) : p = (k, v) ∨ p ∈ t := by
  induction t with
  | nil => simp [Tbl.put] at h; exact .inl h
  | cons q t ih =>
    obtain ⟨j, w⟩ := q
    simp only [Tbl.put] at h
    split at h
    · simp at h; simp; tauto
    · split at h
      · simp at h; simp; tauto
      · simp at h
        rcases h with h | h
        · simp [h]
        · rcases ih h with h | h <;> simp [h]

theorem Tbl.sorted_put {α : Type} (t : Tbl α) (k : Nat) (v : α) (h : t.sorted = true) : (t.put k v).sorted = true := by
  rw [Tbl.sorted_iff] at *
  induction t with
  | nil => simp [Tbl.put]
  | cons p t ih =>
    obtain ⟨j, w⟩ := p
    have ⟨h1, h2⟩ := List.pairwise_cons.1 h
    simp only [Tbl.put]
    split
    · rename_i hk
      refine List.pairwise_cons.2 ⟨?_, h⟩
      intro a ha
      rcases List.mem_cons.1 ha with rfl | ha
      · exact hk
      · exact Nat.lt_trans hk (h1 a ha)
    · split
      · rename_i hk; subst hk; exact List.pairwise_cons.2 ⟨h1, h2⟩
      · refine List.pairwise_cons.2 ⟨?_, ih h2⟩
        intro a ha
        rcases Tbl.mem_put t k v ha with rfl | ha
        · show j < k; omega
        · exact h1 a ha

theorem Tbl.del_eq_filter {α : Type} (t : Tbl α) (k : Nat) : t.del k = t.filter fun p => p.1 != k := by
  induction t with
  | nil => rfl
  | cons p t ih =>
    obtain ⟨j, w⟩ := p
    simp only [Tbl.del, List.filter_cons, ih]
    by_cases h : j = k <;> simp [h]

theorem Tbl.sorted_filter {α : Type} (t : Tbl α) (f : Nat × α → Bool) (h : t.sorted = true) : Tbl.sorted (t.filter f) = true := by
  rw [Tbl.sorted_iff] at *; exact h.filter f

theorem Tbl.sorted_del {α : Type} (t : Tbl α) (k : Nat) (h : t.sorted = true) : (t.del k).sorted = true := by
  rw [Tbl.del_eq_filter]; exact Tbl.sorted_filter t _ h

theorem Tbl.sorted_set {α : Type} [DecidableEq α] (d : α) (t : Tbl α) (k : Nat) (v : α) (h : t.sorted = true) : (Tbl.set d t k v).sorted = true := by
  unfold Tbl.set; split
  · exact Tbl.sorted_del t k h
  · exact Tbl.sorted_put t k v h

/-! ## The canonical form -/

theorem Tbl.wf_iff {α : Type} [DecidableEq α] (d : α) (t : Tbl α) : Tbl.wf d t = true ↔ t.sorted = true ∧ ∀ p ∈ t, p.2 ≠ d := by
  simp [Tbl.wf, List.all_eq_true]

theorem Tbl.wf_set {α : Type} [DecidableEq α] (d : α) (t : Tbl α) (k : Nat) (v : α) (h : Tbl.wf d t = true) : Tbl.wf d (Tbl.set d t k v) = true := by
  rw [Tbl.wf_iff] at *
  refine ⟨Tbl.sorted_set d t k v h.1, ?_⟩
  unfold Tbl.set
  split
  · rw [Tbl.del_eq_filter]; intro p hp; exact h.2 p (List.mem_filter.1 hp).1
  · rename_i hv; intro p hp
    rcases Tbl.mem_put t k v hp with rfl | hp
    · exact hv
    · exact h.2 p hp

theorem Tbl.wf_filter {α : Type} [DecidableEq α] (d : α) (t : Tbl α) (f : Nat × α → Bool) (h : Tbl.wf d t = true) : Tbl.wf d (t.filter f) = true := by
  rw [Tbl.wf_iff] at *
  exact ⟨Tbl.sorted_filter t f h.1, fun p hp => h.2 p (List.mem_filter.1 hp).1⟩

theorem Tbl.wf_nil {α : Type} [DecidableEq α] (d : α) : Tbl.wf d ([] : Tbl α) = true := rfl

end Sys2Proof
end

