-- ==== Sys2Proof/Laws/Memory.lean ====
section
/-! SUPPORT. Laws of the stored memory: reads after writes, and every memory operation keeps the canonical form. -/

namespace Sys2Proof.Machine

@[simp] theorem Memory.read_nil (a : Nat) : Memory.read [] a = 0 := rfl

theorem Memory.read_write (m : List Host.Cell) (a b : Nat) (v : Byte) :
    Memory.read (Memory.write m a v) b = if b = a then v else Memory.read m b := Tbl.get_set 0 m a b v

@[simp] theorem Memory.read_write_self (m : List Host.Cell) (a : Nat) (v : Byte) : Memory.read (Memory.write m a v) a = v := by
  simp [Memory.read_write]

theorem Memory.read_write_ne (m : List Host.Cell) {a b : Nat} (v : Byte) (h : b ≠ a) : Memory.read (Memory.write m a v) b = Memory.read m b := by
  simp [Memory.read_write, h]

theorem Memory.wf_write (m : List Host.Cell) (a : Nat) (v : Byte) (h : Memory.wf m = true) : Memory.wf (Memory.write m a v) = true :=
  Tbl.wf_set 0 m a v h

theorem Memory.wf_writeBytes (m : List Host.Cell) (a : Nat) (bs : List Byte) (h : Memory.wf m = true) : Memory.wf (Memory.writeBytes m a bs) = true := by
  induction bs generalizing m a with
  | nil => exact h
  | cons b bs ih => exact ih _ _ (Memory.wf_write m a b h)

theorem Memory.wf_writeLineFrom (m : List Host.Cell) (l : Nat) (d : LineData) (k : Mask) (i : Nat) (h : Memory.wf m = true) :
    Memory.wf (Memory.writeLineFrom m l d k i) = true := by
  induction i with
  | zero => exact h
  | succ i ih =>
    simp only [Memory.writeLineFrom]
    split
    · exact Memory.wf_write _ _ _ ih
    · exact ih

theorem Memory.wf_writeLine (m : List Host.Cell) (l : Nat) (d : LineData) (k : Mask) (h : Memory.wf m = true) :
    Memory.wf (Memory.writeLine m l d k) = true := Memory.wf_writeLineFrom m l d k 64 h

theorem Memory.wf_clear (m : List Host.Cell) (a n : Nat) (h : Memory.wf m = true) : Memory.wf (Memory.clear m a n) = true :=
  Tbl.wf_filter 0 m _ h

theorem Memory.wf_putCells (m cs : List Host.Cell) (h : Memory.wf m = true) : Memory.wf (Memory.putCells m cs) = true := by
  induction cs generalizing m with
  | nil => exact h
  | cons c cs ih => exact ih _ (Memory.wf_write m _ _ h)

theorem Memory.wf_reset : Memory.wf State.reset.mem = true := rfl

theorem Memory.read_writeLineFrom (m : List Host.Cell) (l : Nat) (d : LineData) (k : Mask) (i a : Nat) (hi : i ≤ 64) :
    Memory.read (Memory.writeLineFrom m l d k i) a =
      if a / 64 = l ∧ a % 64 < i ∧ k.getLsbD (a % 64) = true then lineByte d (a % 64) else Memory.read m a := by
  induction i with
  | zero => simp [Memory.writeLineFrom]
  | succ i ih =>
    have ih := ih (by omega)
    simp only [Memory.writeLineFrom]
    by_cases e : a = 64 * l + i
    · have h1 : a / 64 = l := by omega
      have h2 : a % 64 = i := by omega
      by_cases hk : k.getLsbD i = true
      · rw [if_pos hk, e, Memory.read_write_self, ← e, if_pos ⟨h1, by omega, by rw [h2]; exact hk⟩, h2]
      · rw [if_neg hk, ih, if_neg (by omega), if_neg (by rw [h2]; tauto)]
    · have : (a / 64 = l ∧ a % 64 < i + 1 ∧ k.getLsbD (a % 64) = true) ↔ (a / 64 = l ∧ a % 64 < i ∧ k.getLsbD (a % 64) = true) := by
        constructor
        · rintro ⟨h1, h2, h3⟩; exact ⟨h1, by omega, h3⟩
        · rintro ⟨h1, h2, h3⟩; exact ⟨h1, by omega, h3⟩
      simp only [this]
      split
      · rw [Memory.read_write_ne _ _ e, ih]
      · exact ih

/-- A byte of memory after a line has been stored under a mask: the line's byte where it is enabled, else as before. -/
theorem Memory.read_writeLine (m : List Host.Cell) (l : Nat) (d : LineData) (k : Mask) (a : Nat) :
    Memory.read (Memory.writeLine m l d k) a = if a / 64 = l ∧ k.getLsbD (a % 64) = true then lineByte d (a % 64) else Memory.read m a := by
  rw [Memory.writeLine, Memory.read_writeLineFrom m l d k 64 a (Nat.le_refl 64)]
  have : a % 64 < 64 := Nat.mod_lt _ (by decide)
  simp [this]

theorem Tbl.look_filter_key {α : Type} (t : Tbl α) (f : Nat → Bool) (k : Nat) :
    Tbl.look (t.filter fun p => f p.1) k = if f k then t.look k else none := by
  induction t with
  | nil => simp
  | cons p t ih =>
    obtain ⟨j, w⟩ := p
    simp only [List.filter_cons]
    by_cases hj : f j = true
    · simp only [hj, if_true, Tbl.look, ih]
      by_cases e : j = k
      · subst e; simp [hj]
      · simp [e]
    · rw [if_neg hj, ih]
      by_cases e : j = k
      · subst e; simp [hj]
      · simp [Tbl.look, e]

/-- A byte of memory after a range has been cleared: zero inside it, else as before. -/
theorem Memory.read_clear (m : List Host.Cell) (a n b : Nat) :
    Memory.read (Memory.clear m a n) b = if a ≤ b ∧ b < a + n then 0 else Memory.read m b := by
  have := Tbl.look_filter_key m (fun k => !(decide (a ≤ k) && decide (k < a + n))) b
  simp only [Memory.read, Memory.clear, Tbl.get, this]
  by_cases h : a ≤ b ∧ b < a + n
  · simp [h.1, h.2]
  · rw [if_neg h, if_pos (by simp; omega)]

end Sys2Proof.Machine
end

