-- ==== Sys2Proof/Laws/Path.lean ====
section
/-! SUPPORT. What the accesses of engines to a line do where every domain is ON: the line is reached, read from the near cache or storage, and written. -/
namespace Sys2Proof.Machine

/-- The domains that a line needs are among the 58. -/
theorem lineDomains_lt (l : Nat) (db : Bool) : ∀ d ∈ lineDomains l db, d < 58 := by
  intro d hd
  have h1 := (slice l).isLt
  have h2 := (Config.xltSlice (extOf l)).isLt
  have h3 : dirSlice l < 4 := Nat.mod_lt _ (by decide)
  unfold lineDomains at hd
  split at hd <;> simp at hd <;> omega

/-- With every domain ON an engine reaches every line at once (R368). -/
theorem State.engineReach_on {s : State} (h : ∀ d < 58, s.domOn d = true) (l : Nat) : s.engineReach l = (true, s) := by
  have hf : (lineDomains l (s.lineDb l)).filter (fun d => !s.domOn d && !(s.dom d).failed) = [] :=
    List.filter_eq_nil_iff.2 fun d hd => by simp [h d (lineDomains_lt _ _ d hd)]
  simp [State.engineReach, hf]

/-- A read of CMD of a line with no request open and no directory entry is served; it changes only what the read of storage does. -/
theorem State.cmdRead_on {s : State} (h : ∀ d < 58, s.domOn d = true) {l : Nat} (ho : s.lineOpen l = false) (hd : s.dir.entries.look l = none) :
    ∃ v, s.cmdRead l = (some v, s.engineRead l) := by
  unfold State.cmdRead
  rw [State.engineReach_on h l]
  simp only [ho, hd, Bool.false_eq_true, if_false]
  exact ⟨_, rfl⟩

/-! ## Commands issued to the DIMMs change the channels, the latches of domains and the counters alone -/

theorem IssuedOnly.refl (s : State) : IssuedOnly s s := rfl

theorem IssuedOnly.trans {s t u : State} (h1 : IssuedOnly s t) (h2 : IssuedOnly t u) : IssuedOnly s u := by
  simp only [IssuedOnly] at *
  rw [← h1, ← h2]

/-- Commands issued to the DIMMs keep what a host can read, and every record. -/
theorem IssuedOnly.kept {s t : State} (h : IssuedOnly s t) :
    t.mem = s.mem ∧ t.bad = s.bad ∧ t.nc = s.nc ∧ t.dir = s.dir ∧ t.rtk = s.rtk ∧ t.xlt = s.xlt ∧ t.drl = s.drl ∧ t.cap = s.cap ∧ t.csr = s.csr ∧ t.cmd = s.cmd ∧ t.out = s.out := by
  simp only [IssuedOnly] at h
  rw [← h]
  simp

theorem IssuedOnly.foldl {α : Type} {f : State → α → State} (hf : ∀ s a, IssuedOnly s (f s a)) (as : List α) (s : State) : IssuedOnly s (as.foldl f s) := by
  induction as generalizing s with
  | nil => exact .refl s
  | cons a as ih => exact (hf s a).trans (ih _)

theorem State.updRank_issued (s : State) (c : Chan) (r : RankSet) (g : Rank → Rank) : IssuedOnly s (s.updRank c r g) := by
  unfold State.updRank
  split <;> rfl

theorem State.wakePlace_issued (s : State) (q : PosSlot) (src : WakeSource) : IssuedOnly s (s.wakePlace q src) := by
  have hw (c : Chan) (r : RankSet) : IssuedOnly s (s.wakeRank c r) := by
    refine (s.updRank_issued c r fun x => { x with st := .active, retrainDue := false }).trans ?_
    unfold State.wakeRank
    dsimp only
    split <;> rfl
  unfold State.wakePlace
  split
  · rfl
  · split
    · unfold State.latchWake
      split <;> rfl
    · exact hw _ _
    · exact hw _ _
    · rfl

theorem State.count_issued (s : State) (g i n : Nat) (u : Option Nat) : IssuedOnly s (s.count g i n u) := rfl

theorem State.countIssue_issued (s : State) (c : Chan) (x : ChanCmd) (n : Nat) : IssuedOnly s (s.countIssue c x n) := by
  unfold State.countIssue
  refine (s.count_issued 9 (4 * c.val + x.counter) n none).trans ?_
  generalize s.count 9 (4 * c.val + x.counter) n = s
  dsimp only
  split
  · exact .refl s
  · exact s.count_issued _ _ _ _

theorem State.countCmd_issued (s : State) (c : Chan) (x : ChanCmd) (n : Nat) : IssuedOnly s (s.countCmd c x n) := by
  unfold State.countCmd
  refine (s.countIssue_issued c x n).trans ?_
  generalize s.countIssue c x n = s
  dsimp only
  split
  · exact s.count_issued _ _ _ _
  · exact .refl s

theorem State.chanIssue_issued (s : State) (q : PosSlot) (x : ChanCmd) (n : Nat) : IssuedOnly s (s.chanIssue q x n) := by
  unfold State.chanIssue
  split
  · rfl
  · dsimp only
    split
    · rfl
    · refine IssuedOnly.trans ?_ (State.countCmd_issued _ _ _ _)
      cases x <;> rfl

/-- The writes of a write-back change only what commands issued to the DIMMs change. -/
theorem State.wroteBack_issued (t s : State) (l : Nat) : IssuedOnly t (t.wroteBack s l) := by
  unfold State.wroteBack
  split
  · refine IssuedOnly.trans (IssuedOnly.foldl (fun s q => s.wakePlace_issued q _) _ _) (IssuedOnly.foldl (fun s p => ?_) _ _)
    dsimp only
    split
    · exact s.chanIssue_issued _ _ _
    · split
      · exact (s.chanIssue_issued _ _ _).trans (State.chanIssue_issued _ _ _ _)
      · split
        · exact (IssuedOnly.foldl (fun s _ => s.chanIssue_issued _ _ _) _ _).trans (State.chanIssue_issued _ _ _ _)
        split
        · exact s.chanIssue_issued _ _ _
        exact (((s.chanIssue_issued _ _ _).trans (State.chanIssue_issued _ _ _ _)).trans (State.chanIssue_issued _ _ _ _)).trans (State.chanIssue_issued _ _ _ _)
  · rfl

/-- An engine's read of a line changes only what commands issued to the DIMMs change. -/
theorem State.engineRead_issued (s : State) (l : Nat) : IssuedOnly s (s.engineRead l) := by
  unfold State.engineRead
  split
  · rfl
  · exact IssuedOnly.foldl (fun s p => (s.wakePlace_issued _ _).trans (State.chanIssue_issued _ _ _ _)) _ _

/-- The copy of pages of an extent changes only what commands issued to the DIMMs change. -/
theorem State.copyPages_issued (s : State) (c : ExtCopy) (ps : List Nat) : IssuedOnly s (s.copyPages c ps) := by
  have hb (s : State) (qs : List (PosSlot × Nat)) (w : Bool) : IssuedOnly s (s.engineBulk qs w) := by
    refine IssuedOnly.trans (IssuedOnly.foldl (fun s p => s.wakePlace_issued _ _) qs s) (IssuedOnly.foldl (fun s j => ?_) _ _)
    dsimp only
    split
    · rfl
    · exact s.chanIssue_issued _ _ _
  exact (hb _ _ _).trans (hb _ _ _)

/-- The accesses of an engine to a stored page change only what commands issued to the DIMMs change. -/
theorem State.enginePage_issued (s : State) (r : PageRec) (write : Bool) : IssuedOnly s (s.enginePage r write) :=
  IssuedOnly.foldl (fun s _ => (s.wakePlace_issued _ _).trans (State.chanIssue_issued _ _ _ _)) _ _

/-- Marking a line's extent touched changes only the touched set. -/
theorem State.touch_frame (s : State) (l : Nat) : { s.touch l with xlt := { (s.touch l).xlt with touched := s.xlt.touched } } = s := by
  unfold State.touch
  split <;> rfl

@[simp] theorem State.touch_nc (s : State) (l : Nat) : (s.touch l).nc = s.nc := by
  unfold State.touch
  split <;> rfl

/-- A write of CMD to a line that the near cache holds, with no request open and no host holding it, lands. -/
theorem State.cmdWrite_on {s : State} (h : ∀ d < 58, s.domOn d = true) {l : Nat} {n : NcLine} (ho : s.lineOpen l = false) (hh : s.hostHolds l = false)
    (hn : s.nc.lines.look l = some n) (d : LineData) (m : Mask) : ∃ u, s.cmdWrite l d m = .landed u := by
  unfold State.cmdWrite
  rw [State.engineReach_on h l]
  simp only [ho, hh, Bool.false_eq_true, if_false]
  split
  · exact ⟨_, rfl⟩
  · unfold State.land
    simp only [State.touch_nc, hn]
    split <;> exact ⟨_, rfl⟩

end Sys2Proof.Machine
end

