-- ==== Sys2Proof/Laws/State.lean ====
section
/-! SUPPORT. Each named update of one part of the state leaves every other part as it is: one lemma per part per update. -/

namespace Sys2Proof.Machine

@[simp] theorem State.setWord_pending (s : State) (off : Nat) (w : Word) : (s.setWord off w).pending = s.pending := rfl
@[simp] theorem State.setWord_free (s : State) (off : Nat) (w : Word) : (s.setWord off w).free = s.free := rfl
@[simp] theorem State.setWord_out (s : State) (off : Nat) (w : Word) : (s.setWord off w).out = s.out := rfl
@[simp] theorem State.setWord_now (s : State) (off : Nat) (w : Word) : (s.setWord off w).now = s.now := rfl
@[simp] theorem State.setWord_tb (s : State) (off : Nat) (w : Word) : (s.setWord off w).tb = s.tb := rfl
@[simp] theorem State.setWord_latches (s : State) (off : Nat) (w : Word) : (s.setWord off w).latches = s.latches := rfl
@[simp] theorem State.setWord_mem (s : State) (off : Nat) (w : Word) : (s.setWord off w).mem = s.mem := rfl
@[simp] theorem State.setWord_bad (s : State) (off : Nat) (w : Word) : (s.setWord off w).bad = s.bad := rfl
@[simp] theorem State.setWord_aon (s : State) (off : Nat) (w : Word) : (s.setWord off w).aon = s.aon := rfl
@[simp] theorem State.setWord_ports (s : State) (off : Nat) (w : Word) : (s.setWord off w).ports = s.ports := rfl
@[simp] theorem State.setWord_rtk (s : State) (off : Nat) (w : Word) : (s.setWord off w).rtk = s.rtk := rfl
@[simp] theorem State.setWord_nextEntry (s : State) (off : Nat) (w : Word) : (s.setWord off w).nextEntry = s.nextEntry := rfl
@[simp] theorem State.setWord_nc (s : State) (off : Nat) (w : Word) : (s.setWord off w).nc = s.nc := rfl
@[simp] theorem State.setWord_dir (s : State) (off : Nat) (w : Word) : (s.setWord off w).dir = s.dir := rfl
@[simp] theorem State.setWord_xlt (s : State) (off : Nat) (w : Word) : (s.setWord off w).xlt = s.xlt := rfl
@[simp] theorem State.setWord_cap (s : State) (off : Nat) (w : Word) : (s.setWord off w).cap = s.cap := rfl
@[simp] theorem State.setWord_cdc (s : State) (off : Nat) (w : Word) : (s.setWord off w).cdc = s.cdc := rfl
@[simp] theorem State.setWord_drl (s : State) (off : Nat) (w : Word) : (s.setWord off w).drl = s.drl := rfl
@[simp] theorem State.setWord_chans (s : State) (off : Nat) (w : Word) : (s.setWord off w).chans = s.chans := rfl
@[simp] theorem State.setWord_repairs (s : State) (off : Nat) (w : Word) : (s.setWord off w).repairs = s.repairs := rfl
@[simp] theorem State.setWord_trm (s : State) (off : Nat) (w : Word) : (s.setWord off w).trm = s.trm := rfl
@[simp] theorem State.setWord_cry (s : State) (off : Nat) (w : Word) : (s.setWord off w).cry = s.cry := rfl
@[simp] theorem State.setWord_cmd (s : State) (off : Nat) (w : Word) : (s.setWord off w).cmd = s.cmd := rfl
@[simp] theorem State.setWord_doms (s : State) (off : Nat) (w : Word) : (s.setWord off w).doms = s.doms := rfl
@[simp] theorem State.setWord_cad (s : State) (off : Nat) (w : Word) : (s.setWord off w).cad = s.cad := rfl
@[simp] theorem State.setWord_hsw (s : State) (off : Nat) (w : Word) : (s.setWord off w).hsw = s.hsw := rfl
@[simp] theorem State.setWord_pan (s : State) (off : Nat) (w : Word) : (s.setWord off w).pan = s.pan := rfl
@[simp] theorem State.setWord_pmu (s : State) (off : Nat) (w : Word) : (s.setWord off w).pmu = s.pmu := rfl
@[simp] theorem State.setWord_mgt (s : State) (off : Nat) (w : Word) : (s.setWord off w).mgt = s.mgt := rfl
@[simp] theorem State.setWord_events (s : State) (off : Nat) (w : Word) : (s.setWord off w).events = s.events := rfl
@[simp] theorem State.setWord_nextHandle (s : State) (off : Nat) (w : Word) : (s.setWord off w).nextHandle = s.nextHandle := rfl
@[simp] theorem State.setWord_poisonList (s : State) (off : Nat) (w : Word) : (s.setWord off w).poisonList = s.poisonList := rfl

@[simp] theorem State.setF_pending (s : State) (x : Fld) (v : Nat) : (s.setF x v).pending = s.pending := rfl
@[simp] theorem State.setF_free (s : State) (x : Fld) (v : Nat) : (s.setF x v).free = s.free := rfl
@[simp] theorem State.setF_out (s : State) (x : Fld) (v : Nat) : (s.setF x v).out = s.out := rfl
@[simp] theorem State.setF_now (s : State) (x : Fld) (v : Nat) : (s.setF x v).now = s.now := rfl
@[simp] theorem State.setF_tb (s : State) (x : Fld) (v : Nat) : (s.setF x v).tb = s.tb := rfl
@[simp] theorem State.setF_latches (s : State) (x : Fld) (v : Nat) : (s.setF x v).latches = s.latches := rfl
@[simp] theorem State.setF_mem (s : State) (x : Fld) (v : Nat) : (s.setF x v).mem = s.mem := rfl
@[simp] theorem State.setF_bad (s : State) (x : Fld) (v : Nat) : (s.setF x v).bad = s.bad := rfl
@[simp] theorem State.setF_aon (s : State) (x : Fld) (v : Nat) : (s.setF x v).aon = s.aon := rfl
@[simp] theorem State.setF_ports (s : State) (x : Fld) (v : Nat) : (s.setF x v).ports = s.ports := rfl
@[simp] theorem State.setF_rtk (s : State) (x : Fld) (v : Nat) : (s.setF x v).rtk = s.rtk := rfl
@[simp] theorem State.setF_nextEntry (s : State) (x : Fld) (v : Nat) : (s.setF x v).nextEntry = s.nextEntry := rfl
@[simp] theorem State.setF_nc (s : State) (x : Fld) (v : Nat) : (s.setF x v).nc = s.nc := rfl
@[simp] theorem State.setF_dir (s : State) (x : Fld) (v : Nat) : (s.setF x v).dir = s.dir := rfl
@[simp] theorem State.setF_xlt (s : State) (x : Fld) (v : Nat) : (s.setF x v).xlt = s.xlt := rfl
@[simp] theorem State.setF_cap (s : State) (x : Fld) (v : Nat) : (s.setF x v).cap = s.cap := rfl
@[simp] theorem State.setF_cdc (s : State) (x : Fld) (v : Nat) : (s.setF x v).cdc = s.cdc := rfl
@[simp] theorem State.setF_drl (s : State) (x : Fld) (v : Nat) : (s.setF x v).drl = s.drl := rfl
@[simp] theorem State.setF_chans (s : State) (x : Fld) (v : Nat) : (s.setF x v).chans = s.chans := rfl
@[simp] theorem State.setF_repairs (s : State) (x : Fld) (v : Nat) : (s.setF x v).repairs = s.repairs := rfl
@[simp] theorem State.setF_trm (s : State) (x : Fld) (v : Nat) : (s.setF x v).trm = s.trm := rfl
@[simp] theorem State.setF_cry (s : State) (x : Fld) (v : Nat) : (s.setF x v).cry = s.cry := rfl
@[simp] theorem State.setF_cmd (s : State) (x : Fld) (v : Nat) : (s.setF x v).cmd = s.cmd := rfl
@[simp] theorem State.setF_doms (s : State) (x : Fld) (v : Nat) : (s.setF x v).doms = s.doms := rfl
@[simp] theorem State.setF_cad (s : State) (x : Fld) (v : Nat) : (s.setF x v).cad = s.cad := rfl
@[simp] theorem State.setF_hsw (s : State) (x : Fld) (v : Nat) : (s.setF x v).hsw = s.hsw := rfl
@[simp] theorem State.setF_pan (s : State) (x : Fld) (v : Nat) : (s.setF x v).pan = s.pan := rfl
@[simp] theorem State.setF_pmu (s : State) (x : Fld) (v : Nat) : (s.setF x v).pmu = s.pmu := rfl
@[simp] theorem State.setF_mgt (s : State) (x : Fld) (v : Nat) : (s.setF x v).mgt = s.mgt := rfl
@[simp] theorem State.setF_events (s : State) (x : Fld) (v : Nat) : (s.setF x v).events = s.events := rfl
@[simp] theorem State.setF_nextHandle (s : State) (x : Fld) (v : Nat) : (s.setF x v).nextHandle = s.nextHandle := rfl
@[simp] theorem State.setF_poisonList (s : State) (x : Fld) (v : Nat) : (s.setF x v).poisonList = s.poisonList := rfl

@[simp] theorem State.flag_pending (s : State) (x : Fld) : (s.flag x).pending = s.pending := rfl
@[simp] theorem State.flag_free (s : State) (x : Fld) : (s.flag x).free = s.free := rfl
@[simp] theorem State.flag_out (s : State) (x : Fld) : (s.flag x).out = s.out := rfl
@[simp] theorem State.flag_now (s : State) (x : Fld) : (s.flag x).now = s.now := rfl
@[simp] theorem State.flag_tb (s : State) (x : Fld) : (s.flag x).tb = s.tb := rfl
@[simp] theorem State.flag_latches (s : State) (x : Fld) : (s.flag x).latches = s.latches := rfl
@[simp] theorem State.flag_mem (s : State) (x : Fld) : (s.flag x).mem = s.mem := rfl
@[simp] theorem State.flag_bad (s : State) (x : Fld) : (s.flag x).bad = s.bad := rfl
@[simp] theorem State.flag_aon (s : State) (x : Fld) : (s.flag x).aon = s.aon := rfl
@[simp] theorem State.flag_ports (s : State) (x : Fld) : (s.flag x).ports = s.ports := rfl
@[simp] theorem State.flag_rtk (s : State) (x : Fld) : (s.flag x).rtk = s.rtk := rfl
@[simp] theorem State.flag_nextEntry (s : State) (x : Fld) : (s.flag x).nextEntry = s.nextEntry := rfl
@[simp] theorem State.flag_nc (s : State) (x : Fld) : (s.flag x).nc = s.nc := rfl
@[simp] theorem State.flag_dir (s : State) (x : Fld) : (s.flag x).dir = s.dir := rfl
@[simp] theorem State.flag_xlt (s : State) (x : Fld) : (s.flag x).xlt = s.xlt := rfl
@[simp] theorem State.flag_cap (s : State) (x : Fld) : (s.flag x).cap = s.cap := rfl
@[simp] theorem State.flag_cdc (s : State) (x : Fld) : (s.flag x).cdc = s.cdc := rfl
@[simp] theorem State.flag_drl (s : State) (x : Fld) : (s.flag x).drl = s.drl := rfl
@[simp] theorem State.flag_chans (s : State) (x : Fld) : (s.flag x).chans = s.chans := rfl
@[simp] theorem State.flag_repairs (s : State) (x : Fld) : (s.flag x).repairs = s.repairs := rfl
@[simp] theorem State.flag_trm (s : State) (x : Fld) : (s.flag x).trm = s.trm := rfl
@[simp] theorem State.flag_cry (s : State) (x : Fld) : (s.flag x).cry = s.cry := rfl
@[simp] theorem State.flag_cmd (s : State) (x : Fld) : (s.flag x).cmd = s.cmd := rfl
@[simp] theorem State.flag_doms (s : State) (x : Fld) : (s.flag x).doms = s.doms := rfl
@[simp] theorem State.flag_cad (s : State) (x : Fld) : (s.flag x).cad = s.cad := rfl
@[simp] theorem State.flag_hsw (s : State) (x : Fld) : (s.flag x).hsw = s.hsw := rfl
@[simp] theorem State.flag_pan (s : State) (x : Fld) : (s.flag x).pan = s.pan := rfl
@[simp] theorem State.flag_pmu (s : State) (x : Fld) : (s.flag x).pmu = s.pmu := rfl
@[simp] theorem State.flag_mgt (s : State) (x : Fld) : (s.flag x).mgt = s.mgt := rfl
@[simp] theorem State.flag_events (s : State) (x : Fld) : (s.flag x).events = s.events := rfl
@[simp] theorem State.flag_nextHandle (s : State) (x : Fld) : (s.flag x).nextHandle = s.nextHandle := rfl
@[simp] theorem State.flag_poisonList (s : State) (x : Fld) : (s.flag x).poisonList = s.poisonList := rfl

@[simp] theorem State.setBit_pending (s : State) (x : Fld) (i : Nat) (b : Bool) : (s.setBit x i b).pending = s.pending := rfl
@[simp] theorem State.setBit_free (s : State) (x : Fld) (i : Nat) (b : Bool) : (s.setBit x i b).free = s.free := rfl
@[simp] theorem State.setBit_out (s : State) (x : Fld) (i : Nat) (b : Bool) : (s.setBit x i b).out = s.out := rfl
@[simp] theorem State.setBit_now (s : State) (x : Fld) (i : Nat) (b : Bool) : (s.setBit x i b).now = s.now := rfl
@[simp] theorem State.setBit_tb (s : State) (x : Fld) (i : Nat) (b : Bool) : (s.setBit x i b).tb = s.tb := rfl
@[simp] theorem State.setBit_latches (s : State) (x : Fld) (i : Nat) (b : Bool) : (s.setBit x i b).latches = s.latches := rfl
@[simp] theorem State.setBit_mem (s : State) (x : Fld) (i : Nat) (b : Bool) : (s.setBit x i b).mem = s.mem := rfl
@[simp] theorem State.setBit_bad (s : State) (x : Fld) (i : Nat) (b : Bool) : (s.setBit x i b).bad = s.bad := rfl
@[simp] theorem State.setBit_aon (s : State) (x : Fld) (i : Nat) (b : Bool) : (s.setBit x i b).aon = s.aon := rfl
@[simp] theorem State.setBit_ports (s : State) (x : Fld) (i : Nat) (b : Bool) : (s.setBit x i b).ports = s.ports := rfl
@[simp] theorem State.setBit_rtk (s : State) (x : Fld) (i : Nat) (b : Bool) : (s.setBit x i b).rtk = s.rtk := rfl
@[simp] theorem State.setBit_nextEntry (s : State) (x : Fld) (i : Nat) (b : Bool) : (s.setBit x i b).nextEntry = s.nextEntry := rfl
@[simp] theorem State.setBit_nc (s : State) (x : Fld) (i : Nat) (b : Bool) : (s.setBit x i b).nc = s.nc := rfl
@[simp] theorem State.setBit_dir (s : State) (x : Fld) (i : Nat) (b : Bool) : (s.setBit x i b).dir = s.dir := rfl
@[simp] theorem State.setBit_xlt (s : State) (x : Fld) (i : Nat) (b : Bool) : (s.setBit x i b).xlt = s.xlt := rfl
@[simp] theorem State.setBit_cap (s : State) (x : Fld) (i : Nat) (b : Bool) : (s.setBit x i b).cap = s.cap := rfl
@[simp] theorem State.setBit_cdc (s : State) (x : Fld) (i : Nat) (b : Bool) : (s.setBit x i b).cdc = s.cdc := rfl
@[simp] theorem State.setBit_drl (s : State) (x : Fld) (i : Nat) (b : Bool) : (s.setBit x i b).drl = s.drl := rfl
@[simp] theorem State.setBit_chans (s : State) (x : Fld) (i : Nat) (b : Bool) : (s.setBit x i b).chans = s.chans := rfl
@[simp] theorem State.setBit_repairs (s : State) (x : Fld) (i : Nat) (b : Bool) : (s.setBit x i b).repairs = s.repairs := rfl
@[simp] theorem State.setBit_trm (s : State) (x : Fld) (i : Nat) (b : Bool) : (s.setBit x i b).trm = s.trm := rfl
@[simp] theorem State.setBit_cry (s : State) (x : Fld) (i : Nat) (b : Bool) : (s.setBit x i b).cry = s.cry := rfl
@[simp] theorem State.setBit_cmd (s : State) (x : Fld) (i : Nat) (b : Bool) : (s.setBit x i b).cmd = s.cmd := rfl
@[simp] theorem State.setBit_doms (s : State) (x : Fld) (i : Nat) (b : Bool) : (s.setBit x i b).doms = s.doms := rfl
@[simp] theorem State.setBit_cad (s : State) (x : Fld) (i : Nat) (b : Bool) : (s.setBit x i b).cad = s.cad := rfl
@[simp] theorem State.setBit_hsw (s : State) (x : Fld) (i : Nat) (b : Bool) : (s.setBit x i b).hsw = s.hsw := rfl
@[simp] theorem State.setBit_pan (s : State) (x : Fld) (i : Nat) (b : Bool) : (s.setBit x i b).pan = s.pan := rfl
@[simp] theorem State.setBit_pmu (s : State) (x : Fld) (i : Nat) (b : Bool) : (s.setBit x i b).pmu = s.pmu := rfl
@[simp] theorem State.setBit_mgt (s : State) (x : Fld) (i : Nat) (b : Bool) : (s.setBit x i b).mgt = s.mgt := rfl
@[simp] theorem State.setBit_events (s : State) (x : Fld) (i : Nat) (b : Bool) : (s.setBit x i b).events = s.events := rfl
@[simp] theorem State.setBit_nextHandle (s : State) (x : Fld) (i : Nat) (b : Bool) : (s.setBit x i b).nextHandle = s.nextHandle := rfl
@[simp] theorem State.setBit_poisonList (s : State) (x : Fld) (i : Nat) (b : Bool) : (s.setBit x i b).poisonList = s.poisonList := rfl

@[simp] theorem State.updPort_pending (s : State) (h : Head) (g : Port → Port) : (s.updPort h g).pending = s.pending := rfl
@[simp] theorem State.updPort_free (s : State) (h : Head) (g : Port → Port) : (s.updPort h g).free = s.free := rfl
@[simp] theorem State.updPort_out (s : State) (h : Head) (g : Port → Port) : (s.updPort h g).out = s.out := rfl
@[simp] theorem State.updPort_now (s : State) (h : Head) (g : Port → Port) : (s.updPort h g).now = s.now := rfl
@[simp] theorem State.updPort_tb (s : State) (h : Head) (g : Port → Port) : (s.updPort h g).tb = s.tb := rfl
@[simp] theorem State.updPort_csr (s : State) (h : Head) (g : Port → Port) : (s.updPort h g).csr = s.csr := rfl
@[simp] theorem State.updPort_latches (s : State) (h : Head) (g : Port → Port) : (s.updPort h g).latches = s.latches := rfl
@[simp] theorem State.updPort_mem (s : State) (h : Head) (g : Port → Port) : (s.updPort h g).mem = s.mem := rfl
@[simp] theorem State.updPort_bad (s : State) (h : Head) (g : Port → Port) : (s.updPort h g).bad = s.bad := rfl
@[simp] theorem State.updPort_aon (s : State) (h : Head) (g : Port → Port) : (s.updPort h g).aon = s.aon := rfl
@[simp] theorem State.updPort_rtk (s : State) (h : Head) (g : Port → Port) : (s.updPort h g).rtk = s.rtk := rfl
@[simp] theorem State.updPort_nextEntry (s : State) (h : Head) (g : Port → Port) : (s.updPort h g).nextEntry = s.nextEntry := rfl
@[simp] theorem State.updPort_nc (s : State) (h : Head) (g : Port → Port) : (s.updPort h g).nc = s.nc := rfl
@[simp] theorem State.updPort_dir (s : State) (h : Head) (g : Port → Port) : (s.updPort h g).dir = s.dir := rfl
@[simp] theorem State.updPort_xlt (s : State) (h : Head) (g : Port → Port) : (s.updPort h g).xlt = s.xlt := rfl
@[simp] theorem State.updPort_cap (s : State) (h : Head) (g : Port → Port) : (s.updPort h g).cap = s.cap := rfl
@[simp] theorem State.updPort_cdc (s : State) (h : Head) (g : Port → Port) : (s.updPort h g).cdc = s.cdc := rfl
@[simp] theorem State.updPort_drl (s : State) (h : Head) (g : Port → Port) : (s.updPort h g).drl = s.drl := rfl
@[simp] theorem State.updPort_chans (s : State) (h : Head) (g : Port → Port) : (s.updPort h g).chans = s.chans := rfl
@[simp] theorem State.updPort_repairs (s : State) (h : Head) (g : Port → Port) : (s.updPort h g).repairs = s.repairs := rfl
@[simp] theorem State.updPort_trm (s : State) (h : Head) (g : Port → Port) : (s.updPort h g).trm = s.trm := rfl
@[simp] theorem State.updPort_cry (s : State) (h : Head) (g : Port → Port) : (s.updPort h g).cry = s.cry := rfl
@[simp] theorem State.updPort_cmd (s : State) (h : Head) (g : Port → Port) : (s.updPort h g).cmd = s.cmd := rfl
@[simp] theorem State.updPort_doms (s : State) (h : Head) (g : Port → Port) : (s.updPort h g).doms = s.doms := rfl
@[simp] theorem State.updPort_cad (s : State) (h : Head) (g : Port → Port) : (s.updPort h g).cad = s.cad := rfl
@[simp] theorem State.updPort_hsw (s : State) (h : Head) (g : Port → Port) : (s.updPort h g).hsw = s.hsw := rfl
@[simp] theorem State.updPort_pan (s : State) (h : Head) (g : Port → Port) : (s.updPort h g).pan = s.pan := rfl
@[simp] theorem State.updPort_pmu (s : State) (h : Head) (g : Port → Port) : (s.updPort h g).pmu = s.pmu := rfl
@[simp] theorem State.updPort_mgt (s : State) (h : Head) (g : Port → Port) : (s.updPort h g).mgt = s.mgt := rfl
@[simp] theorem State.updPort_events (s : State) (h : Head) (g : Port → Port) : (s.updPort h g).events = s.events := rfl
@[simp] theorem State.updPort_nextHandle (s : State) (h : Head) (g : Port → Port) : (s.updPort h g).nextHandle = s.nextHandle := rfl
@[simp] theorem State.updPort_poisonList (s : State) (h : Head) (g : Port → Port) : (s.updPort h g).poisonList = s.poisonList := rfl

@[simp] theorem State.updChan_pending (s : State) (c : Chan) (g : Channel → Channel) : (s.updChan c g).pending = s.pending := rfl
@[simp] theorem State.updChan_free (s : State) (c : Chan) (g : Channel → Channel) : (s.updChan c g).free = s.free := rfl
@[simp] theorem State.updChan_out (s : State) (c : Chan) (g : Channel → Channel) : (s.updChan c g).out = s.out := rfl
@[simp] theorem State.updChan_now (s : State) (c : Chan) (g : Channel → Channel) : (s.updChan c g).now = s.now := rfl
@[simp] theorem State.updChan_tb (s : State) (c : Chan) (g : Channel → Channel) : (s.updChan c g).tb = s.tb := rfl
@[simp] theorem State.updChan_csr (s : State) (c : Chan) (g : Channel → Channel) : (s.updChan c g).csr = s.csr := rfl
@[simp] theorem State.updChan_latches (s : State) (c : Chan) (g : Channel → Channel) : (s.updChan c g).latches = s.latches := rfl
@[simp] theorem State.updChan_mem (s : State) (c : Chan) (g : Channel → Channel) : (s.updChan c g).mem = s.mem := rfl
@[simp] theorem State.updChan_bad (s : State) (c : Chan) (g : Channel → Channel) : (s.updChan c g).bad = s.bad := rfl
@[simp] theorem State.updChan_aon (s : State) (c : Chan) (g : Channel → Channel) : (s.updChan c g).aon = s.aon := rfl
@[simp] theorem State.updChan_ports (s : State) (c : Chan) (g : Channel → Channel) : (s.updChan c g).ports = s.ports := rfl
@[simp] theorem State.updChan_rtk (s : State) (c : Chan) (g : Channel → Channel) : (s.updChan c g).rtk = s.rtk := rfl
@[simp] theorem State.updChan_nextEntry (s : State) (c : Chan) (g : Channel → Channel) : (s.updChan c g).nextEntry = s.nextEntry := rfl
@[simp] theorem State.updChan_nc (s : State) (c : Chan) (g : Channel → Channel) : (s.updChan c g).nc = s.nc := rfl
@[simp] theorem State.updChan_dir (s : State) (c : Chan) (g : Channel → Channel) : (s.updChan c g).dir = s.dir := rfl
@[simp] theorem State.updChan_xlt (s : State) (c : Chan) (g : Channel → Channel) : (s.updChan c g).xlt = s.xlt := rfl
@[simp] theorem State.updChan_cap (s : State) (c : Chan) (g : Channel → Channel) : (s.updChan c g).cap = s.cap := rfl
@[simp] theorem State.updChan_cdc (s : State) (c : Chan) (g : Channel → Channel) : (s.updChan c g).cdc = s.cdc := rfl
@[simp] theorem State.updChan_drl (s : State) (c : Chan) (g : Channel → Channel) : (s.updChan c g).drl = s.drl := rfl
@[simp] theorem State.updChan_repairs (s : State) (c : Chan) (g : Channel → Channel) : (s.updChan c g).repairs = s.repairs := rfl
@[simp] theorem State.updChan_trm (s : State) (c : Chan) (g : Channel → Channel) : (s.updChan c g).trm = s.trm := rfl
@[simp] theorem State.updChan_cry (s : State) (c : Chan) (g : Channel → Channel) : (s.updChan c g).cry = s.cry := rfl
@[simp] theorem State.updChan_cmd (s : State) (c : Chan) (g : Channel → Channel) : (s.updChan c g).cmd = s.cmd := rfl
@[simp] theorem State.updChan_doms (s : State) (c : Chan) (g : Channel → Channel) : (s.updChan c g).doms = s.doms := rfl
@[simp] theorem State.updChan_cad (s : State) (c : Chan) (g : Channel → Channel) : (s.updChan c g).cad = s.cad := rfl
@[simp] theorem State.updChan_hsw (s : State) (c : Chan) (g : Channel → Channel) : (s.updChan c g).hsw = s.hsw := rfl
@[simp] theorem State.updChan_pan (s : State) (c : Chan) (g : Channel → Channel) : (s.updChan c g).pan = s.pan := rfl
@[simp] theorem State.updChan_pmu (s : State) (c : Chan) (g : Channel → Channel) : (s.updChan c g).pmu = s.pmu := rfl
@[simp] theorem State.updChan_mgt (s : State) (c : Chan) (g : Channel → Channel) : (s.updChan c g).mgt = s.mgt := rfl
@[simp] theorem State.updChan_events (s : State) (c : Chan) (g : Channel → Channel) : (s.updChan c g).events = s.events := rfl
@[simp] theorem State.updChan_nextHandle (s : State) (c : Chan) (g : Channel → Channel) : (s.updChan c g).nextHandle = s.nextHandle := rfl
@[simp] theorem State.updChan_poisonList (s : State) (c : Chan) (g : Channel → Channel) : (s.updChan c g).poisonList = s.poisonList := rfl

@[simp] theorem State.updDom_pending (s : State) (d : Nat) (g : Domain → Domain) : (s.updDom d g).pending = s.pending := rfl
@[simp] theorem State.updDom_free (s : State) (d : Nat) (g : Domain → Domain) : (s.updDom d g).free = s.free := rfl
@[simp] theorem State.updDom_out (s : State) (d : Nat) (g : Domain → Domain) : (s.updDom d g).out = s.out := rfl
@[simp] theorem State.updDom_now (s : State) (d : Nat) (g : Domain → Domain) : (s.updDom d g).now = s.now := rfl
@[simp] theorem State.updDom_tb (s : State) (d : Nat) (g : Domain → Domain) : (s.updDom d g).tb = s.tb := rfl
@[simp] theorem State.updDom_csr (s : State) (d : Nat) (g : Domain → Domain) : (s.updDom d g).csr = s.csr := rfl
@[simp] theorem State.updDom_latches (s : State) (d : Nat) (g : Domain → Domain) : (s.updDom d g).latches = s.latches := rfl
@[simp] theorem State.updDom_mem (s : State) (d : Nat) (g : Domain → Domain) : (s.updDom d g).mem = s.mem := rfl
@[simp] theorem State.updDom_bad (s : State) (d : Nat) (g : Domain → Domain) : (s.updDom d g).bad = s.bad := rfl
@[simp] theorem State.updDom_aon (s : State) (d : Nat) (g : Domain → Domain) : (s.updDom d g).aon = s.aon := rfl
@[simp] theorem State.updDom_ports (s : State) (d : Nat) (g : Domain → Domain) : (s.updDom d g).ports = s.ports := rfl
@[simp] theorem State.updDom_rtk (s : State) (d : Nat) (g : Domain → Domain) : (s.updDom d g).rtk = s.rtk := rfl
@[simp] theorem State.updDom_nextEntry (s : State) (d : Nat) (g : Domain → Domain) : (s.updDom d g).nextEntry = s.nextEntry := rfl
@[simp] theorem State.updDom_nc (s : State) (d : Nat) (g : Domain → Domain) : (s.updDom d g).nc = s.nc := rfl
@[simp] theorem State.updDom_dir (s : State) (d : Nat) (g : Domain → Domain) : (s.updDom d g).dir = s.dir := rfl
@[simp] theorem State.updDom_xlt (s : State) (d : Nat) (g : Domain → Domain) : (s.updDom d g).xlt = s.xlt := rfl
@[simp] theorem State.updDom_cap (s : State) (d : Nat) (g : Domain → Domain) : (s.updDom d g).cap = s.cap := rfl
@[simp] theorem State.updDom_cdc (s : State) (d : Nat) (g : Domain → Domain) : (s.updDom d g).cdc = s.cdc := rfl
@[simp] theorem State.updDom_drl (s : State) (d : Nat) (g : Domain → Domain) : (s.updDom d g).drl = s.drl := rfl
@[simp] theorem State.updDom_chans (s : State) (d : Nat) (g : Domain → Domain) : (s.updDom d g).chans = s.chans := rfl
@[simp] theorem State.updDom_repairs (s : State) (d : Nat) (g : Domain → Domain) : (s.updDom d g).repairs = s.repairs := rfl
@[simp] theorem State.updDom_trm (s : State) (d : Nat) (g : Domain → Domain) : (s.updDom d g).trm = s.trm := rfl
@[simp] theorem State.updDom_cry (s : State) (d : Nat) (g : Domain → Domain) : (s.updDom d g).cry = s.cry := rfl
@[simp] theorem State.updDom_cmd (s : State) (d : Nat) (g : Domain → Domain) : (s.updDom d g).cmd = s.cmd := rfl
@[simp] theorem State.updDom_cad (s : State) (d : Nat) (g : Domain → Domain) : (s.updDom d g).cad = s.cad := rfl
@[simp] theorem State.updDom_hsw (s : State) (d : Nat) (g : Domain → Domain) : (s.updDom d g).hsw = s.hsw := rfl
@[simp] theorem State.updDom_pan (s : State) (d : Nat) (g : Domain → Domain) : (s.updDom d g).pan = s.pan := rfl
@[simp] theorem State.updDom_pmu (s : State) (d : Nat) (g : Domain → Domain) : (s.updDom d g).pmu = s.pmu := rfl
@[simp] theorem State.updDom_mgt (s : State) (d : Nat) (g : Domain → Domain) : (s.updDom d g).mgt = s.mgt := rfl
@[simp] theorem State.updDom_events (s : State) (d : Nat) (g : Domain → Domain) : (s.updDom d g).events = s.events := rfl
@[simp] theorem State.updDom_nextHandle (s : State) (d : Nat) (g : Domain → Domain) : (s.updDom d g).nextHandle = s.nextHandle := rfl
@[simp] theorem State.updDom_poisonList (s : State) (d : Nat) (g : Domain → Domain) : (s.updDom d g).poisonList = s.poisonList := rfl

@[simp] theorem State.send_pending (s : State) (m : Msg) : (s.send m).pending = s.pending := rfl
@[simp] theorem State.send_free (s : State) (m : Msg) : (s.send m).free = s.free := rfl
@[simp] theorem State.send_now (s : State) (m : Msg) : (s.send m).now = s.now := rfl
@[simp] theorem State.send_tb (s : State) (m : Msg) : (s.send m).tb = s.tb := rfl
@[simp] theorem State.send_csr (s : State) (m : Msg) : (s.send m).csr = s.csr := rfl
@[simp] theorem State.send_latches (s : State) (m : Msg) : (s.send m).latches = s.latches := rfl
@[simp] theorem State.send_mem (s : State) (m : Msg) : (s.send m).mem = s.mem := rfl
@[simp] theorem State.send_bad (s : State) (m : Msg) : (s.send m).bad = s.bad := rfl
@[simp] theorem State.send_aon (s : State) (m : Msg) : (s.send m).aon = s.aon := rfl
@[simp] theorem State.send_ports (s : State) (m : Msg) : (s.send m).ports = s.ports := rfl
@[simp] theorem State.send_rtk (s : State) (m : Msg) : (s.send m).rtk = s.rtk := rfl
@[simp] theorem State.send_nextEntry (s : State) (m : Msg) : (s.send m).nextEntry = s.nextEntry := rfl
@[simp] theorem State.send_nc (s : State) (m : Msg) : (s.send m).nc = s.nc := rfl
@[simp] theorem State.send_dir (s : State) (m : Msg) : (s.send m).dir = s.dir := rfl
@[simp] theorem State.send_xlt (s : State) (m : Msg) : (s.send m).xlt = s.xlt := rfl
@[simp] theorem State.send_cap (s : State) (m : Msg) : (s.send m).cap = s.cap := rfl
@[simp] theorem State.send_cdc (s : State) (m : Msg) : (s.send m).cdc = s.cdc := rfl
@[simp] theorem State.send_drl (s : State) (m : Msg) : (s.send m).drl = s.drl := rfl
@[simp] theorem State.send_chans (s : State) (m : Msg) : (s.send m).chans = s.chans := rfl
@[simp] theorem State.send_repairs (s : State) (m : Msg) : (s.send m).repairs = s.repairs := rfl
@[simp] theorem State.send_trm (s : State) (m : Msg) : (s.send m).trm = s.trm := rfl
@[simp] theorem State.send_cry (s : State) (m : Msg) : (s.send m).cry = s.cry := rfl
@[simp] theorem State.send_cmd (s : State) (m : Msg) : (s.send m).cmd = s.cmd := rfl
@[simp] theorem State.send_doms (s : State) (m : Msg) : (s.send m).doms = s.doms := rfl
@[simp] theorem State.send_cad (s : State) (m : Msg) : (s.send m).cad = s.cad := rfl
@[simp] theorem State.send_hsw (s : State) (m : Msg) : (s.send m).hsw = s.hsw := rfl
@[simp] theorem State.send_pan (s : State) (m : Msg) : (s.send m).pan = s.pan := rfl
@[simp] theorem State.send_pmu (s : State) (m : Msg) : (s.send m).pmu = s.pmu := rfl
@[simp] theorem State.send_mgt (s : State) (m : Msg) : (s.send m).mgt = s.mgt := rfl
@[simp] theorem State.send_events (s : State) (m : Msg) : (s.send m).events = s.events := rfl
@[simp] theorem State.send_nextHandle (s : State) (m : Msg) : (s.send m).nextHandle = s.nextHandle := rfl
@[simp] theorem State.send_poisonList (s : State) (m : Msg) : (s.send m).poisonList = s.poisonList := rfl

@[simp] theorem State.takeFree_pending (s : State) : (s.takeFree).pending = s.pending := rfl
@[simp] theorem State.takeFree_out (s : State) : (s.takeFree).out = s.out := rfl
@[simp] theorem State.takeFree_now (s : State) : (s.takeFree).now = s.now := rfl
@[simp] theorem State.takeFree_tb (s : State) : (s.takeFree).tb = s.tb := rfl
@[simp] theorem State.takeFree_csr (s : State) : (s.takeFree).csr = s.csr := rfl
@[simp] theorem State.takeFree_latches (s : State) : (s.takeFree).latches = s.latches := rfl
@[simp] theorem State.takeFree_mem (s : State) : (s.takeFree).mem = s.mem := rfl
@[simp] theorem State.takeFree_bad (s : State) : (s.takeFree).bad = s.bad := rfl
@[simp] theorem State.takeFree_aon (s : State) : (s.takeFree).aon = s.aon := rfl
@[simp] theorem State.takeFree_ports (s : State) : (s.takeFree).ports = s.ports := rfl
@[simp] theorem State.takeFree_rtk (s : State) : (s.takeFree).rtk = s.rtk := rfl
@[simp] theorem State.takeFree_nextEntry (s : State) : (s.takeFree).nextEntry = s.nextEntry := rfl
@[simp] theorem State.takeFree_nc (s : State) : (s.takeFree).nc = s.nc := rfl
@[simp] theorem State.takeFree_dir (s : State) : (s.takeFree).dir = s.dir := rfl
@[simp] theorem State.takeFree_xlt (s : State) : (s.takeFree).xlt = s.xlt := rfl
@[simp] theorem State.takeFree_cap (s : State) : (s.takeFree).cap = s.cap := rfl
@[simp] theorem State.takeFree_cdc (s : State) : (s.takeFree).cdc = s.cdc := rfl
@[simp] theorem State.takeFree_drl (s : State) : (s.takeFree).drl = s.drl := rfl
@[simp] theorem State.takeFree_chans (s : State) : (s.takeFree).chans = s.chans := rfl
@[simp] theorem State.takeFree_repairs (s : State) : (s.takeFree).repairs = s.repairs := rfl
@[simp] theorem State.takeFree_trm (s : State) : (s.takeFree).trm = s.trm := rfl
@[simp] theorem State.takeFree_cry (s : State) : (s.takeFree).cry = s.cry := rfl
@[simp] theorem State.takeFree_cmd (s : State) : (s.takeFree).cmd = s.cmd := rfl
@[simp] theorem State.takeFree_doms (s : State) : (s.takeFree).doms = s.doms := rfl
@[simp] theorem State.takeFree_cad (s : State) : (s.takeFree).cad = s.cad := rfl
@[simp] theorem State.takeFree_hsw (s : State) : (s.takeFree).hsw = s.hsw := rfl
@[simp] theorem State.takeFree_pan (s : State) : (s.takeFree).pan = s.pan := rfl
@[simp] theorem State.takeFree_pmu (s : State) : (s.takeFree).pmu = s.pmu := rfl
@[simp] theorem State.takeFree_mgt (s : State) : (s.takeFree).mgt = s.mgt := rfl
@[simp] theorem State.takeFree_events (s : State) : (s.takeFree).events = s.events := rfl
@[simp] theorem State.takeFree_nextHandle (s : State) : (s.takeFree).nextHandle = s.nextHandle := rfl
@[simp] theorem State.takeFree_poisonList (s : State) : (s.takeFree).poisonList = s.poisonList := rfl

@[simp] theorem State.count_pending (s : State) (g i n : Nat) (u : Option Nat) : (s.count g i n u).pending = s.pending := rfl
@[simp] theorem State.count_free (s : State) (g i n : Nat) (u : Option Nat) : (s.count g i n u).free = s.free := rfl
@[simp] theorem State.count_out (s : State) (g i n : Nat) (u : Option Nat) : (s.count g i n u).out = s.out := rfl
@[simp] theorem State.count_now (s : State) (g i n : Nat) (u : Option Nat) : (s.count g i n u).now = s.now := rfl
@[simp] theorem State.count_tb (s : State) (g i n : Nat) (u : Option Nat) : (s.count g i n u).tb = s.tb := rfl
@[simp] theorem State.count_csr (s : State) (g i n : Nat) (u : Option Nat) : (s.count g i n u).csr = s.csr := rfl
@[simp] theorem State.count_latches (s : State) (g i n : Nat) (u : Option Nat) : (s.count g i n u).latches = s.latches := rfl
@[simp] theorem State.count_mem (s : State) (g i n : Nat) (u : Option Nat) : (s.count g i n u).mem = s.mem := rfl
@[simp] theorem State.count_bad (s : State) (g i n : Nat) (u : Option Nat) : (s.count g i n u).bad = s.bad := rfl
@[simp] theorem State.count_aon (s : State) (g i n : Nat) (u : Option Nat) : (s.count g i n u).aon = s.aon := rfl
@[simp] theorem State.count_ports (s : State) (g i n : Nat) (u : Option Nat) : (s.count g i n u).ports = s.ports := rfl
@[simp] theorem State.count_rtk (s : State) (g i n : Nat) (u : Option Nat) : (s.count g i n u).rtk = s.rtk := rfl
@[simp] theorem State.count_nextEntry (s : State) (g i n : Nat) (u : Option Nat) : (s.count g i n u).nextEntry = s.nextEntry := rfl
@[simp] theorem State.count_nc (s : State) (g i n : Nat) (u : Option Nat) : (s.count g i n u).nc = s.nc := rfl
@[simp] theorem State.count_dir (s : State) (g i n : Nat) (u : Option Nat) : (s.count g i n u).dir = s.dir := rfl
@[simp] theorem State.count_xlt (s : State) (g i n : Nat) (u : Option Nat) : (s.count g i n u).xlt = s.xlt := rfl
@[simp] theorem State.count_cap (s : State) (g i n : Nat) (u : Option Nat) : (s.count g i n u).cap = s.cap := rfl
@[simp] theorem State.count_cdc (s : State) (g i n : Nat) (u : Option Nat) : (s.count g i n u).cdc = s.cdc := rfl
@[simp] theorem State.count_drl (s : State) (g i n : Nat) (u : Option Nat) : (s.count g i n u).drl = s.drl := rfl
@[simp] theorem State.count_chans (s : State) (g i n : Nat) (u : Option Nat) : (s.count g i n u).chans = s.chans := rfl
@[simp] theorem State.count_repairs (s : State) (g i n : Nat) (u : Option Nat) : (s.count g i n u).repairs = s.repairs := rfl
@[simp] theorem State.count_trm (s : State) (g i n : Nat) (u : Option Nat) : (s.count g i n u).trm = s.trm := rfl
@[simp] theorem State.count_cry (s : State) (g i n : Nat) (u : Option Nat) : (s.count g i n u).cry = s.cry := rfl
@[simp] theorem State.count_cmd (s : State) (g i n : Nat) (u : Option Nat) : (s.count g i n u).cmd = s.cmd := rfl
@[simp] theorem State.count_doms (s : State) (g i n : Nat) (u : Option Nat) : (s.count g i n u).doms = s.doms := rfl
@[simp] theorem State.count_cad (s : State) (g i n : Nat) (u : Option Nat) : (s.count g i n u).cad = s.cad := rfl
@[simp] theorem State.count_hsw (s : State) (g i n : Nat) (u : Option Nat) : (s.count g i n u).hsw = s.hsw := rfl
@[simp] theorem State.count_pan (s : State) (g i n : Nat) (u : Option Nat) : (s.count g i n u).pan = s.pan := rfl
@[simp] theorem State.count_mgt (s : State) (g i n : Nat) (u : Option Nat) : (s.count g i n u).mgt = s.mgt := rfl
@[simp] theorem State.count_events (s : State) (g i n : Nat) (u : Option Nat) : (s.count g i n u).events = s.events := rfl
@[simp] theorem State.count_nextHandle (s : State) (g i n : Nat) (u : Option Nat) : (s.count g i n u).nextHandle = s.nextHandle := rfl
@[simp] theorem State.count_poisonList (s : State) (g i n : Nat) (u : Option Nat) : (s.count g i n u).poisonList = s.poisonList := rfl

@[simp] theorem State.countPort_pending (s : State) (g : Nat) (h : Head) (k n : Nat) : (s.countPort g h k n).pending = s.pending := rfl
@[simp] theorem State.countPort_free (s : State) (g : Nat) (h : Head) (k n : Nat) : (s.countPort g h k n).free = s.free := rfl
@[simp] theorem State.countPort_out (s : State) (g : Nat) (h : Head) (k n : Nat) : (s.countPort g h k n).out = s.out := rfl
@[simp] theorem State.countPort_now (s : State) (g : Nat) (h : Head) (k n : Nat) : (s.countPort g h k n).now = s.now := rfl
@[simp] theorem State.countPort_tb (s : State) (g : Nat) (h : Head) (k n : Nat) : (s.countPort g h k n).tb = s.tb := rfl
@[simp] theorem State.countPort_csr (s : State) (g : Nat) (h : Head) (k n : Nat) : (s.countPort g h k n).csr = s.csr := rfl
@[simp] theorem State.countPort_latches (s : State) (g : Nat) (h : Head) (k n : Nat) : (s.countPort g h k n).latches = s.latches := rfl
@[simp] theorem State.countPort_mem (s : State) (g : Nat) (h : Head) (k n : Nat) : (s.countPort g h k n).mem = s.mem := rfl
@[simp] theorem State.countPort_bad (s : State) (g : Nat) (h : Head) (k n : Nat) : (s.countPort g h k n).bad = s.bad := rfl
@[simp] theorem State.countPort_aon (s : State) (g : Nat) (h : Head) (k n : Nat) : (s.countPort g h k n).aon = s.aon := rfl
@[simp] theorem State.countPort_ports (s : State) (g : Nat) (h : Head) (k n : Nat) : (s.countPort g h k n).ports = s.ports := rfl
@[simp] theorem State.countPort_rtk (s : State) (g : Nat) (h : Head) (k n : Nat) : (s.countPort g h k n).rtk = s.rtk := rfl
@[simp] theorem State.countPort_nextEntry (s : State) (g : Nat) (h : Head) (k n : Nat) : (s.countPort g h k n).nextEntry = s.nextEntry := rfl
@[simp] theorem State.countPort_nc (s : State) (g : Nat) (h : Head) (k n : Nat) : (s.countPort g h k n).nc = s.nc := rfl
@[simp] theorem State.countPort_dir (s : State) (g : Nat) (h : Head) (k n : Nat) : (s.countPort g h k n).dir = s.dir := rfl
@[simp] theorem State.countPort_xlt (s : State) (g : Nat) (h : Head) (k n : Nat) : (s.countPort g h k n).xlt = s.xlt := rfl
@[simp] theorem State.countPort_cap (s : State) (g : Nat) (h : Head) (k n : Nat) : (s.countPort g h k n).cap = s.cap := rfl
@[simp] theorem State.countPort_cdc (s : State) (g : Nat) (h : Head) (k n : Nat) : (s.countPort g h k n).cdc = s.cdc := rfl
@[simp] theorem State.countPort_drl (s : State) (g : Nat) (h : Head) (k n : Nat) : (s.countPort g h k n).drl = s.drl := rfl
@[simp] theorem State.countPort_chans (s : State) (g : Nat) (h : Head) (k n : Nat) : (s.countPort g h k n).chans = s.chans := rfl
@[simp] theorem State.countPort_repairs (s : State) (g : Nat) (h : Head) (k n : Nat) : (s.countPort g h k n).repairs = s.repairs := rfl
@[simp] theorem State.countPort_trm (s : State) (g : Nat) (h : Head) (k n : Nat) : (s.countPort g h k n).trm = s.trm := rfl
@[simp] theorem State.countPort_cry (s : State) (g : Nat) (h : Head) (k n : Nat) : (s.countPort g h k n).cry = s.cry := rfl
@[simp] theorem State.countPort_cmd (s : State) (g : Nat) (h : Head) (k n : Nat) : (s.countPort g h k n).cmd = s.cmd := rfl
@[simp] theorem State.countPort_doms (s : State) (g : Nat) (h : Head) (k n : Nat) : (s.countPort g h k n).doms = s.doms := rfl
@[simp] theorem State.countPort_cad (s : State) (g : Nat) (h : Head) (k n : Nat) : (s.countPort g h k n).cad = s.cad := rfl
@[simp] theorem State.countPort_hsw (s : State) (g : Nat) (h : Head) (k n : Nat) : (s.countPort g h k n).hsw = s.hsw := rfl
@[simp] theorem State.countPort_pan (s : State) (g : Nat) (h : Head) (k n : Nat) : (s.countPort g h k n).pan = s.pan := rfl
@[simp] theorem State.countPort_mgt (s : State) (g : Nat) (h : Head) (k n : Nat) : (s.countPort g h k n).mgt = s.mgt := rfl
@[simp] theorem State.countPort_events (s : State) (g : Nat) (h : Head) (k n : Nat) : (s.countPort g h k n).events = s.events := rfl
@[simp] theorem State.countPort_nextHandle (s : State) (g : Nat) (h : Head) (k n : Nat) : (s.countPort g h k n).nextHandle = s.nextHandle := rfl
@[simp] theorem State.countPort_poisonList (s : State) (g : Nat) (h : Head) (k n : Nat) : (s.countPort g h k n).poisonList = s.poisonList := rfl

end Sys2Proof.Machine
end

