-- ==== Sys2Proof/Laws/Regs.lean ====
section
/-! SUPPORT. Laws of registers and their fields, and of ports, channels, domains and counters: what is read after a named update. -/

namespace Sys2Proof.Machine

/-! ## Words -/

theorem State.word_setWord (s : State) (off o : Nat) (w : Word) : (s.setWord off w).word o = if o = off then w else s.word o := by
  unfold State.word State.setWord
  by_cases h : w = resetWord off
  · simp only [h, if_true, Tbl.look_del]; split <;> simp_all
  · simp only [h, if_false, Tbl.look_put]; split <;> simp_all

@[simp] theorem State.word_setWord_self (s : State) (off : Nat) (w : Word) : (s.setWord off w).word off = w := by simp [State.word_setWord]

theorem State.word_setWord_ne (s : State) {off o : Nat} (w : Word) (h : o ≠ off) : (s.setWord off w).word o = s.word o := by
  simp [State.word_setWord, h]

theorem State.word_setF (s : State) (x : Fld) (v o : Nat) :
    (s.setF x v).word o = if o = x.off then putField (s.word x.off) x.hi x.lo v else s.word o := State.word_setWord s x.off o _

theorem State.word_setF_ne (s : State) (x : Fld) (v : Nat) {o : Nat} (h : o ≠ x.off) : (s.setF x v).word o = s.word o := by
  simp [State.word_setF, h]

/-- A word depends on the register file alone. -/
theorem State.word_congr {s t : State} (h : t.csr = s.csr) (o : Nat) : t.word o = s.word o := by simp [State.word, h]

theorem State.f_congr {s t : State} (h : t.csr = s.csr) (x : Fld) : t.f x = s.f x := by simp [State.f, State.word_congr h]

theorem State.fb_congr {s t : State} (h : t.csr = s.csr) (x : Fld) : t.fb x = s.fb x := by simp [State.fb, State.word_congr h]

theorem State.fbit_congr {s t : State} (h : t.csr = s.csr) (x : Fld) (i : Nat) : t.fbit x i = s.fbit x i := by simp [State.fbit, State.word_congr h]

theorem State.sorted_setWord (s : State) (off : Nat) (w : Word) (h : s.csr.sorted = true) : (s.setWord off w).csr.sorted = true := by
  unfold State.setWord; dsimp only
  split
  · exact Tbl.sorted_del _ _ h
  · exact Tbl.sorted_put _ _ _ h

theorem State.sorted_setF (s : State) (x : Fld) (v : Nat) (h : s.csr.sorted = true) : (s.setF x v).csr.sorted = true := State.sorted_setWord s _ _ h

/-! ## Bits of a field -/

theorem getLsbD_fieldMask (hi lo i : Nat) (h : hi < 32) (hl : lo ≤ hi) : (fieldMask hi lo).getLsbD i = (decide (lo ≤ i) && decide (i ≤ hi)) := by
  unfold fieldMask
  rw [BitVec.getLsbD_shiftLeft, BitVec.getLsbD_ofNat, Nat.testBit_two_pow_sub_one]
  by_cases h1 : lo ≤ i <;> by_cases h2 : i ≤ hi <;> simp [h1, h2] <;> omega

theorem getLsbD_putField (w : Word) (hi lo v i : Nat) (h : hi < 32) (hl : lo ≤ hi) (hi32 : i < 32) :
    (putField w hi lo v).getLsbD i = if lo ≤ i ∧ i ≤ hi then v.testBit (i - lo) else w.getLsbD i := by
  unfold putField
  simp only [BitVec.getLsbD_or, BitVec.getLsbD_and, BitVec.getLsbD_not, getLsbD_fieldMask hi lo i h hl, BitVec.getLsbD_shiftLeft, BitVec.getLsbD_ofNat, hi32]
  by_cases h1 : lo ≤ i <;> by_cases h2 : i ≤ hi <;> simp [h1, h2]
  have a : ¬ i < lo := by omega
  have b : i - lo < 32 := by omega
  simp [a, b]

/-- The bits of a field. -/
theorem State.testBit_f (s : State) (x : Fld) (i : Nat) :
    (s.f x).testBit i = (decide (i < x.hi - x.lo + 1) && (s.word x.off).getLsbD (x.lo + i)) := by
  unfold State.f
  rw [Nat.testBit_mod_two_pow, ← BitVec.getLsbD, BitVec.getLsbD_ushiftRight]

theorem State.f_setF_self (s : State) (x : Fld) (v : Nat) (h : x.hi < 32) (hl : x.lo ≤ x.hi) : (s.setF x v).f x = v % 2 ^ (x.hi - x.lo + 1) := by
  apply Nat.eq_of_testBit_eq
  intro i
  rw [State.testBit_f, Nat.testBit_mod_two_pow, State.word_setF, if_pos rfl]
  by_cases hi : i < x.hi - x.lo + 1
  · rw [getLsbD_putField _ _ _ _ _ h hl (by omega), if_pos (by omega)]
    simp [hi]
  · simp [hi]

/-- A field of another register, or of other bits of the same register, is as it was. -/
theorem State.f_setF_ne (s : State) (x y : Fld) (v : Nat) (hx : x.hi < 32) (hxl : x.lo ≤ x.hi) (hy : y.hi < 32) (hyl : y.lo ≤ y.hi)
    (h : y.off ≠ x.off ∨ y.hi < x.lo ∨ x.hi < y.lo) : (s.setF x v).f y = s.f y := by
  apply Nat.eq_of_testBit_eq
  intro i
  rw [State.testBit_f, State.testBit_f, State.word_setF]
  by_cases hi : i < y.hi - y.lo + 1
  · simp only [hi, decide_true, Bool.true_and]
    split
    · rename_i ho
      rw [getLsbD_putField _ _ _ _ _ hx hxl (by omega), if_neg (by omega), ho]
    · rfl
  · simp [hi]

theorem State.fb_setF (s : State) (x y : Fld) (v : Nat) (hx : x.hi < 32) (hxl : x.lo ≤ x.hi) (hy : y.lo < 32) :
    (s.setF x v).fb y = if y.off = x.off ∧ x.lo ≤ y.lo ∧ y.lo ≤ x.hi then v.testBit (y.lo - x.lo) else s.fb y := by
  unfold State.fb
  rw [State.word_setF]
  by_cases ho : y.off = x.off
  · rw [if_pos ho, getLsbD_putField _ _ _ _ _ hx hxl hy, ho]
    simp
  · simp [ho]

/-- A flag that has been set reads set. -/
theorem State.fb_flag_self (s : State) (x : Fld) (hx : x.hi < 32) (hxl : x.lo ≤ x.hi) : (s.flag x).fb x = true := by
  unfold State.flag
  rw [State.fb_setF s x x 1 hx hxl (by omega)]
  simp [hxl]

theorem State.fb_flag_ne (s : State) (x y : Fld) (hx : x.hi < 32) (hxl : x.lo ≤ x.hi) (hy : y.lo < 32)
    (h : y.off ≠ x.off ∨ y.lo < x.lo ∨ x.hi < y.lo) : (s.flag x).fb y = s.fb y := by
  unfold State.flag
  rw [State.fb_setF s x y 1 hx hxl hy, if_neg (by omega)]

/-! ## Ports, channels and domains -/

theorem State.port_updPort (s : State) (h k : Head) (g : Port → Port) : (s.updPort h g).port k = if k = h then g (s.port h) else s.port k := by
  have := Tbl.look_set_getD Port.reset s.ports h.val k.val (g (s.port h))
  simp only [State.port, State.updPort] at *
  rw [this]
  simp [Fin.ext_iff]

@[simp] theorem State.port_updPort_self (s : State) (h : Head) (g : Port → Port) : (s.updPort h g).port h = g (s.port h) := by
  simp [State.port_updPort]

theorem State.port_updPort_ne (s : State) {h k : Head} (g : Port → Port) (e : k ≠ h) : (s.updPort h g).port k = s.port k := by
  simp [State.port_updPort, e]

theorem State.port_congr {s t : State} (h : t.ports = s.ports) (k : Head) : t.port k = s.port k := by simp [State.port, h]

theorem State.chan_updChan (s : State) (c d : Chan) (g : Channel → Channel) : (s.updChan c g).chan d = if d = c then g (s.chan c) else s.chan d := by
  have := Tbl.look_set_getD Channel.reset s.chans c.val d.val (g (s.chan c))
  simp only [State.chan, State.updChan] at *
  rw [this]
  simp [Fin.ext_iff]

@[simp] theorem State.chan_updChan_self (s : State) (c : Chan) (g : Channel → Channel) : (s.updChan c g).chan c = g (s.chan c) := by
  simp [State.chan_updChan]

theorem State.chan_congr {s t : State} (h : t.chans = s.chans) (k : Chan) : t.chan k = s.chan k := by simp [State.chan, h]

theorem State.dom_updDom (s : State) (d j : Nat) (g : Domain → Domain) : (s.updDom d g).dom j = if j = d then g (s.dom d) else s.dom j := by
  have := Tbl.look_set_getD Domain.reset s.doms d j (g (s.dom d))
  simp only [State.dom, State.updDom] at *
  rw [this]

@[simp] theorem State.dom_updDom_self (s : State) (d : Nat) (g : Domain → Domain) : (s.updDom d g).dom d = g (s.dom d) := by
  simp [State.dom_updDom]

theorem State.dom_congr {s t : State} (h : t.doms = s.doms) (k : Nat) : t.dom k = s.dom k := by simp [State.dom, h]

/-! ## What reads one part of the state sees only that part -/

@[simp] theorem State.port_setF (s : State) (x : Fld) (v : Nat) (h : Head) : (s.setF x v).port h = s.port h := rfl
@[simp] theorem State.port_setWord (s : State) (o : Nat) (w : Word) (h : Head) : (s.setWord o w).port h = s.port h := rfl
@[simp] theorem State.port_flag (s : State) (x : Fld) (h : Head) : (s.flag x).port h = s.port h := rfl
@[simp] theorem State.port_setBit (s : State) (x : Fld) (i : Nat) (b : Bool) (h : Head) : (s.setBit x i b).port h = s.port h := rfl
@[simp] theorem State.port_count (s : State) (g i n : Nat) (u : Option Nat) (h : Head) : (s.count g i n u).port h = s.port h := rfl
@[simp] theorem State.port_countPort (s : State) (g : Nat) (h : Head) (i n : Nat) (k : Head) : (s.countPort g h i n).port k = s.port k := rfl
@[simp] theorem State.port_send (s : State) (m : Msg) (h : Head) : (s.send m).port h = s.port h := rfl
@[simp] theorem State.port_updDom (s : State) (d : Nat) (g : Domain → Domain) (h : Head) : (s.updDom d g).port h = s.port h := rfl
@[simp] theorem State.port_updChan (s : State) (d : Chan) (g : Channel → Channel) (h : Head) : (s.updChan d g).port h = s.port h := rfl
@[simp] theorem State.word_count (s : State) (g i n : Nat) (u : Option Nat) (o : Nat) : (s.count g i n u).word o = s.word o := rfl
@[simp] theorem State.word_countPort (s : State) (g : Nat) (h : Head) (i n : Nat) (o : Nat) : (s.countPort g h i n).word o = s.word o := rfl
@[simp] theorem State.word_send (s : State) (m : Msg) (o : Nat) : (s.send m).word o = s.word o := rfl
@[simp] theorem State.word_updPort (s : State) (h : Head) (g : Port → Port) (o : Nat) : (s.updPort h g).word o = s.word o := rfl
@[simp] theorem State.word_updChan (s : State) (c : Chan) (g : Channel → Channel) (o : Nat) : (s.updChan c g).word o = s.word o := rfl
@[simp] theorem State.word_updDom (s : State) (d : Nat) (g : Domain → Domain) (o : Nat) : (s.updDom d g).word o = s.word o := rfl
@[simp] theorem State.word_takeFree (s : State) (o : Nat) : s.takeFree.word o = s.word o := rfl
@[simp] theorem State.f_count (s : State) (g i n : Nat) (u : Option Nat) (x : Fld) : (s.count g i n u).f x = s.f x := rfl
@[simp] theorem State.fb_count (s : State) (g i n : Nat) (u : Option Nat) (x : Fld) : (s.count g i n u).fb x = s.fb x := rfl
@[simp] theorem State.f_send (s : State) (m : Msg) (x : Fld) : (s.send m).f x = s.f x := rfl
@[simp] theorem State.fb_send (s : State) (m : Msg) (x : Fld) : (s.send m).fb x = s.fb x := rfl
@[simp] theorem State.f_updPort (s : State) (h : Head) (g : Port → Port) (x : Fld) : (s.updPort h g).f x = s.f x := rfl
@[simp] theorem State.fb_updPort (s : State) (h : Head) (g : Port → Port) (x : Fld) : (s.updPort h g).fb x = s.fb x := rfl
@[simp] theorem State.f_updChan (s : State) (c : Chan) (g : Channel → Channel) (x : Fld) : (s.updChan c g).f x = s.f x := rfl
@[simp] theorem State.fb_updChan (s : State) (c : Chan) (g : Channel → Channel) (x : Fld) : (s.updChan c g).fb x = s.fb x := rfl
@[simp] theorem State.f_updDom (s : State) (d : Nat) (g : Domain → Domain) (x : Fld) : (s.updDom d g).f x = s.f x := rfl
@[simp] theorem State.fb_updDom (s : State) (d : Nat) (g : Domain → Domain) (x : Fld) : (s.updDom d g).fb x = s.fb x := rfl
@[simp] theorem State.chan_setF (s : State) (x : Fld) (v : Nat) (c : Chan) : (s.setF x v).chan c = s.chan c := rfl
@[simp] theorem State.chan_flag (s : State) (x : Fld) (c : Chan) : (s.flag x).chan c = s.chan c := rfl
@[simp] theorem State.chan_setBit (s : State) (x : Fld) (i : Nat) (b : Bool) (c : Chan) : (s.setBit x i b).chan c = s.chan c := rfl
@[simp] theorem State.chan_count (s : State) (g i n : Nat) (u : Option Nat) (c : Chan) : (s.count g i n u).chan c = s.chan c := rfl
@[simp] theorem State.chan_updDom (s : State) (d : Nat) (g : Domain → Domain) (c : Chan) : (s.updDom d g).chan c = s.chan c := rfl
@[simp] theorem State.dom_setF (s : State) (x : Fld) (v : Nat) (d : Nat) : (s.setF x v).dom d = s.dom d := rfl
@[simp] theorem State.dom_flag (s : State) (x : Fld) (d : Nat) : (s.flag x).dom d = s.dom d := rfl
@[simp] theorem State.dom_count (s : State) (g i n : Nat) (u : Option Nat) (d : Nat) : (s.count g i n u).dom d = s.dom d := rfl
@[simp] theorem State.dom_updPort (s : State) (h : Head) (g : Port → Port) (d : Nat) : (s.updPort h g).dom d = s.dom d := rfl
@[simp] theorem State.dom_updChan (s : State) (c : Chan) (g : Channel → Channel) (d : Nat) : (s.updChan c g).dom d = s.dom d := rfl

/-! ## Counters -/

/-- Counting changes nothing but the monitor. -/
theorem State.count_frame (s : State) (g i n : Nat) (u : Option Nat) : { s.count g i n u with pmu := s.pmu } = s := rfl

theorem State.get_count (s : State) (g i n : Nat) (u : Option Nat) (k : Nat) :
    (s.count g i n u).pmu.always.get Counter.zero k =
      if k = pmuKey g i then (s.pmu.always.get Counter.zero k).add n else s.pmu.always.get Counter.zero k := by
  have := Tbl.get_set Counter.zero s.pmu.always (pmuKey g i) k ((s.pmu.always.get Counter.zero (pmuKey g i)).add n)
  show (Tbl.set Counter.zero s.pmu.always (pmuKey g i) _).get Counter.zero k = _
  rw [this]
  split
  · rename_i h; rw [h]
  · rfl

end Sys2Proof.Machine
end

