-- ==== Sys2Proof/Laws/Records.lean ====
section
/-! SUPPORT. What the operations that leave records can do: interrupts, event records, Pannier records, platform events, the end of a command. Each says once what may change. -/
namespace Sys2Proof.Machine

theorem Noted.refl (s : State) : Noted s s := ⟨rfl, fun _ => rfl⟩

theorem Noted.trans {s t u : State} (h1 : Noted s t) (h2 : Noted t u) : Noted s u := by
  refine ⟨(congrArg (fun x : State => { x with csr := s.csr, pmu := s.pmu, pan := s.pan, events := s.events, nextHandle := s.nextHandle, out := s.out, free := s.free, ports := s.ports, cmd := { x.cmd with heldMsix := s.cmd.heldMsix } }) h2.1).trans h1.1, fun h => ?_⟩
  exact (congrArg (fun x : Port => { x with msixPend := (s.port h).msixPend, lastEvt := (s.port h).lastEvt }) (h2.2 h)).trans (h1.2 h)

/-- An interrupt sets a pending bit, is sent, or is held (R350, R352). -/
theorem State.msix_noted (s : State) (h : Head) (v : Nat) : Noted s (s.msix h v) := by
  unfold State.msix
  dsimp only
  split
  · refine ⟨rfl, fun k => ?_⟩
    by_cases hk : k = h
    · subst hk; simp
    · simp [State.port_updPort_ne _ _ hk]
  · split
    · exact ⟨rfl, fun k => rfl⟩
    · exact ⟨rfl, fun k => rfl⟩

/-- An interrupt leaves the registers and the Pannier as they were. -/
theorem State.msix_csr (s : State) (h : Head) (v : Nat) : (s.msix h v).csr = s.csr ∧ (s.msix h v).pan = s.pan ∧ (s.msix h v).events = s.events ∧ (s.msix h v).free = s.free := by
  unfold State.msix
  dsimp only
  split
  · exact ⟨rfl, rfl, rfl, rfl⟩
  · split <;> exact ⟨rfl, rfl, rfl, rfl⟩

/-- One event record: it is added last with the next handle, and its vector signalled (R33, R469). -/
theorem State.event1_noted (s : State) (h : Head) (l : EventLog) (c : Cause) (a : Nat) (b : Bool) (sl : Option (Fin 16)) :
    Noted s (s.event1 h l c a b sl) ∧ (s.event1 h l c a b sl).csr = s.csr ∧ (s.event1 h l c a b sl).pan = s.pan ∧ (s.event1 h l c a b sl).free = s.free ∧
    (s.event1 h l c a b sl).events = s.events ++ [⟨h, l, c, a, s.tb, s.nextHandle, b, sl⟩] := by
  unfold State.event1
  dsimp only
  split
  · exact ⟨⟨rfl, fun _ => rfl⟩, rfl, rfl, rfl, rfl⟩
  · rename_i v hv
    obtain ⟨h1, h2, h3, h4⟩ := State.msix_csr { s with events := s.events ++ [⟨h, l, c, a, s.tb, s.nextHandle, b, sl⟩], nextHandle := s.nextHandle + 1 } h v.val
    have hn : Noted s { s with events := s.events ++ [⟨h, l, c, a, s.tb, s.nextHandle, b, sl⟩], nextHandle := s.nextHandle + 1 } := ⟨rfl, fun _ => rfl⟩
    exact ⟨hn.trans (State.msix_noted _ _ _), h1, h2, h4, h3⟩

/-- Event records on a list of heads: the log grows, and the registers, the Pannier and the free values stay. -/
theorem State.event_noted (hs : List Head) (l : EventLog) (c : Cause) (a : Nat) (b : Bool) (sl : Option (Fin 16)) :
    ∀ s : State, Noted s (s.event hs l c a b sl) ∧ (s.event hs l c a b sl).csr = s.csr ∧ (s.event hs l c a b sl).pan = s.pan ∧ (s.event hs l c a b sl).free = s.free ∧
      s.events <+: (s.event hs l c a b sl).events ∧ (s.event hs l c a b sl).events.length = s.events.length + hs.length := by
  unfold State.event
  induction hs with
  | nil => exact fun s => ⟨Noted.refl s, rfl, rfl, rfl, List.prefix_refl _, rfl⟩
  | cons h hs ih =>
    intro s
    obtain ⟨a1, a2, a3, a4, a5⟩ := State.event1_noted s h l c a b sl
    obtain ⟨b1, b2, b3, b4, b5, b6⟩ := ih (s.event1 h l c a b sl)
    refine ⟨a1.trans b1, b2.trans a2, b3.trans a3, b4.trans a4, List.IsPrefix.trans ⟨_, a5.symm⟩ b5, ?_⟩
    simp only [List.foldl_cons]
    rw [b6, a5]
    simp
    omega

/-- The start of a programming changes only the Pannier and PIN_FULL (R422). -/
theorem State.panStart_frame (s : State) : { s.panStart with pan := s.pan, csr := s.csr } = s := by
  unfold State.panStart
  split
  · rfl
  · split
    · rfl
    · dsimp only
      split <;> split <;> rfl

theorem State.panDrop_frame (s : State) (r : PanRec) : { s.panDrop r with pan := s.pan, csr := s.csr, pmu := s.pmu } = s := rfl

/-- A record put into the queue changes only the Pannier and PIN_FULL (R424). -/
theorem State.panPut_frame (s : State) (r : PanRec) : { s.panPut r with pan := s.pan, csr := s.csr, pmu := s.pmu } = s := by
  unfold State.panPut
  exact congrArg (fun x : State => { x with pan := s.pan, csr := s.csr, pmu := s.pmu })
    (State.panStart_frame { s with pan := { s.pan with queue := panInsert s.pan.queue { r with seq := s.pan.seq }, seq := s.pan.seq + 1 } })

/-- A DROPPED record that is due changes only the Pannier and PIN_FULL (R426). -/
theorem State.dropReport_frame (s : State) : { s.dropReport with pan := s.pan, csr := s.csr, pmu := s.pmu } = s := by
  unfold State.dropReport
  split
  · exact congrArg (fun x : State => { x with pan := s.pan, csr := s.csr, pmu := s.pmu })
      (State.panPut_frame { s with pan := { s.pan with drops := [], droppedAt := some s.now } } s.droppedRec)
  · rfl

/-- A record that enters the queue, or is dropped, changes only the Pannier, its registers and counters (R424, R426). -/
theorem State.panEnter_frame (s : State) (r : PanRec) : { s.panEnter r with pan := s.pan, csr := s.csr, pmu := s.pmu } = s := by
  have hd : { (s.panDrop r).dropReport with pan := s.pan, csr := s.csr, pmu := s.pmu } = s :=
    (congrArg (fun x : State => { x with pan := s.pan, csr := s.csr, pmu := s.pmu }) (State.dropReport_frame (s.panDrop r))).trans (State.panDrop_frame s r)
  unfold State.panEnter
  split
  · rfl
  · dsimp only
    split
    · split
      · exact State.panPut_frame s r
      · exact hd
    · split
      · exact hd
      · exact congrArg (fun x : State => { x with pan := s.pan, csr := s.csr, pmu := s.pmu })
          (State.panPut_frame { s with pan := { s.pan with tokens := s.pan.tokens - 1 } } r)

/-- A Pannier record takes one free value beside (R423). -/
theorem State.pannier_frame (s : State) (dom unit kind : Nat) (c : Cause) (sev addr addrKind reg : Nat) (cxl : Bool) :
    { s.pannier dom unit kind c sev addr addrKind reg cxl with pan := s.pan, csr := s.csr, pmu := s.pmu, free := s.free } = s := by
  exact congrArg (fun x : State => { x with pan := s.pan, csr := s.csr, pmu := s.pmu, free := s.free })
    (State.panEnter_frame s (s.panRec dom unit kind (Config.panEvent c) sev addr addrKind reg cxl (Config.panDetail s.free)))

theorem State.pannier_noted (s : State) (dom unit kind : Nat) (c : Cause) (sev addr addrKind reg : Nat) (cxl : Bool) :
    Noted s (s.pannier dom unit kind c sev addr addrKind reg cxl) := by
  have h := State.pannier_frame s dom unit kind c sev addr addrKind reg cxl
  exact ⟨congrArg (fun x : State => { x with csr := s.csr, pmu := s.pmu, pan := s.pan, events := s.events, nextHandle := s.nextHandle, out := s.out, free := s.free, ports := s.ports, cmd := { x.cmd with heldMsix := s.cmd.heldMsix } }) h, fun k => congrArg (fun x : State => { x.port k with msixPend := (s.port k).msixPend, lastEvt := (s.port k).lastEvt }) h⟩

/-- Platform events only add messages (R442). -/
theorem State.notify_frame (s old : State) : { s.notify old with out := s.out } = s := by
  have hf (f : State → Nat → State) (hstep : ∀ t i, { f t i with out := s.out } = { t with out := s.out }) (l : List Nat) :
      ∀ t : State, { l.foldl f t with out := s.out } = { t with out := s.out } := by
    induction l with
    | nil => exact fun t => rfl
    | cons a l ih => exact fun t => (ih _).trans (hstep t a)
  unfold State.notify
  split
  · rfl
  · refine hf _ (fun t i => ?_) _ s
    dsimp only
    split
    · split <;> rfl
    · rfl

end Sys2Proof.Machine
end

