-- ==== Sys2Proof/Laws/Served.lean ====
section
/-! SUPPORT. What the shared gates of commands do where they are served: the sideband, the mailbox, the services and their roles; and the end of a ring command. -/
namespace Sys2Proof.Machine

/-- Kickstand runs what it serves itself (R440, R441). -/
theorem State.kickServes_eq {s : State} (h : KickServes s) (g : State → State) : s.kickServes g = g s := by
  obtain ⟨h1, h2⟩ := h
  simp only [State.kickServes, h1, bne_iff_ne.2 h2, Bool.and_self, if_true]

/-- A control message runs while Kickstand runs. -/
theorem State.control_eq {s : State} (h : s.sbUp = true) (g : State → State) : s.control g = g s := by simp [State.control, h]

/-- A sideband message that Clandahar serves runs at once (R439). -/
theorem State.sideband_eq {s : State} (h : SidebandServes s) (i : Instr) (g : State → State) : s.sideband i g = g s := by
  obtain ⟨⟨h1, h2⟩, h3, h4⟩ := h
  simp only [State.sideband, h1, beq_eq_false_iff_ne.2 h2, h3, h4, Bool.not_true, Bool.or_self, Bool.false_eq_true, if_false, Bool.and_self, if_true]

/-- A service request that reaches an operational CRY runs (R294, R295, R314). -/
theorem State.carry_eq {s : State} {w : Via} (h : CryReached s w) (i : Instr) (g : State → State) : s.carry w i g = g s := by
  obtain ⟨h1, h2⟩ := h
  cases w with
  | sideband => simp [State.carry, State.sideband_eq h2, h1]
  | head k =>
    obtain ⟨a, b, c⟩ := h2
    simp [State.carry, h1, a, b, c]

theorem State.service_eq {s : State} {w : Via} (h : CryReached s w) {r : Role} (hr : s.hasRole w r = true) (i : Instr) (g : State → State) :
    s.service w r i g = g s := by
  simp [State.service, State.carry_eq h, hr]

/-- A service without its role is refused (R295). -/
theorem State.service_refused {s : State} {w : Via} (h : CryReached s w) {r : Role} (hr : s.hasRole w r = false) (i : Instr) (g : State → State) :
    s.service w r i g = s.svcNo w "NOT_AUTHORIZED" := by
  simp [State.service, State.carry_eq h, hr]

/-- An answer of a service adds one message and counts once. -/
theorem State.svcNo_frame (s : State) (w : Via) (why : String) :
    (s.svcNo w why).out = s.out ++ [.service w (.refused why) s.approved] ∧ { s.svcNo w why with out := s.out, pmu := s.pmu } = s := ⟨rfl, rfl⟩

theorem State.svcOk_frame (s : State) (w : Via) (r : Reply) :
    (s.svcOk w r).out = s.out ++ [.service w r s.approved] ∧ { s.svcOk w r with out := s.out, pmu := s.pmu } = s := ⟨rfl, rfl⟩

/-- A mailbox command that Clandahar serves runs at once, counted (R353). -/
theorem State.mailbox_eq {s : State} {h : Head} (hs : MailboxServes s h) (i : Instr) (g : State → State) :
    s.mailbox h i g = g (s.count 13 35 1 (some h.val)) := by
  obtain ⟨h1, h2, h3, h4, h5, h6, h7⟩ := hs
  have hr : s.rtk.any (fun r => r.head == h && r.chan == .inner) = false := by
    simp only [List.any_eq_false]
    intro r hr
    have := h4 r hr
    simp only [Bool.and_eq_true, beq_iff_eq]
    exact this
  have hf : s.mgt.held.filter (· != (h, i)) = s.mgt.held := by
    refine List.filter_eq_self.2 fun x hx => ?_
    have := h7 x hx
    simp only [bne_iff_ne, ne_eq]
    exact fun he => this (by rw [he])
  unfold State.mailbox State.readHeld
  simp [h1, h2, h3, h5, h6, hr, hf]

/-- The end of a command changes only the list of commands in progress (R337). -/
theorem State.endCmd_only (s : State) (id : Nat) (status : BitVec 8) (result : Nat) : OnlyCmds s (s.endCmd id status result) := rfl

theorem State.updCmd_only (s : State) (id : Nat) (g : Cmd → Cmd) : OnlyCmds s (s.updCmd id g) := rfl

/-- A change of one command leaves the others. -/
theorem State.updCmd_others (s : State) (id : Nat) (g : Cmd → Cmd) (hg : ∀ c, (g c).id = c.id) : OtherCmds s (s.updCmd id g) id := by
  unfold OtherCmds State.updCmd updWhere
  simp only
  induction s.cmd.cmds with
  | nil => rfl
  | cons c cs ih =>
    simp only [beq_iff_eq] at ih
    by_cases h : c.id = id
    · simp [h, hg, ih]
    · simp [h, ih]

/-- A command in progress that ends: its phase, status and result, and every other command as it was. -/
theorem State.endCmd_ended (s : State) (id : Nat) (status : BitVec 8) (result : Nat) (c : Cmd) (hc : s.cmdOf id = some c) (hp : c.phase ≠ .ended) :
    CmdEnded s (s.endCmd id status result) id status result := by
  unfold CmdEnded OtherCmds State.endCmd updWhere State.cmdOf at *
  simp only
  constructor
  · generalize s.cmd.cmds = l at hc ⊢
    induction l with
    | nil => simp at hc
    | cons a l ih =>
      by_cases h : a.id = id
      · simp only [List.find?_cons, h, beq_self_eq_true, Option.some.injEq] at hc
        subst hc
        simp [h, hp]
      · simp only [List.find?_cons, beq_eq_false_iff_ne.2 h] at hc
        simp only [List.map_cons, beq_eq_false_iff_ne.2 h, Bool.false_and, Bool.false_eq_true, if_false, List.find?_cons]
        exact ih hc
  · generalize s.cmd.cmds = l
    induction l with
    | nil => rfl
    | cons a l ih =>
      rw [List.map_cons, List.filter_cons, List.filter_cons, ih]
      by_cases h : a.id = id
      · by_cases hq : a.phase = .ended <;> simp [h, hq]
      · simp [h]

end Sys2Proof.Machine
end

