-- ==== Sys2Proof/WellFormed.lean ====
section
/-! DEFINITION. Well-formed commands: operands that a sender or the block's own hardware can give. The meanings are total; on an ill-formed command they do what their definitions say, and no claim of the spec is made of it. -/

namespace Sys2Proof

/-- What discovery can report of a channel: the codes that DRCn_POP uses (R232, R238). -/
def ChanPop.wf (p : ChanPop) : Bool := decide (p.ranks.val ≤ 1) && decide (p.stack.val ≤ 2) && decide (p.density.val ≤ 2)

/-- A round reads 28 on-die sensors and 32 DIMM places (R382). -/
def Readings.wf (r : Readings) : Bool := decide (r.die.length = 28) && decide (r.dimm.length = 32)

/-- A flit that fails its CRC names no slot of the failed half (R209). -/
def Flit.wf (f : Flit) : Bool :=
  match f.crc with
  | .good => true
  | .firstHalf => f.second.isEmpty
  | .bad => f.first.isEmpty && f.second.isEmpty

/-- Is a command well formed? -/
def Instr.wf : Instr → Bool
  | .channelTraining pops => decide (pops.length = 16) && pops.all ChanPop.wf
  | .trimmerRead sa _ _ => sa.toNat % 64 == 0
  | .participantStopped _ unit => decide (unit < 7)
  | .participantRefuse _ unit code => (decide (unit < 7) || unit == 0xFF) && code.val != 0 && decide (code.val ≤ 12)
  | .senseRound r => r.wf
  | .cadencePeriod est => decide (est.fgDev ≤ est.totDev) && decide (est.fgDram ≤ est.totDram)
  | .registerWrite w t size _ => size.val != 0 && (match w, t with | .sideband, .bar2 _ | .sideband, .bar4 _ => false | _, _ => true)
  | .pairedLowRead w bar _ size => size.val != 0 && (w != .sideband || bar == .b0)
  | .l0pHostRequest _ _ width => [1, 2, 4, 8, 16].contains width.val
  | .devloadInterval delays => decide (delays.length = 8)
  | .pannierRecordRaise r => decide (r.detail.length ≤ 204)
  | .flitReceive _ f => f.wf
  | .memRd .. | .memRdData .. | .memSpecRd .. | .memWr .. | .memWrPtl .. | .memInv .. | .memClnEvct .. | .memRdFwd .. | .memWrFwd .. | .birspI ..
  | .birspS .. | .birspE .. | .birspIBlk .. | .biConflict .. | .snoopTimeout .. | .fillDataArrival .. | .waitingRequestServed .. | .wayFreedResume ..
  | .writeBackBufferResume .. | .snoopSlotResume .. | .directorySetResume .. | .stripeGuardResume .. | .writeBack .. | .writeBackDone ..
  | .poolHoldTimeout .. | .mapReadReturn .. | .bitmapRebuildDone .. | .pageCopyEnd .. | .heldAttemptTimeout .. | .extentCopyRoundEnd ..
  | .stripeCloseTimeout .. | .offerLapse .. | .breach .. | .candidateBuilt .. | .dictReloadDone .. | .channelTrained .. | .refresh ..
  | .zqCalibration .. | .dqsOscillatorReadout .. | .readDqRecentre .. | .writeDqRecentre .. | .powerDownEntry .. | .selfRefreshEntry ..
  | .parkedEntry .. | .quietEntry .. | .rankWake .. | .alertN .. | .channelB3Timeout .. | .ecsReadout .. | .softPpr .. | .channelNoDataTimeout ..
  | .channelReturn .. | .resynchronizationDone .. | .spdmSession .. | .sessionEnd .. | .showStatus .. | .getCertificate .. | .challenge ..
  | .getMeasurements .. | .getKemKey .. | .generateSlot .. | .importSlot .. | .retireSlot .. | .destroySlot .. | .setIdePolicy .. | .selfTest ..
  | .advanceSvn .. | .zeroizeAll .. | .keyProg .. | .kSetGo .. | .ideMacFail .. | .drbgReseed .. | .xtsPeriodicTest .. | .xtsEngineFail ..
  | .jtagInstruction .. | .pldmFirmwareUpdate .. | .ringWindowEnable .. | .ringWindowDisable .. | .sqEnable .. | .sqDisable .. | .cqEnable ..
  | .cqDisable .. | .sqDoorbell .. | .cqDoorbell .. | .completionWrite .. | .nop .. | .zeroRange .. | .cloneRange .. | .pinRange .. | .unpinRange ..
  | .hintRange .. | .rekeyRange .. | .releaseRange .. | .reserve .. | .queryRange .. | .sanitize .. | .abort .. | .fence .. | .snapshotCounters ..
  | .dictRetire .. | .dictHoldTraining .. | .dictEndHold .. | .dictRunRound .. | .setPolicyCapacityContract .. | .setPolicyRegister .. | .badOpcode ..
  | .interruptModerationTimeout .. | .identify .. | .backgroundOperationStatus .. | .getEventRecords .. | .clearEventRecords ..
  | .getEventInterruptPolicy .. | .setEventInterruptPolicy .. | .getFwInfo .. | .getTimestamp .. | .setTimestamp .. | .getSupportedLogs ..
  | .getLog .. | .identifyMemoryDevice .. | .getPartitionInfo .. | .getHealthInfo .. | .getAlertConfiguration .. | .setAlertConfiguration ..
  | .getPoisonList .. | .getDynamicCapacityConfiguration .. | .getDynamicCapacityExtentList .. | .addDynamicCapacityResponse ..
  | .releaseDynamicCapacity .. | .executeDescriptor .. | .mailboxUnsupported .. | .domainEntryRequest .. | .idlePolicyTimeout .. | .stopTimeout ..
  | .domainStateReached .. | .domainWake .. | .wakeTimeout .. | .wakeDetectorPeriod .. | .thermtrip .. | .standbyGood .. | .standbyLoss ..
  | .gateTurnOn .. | .faultTimerExpiry .. | .fastTrip .. | .shortTimeout .. | .rampTimeout .. | .fetFault .. | .undervoltage .. | .overvoltage ..
  | .hswEnRelease .. | .cycle .. | .unlatch .. | .pannierSlotFetch .. | .pannierReadData .. | .pinClear .. | .generalCounterSelect .. | .ovfClear ..
  | .setupLock .. | .rtkPartitionWrite .. | .regionEntryEnable .. | .regionEntryRemove .. | .regionRemovalDone ..
  | .portBringUp .. | .linkUp .. | .linkDown .. | .portReset .. | .recoveryTimeout .. | .viral .. | .nak .. | .replayTimerExpiry ..
  | .creditReturnTimer .. | .s2mCreditWithholdTimeout .. | .laneFailure .. | .retrain .. | .l0pNarrow .. | .l0pWiden .. | .noReceiverTimeout ..
  | .phyLoop .. | .remoteLoopFollower .. | .remoteLoopLeader .. | .portLoop .. | .loopOff .. | .mainRailFault .. | .railNotGoodTimeout ..
  | .refclkLoss .. | .mgtRestart .. | .setEndpointId .. | .pldmSensorRead .. | .setEventReceiver .. | .fmSetResponseMessageLimit .. | .getHeadInfo ..
  | .getHostDcRegionConfiguration .. | .getDcRegionExtentLists .. | .fmUnsupported .. | .readRegister .. | .writeRegister .. | .readPannierSlot ..
  | .commitStep .. | .readyPoint .. | .mainRailsGood .. | .powerUpKatDone .. | .devResetRelease .. | .alertNDeassert .. | .linkRecovery ..
  | .msiXUnmask .. | .refclkReturn .. | .poolLineWriteBack .. | .heatEvent | .heatEpoch | .coldSweepVisit | .sweepLapEnd | .pressureMeasure
  | .elasticOffer | .releaseTarget | .trainingRound | .candidateWaitTimeout | .memoryReady | .trimmerLapEnd | .entropyHealthFail | .fwReadyTimeout
  | .descriptorFetch | .sentinelWake | .paceStep | .powerGood | .coolDownDischarged | .retryCountClear | .slotProgramDone | .sectorEraseDone
  | .writeTokenRefill | .pannierScanDone | .regionCheckAfterWake | .devReset | .dramRefclkLoss | .xtalLoss | .mgtWatchdog | .getEndpointId
  | .getMctpVersionSupport | .getMessageTypeSupport | .getEndpointUuid | .activateFirmware | .fmIdentify | .fmBackgroundOperationStatus
  | .fmGetResponseMessageLimit | .getMultiHeadedInfo | .getDcdInfo | .clearPinned | .deviceResetCommand | .mgtRestartCommand | .xtalStarted | .setUserRoots .. | .injectPoison .. | .clearPoison .. | .hdmDecoderCommit ..
    => true

end Sys2Proof
end

