-- ==== Sys2Proof/Tests/Slice0.lean ====
section
/-! SUPPORT. Tests of single steps, the refusals of WellFormed, and for each statement with hypotheses a state and operands that meet them, at boundary values where a clause has a range. -/

namespace Sys2Proof.Tests
set_option Elab.async false

open Sys2Proof Sys2Proof.Machine

/-! ## Small states -/

/-- A host with eight good lanes and more at 64 GT/s. -/
def host : LinkCap := ⟨true, true, 0xFFFF, 5, false, true, true, true⟩

/-- A link in L0 with CXL.mem running and one HDM decoder. -/
def link : Port := { Port.reset with
  perst := false, receiver := true, refclk := true, cap := some host, ltssm := .l0, up := true, mem := true, active := true, flit256 := true, loflit := true
  rate := 5, width := 8, txWidth := 8, rxWidth := 8, l0pHost := true, memActive := true, hdm := [(0, ⟨true, false, 0, 2 ^ 36, 1, 256⟩)]
  reqHost := 256, rwdHost := 256, freedReq := 256, sentReq := 256, freedRwd := 256, sentRwd := 256, ndr := 32, drs := 32, bisnp := 8, txSeq := 1, gcm := some true }

/-- A DIMM place pair with one rank. -/
def pop : ChanPop := { slot0 := true, slot1 := false, kind := .rdimm, x4 := true, ecc := true, ranks := 1, stack := 0, density := 0, sizeGib := 64, spdMax := some 6, uniform := true, failsAt := none, i2c := false, pmicFault := false, serial0 := 1, serial1 := 2 }

def image : FwImage := ⟨1, some 0, true, true, 77, none⟩

/-- A line that the near cache holds whole. -/
def held : NcLine := ⟨0, 0xABCD, fullMask, true, false, false, none⟩

def channel : Channel := { Channel.reset with st := .active, trained := true, pop := some pop, matched := true, rate := 4, ranks := freshRanks 2 }

/-- A device that serves its hosts: eight heads, every domain ON, one region entry of head 0, one held line. -/
def dev : State := { State.reset with
  now := 5000000000, tb := 5000000000
  csr := [(0x100808, 27392), (0x10080C, 1), (0x220004, 1), (0x220088, 0x3596E)]
  mem := [(5, 1)]
  aon := { kick := true, boot := .ready, rails := true, straps := some ⟨3, false, 0, false⟩, balls := ⟨3, false, 0, false⟩, slotA := some image, running := some image
           coRoots := [7], userRoots := [9], eid := 9 }
  ports := (List.range 8).map fun h => (h, link)
  nextEntry := 3
  nc := { lines := [(64, held)] }
  xlt := { touched := [(0, ())], ext := [(0, ⟨.mapped, 0, 0, 0, 0, 0⟩)], page := [(1, ⟨.open, 32, 0, 0, 0, 0, 0, false, 1⟩)], extCache := [(0, ⟨0, 0, 0⟩)] }
  cap := { rawMib := 524288, dirMib := 32768, usable := 899080192, frames := 939524096, chans := List.finRange 16, rankSets := 2, bankDigits := 4, rows := 32768
           runs := [(0, ⟨16, .block, true, false⟩), (32, ⟨8, .slot, true, false⟩)] }
  chans := (List.range 16).map fun c => (c, channel)
  cry := { st := .operational, slots := [(0, ⟨.active, false, 1, 2⟩)], metaKey := some 3, identity := true
           sessions := [⟨.sideband, .co⟩, ⟨.head 0, .user⟩, ⟨.head 1, .co⟩, ⟨.head 2, .none⟩] }
  doms := (List.range 58).map fun d => (d, { Domain.reset with st := .on })
  hsw := { gate := .on, pg := true }
  pan := { ready := true, tokens := 4096, seq := 2, epoch := 1 }
  mgt := { st := .running } }

/-- Before power: Kickstand runs, the gate is off. -/
def standby : State := { State.reset with now := 5000000000, aon := { kick := true, boot := .standby, eid := 3 }, pan := { ready := true, tokens := 4096 } }

/-! ## Witnesses of the statements' hypotheses -/

theorem wit_kick : KickServes dev := by unfold KickServes; decide +kernel
theorem wit_sideband : SidebandServes dev := ⟨wit_kick, by decide +kernel⟩
theorem wit_mailbox : MailboxServes dev 0 := by unfold MailboxServes; decide +kernel
theorem wit_cry : CryReached dev .sideband := ⟨by decide +kernel, wit_sideband⟩
theorem wit_cry_head (h : Head) : CryReached dev (.head h) := ⟨by decide +kernel, by revert h; decide +kernel⟩
theorem wit_on : ∀ d < 58, dev.domOn d = true := by decide +kernel

theorem wit_StepTakesFront :
    ({ dev with pending := [.powerGood] }).pending = .powerGood :: [] ∧ (standby.pending = [] ∧ standby.aon.kick = true ∧ standby.mainRuns = false) ∧
    State.reset.aon.kick = false := by decide +kernel

theorem wit_ExecKeepsQueue : ∃ t, exec .coolDownDischarged dev = .next t := ⟨_, rfl⟩

/-- Both tables full, at a step that answers a next state. -/
theorem wit_TablesBounded :
    let s : State := { standby with pending := [.powerGood], repairs := List.replicate 1024 ⟨0, 1, ⟨0, false, 0, 0, 0⟩, false⟩, trm := { lost := List.range 1024 } }
    s.repairs.length ≤ 1024 ∧ s.trm.lost.length ≤ 1024 ∧ ∃ t, step s = .next t := ⟨by decide +kernel, by decide +kernel, _, rfl⟩

theorem wit_CanonicalFormKept : Memory.wf dev.mem = true ∧ dev.csr.sorted = true ∧ ∃ t, step { dev with pending := [.coolDownDischarged] } = .next t :=
  ⟨by decide +kernel, by decide +kernel, _, rfl⟩

/-- The gate states of the trips. -/
theorem wit_GateTrips : dev.hsw.gate = .on ∧ ({ dev with hsw := { dev.hsw with gate := .ramp } }).hsw.gate = .ramp := by decide +kernel

theorem wit_GateOffsAndCell :
    dev.hsw.gate = .on ∧ dev.aon.kick = true ∧ dev.hsw.en = true ∧ dev.aon.holding = false ∧
    (standby.mayTurnOn = true ∧ 10800 ≤ 10800 ∧ 13200 ≤ 13200) ∧
    ({ standby with hsw := { gate := .ramp } } : State).hsw.gate = .ramp ∧ dev.hsw.pg = true ∧
    (let s : State := { standby with hsw := { gate := .latched } }; s.aon.kick = true ∧ s.aon.holding = false ∧ s.hsw.gate = .latched) := by decide +kernel

theorem wit_StartSteps :
    State.reset.aon.kick = false ∧ dev.aon.kick = true ∧
    (let s : State := { standby with hsw := { gate := .on, pg := true } }
     s.aon.kick = true ∧ s.hsw.pg = true ∧ s.aon.boot = .standby ∧ s.aon.inReset = false) ∧
    (let s : State := { dev with aon := { dev.aon with inReset := true } }; s.aon.inReset = true ∧ s.aon.rails = true ∧ s.aon.railFault = false) := by decide +kernel

/-- The readings just beyond both limits of each rail. -/
theorem wit_ResetsOfMainDomains :
    dev.aon.kick = true ∧ dev.aon.inReset = false ∧ dev.aon.holding = false ∧ dev.aon.eid ≠ 0 ∧ dev.hsw.pg = true ∧ dev.aon.rails = true ∧ dev.aon.railFault = false ∧
    (railLimits .core).1 - 1 < (railLimits .core).1 ∧ (railLimits .core).2 < (railLimits .core).2 + 1 := by decide +kernel

theorem wit_GenIdReads : (dev.mainRuns = true ∧ (7 : Head) ∈ dev.heads) ∧ dev.sbUp = true ∧ KickServes dev := ⟨by decide +kernel, by decide +kernel, wit_kick⟩

/-- Offset 0x100 and the last word of BAR0 hold no register. -/
theorem wit_UndefinedOffsets :
    ((0x100 : BitVec 24).toNat % 4 = 0 ∧ regAt (0x100 : BitVec 24).toNat = none ∧ cxlReg (0x100 : BitVec 24).toNat = false ∧ dev.regAnswers (.head 3) (0x100 : BitVec 24).toNat = true) ∧
    ((0xFFFFFC : BitVec 24).toNat % 4 = 0 ∧ regAt (0xFFFFFC : BitVec 24).toNat = none ∧ cxlReg (0xFFFFFC : BitVec 24).toNat = false ∧ dev.regAnswers .sideband (0xFFFFFC : BitVec 24).toNat = true) := by decide +kernel

theorem wit_LowHalfLatchesHighHalf : pairedLow (0x810000 : BitVec 24).toNat = true ∧ dev.regAnswers (.head 3) (0x810000 : BitVec 24).toNat = true := by decide +kernel

def locked : State := dev.setF Reg.GEN_SETUP_LOCK.LOCK 1

/-- A division at every lower bound, and one below the bound of TRM. -/
theorem wit_SetupRegisters :
    dev.regAnswers (.head 0) 0x8 = true ∧ dev.isOwner (.head 0) = true ∧ dev.locked = false ∧ locked.locked = true ∧ locked.isOwner (.head 0) = true ∧
    dev.isOwner (.head 1) = false ∧ dev.regAnswers (.head 1) 0x8 = true ∧ dev.regAnswers .sideband 0x24010 = true ∧ dev.isOwner .sideband = true ∧
    partOk (BitVec.ofNat 32 (1 * 2 ^ 21 + 2 * 2 ^ 14 + 2 * 2 ^ 7 + 59)) = true ∧ partOk (BitVec.ofNat 32 (2 * 2 ^ 14 + 2 * 2 ^ 7 + 60)) = false ∧
    dev.regAnswers .sideband 0x740100 = true ∧ (0x80000000 : Word).getLsbD 31 = true ∧
    ((0x47 : Word).getLsbD 31 = false ∧ ((0x47 : Word) &&& 0x7F).toNat < 72) ∧ (7 : Head) ∈ dev.heads ∧ dev.regsUp = true := by decide +kernel

/-- A device-wide register, DRL_CFG, and the CXL-defined ones. -/
theorem wit_RegisterWritesBySource :
    ((0x230000 : BitVec 24).toNat % 4 = 0 ∧ 0x200000 ≤ (0x230000 : BitVec 24).toNat ∧ (0x230000 : BitVec 24).toNat < 0x800000 ∧ (regAt (0x230000 : BitVec 24).toNat).isSome = true ∧
      dev.regAnswers (.head 1) (0x230000 : BitVec 24).toNat = true ∧ dev.isOwner (.head 1) = false) ∧
    (dev.regAnswers .sideband 0x240000 = true ∧ dev.isOwner .sideband = true ∧ dev.locked = false ∧ locked.locked = true ∧ locked.regAnswers (.head 0) 0x240000 = true ∧ locked.isOwner (.head 0) = true) ∧
    dev.regAnswers (.head 7) 0x10000 = true ∧ 4 ≤ (4 : Fin 4097).val := by decide +kernel

theorem wit_SidebandQueries : dev.sbUp = true ∧ SidebandServes dev ∧ (0 : Head) ∈ dev.heads ∧ (7 : Head) ∈ dev.heads :=
  ⟨by decide +kernel, wit_sideband, by decide +kernel, by decide +kernel⟩

/-- The first and the last low sensor of the counters, and the numbers beside the range. -/
theorem wit_PldmCommands : SidebandServes dev ∧
    (0x4000 ≤ (0x4000 : BitVec 16).toNat ∧ (0x4000 : BitVec 16).toNat ≤ 0x497F ∧ (0x4000 : BitVec 16).toNat % 2 = 0) ∧
    (0x4000 ≤ (0x497E : BitVec 16).toNat ∧ (0x497E : BitVec 16).toNat ≤ 0x497F ∧ (0x497E : BitVec 16).toNat % 2 = 0) ∧
    ((0x3FFF : BitVec 16).toNat < 0x4000 ∧ 0x497F < (0x4980 : BitVec 16).toNat) := ⟨wit_sideband, by decide +kernel⟩

def record : PanRec := ⟨1, 5, 1, 5, 2, 7, 1, 0, 0x40, 1, 0x1234, 0, [1, 2, 3]⟩

/-- Valid records in the first and the last slot, a torn one between. -/
def stored : State := { dev with pan := { dev.pan with ring := [(0, .valid record), (9, .torn), (65535, .valid record)] } }

theorem wit_SidebandVendorCommands : KickServes dev ∧
    ((0x730008 : BitVec 24).toNat % 4 = 0 ∧ aonReg (0x730008 : BitVec 24).toNat = true ∧ pairedLow (0x730008 : BitVec 24).toNat = false ∧ (0x730008 : BitVec 24).toNat ≠ 0x75001C) ∧
    (SidebandServes dev ∧ pairedLow (0 : BitVec 24).toNat = false) ∧
    (stored.pan.programming = none ∧ stored.pan.ring.look (0 : BitVec 16).toNat = some (.valid record) ∧ stored.pan.ring.look (65535 : BitVec 16).toNat = some (.valid record) ∧
      stored.pan.ring.look (1 : BitVec 16).toNat = none) := ⟨wit_kick, by decide +kernel, ⟨wit_sideband, by decide +kernel⟩, by decide +kernel⟩

def panSrc : PanSrc := ⟨5, 2, 0, 7, 1, 0x40, 1, 0x1234, [1, 2, 3]⟩

/-- One token and 55 waiting; none; a slot in progress; an erasure; a full and an empty token bucket. -/
theorem wit_PannierRecords :
    (stored.regAnswers (.head 0) 0x750018 = true ∧ stored.isOwner (.head 0) = true ∧ stored.pan.programming = none ∧ stored.pan.ring.look (9 : BitVec 16).toNat = some .torn ∧
      stored.regAnswers .sideband 0x75001C = true ∧ stored.isOwner .sideband = true ∧ viaKey (.head 1) ≠ viaKey (.head 0)) ∧
    (stored.sbUp = true ∧ stored.regAnswers (.head 0) 0x750020 = true) ∧ dev.aon.kick = true ∧ dev.aon.holding = false ∧
    PanRec.exempt (dev.panRec panSrc.domain.val panSrc.unit.toNat panSrc.kind.toNat panSrc.event panSrc.sev.val panSrc.addr.toNat panSrc.addrKind.val panSrc.regOff.toNat false panSrc.detail) = false ∧
    (let s : State := { dev with pan := { dev.pan with tokens := 1, queue := List.replicate 55 (record, false) } }; 0 < s.pan.tokens ∧ s.pan.queue.length < 56) ∧
    ({ dev with pan := { dev.pan with tokens := 0 } } : State).pan.tokens = 0 ∧
    ({ dev with pan := { dev.pan with programming := some (record, true, 65535) } } : State).pan.programming = some (record, true, 65535) ∧
    ({ dev with pan := { dev.pan with erasing := true } } : State).pan.erasing = true ∧ dev.pan.drops = [] ∧
    (let s : State := { stored with pan := { stored.pan with ready := false } }
     s.pan.ready = false ∧ (0, PanSlot.valid record) ∈ s.pan.ring ∧ record.epoch.toNat < 2 ^ 32 - 1) := by decide +kernel

theorem wit_PannierRecords_last :
    ∀ j q, (j, PanSlot.valid q) ∈ stored.pan.ring → q.epoch.toNat < 2 ^ 32 - 1 := by
  intro j q h
  have h : (j, PanSlot.valid q) = (0, .valid record) ∨ (j, PanSlot.valid q) = (9, .torn) ∨ (j, PanSlot.valid q) = (65535, .valid record) := by
    simpa [stored] using h
  rcases h with h | h | h <;> cases h <;> decide

/-- Entry 1 of head 0 with a range beside the static one; the last entry; head 1 with nothing. -/
def proposed : State := { dev with csr := [(0x100808, 100), (0x10080C, 1), (0x100810, 100), (0x100814, 100), (0x100818, 156), (0x100880, 0), (0x220004, 1), (0x220088, 256)] }

/-- Entry 1 valid as HDM-H, and valid as HDM-DB. -/
def entered (v : Word) : State := { proposed with csr := [(0x100808, 100), (0x10080C, 1), (0x100810, 100), (0x100814, 100), (0x100818, 156), (0x10081C, v), (0x220004, 1), (0x220088, 256)] }

def sleepingDir (s : State) : State := { s with doms := (List.range 58).map fun d => (d, { Domain.reset with st := if d = 44 then .ret else .on }) }

theorem wit_RegionTable :
    (proposed.mainRuns = true ∧ proposed.isOwner (.head 0) = true ∧ (0 : Head) ∈ proposed.heads ∧ proposed.locked = false) ∧
    (proposed.rgnBusy 0 1 = false ∧ (proposed.proposed 0 1 (0 ||| 1)).db = false ∧ proposed.rgnFail (proposed.proposed 0 1 (0 ||| 1)) = none) ∧
    (proposed.rgnBusy 0 8 = false ∧ proposed.dirOn = true ∧ proposed.rgnFail (proposed.proposed 0 8 (2 ||| 1)) = some 1) ∧
    ((sleepingDir proposed).rgnBusy 0 1 = false ∧ ((sleepingDir proposed).proposed 0 1 (2 ||| 1)).db = true ∧ (sleepingDir proposed).dirOn = false) ∧
    ({ proposed with dir := { removals := [(0, 1)] } } : State).rgnBusy 0 1 = true := by decide +kernel

theorem wit_RegionTable_removals :
    (let s := entered 1
     s.mainRuns = true ∧ s.isOwner .sideband = true ∧ (0 : Head) ∈ s.heads ∧ s.locked = false ∧ s.rgnBusy 0 1 = false ∧ (s.region 0 1).valid = true ∧ (s.region 0 1).origin = false ∧
     (s.region 0 1).db = false ∧ s.windowIn 0 1 = false) ∧
    (let s := entered 3
     s.rgnBusy 0 1 = false ∧ (s.region 0 1).valid = true ∧ (s.region 0 1).db = true ∧ s.heldIn 0 (s.region 0 1) = []) ∧
    (let s : State := { entered 3 with dir := { removals := [(0, 1)] } }
     ((0 : Head), (1 : Fin 9)) ∈ s.dir.removals ∧ s.heldIn 0 (s.region 0 1) = [] ∧ s.dir.snoops = [] ∧ s.windowIn 0 1 = false) ∧
    (entered 3).dirOn = true ∧ ((entered 3).mainRuns = true ∧ (7 : Head) ∈ (entered 3).heads) := by decide +kernel

/-- The window of head 0 at the last whole place of its region, and one unit further; no ring, then rings 0. -/
def windowed (rings : List (Nat × Word)) : State := { dev with csr := [(0x100808, 27392), (0x10080C, 1), (0x220004, 1), (0x220088, 0x3596E), (0x800040, 0x80000004)] ++ rings }

def ringed : State := { windowed [(0x800100, 0x80020002), (0x800200, 0x80000003)] with cmd := { sqs := [(0, ⟨0, 0⟩)], cqs := [(0, ⟨0, 0, 0, 0⟩)] } }

theorem wit_RingControl_window :
    dev.mainRuns = true ∧ (0 : Head) ∈ dev.heads ∧ dev.fb (Reg.CMD_WINh.EN.nth 0) = false ∧
    (dev.setF (Reg.CMD_WINh.BASE_2M.nth 0) 27391).windowOk 0 = true ∧ (dev.setF (Reg.CMD_WINh.BASE_2M.nth 0) 27392).windowOk 0 = false ∧
    (windowed []).fb (Reg.CMD_WINh.EN.nth 0) = true ∧ (windowed []).anyRing 0 = false ∧ ringed.fb (Reg.CMD_WINh.EN.nth 0) = true ∧ ringed.anyRing 0 = true ∧ Via.sideband ≠ Via.head 0 := by decide +kernel

theorem wit_RingControl_rings :
    (let s := windowed [(0x800200, 0x80000003)]
     s.mainRuns = true ∧ s.ringOwner 0 = 0 ∧ s.fb (Reg.CMD_WINh.EN.nth 0) = true ∧ s.sqEn 0 = false ∧
     (let u := s.setWord 0x800100 0x20002
      u.ringFits 0 (u.sqOff 0) (64 * u.sqSize 0) (some 0) none = true ∧ u.cqEn (u.sqCq 0) = true ∧ u.ringOwner (u.sqCq 0) = 0)) ∧
    (ringed.sqEn 0 = true ∧ ringed.ringOwner 0 = 0) ∧
    (let s := windowed []
     s.cqEn 0 = false ∧ (let u := s.setWord 0x800200 3; u.ringFits 0 (u.cqOff 0) (32 * u.cqSize 0) none (some 0) = true)) ∧
    (let s := windowed [(0x800200, 0x80000003)]; s.cqEn 0 = true ∧ s.cqWaits 0 = false ∧ ∀ q : Ring, s.sqEn q = true → s.sqCq q ≠ 0) ∧
    (1 : Head) ≠ 0 := by decide +kernel

def bells (cq : Bool) (n : Nat) (seen fetched : Nat) (cqs : Cq) : State := { ringed with cmd := { sqs := [(0, ⟨seen, fetched⟩)], cqs := [(0, cqs)], bells := [⟨cq, 0, n⟩] } }

/-- Counts at the ring's bound, one beyond it, and at the count seen. -/
theorem wit_Doorbells :
    (∀ n ∈ [1, ringed.sqSize 0, ringed.sqSize 0 + 1, 0],
      ((bells false n 0 0 ⟨0, 0, 0, 0⟩).takeBell false 0).map (·.1) = some n ∧ (bells false n 0 0 ⟨0, 0, 0, 0⟩).cmd.sqs.look 0 = some ⟨0, 0⟩ ∧ (bells false n 0 0 ⟨0, 0, 0, 0⟩).sqEn 0 = true) ∧
    (∀ n ∈ [1, 5, 6, 0],
      ((bells true n 0 0 ⟨0, 5, 0, 0⟩).takeBell true 0).map (·.1) = some n ∧ (bells true n 0 0 ⟨0, 5, 0, 0⟩).cmd.cqs.look 0 = some ⟨0, 5, 0, 0⟩ ∧ (bells true n 0 0 ⟨0, 5, 0, 0⟩).cqEn 0 = true) := by decide +kernel

/-! ### Commands -/

/-- Every set of the near cache is lost: writes of CMD are then taken at once. -/
def allLost (s : State) : Prop :=
  (∀ d < 58, s.domOn d = true) ∧ (∀ l, s.lineOpen l = false) ∧ (∀ l, s.hostHolds l = false) ∧ ∀ l, s.setLost l = true

theorem lem_writes (ws : List (Nat × LineData × Mask)) : ∀ s : State, allLost s → ∃ u, s.cmdWrites ws = .landed u := by
  induction ws with
  | nil => exact fun s _ => ⟨s, rfl⟩
  | cons w ws ih =>
    intro s h
    have hw : s.cmdWrite w.1 w.2.1 w.2.2 = .landed (s.touch w.1) := by
      unfold State.cmdWrite
      rw [State.engineReach_on h.1]
      simp [h.2.1, h.2.2.1, h.2.2.2]
    have ht : allLost (s.touch w.1) := by
      unfold State.touch
      split
      · exact h
      · exact h
    obtain ⟨u, hu⟩ := ih _ ht
    exact ⟨u, by unfold State.cmdWrites; simp only [hw, hu]⟩

def desc (op addr len addr2 len2 arg0 arg1 : Nat) : LineData :=
  BitVec.ofNat 512 (op + 7 * 2 ^ 32 + addr * 2 ^ 64 + len * 2 ^ 128 + addr2 * 2 ^ 192 + len2 * 2 ^ 256 + arg0 * 2 ^ 320 + arg1 * 2 ^ 384)

/-- A command of ring 0 of head 0. -/
def command (d : LineData) : Cmd := ⟨0, some 0, 0, 0, d, 0, .fetched, 0, 0, 0, 0, false, 0, 0, none, [], false, false⟩

def commanded (c : Cmd) : State := { ringed with cmd := { sqs := [(0, ⟨1, 1⟩)], cqs := [(0, ⟨0, 0, 0, 0⟩)], cmds := [c], nextCmd := 1 } }

theorem lem_starts (d : LineData) (op : Nat) (h : dOp d = op) (hm : (commanded (command d)).mayStart (command d) = true) :
    Starts (commanded (command d)) 0 op (command d) := ⟨rfl, hm, h⟩

/-- One descriptor waits in ring 0, its line held; 63 commands are in progress. -/
def fetching : State := { ringed with
  nc := { lines := [(131200, { held with data := desc 0 0 0 0 0 0 0 })] }
  cmd := { sqs := [(0, ⟨1, 0⟩)], cqs := [(0, ⟨0, 0, 0, 0⟩)], cmds := (List.range 63).map fun i => { command (desc 0 0 0 0 0 0 0) with id := i, sq := none, phase := .ended } } }

theorem wit_DescriptorFetch : ∃ u v, fetching.fb Reg.CMD_STATUS.MGT_PAUSE = false ∧ fetching.cmd.cmds.length < 64 ∧ fetching.partRoom 9 = true ∧ fetching.cry.st ≠ .error ∧
    fetching.sqTurn = some 0 ∧ fetching.window (fetching.ringOwner 0) = some (131072, 32768) ∧ fetching.cmd.sqs.look (0 : Ring).val = some ⟨1, 0⟩ ∧
    fetching.cmdRead (131072 + fetching.sqOff 0 / 64 + (⟨1, 0⟩ : Sq).fetched % fetching.sqSize 0) = (some v, u) := by
  obtain ⟨v, hv⟩ := State.cmdRead_on (s := fetching) (l := 131072 + fetching.sqOff 0 / 64 + (⟨1, 0⟩ : Sq).fetched % fetching.sqSize 0) (by decide +kernel) (by decide +kernel) (by decide +kernel)
  exact ⟨_, v, by decide +kernel, by decide +kernel, by decide +kernel, by decide +kernel, by decide +kernel, by decide +kernel, by decide +kernel, hv⟩

def ended : Cmd := { command (desc 0 0 0 0 0 0 0) with phase := .ended }

/-- The completion ring with one place free, its line held. -/
def completing : State := { ringed with
  nc := { lines := [(131264 + 7, held)] }
  cmd := { sqs := [(0, ⟨1, 1⟩)], cqs := [(0, ⟨0, 15, 1, 0⟩)], cmds := [ended], nextCmd := 1 } }

theorem wit_CompletionWritten :
    (let s := completing
     s.cmd.cmds.find? (·.id == 0) = some ended ∧ ended.phase = .ended ∧ s.targetOpen ended = false ∧ ended.discard = false ∧ ended.sq = some 0 ∧
     s.window ended.head = some (131072, 32768) ∧ s.cmd.cqs.look ended.cq.val = some ⟨0, 15, 1, 0⟩ ∧ s.cqRoom ended.cq = true) ∧
    ({ ended with discard := true }).discard = true ∧
    (let c : Cmd := { ended with sq := none }; let s := commanded c
     s.cmd.cmds.find? (·.id == 0) = some c ∧ s.targetOpen c = false ∧ c.discard = false ∧ s.releasing c = false ∧ (s.port c.head).up = true ∧ dSteps c.desc = false) ∧
    (let s : State := { completing with ports := (List.range 8).map fun h => (h, { link with msixMask := 0 }) }
     s.cmd.cqs.look (0 : Ring).val = some ⟨0, 15, 1, 0⟩ ∧ (⟨0, 15, 1, 0⟩ : Cq).unsignalled ≠ 0 ∧ (s.port (s.ringOwner 0)).up = true ∧
     (s.port (s.ringOwner 0)).msixMask.getLsbD (s.f (Reg.CMD_CQr.VEC.nth 0)) = false) := by decide +kernel

theorem wit_CompletionWritten_place : ∃ u,
    completing.cmdWrite (131072 + completing.cqOff ended.cq / 64 + (⟨0, 15, 1, 0⟩ : Cq).produced % completing.cqSize ended.cq / 2)
      (lineOf (completionBytes ended completing.tb ((⟨0, 15, 1, 0⟩ : Cq).produced / completing.cqSize ended.cq % 2 == 0) (((completing.cmd.sqs.look (0 : Ring).val).map (·.fetched)).getD 0)) <<<
        (8 * (32 * ((⟨0, 15, 1, 0⟩ : Cq).produced % completing.cqSize ended.cq % 2))))
      (0xFFFFFFFF <<< (32 * ((⟨0, 15, 1, 0⟩ : Cq).produced % completing.cqSize ended.cq % 2))) = .landed u :=
  State.cmdWrite_on (s := completing) (n := held) (by decide +kernel) (by decide +kernel) (by decide +kernel) (by decide +kernel) _ _

theorem wit_ShortCommands :
    (∀ op ∈ [0x01, 0x02, 0x03, 0x04, 0x06, 0x07, 0x08, 0x0A, 0x00, 0x10, 0xFF, 0x0B, 0x0C, 0x0E],
      let c := command (desc op 0 0x200000 0 0 0 0)
      (commanded c).cmdOf 0 = some c ∧ (commanded c).mayStart c = true ∧ dOp c.desc = op ∧ (commanded c).mgtUp = true ∧ (commanded c).partRoom 10 = true) ∧
    (let c := command (desc 0x0C 0 0 0 0 1 0); dArg0 c.desc % 2 = 1 ∧ (commanded c).cmd.cmds.takeWhile (·.id != 0) = []) ∧
    (let c := command (desc 0x0B 0 0 0 0 0 5); (commanded c).abortTarget c = none) := by decide +kernel

/-- An ABORT behind its target: one with steps left, one that has ended. -/
def aborting (ph : CmdPhase) : State := { ringed with 
  cmd := { sqs := [(0, ⟨2, 2⟩)], cqs := [(0, ⟨0, 0, 0, 0⟩)], nextCmd := 2
           cmds := [{ command (desc 1 0 4096 0 0 0 0) with phase := ph }, { command (desc 0x0B 0 0 0 0 0 7) with id := 1 }] } }

theorem wit_ShortCommands_abort :
    (let s := aborting .running; let c : Cmd := { command (desc 0x0B 0 0 0 0 0 7) with id := 1 }
     s.cmdOf 1 = some c ∧ s.mayStart c = true ∧ dOp c.desc = 0x0B ∧ (s.abortTarget c).map (·.stepsLeft) = some true) ∧
    (let s := aborting .ended; let c : Cmd := { command (desc 0x0B 0 0 0 0 0 7) with id := 1 }
     s.cmdOf 1 = some c ∧ s.mayStart c = true ∧ (s.abortTarget c).map (·.stepsLeft) = some false) := by decide +kernel

/-- DICT_TRAIN of each kind, slot 15 FREE and ACTIVE. -/
theorem wit_ShortCommands_dict :
    (∀ k ∈ [1, 2, 3, 4], let c := command (desc 0x0E 0 0x8000 0 0 k 15)
      dOp c.desc = 0x0E ∧ dArg0 c.desc = k ∧ (commanded c).mayStart c = true ∧ c.abort = false ∧ (commanded c).cdc.hold = false ∧ (commanded c).cdc.asked = none ∧
      (commanded c).fb Reg.CDC_CFG.TRAIN_EN = true) ∧
    (let c := command (desc 0x0E 0 0 0 0 1 15)
     ((commanded c).dict (dArg1 c.desc % 16)).state ≠ .active ∧
     ({ commanded c with cdc := { dicts := [(15, ⟨.active, 0, 100, 5, 0, false, false⟩)] } }.dict (dArg1 c.desc % 16)).state = .active ∧
     (commanded c).cdc.train.st ≠ .waiting) := by decide +kernel

/-- ZERO_RANGE of the last page of extent 8, which is DIRECT, with one step left. -/
def zeroing : State := { commanded { command (desc 1 0x11FF000 4096 0 0 0 0) with phase := .running, base := 4607 } with
  xlt := { touched := [(8, ())], ext := [(8, ⟨.direct, 0, 2, 7, 0, 0⟩)], extCache := [(8, ⟨0, 0, 7⟩)] }, nc := {} }

theorem wit_CommitStepZeroes :
    (let s := zeroing; let c : Cmd := { command (desc 1 0x11FF000 4096 0 0 0 0) with phase := .running, base := 4607 }
     s.cmdOf 0 = some c ∧ s.stepping c = true ∧ dOp c.desc = 1 ∧ c.abort = false ∧ c.next < c.steps ∧ s.inWay ((c.base + c.next) / 512) = .clear ∧
     (s.extRec ((c.base + c.next) / 512)).mode = .direct ∧ s.nc.lines = [] ∧ s.nc.wbb = [] ∧ s.nc.fills = [] ∧ s.rtk = []) ∧
    (∀ op ∈ [1, 2, 3, 4, 6, 7, 8], let c : Cmd := { command (desc op 0 0x200000 0 0 0 0) with phase := .running, next := 512, made := 3 }
     (commanded c).cmdOf 0 = some c ∧ (commanded c).stepping c = true ∧ dOp c.desc = op ∧ c.steps ≤ c.next) := by decide +kernel

theorem wit_CommitStepZeroes_ready : zeroing.stepClear (pageLine (4607 + 0)) 64 = (true, zeroing) := by
  have hd : zeroing.stepDomains (pageLine (4607 + 0)) 64 = [48 + (Config.xltSlice (extOf (pageLine (4607 + 0)))).val] := rfl
  have hon : ∀ d < 58, zeroing.domOn d = true := by decide +kernel
  have h := (Config.xltSlice (extOf (pageLine (4607 + 0)))).isLt
  have hl : zeroing.lineDb (pageLine (4607 + 0)) = false := by decide +kernel
  have hr : zeroing.stepReady (pageLine (4607 + 0)) 64 = (true, zeroing) := by
    unfold State.stepReady
    rw [hd]
    simp [hon _ (show 48 + (Config.xltSlice (extOf (pageLine (4607 + 0)))).val < 58 by omega)]
  have hu : zeroing.unmade (pageLine (4607 + 0)) 64 = false := by decide +kernel
  unfold State.stepClear
  rw [hr]
  simp [hl, hu]

/-- Kind 0x01 at both ends of its range, and kind 0x02 with an offset that is refused and one that is taken. -/
theorem wit_PolicyCommands :
    (∀ a ∈ [0, 65535], let c := command (desc 0x0F 0 0 0 0 1 a); (commanded c).mayStart c = true ∧ dArg0 c.desc % 256 = 1 ∧ dArg1 c.desc % 65536 = a) ∧
    (let c := command (desc 0x0F (0x800040 + 3 * 2 ^ 32) 3 0 0 2 0)
     (commanded c).mayStart c = true ∧ dArg0 c.desc % 256 = 2 ∧ ∃ x ∈ policyEntries c.desc, x.2.1 ≠ 0 ∧ policyOffset x.1 = false) ∧
    (let c := command (desc 0x0F (0x240000 + 3 * 2 ^ 32) 3 0 0 2 0)
     (commanded c).mayStart c = true ∧ dArg0 c.desc % 256 = 2 ∧ policyEntries c.desc = [(0x240000, 3, 3), (0, 0, 0), (0, 0, 0)] ∧ (3 : Word) ≠ 0) := by decide +kernel

@[irreducible] def lostSets : List Nat := List.range 65536

def lostAll (c : Cmd) : State := { commanded c with nc := { lost := lostSets } }

theorem lem_range (n : Nat) (h : n < 65536) : (List.range 65536).contains n = true := by
  rw [List.contains_iff_mem, List.mem_range]
  exact h

theorem lem_setKey (l : Nat) : setKey l < 65536 := by
  have h1 := (slice l).isLt
  have h2 := (Config.ncSet l).isLt
  unfold setKey
  omega

theorem lem_lostAll_lost (c : Cmd) : (lostAll c).nc.lost = lostSets := rfl

theorem lem_lostAll_sets (c : Cmd) (l : Nat) : (lostAll c).setLost l = true := by
  unfold State.setLost
  rw [lem_lostAll_lost c]
  unfold lostSets
  exact lem_range _ (lem_setKey l)

theorem lem_lostAll_open (c : Cmd) (l : Nat) : (lostAll c).lineOpen l = false := by
  have h1 : (lostAll c).rtk = [] := rfl
  unfold State.lineOpen
  rw [h1]
  rfl

theorem lem_lostAll_held (c : Cmd) (l : Nat) : (lostAll c).hostHolds l = false := by
  have h1 : (lostAll c).dir = {} := rfl
  unfold State.hostHolds
  rw [h1]
  rfl

theorem lem_lostAll_on (c : Cmd) : ∀ d < 58, (lostAll c).domOn d = true := by
  have h1 : (lostAll c).doms = dev.doms := rfl
  intro d h
  have := wit_on d h
  unfold State.domOn State.dom at this ⊢
  rw [h1]
  exact this

theorem lem_lostAll (c : Cmd) : allLost (lostAll c) := ⟨lem_lostAll_on c, lem_lostAll_open c, lem_lostAll_held c, lem_lostAll_sets c⟩

/-- A buffer that holds the answer exactly, and one that is a byte short. -/
theorem wit_CommandsWithOutput :
    (∀ op ∈ [5, 9, 0x0D], let c := command (desc op 0 0x4000 0x200000 1280 3 0)
      (lostAll c).cmdOf 0 = some c ∧ dOp c.desc = op ∧ (lostAll c).mgtUp = true ∧ ((lostAll c).rangeIn c.head (dAddr2 c.desc) (dLen2 c.desc)).isSome = true) ∧
    (let c := command (desc 5 0 0x4000 0 0 0 0); ({ commanded c with xlt := {} }).xlt.ext = []) ∧
    (let c := command (desc 0x0D 0 0 0x200000 1280 3 0); 64 + 608 * ((lostAll c).snapGroups c).length = dLen2 c.desc) ∧
    (let c := command (desc 0x0D 0 0 0x200000 1279 3 0); dLen2 c.desc < 64 + 608 * ((lostAll c).snapGroups c).length) := by decide +kernel

theorem wit_CommandsWithOutput_landed (c : Cmd) (ws : List (Nat × LineData × Mask)) : ∃ u, (lostAll c).cmdWrites ws = .landed u := lem_writes ws _ (lem_lostAll c)

/-! ### Mailboxes -/

def record1 : EventRec := ⟨0, .warning, .breach, 0x40, 5, 1, false, none⟩

def logged : State := { dev with events := [record1, { record1 with handle := 2, log := .fatal }] }

theorem wit_mailbox_logged : MailboxServes logged 0 := by unfold MailboxServes; decide +kernel

/-- An opcode beside the supported ones; handles that the log holds and one that it does not. -/
theorem wit_MailboxReports : MailboxServes dev 0 ∧ (0xFFFF : BitVec 16).toNat ∉ mailboxOps ∧ MailboxServes logged 0 ∧
    (∀ n ∈ [1], ∃ r ∈ logged.events, r.head = 0 ∧ r.log = .warning ∧ r.handle = n) ∧ (∀ r ∈ logged.events, ¬(r.head = 0 ∧ r.log = .warning ∧ r.handle = 3)) ∧
    (0 : Head) = dev.owner ∧ (1 : Head) ≠ dev.owner ∧ SidebandServes dev :=
  ⟨wit_mailbox, by decide +kernel, wit_mailbox_logged, by decide +kernel, by decide +kernel, by decide +kernel, by decide +kernel, wit_sideband⟩

theorem wit_holds : NcHolds dev 64 held :=
  ⟨by decide +kernel, by decide +kernel, by decide +kernel, fun d hd => wit_on d (lineDomains_lt _ _ d hd), by decide +kernel, by rfl, by decide +kernel⟩

theorem wit_region : dev.regionAt 0 0x1000 = some (dev.region 0 0) ∧ (dev.region 0 0).dpa 0x1000 / 64 = 64 ∧ (dev.region 0 0).db = false := by decide +kernel

/-- The line's first byte, an address within it, and one beyond the head's capacity. -/
theorem wit_MailboxPoison : MailboxServes dev 0 ∧ (0x1001 : BitVec 46).toNat % 64 ≠ 0 ∧ dev.regionAt 0 (BitVec.ofNat 46 (27392 * 2 ^ 21)).toNat = none ∧
    (0x1000 : BitVec 46).toNat % 64 = 0 ∧ dev.regionAt 0 (0x1000 : BitVec 46).toNat = some (dev.region 0 0) ∧ NcHolds dev ((dev.region 0 0).dpa (0x1000 : BitVec 46).toNat / 64) held ∧
    (dev.region 0 0).db = false ∧ dev.level ≠ 3 ∧ dev.partRoom 9 = true ∧ (dev.port 0).loopWait = false :=
  ⟨wit_mailbox, by decide +kernel, by decide +kernel, by decide +kernel, by decide +kernel,
    (show (dev.region 0 0).dpa (0x1000 : BitVec 46).toNat / 64 = 64 by decide +kernel) ▸ wit_holds, by decide +kernel, by decide +kernel, by decide +kernel, by decide +kernel⟩

/-- An offer that ends at the top of the offerable space of the head. -/
def offer1 : Offer := ⟨1, 33521664, 100000, 32768, 0⟩

def offered : State := { dev with ports := (List.range 8).map fun h => (h, { link with offer := if h = 0 then some offer1 else none, elasticMax := 4, accepted := true }) }

theorem wit_mailbox_offered : MailboxServes offered 0 := by unfold MailboxServes; decide +kernel

/-- Head 0 holds an elastic extent. -/
def elastic : State := { dev with csr := [(0x100808, 27392), (0x10080C, 1), (0x100810, 30000), (0x100814, 219136), (0x100818, 32768), (0x10081C, 5), (0x220004, 1), (0x220088, 0x3596E)] }

def extent1 : BitVec 46 × BitVec 46 := (BitVec.ofNat 46 (30000 * 2 ^ 21), BitVec.ofNat 46 (32768 * 2 ^ 21))

theorem wit_mailbox_elastic : MailboxServes elastic 0 := by unfold MailboxServes; decide +kernel

theorem wit_MailboxDynamicCapacity :
    (MailboxServes offered 0 ∧ (offered.port 0).offer = some offer1 ∧ offered.offerFits 0 offer1 = true ∧ offer1.hbase < 2 ^ 25 ∧ offer1.dbase < 2 ^ 25 ∧ offer1.size < 2 ^ 25 ∧ offer1.e ≠ 0) ∧
    (MailboxServes dev 0 ∧ (dev.port 0).offer = none) ∧
    (MailboxServes elastic 0 ∧ elastic.bgBusy 0 = false ∧ [extent1] ≠ [] ∧ elastic.wholeExtent 0 extent1 = true ∧ distinct [extent1] = [extent1]) ∧
    elastic.wholeExtent 0 (0, 0x200000) = false :=
  ⟨⟨wit_mailbox_offered, by decide +kernel⟩, ⟨wit_mailbox, by decide +kernel⟩, ⟨wit_mailbox_elastic, by decide +kernel⟩, by decide +kernel⟩

def busyBg : State := { dev with ports := (List.range 8).map fun h => (h, { link with bg := some ⟨true, 0x4803, 0⟩ }) }

theorem wit_mailbox_busy : MailboxServes busyBg 0 := by unfold MailboxServes; decide +kernel

/-- Descriptors without steps, one that the checks end, and one with steps. -/
theorem wit_MailboxDynamicCapacity_descriptors :
    (MailboxServes dev 0 ∧ dSteps (desc 0 0 0 0 0 0 0) = false ∧ (dev.fetchFails 0 (desc 1 1 4096 0 0 0 0) true).isSome = true) ∧
    (dSteps (desc 1 0 4096 0 0 0 0) = true ∧ dev.fetchFails 0 (desc 1 0 4096 0 0 0 0) true = none ∧ dev.bgBusy 0 = false) ∧
    (MailboxServes busyBg 0 ∧ busyBg.fetchFails 0 (desc 1 0 4096 0 0 0 0) true = none ∧ busyBg.bgBusy 0 = true) :=
  ⟨⟨wit_mailbox, by decide +kernel⟩, by decide +kernel, wit_mailbox_busy, by decide +kernel⟩

/-! ### CRY, MGT -/

theorem wit_CryOpenServices : CryReached dev .sideband ∧ CryReached dev (.head 7) ∧ dev.roleOf (some 7) = some .co ∧ dev.roleOf (some 9) = some .user ∧ dev.roleOf none = some .none ∧
    dev.roleOf (some 8) = none ∧ ({ dev with cry := { dev.cry with zeroized := true } }).cry.zeroized = true ∧ dev.cry.zeroized = false :=
  ⟨wit_cry, wit_cry_head 7, by decide +kernel, by decide +kernel, by decide +kernel, by decide +kernel, by decide +kernel, by decide +kernel⟩

/-- Slot 0 is ACTIVE and used by the region; slot 6 ACTIVE and free; slot 7 RETIRING; the last slot EMPTY. -/
def slots : State := { dev with cry := { dev.cry with slots := [(0, ⟨.active, false, 1, 2⟩), (6, ⟨.active, true, 3, 4⟩), (7, ⟨.retiring, false, 5, 6⟩)] } }

theorem wit_cry_slots : CryReached slots .sideband := ⟨by decide +kernel, ⟨by unfold KickServes; decide +kernel, by decide +kernel⟩⟩

theorem wit_CryUserServices : CryReached slots .sideband ∧ slots.hasRole .sideband .user = true ∧
    ((slots.keySlot 1023).st = .empty ∧ (⟨0, 1023, true, 1, 2⟩ : Wrapped).kemGen = slots.cry.kemGen ∧ (⟨0, 1023, true, 1, 2⟩ : Wrapped).dataKey ≠ (⟨0, 1023, true, 1, 2⟩ : Wrapped).tweakKey) ∧
    (∀ x ∈ [(⟨1, 1023, true, 1, 2⟩ : Wrapped), ⟨0, 1022, true, 1, 2⟩, ⟨0, 1023, false, 1, 2⟩, ⟨0, 1023, true, 1, 1⟩], x.kemGen ≠ slots.cry.kemGen ∨ x.slot ≠ 1023 ∨ x.tagOk = false ∨ x.dataKey = x.tweakKey) ∧
    ((slots.keySlot 6).st = .active ∧ slots.slotRegions 6 = 0) ∧ ((slots.keySlot 0).st = .active ∧ slots.slotRegions 0 ≠ 0) ∧
    ((slots.keySlot 7).st ≠ .empty ∧ slots.slotFree 7 = true) ∧ ((slots.keySlot 0).st ≠ .empty ∧ slots.slotFree 0 = false) ∧
    slots.hasRole (.head 2) .user = false := ⟨wit_cry_slots, by decide +kernel⟩

theorem wit_CryOfficerServices : CryReached dev .sideband ∧ dev.hasRole .sideband .co = true ∧ ([1, 2, 3, 4] : List (BitVec 384)).length ≤ 4 ∧ dev.aon.pendingFw = false ∧
    dev.aon.running = some image ∧ ({ dev with aon := { dev.aon with pendingFw := true } }).aon.pendingFw = true ∧ CryReached dev (.head 0) ∧ dev.hasRole (.head 0) .co = false :=
  ⟨wit_cry, by decide +kernel, by decide +kernel, by decide +kernel, by decide +kernel, by decide +kernel, wit_cry_head 0, by decide +kernel⟩

/-- A protected link with K0 of one direction loaded. -/
def keyed : State := { dev with ports := (List.range 8).map fun h => (h, { link with ioRx := ⟨some (5, false), none, false, true⟩ }) }

/-- The same in Recovery. -/
def recovering : State := { dev with ports := (List.range 8).map fun h => (h, { link with ltssm := .recovery, ioRx := ⟨some (5, false), none, false, true⟩ }) }

theorem wit_IdeKeys : CryReached keyed (.head 0) ∧ keyed.ideAllowed 0 = true ∧ (keyed.port 0).gcm ≠ some false ∧ ((keyed.port 0).ideDir .io true).k0 ≠ none ∧ (keyed.port 0).gcm = some true ∧
    ((keyed.port 0).ltssm ≠ .recovery ∧ (recovering.port 0).ltssm = .recovery ∧ ((recovering.port 0).ideDir .io true).k0 ≠ none ∧ (recovering.port 0).gcm = some true ∧ recovering.ideAllowed 0 = true) ∧
    CryReached recovering (.head 0) ∧ (keyed.port 0).ioRx.go = true ∧ CryReached dev (.head 3) ∧ dev.ideAllowed 3 = false :=
  ⟨⟨by decide +kernel, by decide +kernel⟩, by decide +kernel, by decide +kernel, by decide +kernel, by decide +kernel, by decide +kernel, ⟨by decide +kernel, by decide +kernel⟩, by decide +kernel, wit_cry_head 3,
    by decide +kernel⟩

/-- The entropy failure a second ago, and one less than a second ago. -/
def entropy (t : Nat) : State := { dev with cry := { dev.cry with entropyAt := [t] } }

theorem wit_CrySelfTests :
    (let s : State := { dev with aon := { dev.aon with boot := .rails }, cry := { st := .selfTest } }
     s.aon.boot = .rails ∧ s.cry.st = .selfTest ∧ s.aon.inReset = false ∧ s.aon.railFault = false) ∧
    dev.mainRuns = true ∧ dev.cry.st ≠ .error ∧ (∀ a ∈ (entropy 4000000000).cry.entropyAt, a + 1000000000 ≤ (entropy 4000000000).now) ∧
    (4000000001 ∈ (entropy 4000000001).cry.entropyAt ∧ (entropy 4000000001).now < 4000000001 + 1000000000) ∧ dev.cry.st = .operational ∧
    (∀ e ∈ [(0 : Fin 17), 15], e.val < 16 ∧ dev.fbit Reg.XTS_STATUS.ENGINE_OOS e.val = false) ∧ dev.fb Reg.XTS_STATUS.SPARE_ACTIVE = false ∧ dev.fb Reg.XTS_STATUS.SPARE_FAIL = false := by
  decide +kernel

def booting : State := { dev with mgt := { st := .booting }, aon := { dev.aon with trying := true, pendingFw := true } }

/-- With the active slot's image good, and with none. -/
theorem wit_FirmwareImages : SidebandServes dev ∧ dev.imageOk image true = true ∧ dev.imageOk { image with vkey := none } true = false ∧
    (booting.mgt.st = .booting ∧ booting.mainRuns = true ∧ booting.domOn 1 = true ∧ booting.mgt.held = [] ∧ booting.mgt.heldSb = [] ∧ booting.aon.trying = true ∧
      booting.bootSlot true true = some (false, image) ∧ booting.bootSlot false false = none) ∧
    KickServes dev ∧ dev.hsw.pg = true ∧ dev.mgt.st ≠ .reset ∧ dev.mgt.st = .running :=
  ⟨wit_sideband, by decide +kernel, by decide +kernel, by decide +kernel, wit_kick, by decide +kernel⟩

/-! ### Ports -/

def ported (f : Port → Port) : State := { dev with ports := (List.range 8).map fun h => (h, f link) }

def portsDown (w : Option LinkCap) : State := ported fun _ => { Port.reset with perst := false, waiting := w }

/-- One good lane, 64 GT/s with and without equalization; no receiver; no REFCLK; a port that waits. -/
theorem wit_PortTraining :
    (let s := portsDown none
     (7 : Head) ∈ s.heads ∧ s.portsHeld = false ∧ (s.port 7).up = false ∧ s.mainRuns = true ∧ s.domOn 11 = true ∧ s.loopDown 7 = false ∧
     ∀ c ∈ [{ host with goodLanes := 1 }, { host with eq64Fails := true }, { host with hostRate := 0 }], c.refclk = true ∧ c.receiver = true ∧ linkWidth (s.tandem 7) (c.goodLanes &&& (s.port 7).goodLanes) ≠ 0) ∧
    (let s := ported fun _ => { Port.reset with perst := false, resetSeen := true, eqFailed := true }; (s.port 7).resetSeen = true ∧ (s.port 7).eqFailed = true) ∧
    ({ host with receiver := false }).receiver = false ∧ ({ host with refclk := false }).refclk = false ∧
    ({ portsDown none with mgt := {}, aon := { dev.aon with boot := .standby } }).mainRuns = false ∧
    (let s := (portsDown none).updDom 11 fun d => { d with st := .ret }; s.mainRuns = true ∧ s.domOn 11 = false) ∧
    (let s := portsDown (some host); (s.port 0).waiting = some host ∧ s.mainRuns = true ∧ s.domOn 4 = true ∧ s.loopDown 0 = false ∧ linkWidth (s.tandem 0) (host.goodLanes &&& (s.port 0).goodLanes) ≠ 0) := by decide +kernel

theorem wit_LinkUpCredits :
    let s := ported fun p => { p with active := false, resetSeen := true }
    (s.port 0).up = true ∧ (s.port 0).active = false ∧ (s.port 0).mem = true ∧ (s.port 0).ltssm = .l0 ∧ (∀ x ∈ s.cmd.heldMsix, x.1 ≠ 0) ∧ (s.port 0).resetSeen = true := by decide +kernel

theorem wit_LinkDownEvents : (dev.port 0).up = true ∧ (dev.port 0).goodLanes ≠ 0 ∧ ((ported fun p => { p with ltssm := .recovery }).port 0).ltssm = .recovery ∧ dev.mainRuns = true ∧ (0 : Head) ∈ dev.heads := by
  decide +kernel

/-- A LANE_FAILURE that leaves one lane, and one that leaves four. -/
theorem wit_RecoveryLanesL0p :
    (dev.port 0).up = true ∧ (dev.port 0).ltssm = .l0 ∧ dev.mainRuns = true ∧ dev.mayWritePort (.head 0) 0 = true ∧ dev.mayWritePort (.head 1) 0 = false ∧
    (∀ b : Bool, let s := ported fun p => { p with ltssm := .recovery, replayDue := b, replay := [⟨1, 2, 3, 0, none, none⟩, ⟨2, 0, 0, 2, none, none⟩] }
      (s.port 0).ltssm = .recovery ∧ (s.port 0).goDue = [] ∧ (s.port 0).replayDue = b ∧ ∀ x ∈ (s.port 0).replay, x.replays < 3) ∧
    ((dev.port 0).goodLanes &&& 1 ≠ (dev.port 0).goodLanes ∧ 0 < min (dev.port 0).width (linkWidth (dev.tandem 0) ((dev.port 0).goodLanes &&& 1)) ∧
      min (dev.port 0).width (linkWidth (dev.tandem 0) ((dev.port 0).goodLanes &&& 1)) < (dev.port 0).width) ∧
    ((dev.port 0).goodLanes &&& 0xF ≠ (dev.port 0).goodLanes ∧ 0 < min (dev.port 0).width (linkWidth (dev.tandem 0) ((dev.port 0).goodLanes &&& 0xF)) ∧
      min (dev.port 0).width (linkWidth (dev.tandem 0) ((dev.port 0).goodLanes &&& 0xF)) < (dev.port 0).width) := by decide +kernel

theorem wit_RecoveryLanesL0p_widths :
    dev.l0pOk 0 = true ∧ ((1 : Fin 17).val ∈ [1, 2, 4, 8, 16] ∧ (1 : Fin 17).val ≤ (dev.port 0).width) ∧ ((8 : Fin 17).val ∈ [1, 2, 4, 8, 16] ∧ (8 : Fin 17).val ≤ (dev.port 0).width) ∧
    ((dev.port 0).l0pAfter ≤ dev.now ∧ dev.l0pMin 0 ≤ (dev.port 0).txWidth / 2 ∧ 0 < (dev.port 0).txWidth / 2) ∧
    (let s := ported fun p => { p with txWidth := 4 }; s.l0pOk 0 = true ∧ (s.port 0).txWidth < (s.port 0).width ∧ (s.port 0).l0pAfter ≤ s.now ∧ s.cad.stage = 0) := by decide +kernel

def flitted (seq : Nat) : State := ported fun p => { p with rxSeq := seq, replay := [⟨1, 2, 3, 0, none, none⟩, ⟨2, 0, 0, 2, none, none⟩] }

/-- The expected number, the numbers on both sides of it, and a bad flit. -/
theorem wit_Flits :
    (let s := flitted 5
     (s.port 0).up = true ∧ (s.port 0).ltssm = .l0 ∧ (s.port 0).rxSeq = 5 ∧ (s.port 0).halfDone = none ∧ (s.port 0).acks = [] ∧ (s.port 0).ready = [] ∧ (s.port 0).ideContain = false ∧
     (∀ q ∈ s.dir.snoops, ¬(q.host = 0 ∧ q.sent = false)) ∧ (4 < (s.port 0).rxSeq) ∧ ((s.port 0).rxSeq < 6) ∧ ∀ x ∈ (s.port 0).replay, x.replays < 3) ∧
    (⟨5, .good, false, [.credits ⟨1, 2, 3⟩], [.message]⟩ : Flit).fecFixed = false ∧ (⟨5, .bad, false, [], []⟩ : Flit).crc = .bad := by decide +kernel

def owing (pace : Nat) : State := (ported fun p => { p with freedReq := 261, freedRwd := 259 }).setF Reg.CAD_PACE.PACE pace

def starving : State := ported fun p => { p with acks := [3] }

/-- PACE 100 and 99. -/
theorem wit_CreditReturn :
    (let s := owing 100
     (s.port 0).active = true ∧ (s.port 0).ltssm = .l0 ∧ (s.port 0).txRoom = true ∧ 100 ≤ s.f Reg.CAD_PACE.PACE ∧ s.rwdHeld 0 = false ∧
     ((s.port 0).freedReq - (s.port 0).sentReq).toNat = 5 ∧ ((s.port 0).freedRwd - (s.port 0).sentRwd).toNat = 3) ∧
    (owing 99).f Reg.CAD_PACE.PACE < 100 ∧ starving.starved 0 = true := by decide +kernel

/-- Whatever the size of a flit's field, the sum lies in the range. -/
theorem wit_CreditReturn_field : min 5 fieldMax + min 3 fieldMax < 2 ^ 32 ∧ 0 < min 5 fieldMax + min 3 fieldMax := by
  unfold fieldMax
  omega

/-- A level below the head's DevLoad for the seventh and the eighth interval, and one not below. -/
theorem wit_DevLoadMoves : dev.mainRuns = true ∧ (0 : Head) ∈ dev.heads ∧
    (∀ n ∈ [6, 7], let s := ported fun p => { p with devload := 2, dlBelow := n }
      max (max (occLevel s.dldWords.1 (s.port 0).occPeak (2 * s.linkCredits 0)) (dlyLevel s.dldWords.2 none)) s.devFloor < (s.port 0).devload.toNat) ∧
    (dev.port 0).devload.toNat ≤ max (max (occLevel dev.dldWords.1 (dev.port 0).occPeak (2 * dev.linkCredits 0)) (dlyLevel dev.dldWords.2 none)) dev.devFloor := by decide +kernel

theorem wit_TestLoops : dev.mainRuns = true ∧ dev.isOwner .sideband = true ∧ (∀ r ∈ dev.rtk, r.head ≠ 0) ∧
    (dev.setF (Reg.PRTn_TEST_CTL.LOOP.nth 0) 4).f (Reg.PRTn_TEST_CTL.LOOP.nth 0) = 4 ∧ dev.isOwner (.head 3) = false := by decide +kernel

/-! ### Host requests and coherence -/

/-- The requests of the statements: at the first byte of the held line, the last byte of it, and through head 0. -/
theorem wit_HostRequestsHdmH : HostReady dev 0 (0x1000 : BitVec 52).toNat 0x1000 (dev.region 0 0) ∧ HostReady dev 0 (0x103F : BitVec 52).toNat 0x103F (dev.region 0 0) ∧ (dev.region 0 0).db = false ∧
    NcHolds dev ((dev.region 0 0).dpa 0x1000 / 64) held ∧ NcHolds dev ((dev.region 0 0).dpa 0x103F / 64) held ∧ (dev.port 0).ndr ≠ 0 ∧ (dev.port 0).drs ≠ 0 ∧ held.poison = false ∧ dev.level ≠ 3 ∧ (1 : Mask) ≠ 0 :=
  ⟨by unfold HostReady; decide +kernel, by unfold HostReady; decide +kernel, by decide +kernel, (show (dev.region 0 0).dpa 0x1000 / 64 = 64 by decide +kernel) ▸ wit_holds,
    (show (dev.region 0 0).dpa 0x103F / 64 = 64 by decide +kernel) ▸ wit_holds, by decide +kernel, by decide +kernel, by decide +kernel, by decide +kernel, by decide +kernel⟩

theorem wit_HostRequestsHdmH_tag : TagFree dev 0 5 := fun q hq => by simp [dev, State.reset] at hq

/-- A line of a DIRECT extent that the near cache does not hold. -/
def uncached : State := { dev with
  xlt := { touched := [(8, ())], ext := [(8, ⟨.direct, 0, 2, 7, 0, 0⟩)], extCache := [(8, ⟨0, 0, 7⟩)] }, nc := {} }

theorem wit_HostRequestsHdmH_fill : let l := (uncached.region 0 0).dpa 0x1000000 / 64
    HostReady uncached 0 (0x1000000 : BitVec 52).toNat 0x1000000 (uncached.region 0 0) ∧ l = 262144 ∧ uncached.nc.lines.look 262144 = none ∧ uncached.wbbLine 262144 = none ∧
    uncached.xlt.rebuilds.contains (extOf 262144 / 64) = false ∧ uncached.xlt.touched.has (extOf 262144) = true ∧ uncached.xlt.extCache.has (extOf 262144) = true ∧
    (uncached.extRec (extOf 262144)).mode = .direct ∧ uncached.xlt.zeroing.has (pageKey 262144) = false ∧ uncached.lineLost 262144 = false ∧ uncached.rtk = [] := by
  unfold HostReady
  decide +kernel

theorem wit_HostRequestsHdmH_way : uncached.setLost 262144 = false ∧ (∃ w < 16, ∀ p ∈ uncached.ncMembers (setKey 262144), p.2.way.val ≠ w) ∧ ∀ d ∈ lineDomains 262144 false, uncached.domOn d = true :=
  ⟨rfl, ⟨0, by omega, fun p hp => by simp [State.ncMembers, uncached] at hp⟩, fun d hd => wit_on d (lineDomains_lt _ _ d hd)⟩

def dbLine : Nat := 164352 * 32768

/-- Region entry 1 of heads 0 and 1 is HDM-DB over one range whose first line is held, with a directory entry or none. -/
def coherent (entries : Tbl DirEntry) : State := { dev with
  csr := [(0x100808, 27392), (0x10080C, 1), (0x100810, 30000), (0x100814, 164352), (0x100818, 64), (0x10081C, 3),
          (0x110810, 30000), (0x110814, 164352), (0x110818, 64), (0x11081C, 3), (0x220004, 1), (0x220088, 0x3596E)]
  ports := (List.range 8).map fun h => (h, { link with biEnable := true })
  nc := { lines := [(dbLine, held)] }
  dir := { entries := entries } }

theorem wit_db_on (e : Tbl DirEntry) : ∀ d < 58, (coherent e).domOn d = true ∧ ((coherent e).dom d).failed = false := by
  have h1 : (coherent e).doms = dev.doms := rfl
  have h2 : ∀ d < 58, dev.domOn d = true ∧ (dev.dom d).failed = false := by decide +kernel
  intro d h
  have := h2 d h
  unfold State.domOn State.dom at this ⊢
  rw [h1]
  exact this

theorem wit_db_holds (e : Tbl DirEntry) : NcHolds (coherent e) dbLine held :=
  ⟨rfl, by decide +kernel, by decide +kernel, fun d hd => ((wit_db_on e) d (lineDomains_lt _ _ d hd)).1, fun r hr => (by simp [coherent, dev, State.reset] at hr), rfl, by simp [coherent, dev], rfl⟩

theorem wit_HostRequestsHdmDb :
    (let s := coherent []
     HostReady s 0 (0xEA6000000 : BitVec 52).toNat 0xEA6000000 (s.region 0 1) ∧ (s.region 0 1).db = true ∧ (s.region 0 1).dpa 0xEA6000000 / 64 = dbLine ∧ NcHolds s dbLine held ∧ s.biOn 0 = true ∧
     s.fenced 0 = false ∧ (s.port 0).ndr ≠ 0 ∧ (s.port 0).drs ≠ 0 ∧ (s.dirFree dbLine).isSome = true ∧ s.dir.entries.look dbLine = none ∧ s.dir.snoops = [] ∧ s.rtk = []) ∧
    (let s := coherent [(dbLine, ⟨0, presBit 0, .em, false, false⟩)]
     HostReady s 0 (0xEA6000000 : BitVec 52).toNat 0xEA6000000 (s.region 0 1) ∧ NcHolds s dbLine held ∧ s.dir.entries.look dbLine = some ⟨0, presBit 0, .em, false, false⟩ ∧ s.level ≠ 3) :=
  ⟨⟨by unfold HostReady; decide +kernel, by decide +kernel, by decide +kernel, wit_db_holds _, by decide +kernel, by decide +kernel, by decide +kernel, by decide +kernel, by decide +kernel,
      by decide +kernel, by decide +kernel, by decide +kernel⟩,
    by unfold HostReady; decide +kernel, wit_db_holds _, by decide +kernel, by decide +kernel⟩

theorem wit_HostRequestsHdmDb_slice (e : Tbl DirEntry) (l : Nat) : (coherent e).domOn (44 + dirSlice l) = true ∧ (coherent e).dirLost l = false := by
  have h : dirSlice l < 4 := Nat.mod_lt _ (by decide)
  exact wit_db_on e (44 + dirSlice l) (by omega)

theorem wit_HostRequestsHdmDb_ahead (e : Tbl DirEntry) (r : RtkEntry) : (coherent e).dirSetAhead r = false := rfl

/-- One snoop of head 0, of one line or of a block. -/
def snooped (op : SnoopOp) (lines : List Nat) : State :=
  { coherent [(dbLine, ⟨0, presBit 0, .em, true, false⟩)] with
    dir := { entries := [(dbLine, ⟨0, presBit 0, .em, true, false⟩)], snoops := [⟨0, 0, dbLine, lines, op, .command, 5, 0, true, []⟩], nextSnoop := 1 } }

theorem wit_SnoopsAndResumes :
    (∀ op ∈ [SnoopOp.inv, .data, .cur], let s := snooped op [dbLine]
      (s.port 0).active = true ∧ s.fenced 0 = false ∧ s.snoopTo 0 (BitVec.ofNat 40 dbLine).toNat = some ⟨0, 0, dbLine, [dbLine], op, .command, 5, 0, true, []⟩) ∧
    (let s := snooped .invBlk [dbLine, dbLine + 1]
     s.snoopBlk 0 (BitVec.ofNat 40 dbLine).toNat = some ⟨0, 0, dbLine, [dbLine, dbLine + 1], .invBlk, .command, 5, 0, true, []⟩) ∧
    (snooped .inv [dbLine]).snoopTo 0 (BitVec.ofNat 40 (dbLine + 1)).toNat = none ∧
    (let s := snooped .inv [dbLine]; let q : Snoop := ⟨0, 0, dbLine, [dbLine], .inv, .command, 5, 0, true, []⟩
     s.dir.snoops.find? (·.id == q.id) = some q ∧ s.timerStopped q = false ∧ (s.port 0).reqHost ≠ 0 ∧ (s.port 0).ndr ≠ 0 ∧ (s.port 0).txRoom = true ∧ ∀ r ∈ s.rtk, r.head = 0 → r.line = dbLine → q.place ≤ r.id) := by decide +kernel

def waiter (id : Nat) (ph : Phase) : RtkEntry := ⟨id, 0, .req, .rd .noOp, 5, 0x1000, 64, false, 0, 0, false, ph, true, .none, none, false, false, false, [], 0⟩

def waiting (ps : List Phase) : State := { dev with rtk := ps.zipIdx.map fun p => waiter p.2 p.1, nc := {} }

theorem wit_SnoopsAndResumes_resumes :
    (waiting [.line]).rtk.find? (fun r => r.line == (64 : BitVec 40).toNat && r.isOpen) = some (waiter 0 .line) ∧
    (∀ ph ∈ [Phase.line, .way, .wbb, .slot, .dirSet], (waiting [ph]).entry 0 = some (waiter 0 ph)) ∧ (waiting [.way]).wayFree 64 = true ∧
    (waiting [.wbb]).nc.wbb = [] ∧ 0 < (waiting [.slot]).slotsFree 64 ∧ (waiting [.dirSet]).dirSetAhead (waiter 0 .dirSet) = false ∧ (waiting [.dirSet]).causeDone (.evict 0) = true ∧
    (waiting [.dirSet, .dirSet]).entry 1 = some (waiter 1 .dirSet) := by decide +kernel

theorem wit_SnoopsAndResumes_ahead : (waiting [.dirSet, .dirSet]).dirSetAhead (waiter 1 .dirSet) = true := by
  simp [State.dirSetAhead, waiting, waiter, List.zipIdx, List.takeWhile]

/-- A read that waits in a phase for a line that the near cache holds whole. -/
def serving (ph : Phase) : State := { dev with rtk := [waiter 0 ph] }

theorem wit_SnoopsAndResumes_serving (ph : Phase) : (serving ph).entry (waiter 0 ph).id = some (waiter 0 ph) ∧ Servable (serving ph) (waiter 0 ph) held ∧ (waiter 0 ph).op = .rd .noOp ∧ (waiter 0 ph).db = false :=
  ⟨rfl, ⟨rfl, rfl, fun d hd => wit_on d (lineDomains_lt _ _ d hd), rfl, rfl, rfl, rfl, rfl, rfl, rfl, rfl, rfl, rfl, rfl, (by decide +kernel : (dev.port 0).drs ≠ 0), (by decide +kernel : (dev.port 0).ndr ≠ 0), rfl⟩,
    rfl, rfl⟩

theorem wit_SnoopsAndResumes_phases : (serving .line).rtk.find? (fun r => r.line == (64 : BitVec 40).toNat && r.isOpen) = some (waiter 0 .line) ∧ (serving .wbb).wbbUsed (slice 64) < 64 := by
  refine ⟨by decide +kernel, ?_⟩
  simp [State.wbbUsed, serving, dev]

theorem wit_SnoopsAndResumes_way : (serving .way).wayFree 64 = true := by
  have h : (serving .way).ncMembers (setKey 64) = [(64, held)] := by simp [State.ncMembers, serving, dev]
  have h2 : (List.range 16).find? (fun w => !([(64, held)] : List (Nat × NcLine)).any fun p => p.2.way.val == w) = some 1 := by decide +kernel
  unfold State.wayFree State.takeWay
  simp only [h, h2]

/-- One that asks for ownership of the line that its own head holds, or that no head holds. -/
def asking (ph : Phase) (e : Tbl DirEntry) : State := { coherent e with rtk := [{ waiter 0 ph with op := .rd .a, line := dbLine, db := true, coherent := false }] }

theorem wit_SnoopsAndResumes_asking (ph : Phase) (e : Tbl DirEntry) : Servable (asking ph e) { waiter 0 ph with op := .rd .a, line := dbLine, db := true, coherent := false } held :=
  ⟨rfl, rfl, fun d hd => (wit_db_on e d (lineDomains_lt _ _ d hd)).1, rfl, rfl, rfl, rfl, rfl, rfl, rfl, rfl, rfl, rfl, rfl, (by decide +kernel : ((coherent []).port 0).drs ≠ 0),
    (by decide +kernel : ((coherent []).port 0).ndr ≠ 0), rfl⟩

theorem wit_SnoopsAndResumes_owner :
    (let s := asking .slot [(dbLine, ⟨0, presBit 0, .em, false, false⟩)]
     s.biOn 0 = true ∧ s.fenced 0 = false ∧ 0 < s.slotsFree dbLine ∧ s.dir.entries.look dbLine = some ⟨0, presBit 0, .em, false, false⟩) ∧
    (let s := asking .dirSet []
     s.causeDone (.evict 0) = true ∧ s.dir.entries.look dbLine = none ∧ (s.dirFree dbLine).isSome = true) := by decide +kernel

theorem wit_SnoopsAndResumes_dirSet (e : Tbl DirEntry) : (asking .dirSet e).dirSetAhead { waiter 0 .dirSet with op := .rd .a, line := dbLine, db := true, coherent := false } = false ∧
    (asking .dirSet e).dirLost dbLine = false := ⟨rfl, (wit_HostRequestsHdmDb_slice e dbLine).2⟩

/-- 64 lines wait in the write-back buffer of the entry's slice. -/
def buffered (n : Nat) : State := { waiting [.wbb] with nc := { wbb := List.replicate n ⟨64, 0, fullMask, false, false, false, none⟩ } }

theorem wit_SnoopsAndResumes_full : 64 ≤ (buffered 64).wbbUsed (slice 64) ∧ (buffered 63).wbbUsed (slice 64) < 64 := by
  simp [State.wbbUsed, buffered]

/-! ### Power domains -/

def domained (x : Domain) (chan : ChanState) : State := { dev with
  doms := (List.range 58).map fun d => (d, x), chans := (List.range 16).map fun c => (c, { channel with st := chan }), aon := { dev.aon with boot := .rails } }

/-- An ON device but for one domain. -/
def but (d : Nat) (x : Domain) : State := { dev with doms := (List.range 58).map fun k => (k, if k = d then x else { Domain.reset with st := .on }) }

/-- The first and the last domain that may be asked; a policy that asks by itself; a port with no receiver. -/
theorem wit_PowerDomainEntries :
    (let s : State := { (ported fun p => { p with up := false, receiver := false }) with chans := (List.range 16).map fun c => (c, { channel with st := .quiet }) }
     s.mainRuns = true ∧ (∀ d ∈ [1, 4, 12, 27, 44], s.domOn d = true ∧ (s.dom d).holdUntil ≤ s.now) ∧ s.mayAsk 1 false false = true ∧ s.mayAsk 47 true false = true ∧
     (s.mayAsk 12 true false = false ∧ s.mayAsk 12 false false = true ∧ domKind 12 = .ch ∧ (s.chan (chOf 12)).st = .quiet) ∧
     (4 = 4 + (0 : Head).val ∧ (s.port 0).up = false ∧ (s.port 0).receiver = false ∧ 1 ≤ s.f Reg.PWR_POLICY.PRT)) ∧
    (let s := (dev.setF Reg.PWR_POLICY.DIR 2); s.mayAsk 44 false true = true ∧ s.cadenceAsks 44 = true) ∧
    (let s := but 44 { Domain.reset with st := .stopping true }
     (s.dom 44).st = .stopping true ∧ 0 < participants (domKind 44) ∧ 0 ∉ (s.dom 44).stopped ∧ s.openWork 44 = false ∧ (s.dom 44).stopped.length + 1 ≠ participants (domKind 44)) ∧
    (let s := but 44 { Domain.reset with st := .stopping true, stopped := [0] }
     1 < participants (domKind 44) ∧ 1 ∉ (s.dom 44).stopped ∧ s.openWork 44 = false ∧ (s.dom 44).stopped.length + 1 = participants (domKind 44) ∧ (s.dom 44).latch = [] ∧ s.lastCodec 44 = false) ∧
    refusesWith (domKind 44) 0 (1 : Fin 16).val = true ∧ refusesWith (domKind 11) 3 (12 : Fin 16).val = true ∧
    ((but 12 { Domain.reset with st := .entering false }).dom 12).st = .entering false ∧ ((but 56 { Domain.reset with st := .entering true }).dom 56).st = .entering true := by decide +kernel

def asleep (st : DomState) : Domain := { Domain.reset with st := st }
def woken (st : DomState) : Domain := { Domain.reset with st := st, latch := [(.hostRequest, 5)] }

theorem wit_PowerDomainWakes :
    (let s := but 44 (asleep .ret)
     s.mayWake 44 = true ∧ (s.dom 44).st = .ret ∧ (s.dom 44).latch = [] ∧ (s.dom 44).stale = false) ∧
    (let s := but 1 (asleep .ret)
     s.mayWake 1 = true ∧ (s.dom 1).st = .ret ∧ (s.dom 1).latch = [] ∧ (s.dom 1).stale = false ∧ s.mgt.held = [] ∧ s.mgt.heldSb = []) ∧
    (let s := but 2 (asleep .ret); s.mayWake 2 = true ∧ s.fb Reg.PWR_POLICY.SNS_SENT = true) ∧
    (let s := but 11 (asleep .ret); s.mainRuns = true ∧ 11 = 4 + (7 : Head).val ∧ (s.dom 11).st = .ret) ∧
    (∀ st ∈ [DomState.ret, .entering false, .off, .entering true, .waking false true], ∀ d ∈ [28, 51, 56], let s := but d (woken st)
      s.mayWake d = true ∧ (s.dom d).latch ≠ [] ∧ (s.dom d).st = st ∧ s.fb Reg.PWR_STATUS.PFAULT = false) ∧
    domKind 28 = .nc ∧ domKind 51 = .xlt ∧ domKind 56 = .deep ∧ (let s := but 1 (woken (.waking true true)); s.mayWake 1 = true ∧ (s.dom 1).st = .waking true true ∧ domKind 1 = .mgt) := by decide +kernel

theorem wit_RailsClocksAndMemoryReady :
    (let s : State := { standby with hsw := { gate := .on, pg := true } }; s.aon.kick = true ∧ s.hsw.pg = true ∧ s.aon.rails = false) ∧
    (let s : State := { dev with aon := { dev.aon with xtal := true } }; s.aon.kick = true ∧ s.aon.xtal = true) ∧ dev.mainRuns = true ∧ (0 : Chan) ∈ dev.cap.chans ∧
    (let s : State := { dev with aon := { dev.aon with boot := .trained } }
     s.mainRuns = true ∧ s.aon.boot = .trained ∧ s.cry.st = .operational ∧ (∀ c ∈ s.cap.chans, s.chanSettled c = true) ∧ (0 : Head) ∈ s.heads ∧ (s.port 0).up = true) ∧
    ((portsDown none).port 0).up = false := by decide +kernel

/-! ### Channels -/

def empty : ChanPop := { pop with slot0 := false, slot1 := false }

/-- No DIMM fitted; every channel alike; channel 3 empty, so that the second set is in use. -/
theorem wit_ChannelTraining :
    (let s : State := { dev with aon := { dev.aon with boot := .firmware } }; s.aon.boot = .firmware ∧ s.aon.inReset = false) ∧
    (List.replicate 16 empty).length = 16 ∧ refConf (List.replicate 16 empty) = none ∧ (List.replicate 16 pop).length = 16 ∧
    (∃ r cs, refConf (List.replicate 16 pop) = some r ∧ chanSet (fun c => ((List.replicate 16 pop)[c.val]?).any (popPopulated · r)) = some cs ∧
      ∀ c ∈ cs, ((List.replicate 16 pop)[c.val]?).any popFails = false ∧ dev.hasEngine c.val = true) ∧
    (let s : State := { dev with chans := (List.range 16).map fun c => (c, { channel with retraining := true, st := .failed }) }
     (s.chan 15).retraining = true ∧ (15 : Chan) ∈ s.cap.chans ∧ (s.chan 15).st = .failed) :=
  ⟨by decide +kernel, by decide +kernel, by decide +kernel, by decide +kernel, ⟨⟨.rdimm, 0, 0, 1, 1, 64⟩, List.finRange 16, by decide +kernel, by decide +kernel, by decide +kernel⟩, by decide +kernel⟩

def channels (x : Channel) : State := { dev with chans := (List.range 16).map fun c => (c, x) }

/-- Three and four refreshes postponed; an awake and a sleeping rank. -/
theorem wit_ChannelUpkeep :
    (∀ n ∈ [0, 3, 4], let x : Rank := ⟨.active, n, false⟩; let s := channels { channel with ranks := [(0, x), (1, ⟨.selfRefresh, 0, false⟩)] }
      s.chanRuns 0 = true ∧ s.rank 0 0 = some x ∧ x.asleep = false ∧ s.rank 0 1 = some ⟨.selfRefresh, 0, false⟩ ∧ (⟨.selfRefresh, 0, false⟩ : Rank).asleep = true) ∧
    dev.chanRuns 15 = true ∧ (0 : RankSet) ∈ dev.slotRanks 0 ∧ (dev.chan 0).pauseA = false ∧ (dev.chan 0).pauseB = false ∧ dev.f (Reg.DRCn_PWR_CFG.PD_IDLE.nth 15) ≠ 0 ∧
    dev.drl.released.getLsbD 0 = false ∧ ({ dev with drl := { released := 1 } } : State).drl.released.getLsbD 0 = true ∧
    (let s := channels { channel with ranks := [(0, ⟨.selfRefresh, 0, false⟩)] }
     (s.chan 0).st = .active ∧ s.f (Reg.DRCn_PWR_CFG.QUIET_IDLE.nth 0) ≠ 0 ∧ ∀ q ∈ (s.chan 0).ranks, q.2.asleep = true) ∧
    (∀ st ∈ [ChanState.quiet, .ret], let s := channels { channel with st := st }; s.chanRuns 0 = true ∧ (s.chan 0).st = st ∧ (s.rank 0 0).isSome = true) := by decide +kernel

def row : DevRow := ⟨0, false, 3, 1, 77⟩

/-- The second and the third alert of a millisecond, with a re-centring just past it and within it. -/
def alerted (n : Nat) (r : Option Nat) : State := channels { channel with alerts := List.replicate n 4999000001, recentred := r }

theorem wit_ChannelErrors :
    (let s := channels { channel with resync := true, cursor := 8388620 }; (s.chan 0).resync = true ∧ ∀ q ∈ s.positionsInUse, q < (s.chan 0).cursor) ∧
    (let s := channels { channel with alertA := true }; (s.chan 15).alertA = true ∧ s.chanRuns 15 = true) ∧ (channels { channel with st := .failed, failCause := some .replay }).mayReturn 0 = true ∧ dev.chanRuns 0 = true ∧
    (let s := channels { channel with band := 3 }; (s.chan 0).band = 3 ∧ s.lean = false ∧ s.chanRuns 0 = true) ∧
    (let s : State := { channels { channel with band := 3 } with aon := { dev.aon with straps := some ⟨3, false, 0, true⟩ } }; (s.chan 0).band = 3 ∧ s.lean = true) ∧
    (let s := alerted 1 none; (((s.chan 0).alerts.filter fun t => decide (s.now < t + 1000000)) ++ [s.now]).length < 3) ∧
    (let s := alerted 2 (some 4999000000); 3 ≤ (((s.chan 0).alerts.filter fun t => decide (s.now < t + 1000000)) ++ [s.now]).length ∧ ∀ t ∈ (s.chan 0).recentred, t + 1000000 ≤ s.now) ∧
    (let s := alerted 2 (some 4999000001); (s.chan 0).recentred = some 4999000001 ∧ s.now < 4999000001 + 1000000) ∧
    dev.fb Reg.DRC_GLB_CFG.ECS_EN = true ∧ 4 ≤ 4 ∧
    (let s := channels { channel with cands := [(row, 0)] }
     (s.chan 0).cands = (row, 0) :: [] ∧ s.fb Reg.DRC_GLB_CFG.PPR_SOFT_EN = true ∧ s.pprFree 0 row = true ∧ ((s.chan 0).alertA || (s.chan 0).pauseA) = false ∧
     (∀ x ∈ s.rank 0 row.rank, x.asleep = false) ∧ s.rankMarked 0 row = false) := by decide +kernel

/-! ### The Trimmer, the sweep, Derailleur -/

/-- The walk stands at the line's own position. -/
def trimming : State := { dev with trm := { pos := 8388610, credit := 1 } }

theorem wit_TrimmerAndSweep :
    (let a := (BitVec.ofNat 44 ((67108864 + 32) * 512)).toNat / 64 * 64; let s := trimming
     s.fb Reg.XLT_STATUS.READY = true ∧ s.cry.st ≠ .error ∧ s.trm.walks = [] ∧ s.mayTrim a 0 = true ∧ s.trm.credit ≠ 0 ∧ (∀ d ∈ s.cdc.dicts, d.2.lost = false) ∧ s.trm.lost.length < 1024 ∧ s.saMirrored a = true ∧ s.lean = false) ∧
    (let s : State := { dev with trm := { pos := 8388611 } }; s.fb Reg.TRM_CFG.TRM_EN = true ∧ ∀ q ∈ s.positionsInUse, q ≤ s.trm.pos) := by decide +kernel

/-- A stripe that is not mirrored, at its position. -/
def striped : State := { dev with trm := { credit := 1 }, cap := { dev.cap with runs := [(0, ⟨2, .stripe, true, false⟩)] }, drl := { stripes := [⟨0, false, 5, 0, 2, true⟩] } }

def cached : State := { dev with
  xlt := { ext := [(0, ⟨.mapped, 0, 0, 0, 0, 0⟩)], page := [(1, ⟨.open, 32, 0, 0, 0, 255, 0, false, 1⟩)], extCache := [(0, ⟨0, 0, 0⟩)], prCache := [(pageSector 1, (0, [0, 0, 0, 0]))] }, nc := { heatQ := [64] } }

def sweeping (e : Nat) (p : Option Nat) : State := { dev with cad := { items := [(4, 1)] }, drl := { sweepExt := e, sweepPage := p } }

theorem wit_TrimmerAndSweep_sweep :
    (cached.nc.heatQ = 64 :: [] ∧ (cached.extRec (extOf 64)).mode = .mapped ∧ cached.pageCached (pageKey 64) = true ∧ (cached.pageRec (pageKey 64)).heat = 255) ∧
    (cached.xlt.extCache.map (·.1)).Nodup ∧
    (∀ p ∈ [some 0, some 510, some 511, none], let s := sweeping 1 p
      s.drl.sweepExt < s.extents ∧ s.cry.st ≠ .error ∧ s.sweepPaid.isSome = true ∧ (s.extView s.drl.sweepExt).1 ≠ .mapped ∧ (s.extRec s.drl.sweepExt).mode = .untouched ∧ s.drl.sweepPage = p) ∧
    (let s := sweeping 0 none; s.sweepPaid.isSome = true ∧ (s.extRec s.drl.sweepExt).mode = .mapped) ∧
    (let s := sweeping 786432 none
     s.extents ≤ s.drl.sweepExt ∧ s.cap.runs.look 32 = some ⟨8, .slot, true, false⟩ ∧ ∀ x ∈ s.cap.runs, x.1 = 32 → x.2 = ⟨8, .slot, true, false⟩) := by decide +kernel

def pressed (runs lvl fall : Nat) : State :=
  ({ dev with cap := { dev.cap with usable := 2000, runs := [(0, ⟨runs, .stripe, true, false⟩)], fall := fall } } : State).setF Reg.XLT_CAP_STATUS.LEVEL lvl

def accepting : State :=
  (({ (ported fun p => { p with elasticMax := 4, accepted := true }) with cap := { dev.cap with usable := 4096 * 500000 } } : State).setF Reg.XLT_CAP_CFG.ELASTIC_EN 1).setF Reg.XLT_CAP_CFG.ELASTIC_HEADS 0xFF

def targeted (l : Nat) (p : Port) : State := (({ (ported fun _ => p) with cap := { dev.cap with usable := 2000 } } : State).setF Reg.XLT_CAP_STATUS.LEVEL l)

/-- The ninth and the tenth measure above a bound; free frames just below the bound; an offer; both periods of a target. -/
theorem wit_PressureContract :
    dev.fb Reg.XLT_STATUS.READY = true ∧ (pressed 2000 0 0).level < (pressed 2000 0 0).rawLevel ∧
    (∀ f ∈ [8, 9], let s := pressed 1836 1 f; s.fb Reg.XLT_STATUS.READY = true ∧ s.rawLevel ≤ s.level ∧ s.level ≠ 0 ∧ s.aboveTop s.level = true ∧ s.cap.fall = f) ∧
    (let s := pressed 1958 1 0; s.rawLevel ≤ s.level ∧ s.level ≠ 0 ∧ s.aboveTop s.level = false) ∧ (offered.port 0).offer = some offer1 ∧
    (let s := accepting
     s.fb Reg.XLT_STATUS.READY = true ∧ s.level = 0 ∧ s.fb Reg.XLT_CAP_CFG.ELASTIC_EN = true ∧ leastHead s.elasticHeld (s.heads.filter s.offerTo) = some 0 ∧
     1 = min (s.offerable / (s.heads.filter s.accepting).length) ((s.port 0).elasticMax - s.elasticHeld 0 / 32768) ∧ s.freeEntry 0 = some 1 ∧
     lowestFit s.dpaTaken (1 * 32768) s.extents = some 27392 ∧ lowestFit (s.hdpaTaken 0) (1 * 32768) (2 ^ 25) = some 27392) ∧
    (let s := targeted 2 { link with accepted := true, target := 100, targetAt := 1 }; 2 ≤ s.level ∧ (s.port 0).accepted = true ∧ (s.port 0).targetMet = false ∧ s.now < (s.port 0).targetAt + 10000000000) ∧
    (let s := targeted 3 { link with target := 100, targetAt := 1 }; 2 ≤ s.level ∧ (s.port 0).accepted = false ∧ (s.port 0).targetMet = false ∧ s.fbit Reg.XLT_CAP_STATUS.BREACH_HEADS (0 : Head).val = false) := by
  decide +kernel

def training (st : TrainState) : State := { dev with cdc := { train := ⟨st, 0, [(1, 1)], 0, 0, 0, none⟩ } }

/-- A candidate at the least gain and one just short of it; reloads. -/
theorem wit_DictionaryTraining :
    (let s : State := { dev with xlt := { dev.xlt with page := [(1, ⟨.packed, 32, 5, 0, 0, 0, 0, false, 1⟩)] } }
     s.fb Reg.CDC_CFG.TRAIN_EN = true ∧ s.cdc.hold = false ∧ s.cdc.train.st = .idle ∧ s.mgt.st = .running ∧ s.roundSample.isSome = true) ∧
    (∀ st ∈ [TrainState.sampling, .building], let s := training st
      (s.cdc.train.st = .sampling ∨ s.cdc.train.st = .building) ∧ s.mgt.st = .running ∧ s.candidateGood 90 100 100 = true ∧ s.candidateGood 91 100 100 = false ∧
      s.cdc.train.cmd.any s.aborted = false ∧ (List.range 15).find? (fun i => (s.dict (i + 1)).state == .free) = some 0) ∧
    (training .waiting).cdc.train.st = .waiting ∧
    (∀ n ∈ [0, 3], let s : State := { dev with cdc := { dicts := [(15, ⟨.active, 0, 100, 5, n, true, false⟩)] } }
      (s.dict 15).reloading = true ∧ (s.dict 15).refs = n ∧ s.cdc.train.st ≠ .waiting ∧ s.rtk = [] ∧ s.nc.fills = []) := by decide +kernel

def copying (g : BitVec 16) (dsc : Bool) (rep : Nat) (h : Option Nat) : State := { dev with
  drl := { copies := [⟨0, 1, false, 32, .pack, g, [], 0, 64, 1, rep, h, [], none⟩] }
  xlt := { dev.xlt with page := [(1, ⟨.open, 32, 0, 0, 0, 0, 0, dsc, 1⟩)] } }

def extCopy (m : BitVec 512) (rounds : Nat) : State := { dev with drl := { extCopies := [⟨0, .promote, .mapped, 0, 2, m, rounds, [], [], none, none, 0, none, []⟩] }, cap := { dev.cap with slots := [(2, ())] } }

/-- A copy of a PACKED page to a page slot. -/
def opening : State := { dev with
  drl := { copies := [⟨0, 1, false, 48, .toOpen, 1, [], 0, 40, 8, 0, none, [], none⟩] }
  cap := { dev.cap with runs := [(0, ⟨16, .block, true, false⟩), (40, ⟨8, .slot, true, false⟩), (48, ⟨1, .stripe, true, false⟩)] }
  xlt := { dev.xlt with page := [(1, ⟨.packed, 48, 1, 0, 0, 0, 0, false, 1⟩)] } }

theorem lem_redirected : ∀ c : Chan, dev.redirected c = false := by decide +kernel

theorem lem_meets (s : State) (p : Nat) (h1 : s.trm.lost = []) (h2 : s.lostHere (pageLine p) = false) (h3 : ((s.storageRec (pageKey (pageLine p))).state == .deep) = false)
    (h4 : s.redirected ((s.copyChan (pageLine p) false).getD 0) = false) : s.copyMeets p .good = some s := by
  unfold State.copyMeets State.resolveLost State.meet
  simp [CodecRun.good, h1, h2, h3, h4]

theorem wit_CopiesAndStripes_meets : (∀ g d n h, (copying g d n h).copyMeets 1 .good = some (copying g d n h)) ∧ opening.copyMeets 1 .good = some opening :=
  ⟨fun _ _ _ _ => lem_meets _ _ rfl rfl rfl (lem_redirected _), lem_meets _ _ (by decide +kernel) (by decide +kernel) (by decide +kernel) (by decide +kernel)⟩

theorem wit_CopiesAndStripes_rounds (m : BitVec 512) (n : Nat) : (extCopy m n).roundMeets ⟨0, .promote, .mapped, 0, 2, m, n, [], [], none, none, 0, none, []⟩ 0 .good = some (extCopy m n) := by
  have h : (extCopy m n).copyMeets 0 .good = some (extCopy m n) := lem_meets _ _ rfl rfl rfl (lem_redirected _)
  unfold State.roundMeets
  simp [h, ExtCopyKind.mapsTo]

/-- Two and three repeats; rounds two and three with 8 and 9 marked pages. -/
theorem wit_CopiesAndStripes :
    (let s := copying 9 false 0 none
     s.cry.st ≠ .error ∧ (s.drl.copies.find? (·.id == 0)).map (·.share) = some false ∧ (s.effRec 1).gen ≠ 9 ∧ (s.pageRec 1).state ≠ .busy ∧ s.drl.stripes = []) ∧
    (let s := copying 1 true 2 none; (s.effRec 1).gen = 1 ∧ (s.extRec (1 / 512)).mode = .mapped ∧ (s.pageRec 1).state ≠ .busy ∧ (s.pageRec 1).dsc = true ∧ 2 < 3) ∧
    (let s := copying 1 true 3 (some 5); (s.drl.copies.find? (·.id == 0)).map (fun c => (c.share, c.held.isSome)) = some (false, true) ∧ (s.pageRec 1).state ≠ .busy) ∧
    markedPages (0xFF : BitVec 512) ≤ 8 ∧ 8 < markedPages (0x1FF : BitVec 512) ∧
    (let s : State := { dev with drl := { stripes := [⟨0, false, 5, 9, 2, false⟩] } }; s.drl.stripes.find? (·.id == 0) = some ⟨0, false, 5, 9, 2, false⟩) := by decide +kernel

theorem wit_CopiesAndStripes_commit :
    (let s : State := { opening with xlt := { opening.xlt with page := [(1, ⟨.busy, 32, 0, 0, 0, 0, 0, false, 1⟩)] } }; (s.pageRec 1).state = .busy) ∧
    (let s := opening; (s.effRec 1).gen = 1 ∧ (s.extRec (1 / 512)).mode = .mapped ∧ (s.pageRec 1).dsc = false ∧
      (s.drl.copies.find? (·.id == 0)).map (fun c => (c.share, c.gen, c.kind, c.dstLen, s.ownSlot c)) = some (false, 1, .toOpen, 8, true) ∧ s.roomFor true = true) := by decide +kernel

theorem wit_CopiesAndStripes_extents :
    (∀ x ∈ [((0 : Nat), 0), (1, 2), (0xFF, 3), (0x1FF, 3)], let s := extCopy (BitVec.ofNat 512 x.1) x.2
      (s.drl.extCopies.find? (·.ext == (0 : BitVec 25).toNat)).map (fun c => (c.left, c.cmd, c.rounds, c.kind == .promote, c.srcMode)) = some (0, none, x.2, true, .mapped)) ∧
    (∀ c ∈ (extCopy 0 0).drl.extCopies, c.kind.mapsTo c.srcMode = false ∧ (extCopy 0 0).recsWritten c = true) ∧ ((extCopy 0 0).extRec 0).pin ≠ 2 := by decide +kernel

/-! ### Fills, write-backs, translation -/

def part : NcLine := ⟨0, 0xABCD, 0xF, true, false, true, none⟩

def filling : State := { dev with nc := { lines := [(64, part)], fills := [⟨64, some ⟨7, false⟩, false, [], false, true, 0⟩] } }

/-- A line of a DIRECT extent in the write-back buffer: all its bytes, or the first alone. -/
def backing (m : Mask) (poison : Bool) : State := { dev with
  xlt := { touched := [(8, ())], ext := [(8, ⟨.direct, 0, 2, 7, 0, 0⟩)], extCache := [(8, ⟨0, 0, 7⟩)] }
  nc := { wbb := [⟨262144, 0x1122, m, poison, false, false, none⟩] } }

/-- A page in a stripe, so that a write in place takes a guard. -/
def guarded : State := { dev with
  xlt := { dev.xlt with page := [(1, ⟨.packed, 32, 5, 0, 0, 0, 0, false, 1⟩)] }, nc := {} }

theorem wit_FillsAndWriteBacks :
    (let s := filling
     s.nc.fills.find? (fun f => f.line == (64 : BitVec 40).toNat) = some ⟨(64 : BitVec 40).toNat, some ⟨7, false⟩, false, [], false, true, 0⟩ ∧ s.cry.st ≠ .error ∧ s.nc.lines.look 64 = some part ∧
     s.lostHere 64 = false ∧ s.redirected ((s.copyChan 64 false).getD 0) = false ∧ (s.storageRec (pageKey 64)).state ≠ .deep ∧ s.rtk = []) ∧
    (∀ m ∈ [(1 : Nat), 0xFFFFFFFFFFFFFFFF], let w : WbLine := ⟨262144, 0x1122, BitVec.ofNat 64 m, false, false, false, none⟩; let s := backing (BitVec.ofNat 64 m) false
      s.nc.wbb.find? (fun w => w.line == (262144 : BitVec 40).toNat && !w.issued) = some w ∧ s.cry.st ≠ .error ∧ s.wbHeld w none = false ∧ s.granulesBusy 262144 = false ∧ s.resyncBusy 262144 = false ∧ s.lineLost 262144 = false ∧
      s.xlt.rebuilds.contains (extOf 262144 / 64) = false ∧ s.xlt.extCache.has (extOf 262144) = true ∧ (s.extRec (extOf 262144)).mode = .direct ∧ s.xlt.zeroing.has (pageKey 262144) = false) ∧
    (let s : State := { dev with rtk := [⟨7, 0, .rwd, .wr .noOp, 5, 0x1000, 64, false, 0, 0, false, .pool 5, true, .none, none, false, false, false, [], 0⟩] }
     (s.entry 7).map (fun r => (r.phase, r.synthetic, r.op)) = some (.pool 5, false, .wr .noOp) ∧ (s.port 0).ready = [] ∧ (s.port 0).txRoom = true ∧ (s.port 0).ndr ≠ 0) ∧
    (let s : State := { dev with nc := {} }; (s.guardOf 64).all s.guardFree = true ∧ s.nc.wbb = [] ∧ s.rtk = []) ∧
    (let w : WbLine := ⟨64, 0, fullMask, false, false, true, none⟩; let s : State := { guarded with nc := { wbb := [w] } }
     (s.guardOf 64).all s.guardFree = true ∧ s.rtk = [] ∧ s.nc.wbb.find? (fun w => w.line == (64 : BitVec 40).toNat && !w.issued) = some w ∧ w.held = true) ∧
    (let s : State := { dev with xlt := { dev.xlt with rebuilds := [0] } }; (0 : BitVec 19).toNat ∈ s.xlt.rebuilds ∧ s.rtk = [] ∧ s.nc.fills = []) ∧
    (let s : State := { dev with xlt := { dev.xlt with reads := [.ext 0] } }
     s.reading (.ext 0) = true ∧ ((s.setExt (0 : BitVec 25).toNat (s.extRec (0 : BitVec 25).toNat)).fillExt (0 : BitVec 25).toNat).isSome = true) := by decide +kernel

theorem wit_FillsAndWriteBacks_slices :
    (backing 1 false).domOn (48 + (Config.xltSlice (extOf 262144)).val) = true ∧
    ({ backing 1 false with doms := (List.range 58).map fun d => (d, { Domain.reset with st := if 48 ≤ d then .off else .on }) } : State).domOn (48 + (Config.xltSlice (extOf 262144)).val) = false := by
  generalize Config.xltSlice (extOf 262144) = i
  revert i
  decide +kernel

/-- A guard entry of the same place is taken. -/
theorem wit_FillsAndWriteBacks_guard : ∃ g, guarded.guardOf 64 = some g ∧
    ({ guarded with nc := { wbb := [⟨64, 0, fullMask, false, true, false, some g⟩] } } : State).guardFree g = false := by
  refine ⟨_, rfl, ?_⟩
  decide +kernel

def pooled : State := { backing 1 false with nc := { lines := [(262144, { held with pool := some (3, false) })] } }

def poolWb : WbLine := ⟨262144, held.data, held.mask, held.poison, false, false, none⟩

theorem wit_FillsAndWriteBacks_pool : pooled.nextPool = some (262144, { held with pool := some (3, false) }) ∧ ∃ u, pooled.writeBack poolWb .good = .made u ∧ u.rtk = [] := by
  refine ⟨by decide +kernel, ?_⟩
  have hon : pooled.domOn (48 + (Config.xltSlice (extOf 262144)).val) = true := by
    generalize Config.xltSlice (extOf 262144) = i
    revert i
    decide +kernel
  have hw : pooled.wbHeld poolWb none = false := by decide +kernel
  have hb : pooled.granulesBusy 262144 = false := by decide +kernel
  have hs : pooled.resyncBusy 262144 = false := by decide +kernel
  have hl : pooled.lineLost 262144 = false := by decide +kernel
  have hg : pooled.guardOf 262144 = none := by decide +kernel
  have hm : (match pooled.wbExt 262144 poolWb .good with | .made t => t.rtk == [] | .dropped _ => false | .waits _ => false) = true := by decide +kernel
  revert hm
  cases ht : pooled.wbExt 262144 poolWb .good with
  | dropped t => simp
  | waits t => simp
  | made t =>
    intro hr
    have hh : (t.heat 262144).rtk = t.rtk := by
      unfold State.heat
      split <;> rfl
    have hk : ((t.heat 262144).wroteBack pooled 262144).rtk = (t.heat 262144).rtk := (State.wroteBack_issued _ _ _).kept.2.2.2.2.1
    refine ⟨(t.heat 262144).wroteBack pooled 262144, ?_, hk.trans (hh.trans (by simpa using hr))⟩
    have h2 : (CodecRun.good).bad = none := rfl
    simp [State.writeBack, WbRes.onMade, poolWb, h2] at *
    simp [hw, hon, hb, hs, hl, hg, ht]

/-! ### Cadence and SENSE -/

theorem wit_CadenceAndSense :
    dev.aon.kick = true ∧ dev.mainRuns = true ∧ (dev.setF Reg.XLT_STATUS.READY 0).fb Reg.XLT_STATUS.READY = false ∧
    (let s : State := { dev with cad := { stage := 3, overCap := true, releasing := true } }; s.mainRuns = true ∧ s.fb Reg.CAD_CFG.PACE_EN = true ∧ s.cad.stage = 3 ∧ s.stage3Holds = true) ∧
    (let s : State := { dev with cad := { stage := 3, releasing := true } }; s.fb Reg.CAD_CFG.PACE_EN = true ∧ s.cad.stage = 3 ∧ s.stage3Holds = false ∧ s.cad.releasing = true) ∧
    dev.domOn 2 = true ∧ standby.mainRuns = false ∧ dev.aon.holding = false ∧ dev.hsw.gate = .on ∧ standby.hsw.gate ≠ .on ∧ standby.hsw.gate ≠ .ramp := by decide +kernel

theorem wit_CadencePeriodKeepsData : dev.mainRuns = true := by decide +kernel

/-- The D3 bound itself, whatever the grade. -/
theorem wit_CadenceAndSense_bound : 4 * (105 + gradeUp) ≤ 4 * (105 + gradeUp) := le_refl _

/-! ## Refusals of WellFormed: one ill-formed term for each check, beside a well-formed one -/

theorem test_wf_takes_training : (Instr.channelTraining (List.replicate 16 pop)).wf = true := by decide
theorem test_wf_refuses_fifteen_channels : (Instr.channelTraining (List.replicate 15 pop)).wf = false := by decide
theorem test_wf_refuses_four_ranks : (Instr.channelTraining (List.replicate 16 { pop with ranks := 2 })).wf = false := by decide
theorem test_wf_refuses_stack_code : (Instr.channelTraining (List.replicate 16 { pop with stack := 3 })).wf = false := by decide
theorem test_wf_refuses_density_code : (Instr.channelTraining (List.replicate 16 { pop with density := 3 })).wf = false := by decide
theorem test_wf_refuses_unaligned_sa : (Instr.trimmerRead 65 0 .good).wf = false ∧ (Instr.trimmerRead 64 0 .good).wf = true := by decide
theorem test_wf_refuses_participant : (Instr.participantStopped 12 7).wf = false ∧ (Instr.participantStopped 12 6).wf = true := by decide
theorem test_wf_refuses_refusal_unit : (Instr.participantRefuse 12 7 1).wf = false ∧ (Instr.participantRefuse 12 0xFF 1).wf = true := by decide
theorem test_wf_refuses_refusal_code : (Instr.participantRefuse 12 0 0).wf = false ∧ (Instr.participantRefuse 12 0 13).wf = false ∧ (Instr.participantRefuse 12 0 12).wf = true := by decide
def readings : Readings := ⟨List.replicate 28 (some 240), List.replicate 32 (some 200, none, none), [], [], ⟨3, false, 0, false⟩, some 50, 12000, 12000, 300, some 200⟩
theorem test_wf_refuses_missing_die : (Instr.senseRound { readings with die := [] }).wf = false ∧ (Instr.senseRound readings).wf = true := by decide
theorem test_wf_refuses_missing_dimm : (Instr.senseRound { readings with dimm := [] }).wf = false := by decide
theorem test_wf_refuses_foreground_above_total : (Instr.cadencePeriod ⟨2, 0, 1, 0⟩).wf = false ∧ (Instr.cadencePeriod ⟨0, 2, 0, 1⟩).wf = false ∧ (Instr.cadencePeriod ⟨1, 1, 1, 1⟩).wf = true := by decide
theorem test_wf_refuses_empty_write : (Instr.registerWrite .sideband (.bar0 0) 0 0).wf = false := by decide
theorem test_wf_refuses_empty_read : (Instr.pairedLowRead (.head 0) .b0 0 0).wf = false ∧ (Instr.pairedLowRead (.head 0) .b2 0 8).wf = true := by decide
theorem test_wf_refuses_bar2_of_the_sideband : (Instr.pairedLowRead .sideband .b2 0 8).wf = false ∧ (Instr.registerWrite .sideband (.bar2 0) 8 0).wf = false := by decide
theorem test_wf_refuses_link_width : (Instr.l0pHostRequest 0 true 3).wf = false ∧ (Instr.l0pHostRequest 0 true 16).wf = true := by decide
theorem test_wf_refuses_delays : (Instr.devloadInterval [none]).wf = false := by decide
theorem test_wf_refuses_long_detail : (Instr.pannierRecordRaise { panSrc with detail := List.replicate 205 0 }).wf = false ∧ (Instr.pannierRecordRaise { panSrc with detail := List.replicate 204 0 }).wf = true := by
  decide +kernel
theorem test_wf_refuses_failed_half : (Instr.flitReceive 0 ⟨0, .firstHalf, false, [], [.message]⟩).wf = false ∧ (Instr.flitReceive 0 ⟨0, .firstHalf, false, [.message], []⟩).wf = true := by decide
theorem test_wf_refuses_bad_flit : (Instr.flitReceive 0 ⟨0, .bad, false, [.message], []⟩).wf = false ∧ (Instr.flitReceive 0 ⟨0, .bad, false, [], []⟩).wf = true := by decide

/-! ## Single steps, expected values by hand from the rules named -/

/-- The state after a command that answers next. -/
def after (i : Instr) (s : State) : State :=
  match exec i s with
  | .next t => t
  | .fault _ => s
  | .refused _ => s

/-- No row of the table gives bits. -/
theorem test_no_word_decodes : decodeTableWord 32 0xFFFFFFFF = none := by decide
/-- GEN_ID (R2). -/
theorem test_gen_id : (dev.readWord (.head 5) 0).1 = 0x001600B1 := by decide +kernel
/-- A read of one byte gives that byte (R6). -/
theorem test_read_of_one_byte : (after (.pairedLowRead (.head 5) .b0 2 1) dev).out = [.readData (.head 5) .b0 2 [0x16]] := by decide +kernel
/-- Counters of the owner's window read zero until USER_EN is set (R419). -/
theorem test_bar2_closed : (after (.pairedLowRead (.head 1) .b2 0 8) dev).out = [.readData (.head 1) .b2 0 (List.replicate 8 0)] := by decide +kernel
/-- An alert's replay issues again what its subchannel's retry buffer holds (R251, R252). -/
theorem test_alert_replays : ((after (.alertNDeassert 0 false false) (channels { channel with alertA := true, retry := [(5, false, .read 1), (6, true, .read 2)] })).chan 0).retry =
    [(6, true, .read 2), (5000000000, false, .read 1)] := by decide +kernel
/-- The reset division 4, 12, 16, 32 (R57). -/
theorem test_reset_partition : State.reset.word 0x24010 = BitVec.ofNat 32 (4 * 2 ^ 21 + 12 * 2 ^ 14 + 16 * 2 ^ 7 + 32) := by decide +kernel
/-- A division of 65 is refused (R58). -/
theorem test_partition_of_65 : (after (.rtkPartitionWrite .sideband (BitVec.ofNat 32 (4 * 2 ^ 21 + 12 * 2 ^ 14 + 16 * 2 ^ 7 + 33))) dev).fb Reg.RTK_STATUS.PART_ERR = true := by decide +kernel
/-- A second SETUP_LOCK is dropped (R10). -/
theorem test_lock_twice : (after (.setupLock (.head 0)) (after (.setupLock (.head 0)) dev)).fb Reg.GEN_STATUS.LOCK_DROP = true := by decide +kernel
/-- TB counts a nanosecond with nothing waiting (R33). -/
theorem test_tick : (match step standby with | .next t => t.tb | .fault _ => 0 | .refused _ => 0) = 1 := by decide +kernel
/-- Five ways is no setting of a decoder (R67). -/
theorem test_five_ways : ((after (.hdmDecoderCommit 0 1 0 4096 5 256) dev).port 0).hdm.look 1 = some ⟨false, true, 0, 4096, 5, 256⟩ := by decide +kernel
/-- A count one beyond the ring's size stops the ring with code 0x5 (R329). -/
theorem test_doorbell_overrun :
    (after (.sqDoorbell 0) (bells false 17 0 0 ⟨0, 0, 0, 0⟩)).sqEn 0 = false ∧ (after (.sqDoorbell 0) (bells false 17 0 0 ⟨0, 0, 0, 0⟩)).f Reg.CMD_STATUS.CODE = 5 := by decide +kernel
theorem test_doorbell_full : (after (.sqDoorbell 0) (bells false 16 0 0 ⟨0, 0, 0, 0⟩)).cmd.sqs.look 0 = some ⟨16, 0⟩ := by decide +kernel
/-- An unknown opcode ends with BAD_OPCODE, status 0x01 (R337). -/
theorem test_bad_opcode : ((after (.badOpcode 0) (commanded (command (desc 0x10 0 0 0 0 0 0)))).cmdOf 0).map (fun c => (c.phase, c.status)) = some (.ended, 1) := by decide +kernel
/-- Tokens stop at 4,096 (R425). -/
theorem test_tokens_full : (after .writeTokenRefill { dev with pan := { dev.pan with tokens := 4090 } }).pan.tokens = 4096 := by decide +kernel
/-- The ring wraps after its last slot (R422). -/
theorem test_pannier_wrap : (after .slotProgramDone { dev with pan := { dev.pan with programming := some (record, false, 65535) } }).pan.next = 0 := by decide +kernel
/-- An import whose two keys are equal is refused (R302). -/
theorem test_import_equal_keys : ((after (.importSlot .sideband 1023 ⟨0, 1023, true, 5, 5⟩) slots).keySlot 1023).st = .empty := by decide +kernel
/-- A width of 8 narrows to 4 (R218). -/
theorem test_l0p : ((after (.l0pNarrow 0) dev).port 0).txWidth = 4 := by decide +kernel
/-- A fifth waiting refresh issues them all (R246). -/
theorem test_refresh_limit : (after (.refresh 0 0 true) (channels { channel with ranks := [(0, ⟨.active, 4, false⟩)] })).rank 0 0 = some ⟨.active, 0, false⟩ := by decide +kernel
/-- The last channel's domain, idle, is asked to stop (R362). -/
theorem test_idle_entry : ((after (.idlePolicyTimeout 27) { dev with chans := (List.range 16).map fun c => (c, { channel with st := .quiet }) }).dom 27).st = .stopping false := by decide +kernel
/-- A ninth measure above the bound is counted only (R108). -/
theorem test_level_counts : (after .pressureMeasure (pressed 1836 1 8)).level = 1 ∧ (after .pressureMeasure (pressed 1836 1 8)).cap.fall = 9 := by decide +kernel
/-- PACE rises by 25 to 100 (R390). -/
theorem test_pace : (after .paceStep (({ dev with cad := { stage := 3, releasing := true } } : State).setF Reg.CAD_PACE.PACE 80)).f Reg.CAD_PACE.PACE = 100 := by decide +kernel
/-- A flit past the expected one is answered with a Nak for the expected one (R210). -/
theorem test_nak : (after (.flitReceive 0 ⟨6, .good, false, [], []⟩) (flitted 5)).out = [.nak 0 5] := by decide +kernel
/-- Symbols in error of one device are corrected, of two are not; with a mark the marked device's are erased, and four more symbols are corrected but not five (R265, R266). -/
theorem test_outer_code :
    let burst (l : List (Fin 10 × Fin 9)) : BurstErrors := ⟨0, false, 1, 77, l⟩
    let marked := channels { channel with marks := [(0, false, 3)] }
    ((channels channel).outerCode 0 (burst [(3, 8)])).map (·.map (·.dev)) = some [3] ∧ (channels channel).outerCode 0 (burst [(3, 1), (4, 1)]) = none ∧
    (marked.outerCode 0 (burst [(3, 8), (4, 4)])).isSome = true ∧ marked.outerCode 0 (burst [(3, 8), (4, 4), (5, 1)]) = none := by decide +kernel

end Sys2Proof.Tests
end

section
/-! PROOFS. Aligned 4-byte accesses to BAR0, GEN_ID, offsets with no register, the latch of a paired register, and register writes by their source (R2, R5 to R11, R447). -/

namespace Sys2Proof.Machine

/-! ## Which offsets hold a register (R7) -/

/-- A register of the tables stands at the offset of every pair of its indices. -/
theorem regAt_isSome_of_indices {r : RegInfo} {off i j : Nat} (hr : r ∈ regs) (h1 : r.lo1 ≤ i) (h2 : i ≤ r.hi1) (h3 : j ≤ r.hi2)
    (ho : off = r.off + r.s1 * i + r.s2 * j) : (regAt off).isSome = true := by
  refine List.find?_isSome.2 ⟨r, hr, ?_⟩
  simp only [RegInfo.covers, List.any_eq_true, List.mem_range, Bool.and_eq_true, decide_eq_true_eq, beq_iff_eq]
  exact ⟨i, by omega, h1, j, by omega, ho⟩

/-- The low halves of BBX_SEQ, of TB_NOW and of DEEP_DICTn_REFS for n from 1 to 15. -/
theorem pairedLow_iff (off : Nat) :
    pairedLow off = true ↔ off = 0x750008 ∨ off = 0x810000 ∨ (0x230110 ≤ off ∧ off < 0x230200 ∧ off % 16 = 4) := by
  simp [pairedLow, or_assoc, and_assoc]

theorem regAt_isSome_of_pairedLow {off : Nat} (h : pairedLow off = true) : (regAt off).isSome = true := by
  obtain rfl | rfl | ⟨hlo, hhi, hmod⟩ := (pairedLow_iff off).1 h
  · decide
  · decide
  · exact regAt_isSome_of_indices (r := ⟨0x230104, 0x10, 1, 15, 0x0, 0, 0x0, 0x0, 0x0, 0x0, 0x0, 0x0, 0x0⟩) (i := (off - 0x230104) / 16) (j := 0)
      (by simp [regs, regs1]) (by dsimp only; omega) (by dsimp only; omega) (Nat.le_refl 0) (by dsimp only; omega)

theorem regAt_isSome_of_pairedHigh {off : Nat} (h : pairedHigh off = true) : (regAt off).isSome = true := by
  simp only [pairedHigh, Bool.and_eq_true, decide_eq_true_eq] at h
  obtain ⟨h4, hlow⟩ := h
  obtain ho | ho | ⟨hlo, hhi, hmod⟩ := (pairedLow_iff _).1 hlow
  · obtain rfl : off = 0x75000C := by omega
    decide
  · obtain rfl : off = 0x810004 := by omega
    decide
  · exact regAt_isSome_of_indices (r := ⟨0x230108, 0x10, 1, 15, 0x0, 0, 0x0, 0x0, 0x0, 0x0, 0x0, 0x0, 0x0⟩) (i := (off - 0x230108) / 16) (j := 0)
      (by simp [regs, regs1]) (by dsimp only; omega) (by dsimp only; omega) (Nat.le_refl 0) (by dsimp only; omega)

/-- The high half of a paired register is the low half of none. -/
theorem pairedLow_add_four {off : Nat} (h : pairedLow off = true) : pairedLow (off + 4) = false := by
  rw [Bool.eq_false_iff]
  intro h'
  have hlow := (pairedLow_iff off).1 h
  have hhigh := (pairedLow_iff (off + 4)).1 h'
  omega

theorem pairedHigh_add_four {off : Nat} (h : pairedLow off = true) : pairedHigh (off + 4) = true := by simp [pairedHigh, h]

theorem pairedLow_aligned {off : Nat} (h : pairedLow off = true) : off % 4 = 0 := by
  have := (pairedLow_iff off).1 h
  omega

/-! ## One aligned word (R6) -/

theorem pieces_word {off : Nat} (h : off % 4 = 0) : pieces off 4 = [(off, true)] := by
  have hn : (off + 4 + 3) / 4 - off / 4 = 1 := by omega
  have ho : off / 4 * 4 = off := by omega
  simp [pieces, hn, ho, List.range_succ]

theorem leBytes_length (n v : Nat) : (leBytes n v).length = n := by simp [leBytes]

/-- An aligned 4-byte write is one write of its word. -/
theorem exec_registerWrite_word (s : State) (w : Via) {off : BitVec 24} (v : BitVec 32768) (h : off.toNat % 4 = 0) :
    exec (.registerWrite w (.bar0 off) 4 v) s = .next (s.writeWord w off.toNat (v.setWidth 32)) := by
  have hexec : exec (.registerWrite w (.bar0 off) 4 v) s = .next (s.writeAccess w off.toNat 4 v) := rfl
  simp [hexec, State.writeAccess, pieces_word h]

/-- An aligned 4-byte read that is answered is one read of its word, and the message with its four bytes. -/
theorem exec_pairedLowRead_word {s : State} {w : Via} {off : BitVec 24} (h : off.toNat % 4 = 0) (ha : s.regAnswers w off.toNat = true) :
    exec (.pairedLowRead w .b0 off 4) s =
      .next ((s.readWord w off.toNat).2.send (.readData w .b0 off.toNat (leBytes 4 (s.readWord w off.toNat).1.toNat))) := by
  have hexec : exec (.pairedLowRead w .b0 off 4) s = execPairedLowRead w .b0 off 4 s := rfl
  have hbytes : s.readBytes w .b0 off.toNat 4 = (leBytes 4 (s.readWord w off.toNat).1.toNat, (s.readWord w off.toNat).2) := by
    simp [State.readBytes, pieces_word h, State.readBar, h, List.take_of_length_le, leBytes_length]
  simp [hexec, execPairedLowRead, ha, hbytes]

/-! ## What a word read gives (R5, R446) -/

theorem State.readWord_pairedLow {s : State} {w : Via} {off : Nat} (ha : s.regAnswers w off = true) (h : pairedLow off = true) :
    s.readWord w off = (s.view w off, { s with latches := s.latches.set 0 (latchKey w off) (s.view w (off + 4)) }) := by
  simp [State.readWord, ha, h]

theorem State.readWord_pairedHigh {s : State} {w : Via} {off : Nat} (ha : s.regAnswers w (off + 4) = true) (h : pairedLow off = true) :
    s.readWord w (off + 4) = (s.latches.get 0 (latchKey w off), s) := by
  simp [State.readWord, ha, pairedLow_add_four h, pairedHigh_add_four h]

/-- A register that is no half of a pair and not BBX_RD_DATA is read without effect. -/
theorem State.readWord_plain {s : State} {w : Via} {off : Nat} (ha : s.regAnswers w off = true) (hl : pairedLow off = false)
    (hh : pairedHigh off = false) (hd : off ≠ 0x75001C) : s.readWord w off = (s.view w off, s) := by
  simp [State.readWord, ha, hl, hh, hd]

/-- Each source has latches of its own. -/
theorem latchKey_ne {w w' : Via} {off o : Nat} (hw : w' ≠ w) (hoff : off < 2 ^ 24) (ho : o < 2 ^ 24) : latchKey w' o ≠ latchKey w off := by
  have hkey : viaKey w' ≠ viaKey w := by
    intro h
    cases w with
    | sideband =>
      cases w' with
      | sideband => exact hw rfl
      | head k => exact Nat.ne_of_lt k.isLt h
    | head j =>
      cases w' with
      | sideband => exact Nat.ne_of_gt j.isLt h
      | head k => exact hw (congrArg Via.head (Fin.ext h))
  unfold latchKey
  omega

/-! ## GEN_ID (R2) -/

theorem State.view_genId (s : State) (w : Via) : s.view w 0 = 0x001600B1 := by
  have hreg : regAt 0 = some ⟨0x0, 0x0, 0, 0, 0x0, 0, 0x1600B1, 0x0, 0x0, 0x0, 0x0, 0x0, 0x0⟩ := by decide
  simp [State.view, cxlReg, hreg, prtReg]

theorem State.readWord_genId {s : State} {w : Via} (ha : s.regAnswers w 0 = true) : s.readWord w 0 = (0x001600B1, s) := by
  rw [State.readWord_plain ha (by decide) (by decide) (by decide), State.view_genId]

theorem State.regAnswers_head {s : State} {h : Head} (hr : s.mainRuns = true) (hh : h ∈ s.heads) (off : Nat) : s.regAnswers (.head h) off = true := by
  simp [State.regAnswers, State.regsUp, hr, hh]

theorem State.regAnswers_genId_sideband {s : State} (hs : s.sbUp = true) : s.regAnswers .sideband 0 = true := by
  simp [State.regAnswers, hs]

/-- Settles O10: GEN_ID is a plain register whose view is a constant, and Kickstand alone serves it over the sideband. -/
theorem genIdReads : Obligations.GenIdReads := by
  intro s
  refine ⟨fun h hr hh => State.readWord_genId (State.regAnswers_head hr hh 0), fun hs => State.readWord_genId (State.regAnswers_genId_sideband hs), fun hk => ?_⟩
  have hexec : exec (.readRegister 0) s =
      .next (s.kickServes fun s => (s.readWord .sideband 0).2.send (.register .sideband 0 (s.readWord .sideband 0).1)) := rfl
  rw [hexec, State.kickServes_eq hk, State.readWord_genId (State.regAnswers_genId_sideband hk.1)]
  rfl

/-! ## Offsets with no register (R7) -/

theorem State.view_undefined (s : State) (w : Via) {off : Nat} (hr : regAt off = none) (hc : cxlReg off = false) : s.view w off = 0 := by
  simp [State.view, hr, hc]

theorem State.readWord_undefined {s : State} {w : Via} {off : Nat} (ha : s.regAnswers w off = true) (hr : regAt off = none) (hc : cxlReg off = false) :
    s.readWord w off = (0, s) := by
  have hl : pairedLow off = false := by
    rw [Bool.eq_false_iff]
    intro h
    simpa [hr] using regAt_isSome_of_pairedLow h
  have hh : pairedHigh off = false := by
    rw [Bool.eq_false_iff]
    intro h
    simpa [hr] using regAt_isSome_of_pairedHigh h
  have hd : off ≠ 0x75001C := by
    rintro rfl
    exact absurd hr (by decide)
  rw [State.readWord_plain ha hl hh hd, State.view_undefined s w hr hc]

theorem State.writeWord_undefined (s : State) (w : Via) {off : Nat} (v : Word) (hr : regAt off = none) (hc : cxlReg off = false) :
    s.writeWord w off v = s := by
  simp [State.writeWord, hr, hc]

/-- Settles O11: no half of a paired register and not BBX_RD_DATA lies there, so the read has no effect of its own. -/
theorem undefinedOffsets : Obligations.UndefinedOffsets := by
  intro s w off v h4 hr hc
  refine ⟨?_, fun ha => ?_⟩
  · rw [exec_registerWrite_word s w v h4, State.writeWord_undefined s w _ hr hc]
  · rw [exec_pairedLowRead_word h4 ha, State.readWord_undefined ha hr hc, show leBytes 4 (0 : Word).toNat = [0, 0, 0, 0] by decide]
    rfl

/-! ## Paired registers (R5) -/

/-- Settles O12: the latch stands under a key of the source and the low half, which no other source shares. -/
theorem lowHalfLatchesHighHalf : Obligations.LowHalfLatchesHighHalf := by
  intro s w off hp ha
  refine ⟨_, exec_pairedLowRead_word (pairedLow_aligned hp) ha, ?_⟩
  rw [State.readWord_pairedLow ha hp]
  refine ⟨rfl, fun u hu hua => ?_, fun w' o hw ho => ?_, rfl⟩
  · have hlatch : u.latches = s.latches.set 0 (latchKey w off.toNat) (s.view w (off.toNat + 4)) := hu
    rw [State.readWord_pairedHigh hua hp, hlatch, Tbl.get_set_self]
  · exact Tbl.get_set_ne _ _ _ (latchKey_ne hw off.isLt ho)

/-! ## Writes by source (R10, R11, R447) -/

/-- A device-wide register drops a write through a head other than the owner. -/
theorem State.writeWord_nonowner {s : State} {w : Via} {off : Nat} (v : Word) (hlo : 0x200000 ≤ off) (hhi : off < 0x800000)
    (hr : (regAt off).isSome = true) (ha : s.regAnswers w off = true) (ho : s.isOwner w = false) : s.writeWord w off v = s.nonowner := by
  have hcxl : cxlReg off = false := by
    simp only [cxlReg, Bool.or_eq_false_iff, Bool.and_eq_false_iff, decide_eq_false_iff_not]
    omega
  have hprt : prtReg off = none := if_neg (by omega)
  have hdef : (regAt off).isNone = false := by simpa using hr
  have hw : (w == .sideband) = false := by
    cases w with
    | sideband => simp [State.isOwner] at ho
    | head h => rfl
  simp [State.writeWord, State.wideWrite, ha, hcxl, hdef, hprt, hw, ho, show ¬ 0x800040 ≤ off by omega, show ¬ 0x800100 ≤ off by omega,
    show ¬ 0x800200 ≤ off by omega]

/-- The row of DRL_CFG: four RWL bits (R172). -/
def drlCfg : RegInfo := ⟨0x240000, 0x0, 0, 0, 0x0, 0, 0xF, 0x0, 0xF, 0x0, 0x0, 0x0, 0x0⟩

theorem regAt_drlCfg : regAt 0x240000 = some drlCfg := by decide

/-- A register whose fields are all RWL takes its writable bits while the lock is open (R9). -/
theorem State.putCodes_rwl_open (s : State) (off : Nat) {r : RegInfo} (v : Word) (hrw : r.rw = 0#32) (hrws : r.rws = 0#32) (hw1c : r.w1c = 0#32) :
    s.putCodes off r v false = s.setWord off (s.word off &&& ~~~r.rwl ||| v &&& r.rwl) := by
  simp only [State.putCodes, hrw, hrws, hw1c, Bool.false_eq_true, if_false, Bool.false_and, BitVec.zero_or, BitVec.and_zero, BitVec.not_zero,
    BitVec.and_allOnes]

/-- Under the lock it takes no bit, and the try is recorded (R10). -/
theorem State.putCodes_rwl_locked (s : State) (off : Nat) {r : RegInfo} (v : Word) (hrw : r.rw = 0#32) (hrws : r.rws = 0#32) (hw1c : r.w1c = 0#32)
    (hrwl : (r.rwl != 0) = true) : s.putCodes off r v true = (s.setWord off (s.word off)).lockDrop := by
  simp only [State.putCodes, hrw, hrws, hw1c, hrwl, if_true, Bool.true_and, BitVec.zero_and, BitVec.zero_or, BitVec.or_zero, BitVec.and_zero,
    BitVec.not_zero, BitVec.and_allOnes]

/-- No rule but that of the access codes holds for DRL_CFG, and no domain holds a copy of it (R9, R372). -/
theorem State.writeWord_drlCfg {s : State} {w : Via} (v : Word) (ha : s.regAnswers w 0x240000 = true) (ho : s.isOwner w = true) :
    s.writeWord w 0x240000 v = s.putCodes 0x240000 drlCfg v s.locked := by
  simp [State.writeWord, State.wideWrite, State.putReg, State.clearGuarded, State.staleDomains, copyDomains, guardedLogs, cxlReg, prtReg, regAt_drlCfg, ha, ho]

/-- Settles O14: through the word write of each source; the CXL-defined targets and BAR2 have no other path. -/
theorem registerWritesBySource : Obligations.RegisterWritesBySource := by
  intro s w v
  have hoff : (0x240000 : BitVec 24).toNat = 0x240000 := rfl
  refine ⟨fun off h4 hlo hhi hr ha ho => ?_, fun ha ho => ⟨fun hl => ?_, fun hl => ?_⟩, fun off size => rfl, fun ha size hn => ?_⟩
  · refine ⟨_, exec_registerWrite_word s w v h4, ?_⟩
    rw [State.writeWord_nonowner _ hlo hhi hr ha ho]
    exact ⟨State.fb_flag_self s _ (by decide) (by decide), fun o ho => State.word_setF_ne s Reg.GEN_STATUS.NONOWN_DROP 1 ho, rfl⟩
  · refine ⟨_, exec_registerWrite_word s w v (off := 0x240000) rfl, ?_⟩
    rw [hoff, State.writeWord_drlCfg _ ha ho, hl, State.putCodes_rwl_open s _ _ rfl rfl rfl]
    exact ⟨State.word_setWord_self .., fun o ho => State.word_setWord_ne s _ ho, rfl⟩
  · refine ⟨_, exec_registerWrite_word s w v (off := 0x240000) rfl, ?_⟩
    rw [hoff, State.writeWord_drlCfg _ ha ho, hl, State.putCodes_rwl_locked s _ _ rfl rfl rfl rfl]
    refine ⟨?_, State.fb_flag_self _ _ (by decide) (by decide), rfl⟩
    exact (State.word_setF_ne _ Reg.GEN_STATUS.LOCK_DROP 1 (by decide)).trans (State.word_setWord_self ..)
  · have hserved : (s.regAnswers w 0x10000 && decide (4 ≤ size.val)) = true := by simp [ha, hn]
    have hcxl (g : Port → Port) : (if s.regAnswers w 0x10000 && decide (4 ≤ size.val) then s.updPort (s.viewHead w) g else s) = s.updPort (s.viewHead w) g :=
      if_pos hserved
    exact ⟨congrArg _ (hcxl _), congrArg _ (hcxl _), congrArg _ (hcxl _), fun off => congrArg _ (hcxl _)⟩

end Sys2Proof.Machine
end

section
/-! PROOFS. COMMIT_STEP of ZERO_RANGE on a page of a DIRECT extent, and the end of a range command with no step left (R23, R338, R341, R471). -/

namespace Sys2Proof.Machine

/-! ## One command in the list of commands in progress (R337) -/

theorem State.cmdOf_id {s : State} {id : Nat} {c : Cmd} (h : s.cmdOf id = some c) : c.id = id := by
  simpa using List.find?_some h

/-- A change that keeps the number of a command is seen at that command. -/
theorem State.cmdOf_updCmd (s : State) (id : Nat) (g : Cmd → Cmd) (hg : ∀ c, (g c).id = c.id) : (s.updCmd id g).cmdOf id = (s.cmdOf id).map g := by
  unfold State.cmdOf State.updCmd updWhere
  dsimp only
  induction s.cmd.cmds with
  | nil => rfl
  | cons c cs ih =>
    by_cases h : c.id = id
    · simp [h, hg]
    · simp only [List.map_cons, List.find?_cons, beq_eq_false_iff_ne.2 h, Bool.false_eq_true, if_false]
      exact ih

/-- What the end of a command leaves of it. -/
def Cmd.endedWith (status : BitVec 8) (result : Nat) (c : Cmd) : Cmd :=
  if c.phase = .ended then c else { c with phase := .ended, status := status, result := BitVec.ofNat 64 result, waits := false }

theorem Cmd.endedWith_id (status : BitVec 8) (result : Nat) (c : Cmd) : (c.endedWith status result).id = c.id := by
  unfold Cmd.endedWith
  split <;> rfl

theorem Cmd.endedWith_made (status : BitVec 8) (result : Nat) (c : Cmd) : (c.endedWith status result).made = c.made := by
  unfold Cmd.endedWith
  split <;> rfl

theorem State.endCmd_eq_updCmd (s : State) (id : Nat) (status : BitVec 8) (result : Nat) :
    s.endCmd id status result = s.updCmd id (Cmd.endedWith status result) := by
  have hcmds : (updWhere (fun c => c.id == id && c.phase != .ended) (fun c : Cmd => { c with phase := .ended, status := status, result := BitVec.ofNat 64 result, waits := false }) s.cmd.cmds) =
      updWhere (·.id == id) (Cmd.endedWith status result) s.cmd.cmds := by
    refine List.map_congr_left fun c _ => ?_
    by_cases hid : c.id = id <;> by_cases hp : c.phase = .ended <;> simp [Cmd.endedWith, hid, hp]
  unfold State.endCmd State.updCmd
  rw [hcmds]

/-- A command as its commit leaves it (R25, R336). -/
def Cmd.committedAt (tb : BitVec 64) (c : Cmd) : Cmd := { c with made := c.made + 1, next := c.next + 1, time := some tb }

theorem State.cmdMade_eq_updCmd (s : State) (id : Nat) : s.cmdMade id = s.updCmd id (Cmd.committedAt s.tb) := rfl

theorem OnlyCmds.mem {s t : State} (h : OnlyCmds s t) : t.mem = s.mem := by
  have hmem := congrArg State.mem h
  exact hmem

theorem OnlyCmds.bad {s t : State} (h : OnlyCmds s t) : t.bad = s.bad := by
  have hbad := congrArg State.bad h
  exact hbad

theorem OnlyCmds.xlt {s t : State} (h : OnlyCmds s t) : t.xlt = s.xlt := by
  have hxlt := congrArg State.xlt h
  exact hxlt

/-! ## COMMIT_STEP by what the step answers (R338) -/

theorem State.running_of_stepping {s : State} {c : Cmd} (h : s.stepping c = true) : c.phase = .running := by
  simp only [State.stepping, Bool.and_eq_true, beq_iff_eq] at h
  obtain ⟨⟨hrun, -⟩, -⟩ := h
  exact hrun

/-- A running command other than SANITIZE ends once no step is left. -/
theorem State.settleCmd_eq {s : State} {id : Nat} {c : Cmd} (hc : s.cmdOf id = some c) (hrun : c.phase = .running) (hop : dOp c.desc ≠ 0x0A) :
    s.settleCmd id = if c.steps ≤ c.next then s.endCmd id 0 c.made else s := by
  simp [State.settleCmd, State.endSteps, hc, hrun, hop, State.cmdOf_id hc]

section
variable {s : State} {id : Nat} {c : Cmd} (hc : s.cmdOf id = some c) (hs : s.stepping c = true) (hop : dOp c.desc ≠ 0x0E) (run : CodecRun)
include hc hs hop

theorem exec_commitStep_last (hlast : c.steps ≤ c.next) : exec (.commitStep id run false) s = .next (s.settleCmd id) := by
  have hexec : exec (.commitStep id run false) s = execCommitStep id run false s := rfl
  simp [hexec, execCommitStep, hc, hs, hop, hlast]

theorem exec_commitStep_made {u : State} (hleft : c.next < c.steps) (ha : c.abort = false) (hm : s.stepOf c run = .made u) :
    exec (.commitStep id run false) s = .next ((u.cmdMade id).settleCmd id) := by
  have hexec : exec (.commitStep id run false) s = execCommitStep id run false s := rfl
  simp [hexec, execCommitStep, hc, hs, hop, ha, hm, Nat.not_le.2 hleft]

end

/-- A commit is counted for its command, which ends when the step was its last; nothing else changes. -/
theorem State.cmdMade_settleCmd {s : State} {id : Nat} {c : Cmd} (hc : s.cmdOf id = some c) (hrun : c.phase = .running) (hop : dOp c.desc ≠ 0x0A) :
    (((s.cmdMade id).settleCmd id).cmdOf id).map (·.made) = some (c.made + 1) ∧ OtherCmds s ((s.cmdMade id).settleCmd id) id ∧
    OnlyCmds s ((s.cmdMade id).settleCmd id) := by
  have hid : ∀ x : Cmd, (x.committedAt s.tb).id = x.id := fun _ => rfl
  have hcm : (s.cmdMade id).cmdOf id = some (c.committedAt s.tb) := by
    rw [State.cmdMade_eq_updCmd, State.cmdOf_updCmd s id _ hid, hc, Option.map_some]
  have hothers : OtherCmds s (s.cmdMade id) id := State.updCmd_others s id _ hid
  rw [State.settleCmd_eq hcm hrun hop]
  split
  · rw [State.endCmd_eq_updCmd]
    refine ⟨?_, (State.updCmd_others _ id _ (Cmd.endedWith_id _ _)).trans hothers, rfl⟩
    rw [State.cmdOf_updCmd _ id _ (Cmd.endedWith_id _ _), hcm]
    exact congrArg some (Cmd.endedWith_made ..)
  · exact ⟨by rw [hcm]; rfl, hothers, rfl⟩

/-! ## The step of ZERO_RANGE (R23, R471) -/

/-- Nothing of `n` lines from `l` stands in the near cache, its buffers or RTK. -/
structure Uncached (s : State) (l n : Nat) : Prop where
  lines : ∀ x ∈ s.nc.lines, inLines l n x.1 = false
  wbb : ∀ x ∈ s.nc.wbb, inLines l n x.line = false
  fills : ∀ x ∈ s.nc.fills, inLines l n x.line = false
  rtk : ∀ x ∈ s.rtk, inLines l n x.line = false

/-- Lines that stand nowhere are dropped without effect. -/
theorem State.dropLines_of_uncached {s : State} {l n : Nat} (h : Uncached s l n) : s.dropLines l n = s := by
  have hheld (q : RtkEntry → Bool) : (s.rtk.filter fun r => inLines l n r.line && q r) = [] := List.filter_eq_nil_iff.2 fun x hx => by simp [h.rtk x hx]
  have hfills : (s.nc.fills.filter fun f => inLines l n f.line && !f.stale) = [] := List.filter_eq_nil_iff.2 fun x hx => by simp [h.fills x hx]
  have hpool : (s.nc.lines.any fun p => inLines l n p.1 && p.2.pool.isSome) = false := List.any_eq_false.2 fun x hx => by simp [h.lines x hx]
  have hlines : (s.nc.lines.filter fun p => !inLines l n p.1) = s.nc.lines := List.filter_eq_self.2 fun x hx => by simp [h.lines x hx]
  have hwbb : (s.nc.wbb.filter fun w => !inLines l n w.line) = s.nc.wbb := List.filter_eq_self.2 fun x hx => by simp [h.wbb x hx]
  unfold State.dropLines
  simp only [hheld, List.map_nil, List.foldl_nil, hfills, hpool, hlines, hwbb, Bool.false_eq_true, if_false]

/-- A byte after a page has been cleared. -/
theorem State.read_clearLines_page (s : State) (p a : Nat) :
    Memory.read (s.clearLines (pageLine p) 64).mem a = if a / 4096 = p then 0 else Memory.read s.mem a := by
  have hin : (64 * pageLine p ≤ a ∧ a < 64 * pageLine p + 64 * 64) ↔ a / 4096 = p := by
    unfold pageLine
    omega
  simp only [State.clearLines, Memory.read_clear, hin]

/-- No line of a cleared page is recorded poisoned. -/
theorem State.isBad_clearLines_page (s : State) {p l : Nat} (h : l / 64 = p) : (s.clearLines (pageLine p) 64).isBad l = false := by
  have hin : pageLine p ≤ l ∧ l < pageLine p + 64 := by
    unfold pageLine
    omega
  have hlook := Tbl.look_filter_key s.bad (fun k => !(decide (pageLine p ≤ k) && decide (k < pageLine p + 64))) l
  simp only [State.isBad, State.clearLines, Tbl.has, hlook]
  simp [hin]

/-- A page of a DIRECT extent zeroed in storage, and marked as being zeroed (R471). -/
def State.zeroedDirect (s : State) (p : Nat) : State :=
  { s.clearLines (pageLine p) 64 with xlt := { s.xlt with zeroing := s.xlt.zeroing.put p () } }

theorem State.zeroStep_direct {s : State} {p : Nat} (c : Cmd) (hclear : s.stepClear (pageLine p) 64 = (true, s)) (hway : s.inWay (p / 512) = .clear)
    (hdir : (s.extRec (p / 512)).mode = .direct) (hnc : Uncached s (pageLine p) 64) : s.zeroStep c p = .made (s.zeroedDirect p) := by
  unfold State.zeroStep State.onExtent
  simp only [hclear, hway, hdir, State.dropLines_of_uncached hnc]
  rfl

/-- Settles O25: the page step clears the page in storage alone, and the commit or the end then changes the command alone. -/
theorem commitStepZeroes : Obligations.CommitStepZeroes := by
  intro s id c hc hs
  have hrun := State.running_of_stepping hs
  refine ⟨fun hop ha hleft => ?_, fun hop hlast run => ?_⟩
  · intro p hclear hway hdir hlines hwbb hfills hrtk run
    have hstep : s.stepOf c run = .made (s.zeroedDirect p) := by
      simp only [State.stepOf, hop]
      exact State.zeroStep_direct c hclear hway hdir ⟨hlines, hwbb, hfills, hrtk⟩
    have hcu : (s.zeroedDirect p).cmdOf id = some c := hc
    obtain ⟨hmade, hothers, honly⟩ := State.cmdMade_settleCmd hcu hrun (by simp [hop])
    refine ⟨_, exec_commitStep_made hc hs (by simp [hop]) run hleft ha hstep, ?_⟩
    generalize ((s.zeroedDirect p).cmdMade id).settleCmd id = t at hmade hothers honly
    refine ⟨fun a => ?_, fun l hl => ?_, honly.xlt, hmade, hothers, ?_⟩
    · rw [honly.mem]
      exact State.read_clearLines_page s p a
    · rw [State.isBad, honly.bad]
      exact State.isBad_clearLines_page s hl
    · exact congrArg (fun x : State => { x with mem := s.mem, bad := s.bad, xlt := s.xlt, cmd := s.cmd }) honly
  · have hops : dOp c.desc ≠ 0x0A ∧ dOp c.desc ≠ 0x0E := by
      constructor <;> (intro h; simp [h] at hop)
    refine ⟨_, exec_commitStep_last hc hs hops.2 run hlast, ?_⟩
    rw [State.settleCmd_eq hc hrun hops.1, if_pos hlast]
    exact ⟨State.endCmd_ended s id 0 c.made c hc (by simp [hrun]), State.endCmd_only ..⟩

end Sys2Proof.Machine
end

section
/-! PROOFS. The DevLoad of each presented head at the end of an interval (R64, R65). -/

namespace Sys2Proof.Machine

theorem levelOf_le_three (v opt mod sev : Nat) : levelOf v opt mod sev ≤ 3 := by
  unfold levelOf
  split_ifs <;> omega

theorem occLevel_le_three (w : Word) (n size : Nat) : occLevel w n size ≤ 3 := levelOf_le_three ..

theorem dlyLevel_le_three (w : Word) (delay : Option Nat) : dlyLevel w delay ≤ 3 := by
  cases delay with
  | none => exact Nat.zero_le 3
  | some d => exact levelOf_le_three ..

theorem State.devFloor_le_three (s : State) : s.devFloor ≤ 3 := by
  unfold State.devFloor
  split <;> omega

theorem headsOf_nodup (t : Straps) : (headsOf t).Nodup := by
  unfold headsOf
  split <;> split <;> decide

theorem State.heads_nodup (s : State) : s.heads.Nodup := by
  unfold State.heads
  split
  · exact List.nodup_nil
  · exact headsOf_nodup _

/-- The level that a head's measures and Cadence's floor give (R64). -/
def State.devLevel (s : State) (h : Head) (delay : Option Nat) : Nat :=
  max (max (occLevel s.dldWords.1 (s.port h).occPeak (2 * s.linkCredits h)) (dlyLevel s.dldWords.2 delay)) s.devFloor

theorem State.devLevel_le_three (s : State) (h : Head) (delay : Option Nat) : s.devLevel h delay ≤ 3 :=
  max_le (max_le (occLevel_le_three ..) (dlyLevel_le_three ..)) s.devFloor_le_three

/-- The engine of a head after an interval (R65). -/
def State.devPort (s : State) (h : Head) (delay : Option Nat) : Port :=
  let p := s.port h
  let moved : Port :=
    if p.devload.toNat ≤ s.devLevel h delay then { p with devload := BitVec.ofNat 2 (s.devLevel h delay), dlBelow := 0 }
    else if 8 ≤ p.dlBelow + 1 then { p with devload := BitVec.ofNat 2 (p.devload.toNat - 1), dlBelow := 0 }
    else { p with dlBelow := p.dlBelow + 1 }
  { moved with occPeak := (s.rtk.filter fun r => r.head == h && r.chan != .inner).length }

theorem State.devloadOne_eq (s : State) (h : Head) (delay : Option Nat) : s.devloadOne h delay = s.updPort h fun _ => s.devPort h delay := rfl

/-- The interval of one head does not see what another head's interval changed. -/
theorem State.devPort_updPort_ne (s : State) {h k : Head} (g : Port → Port) (delay : Option Nat) (e : k ≠ h) :
    (s.updPort h g).devPort k delay = s.devPort k delay := by
  have hp : (s.updPort h g).port k = s.port k := s.port_updPort_ne g e
  have hl : (s.updPort h g).devLevel k delay = s.devLevel k delay := by
    unfold State.devLevel
    rw [hp]
    rfl
  unfold State.devPort
  rw [hp, hl]
  rfl

/-- The intervals of distinct heads, one after the other, change the engines of those heads alone, each from the state before all of them. -/
theorem State.devloadOne_foldl (delay : Head → Option Nat) {hs : List Head} (hn : hs.Nodup) (s : State) :
    let t := hs.foldl (fun s h => s.devloadOne h (delay h)) s
    { t with ports := s.ports } = s ∧ (∀ k, k ∉ hs → t.port k = s.port k) ∧ ∀ k ∈ hs, t.port k = s.devPort k (delay k) := by
  induction hs generalizing s with
  | nil => exact ⟨rfl, fun _ _ => rfl, fun _ hk => nomatch hk⟩
  | cons h hs ih =>
    obtain ⟨hh, hn⟩ := List.nodup_cons.1 hn
    obtain ⟨hframe, hout, hin⟩ := ih hn (s.devloadOne h (delay h))
    refine ⟨?_, fun k hk => ?_, fun k hk => ?_⟩
    · exact congrArg (fun x : State => { x with ports := s.ports }) hframe
    · obtain ⟨hne, hk⟩ := not_or.1 (mt List.mem_cons.2 hk)
      exact (hout k hk).trans (s.port_updPort_ne _ hne)
    · rcases List.mem_cons.1 hk with rfl | hk
      · exact (hout k hh).trans (s.port_updPort_self ..)
      · have hne : k ≠ h := fun e => hh (e ▸ hk)
        exact (hin k hk).trans (s.devPort_updPort_ne _ _ hne)

section
variable {s : State} {h : Head} {delay : Option Nat}

theorem State.devPort_not_below (hv : (s.port h).devload.toNat ≤ s.devLevel h delay) :
    (s.devPort h delay).devload.toNat = s.devLevel h delay ∧ (s.devPort h delay).dlBelow = 0 := by
  have hlt : s.devLevel h delay < 2 ^ 2 := Nat.lt_succ_of_le (s.devLevel_le_three h delay)
  simp only [State.devPort, if_pos hv, BitVec.toNat_ofNat, Nat.mod_eq_of_lt hlt, and_self]

theorem State.devPort_eighth_below (hv : s.devLevel h delay < (s.port h).devload.toNat) (hn : 7 ≤ (s.port h).dlBelow) :
    (s.devPort h delay).devload.toNat = (s.port h).devload.toNat - 1 ∧ (s.devPort h delay).dlBelow = 0 := by
  have hlt : (s.port h).devload.toNat - 1 < 2 ^ 2 := Nat.lt_of_le_of_lt (Nat.sub_le ..) (s.port h).devload.isLt
  simp only [State.devPort, if_neg (Nat.not_le.2 hv), if_pos (Nat.succ_le_succ hn), BitVec.toNat_ofNat, Nat.mod_eq_of_lt hlt, and_self]

theorem State.devPort_below (hv : s.devLevel h delay < (s.port h).devload.toNat) (hn : (s.port h).dlBelow < 7) :
    (s.devPort h delay).devload = (s.port h).devload ∧ (s.devPort h delay).dlBelow = (s.port h).dlBelow + 1 := by
  have h8 : ¬ 8 ≤ (s.port h).dlBelow + 1 := by omega
  simp only [State.devPort, if_neg (Nat.not_le.2 hv), if_neg h8, and_self]

end

/-- Settles O43: the heads' intervals do not see one another, and each moves its head by the three cases of R65. -/
theorem devLoadMoves : Obligations.DevLoadMoves := by
  intro s delays hrun
  have hexec : exec (.devloadInterval delays) s = .next (s.heads.foldl (fun s h => s.devloadOne h ((delays[h.val]?).join)) s) :=
    if_neg (by simp [hrun])
  obtain ⟨hframe, hout, hin⟩ := State.devloadOne_foldl (fun h => (delays[h.val]?).join) s.heads_nodup s
  refine ⟨_, hexec, hframe, hout, fun h hh => ?_⟩
  dsimp only
  rw [hin h hh]
  exact ⟨State.devPort_not_below, State.devPort_eighth_below, State.devPort_below⟩

end Sys2Proof.Machine
end

section
/-! PROOFS. The flits that return credits, and the credits of a link that comes up (R54, R208, R213, R215, R224, R352). -/

namespace Sys2Proof.Machine

/-! ## The increments that flits carry (R213) -/

theorem one_le_fieldMax : 1 ≤ fieldMax := Nat.le_add_left ..

/-- Fields as many as the credits are enough to carry them. -/
theorem fieldParts_sum {k n : Nat} (h : n ≤ k) : (fieldParts k n).sum = n := by
  induction k generalizing n with
  | zero => rw [Nat.le_zero.1 h, fieldParts, List.sum_nil]
  | succ k ih =>
    cases n with
    | zero => rfl
    | succ n =>
      have hone := one_le_fieldMax
      have hcons : fieldParts (k + 1) (n + 1) = min (n + 1) fieldMax :: fieldParts k (n + 1 - min (n + 1) fieldMax) := rfl
      rw [hcons, List.sum_cons, ih (by omega)]
      omega

theorem fieldParts_le {k n x : Nat} (h : x ∈ fieldParts k n) : x ≤ fieldMax := by
  induction k generalizing n with
  | zero => exact nomatch h
  | succ k ih =>
    cases n with
    | zero => exact nomatch h
    | succ n =>
      rcases List.mem_cons.1 h with rfl | h
      · exact min_le_right ..
      · exact ih h

theorem getD_getElem?_fieldParts_le (k n i : Nat) : ((fieldParts k n)[i]?).getD 0 ≤ fieldMax := by
  cases hx : (fieldParts k n)[i]? with
  | none => exact Nat.zero_le _
  | some x => exact fieldParts_le (List.mem_of_getElem? hx)

/-- A list of numbers padded with zeros has the same sum. -/
theorem sum_range_getD (l : List Nat) {m : Nat} (h : l.length ≤ m) : ((List.range m).map fun i => (l[i]?).getD 0).sum = l.sum := by
  induction l generalizing m with
  | nil => simp
  | cons x l ih =>
    obtain ⟨m, rfl⟩ : ∃ n, m = n + 1 := ⟨m - 1, by simp at h; omega⟩
    rw [List.range_succ_eq_map, List.map_cons, List.map_map, List.sum_cons, List.sum_cons, ← ih (Nat.succ_le_succ_iff.1 h)]
    rfl

theorem flitParts_sum_req (req rwd : Nat) : ((flitParts req rwd).map (·.1)).sum = req := by
  rw [flitParts, List.map_map]
  exact (sum_range_getD _ (le_max_left ..)).trans (fieldParts_sum le_rfl)

theorem flitParts_sum_rwd (req rwd : Nat) : ((flitParts req rwd).map (·.2)).sum = rwd := by
  rw [flitParts, List.map_map]
  exact (sum_range_getD _ (le_max_right ..)).trans (fieldParts_sum le_rfl)

theorem flitParts_le {req rwd : Nat} {x : Nat × Nat} (h : x ∈ flitParts req rwd) : x.1 ≤ fieldMax ∧ x.2 ≤ fieldMax := by
  obtain ⟨i, -, rfl⟩ := List.mem_map.1 h
  exact ⟨getD_getElem?_fieldParts_le .., getD_getElem?_fieldParts_le ..⟩

/-! ## The flits that carry them -/

/-- Flits numbered from `n` that carry increments, with no message. -/
def creditFlits (key : Option (BitVec 256)) : Nat → List (Nat × Nat) → List TxFlit
  | _, [] => []
  | n, x :: ps => ⟨n, x.1, x.2, 0, none, key⟩ :: creditFlits key (n + 1) ps

section
variable (key : Option (BitVec 256)) (n : Nat) (ps : List (Nat × Nat))

theorem creditFlits_map_reqInc : (creditFlits key n ps).map (·.reqInc) = ps.map (·.1) := by
  induction ps generalizing n with
  | nil => rfl
  | cons x ps ih => exact congrArg (x.1 :: ·) (ih (n + 1))

theorem creditFlits_map_rwdInc : (creditFlits key n ps).map (·.rwdInc) = ps.map (·.2) := by
  induction ps generalizing n with
  | nil => rfl
  | cons x ps ih => exact congrArg (x.2 :: ·) (ih (n + 1))

theorem creditFlits_length : (creditFlits key n ps).length = ps.length := by
  induction ps generalizing n with
  | nil => rfl
  | cons x ps ih => exact congrArg (· + 1) (ih (n + 1))

theorem creditFlits_map_seq : (creditFlits key n ps).map (·.seq) = List.range' n ps.length := by
  induction ps generalizing n with
  | nil => rfl
  | cons x ps ih => exact congrArg (n :: ·) (ih (n + 1))

theorem mem_creditFlits {x : TxFlit} (h : x ∈ creditFlits key n ps) : (x.reqInc, x.rwdInc) ∈ ps ∧ x.msg = none ∧ x.replays = 0 := by
  induction ps generalizing n with
  | nil => exact nomatch h
  | cons y ps ih =>
    rcases List.mem_cons.1 h with rfl | h
    · exact ⟨List.mem_cons_self .., rfl, rfl⟩
    · obtain ⟨hx, hmsg, hreplays⟩ := ih _ h
      exact ⟨List.mem_cons_of_mem _ hx, hmsg, hreplays⟩

/-- The messages of credit flits, as the port sends them. -/
theorem creditFlits_msgs (p : Head) :
    ((List.range ps.length).map fun i => Msg.flit p (n + i) ((ps[i]?).getD (0, 0)).1 ((ps[i]?).getD (0, 0)).2) =
      (creditFlits key n ps).map fun x => Msg.flit p x.seq x.reqInc x.rwdInc := by
  induction ps generalizing n with
  | nil => rfl
  | cons x ps ih =>
    rw [List.length_cons, List.range_succ_eq_map, List.map_cons, List.map_map, creditFlits, List.map_cons, ← ih]
    refine congrArg₂ _ rfl (List.map_congr_left fun i _ => ?_)
    simp [Nat.add_assoc, Nat.add_comm 1 i]

end

theorem Port.foldl_pushFlit (ps : List (Nat × Nat)) (q : Port) :
    ps.foldl (fun (q : Port) x => q.pushFlit x.1 x.2 none) q =
      { q with replay := q.replay ++ creditFlits q.txKey q.txSeq ps, txSeq := q.txSeq + ps.length } := by
  induction ps generalizing q with
  | nil => simp [creditFlits]
  | cons x ps ih =>
    rw [List.foldl_cons, ih]
    have hkey : (q.pushFlit x.1 x.2 none).txKey = q.txKey := rfl
    rw [hkey]
    simp [Port.pushFlit, creditFlits, Nat.add_assoc, Nat.add_comm 1]

/-- An engine as it has sent credit increments (R213). -/
def Port.creditsSent (q : Port) (req rwd : Nat) : Port :=
  { q with sentReq := q.sentReq + BitVec.ofNat 32 req, sentRwd := q.sentRwd + BitVec.ofNat 32 rwd, reqHost := q.reqHost + req, rwdHost := q.rwdHost + rwd
           replay := q.replay ++ creditFlits q.txKey q.txSeq (flitParts req rwd), txSeq := q.txSeq + (flitParts req rwd).length }

/-- What a flit that carries credits sends. -/
def creditMsgs (p : Head) (fs : List TxFlit) : List Msg := fs.map fun x => Msg.flit p x.seq x.reqInc x.rwdInc

/-- Credits that go: the port keeps the flits, and one message goes for each (R213). -/
theorem State.sendCredits_eq (s : State) (p : Head) (req rwd : Nat) :
    s.sendCredits p req rwd =
      ({ s.updPort p fun q => q.creditsSent req rwd with
          out := s.out ++ creditMsgs p (creditFlits (s.port p).txKey (s.port p).txSeq (flitParts req rwd)) }).countPort 0 p 1 (flitParts req rwd).length := by
  unfold State.sendCredits
  simp only [Port.foldl_pushFlit, creditFlits_msgs (s.port p).txKey]
  rfl

section
variable (s : State) (p : Head) (req rwd : Nat)

theorem State.sendCredits_frame : { s.sendCredits p req rwd with ports := s.ports, out := s.out, pmu := s.pmu } = s := by
  rw [State.sendCredits_eq]
  rfl

theorem State.sendCredits_port (h : Head) : (s.sendCredits p req rwd).port h = if h = p then (s.port p).creditsSent req rwd else s.port h := by
  rw [State.sendCredits_eq, State.port_countPort]
  exact (State.port_congr rfl h).trans (s.port_updPort p h fun q => q.creditsSent req rwd)

theorem State.sendCredits_out :
    (s.sendCredits p req rwd).out = s.out ++ creditMsgs p (creditFlits (s.port p).txKey (s.port p).txSeq (flitParts req rwd)) := by
  rw [State.sendCredits_eq]
  rfl

end

/-! ## Link-up (R208, R215, R352) -/

/-- With no interrupt held for the head, none is released. -/
theorem State.releaseMsix_none {s : State} {h : Head} (hm : ∀ x ∈ s.cmd.heldMsix, x.1 ≠ h) : s.releaseMsix h = s := by
  have hmine : s.cmd.heldMsix.filter (·.1 == h) = [] := List.filter_eq_nil_iff.2 fun x hx => by simp [hm x hx]
  have hrest : s.cmd.heldMsix.filter (·.1 != h) = s.cmd.heldMsix := List.filter_eq_self.2 fun x hx => by simp [hm x hx]
  unfold State.releaseMsix
  simp only [hmine, hrest, List.foldl_nil]

/-- An engine whose CXL.mem link layer has come up, before its first credits go (R215). -/
def Port.linked (q : Port) (g : S2mGrant) (req rwd : Nat) (ready : Bool) : Port :=
  { q with
    active := true, reqHost := 0, rwdHost := 0, freedReq := BitVec.ofNat 32 req, sentReq := 0, freedRwd := BitVec.ofNat 32 rwd, sentRwd := 0
    ndr := g.ndr, drs := g.drs, bisnp := g.bisnp, acks := [], rxSeq := 0, halfDone := none, txSeq := 0, replay := []
    gcm := some true, memActive := ready }

/-- The entries of a head detached at link-up (R215, R224). -/
def State.detachAll (s : State) (p : Head) : State :=
  { s with rtk := updWhere (·.head == p) (fun r => { r with detached := true, synthetic := true }) s.rtk }

theorem State.detachAll_detached {s : State} {p : Head} {r : RtkEntry} (hr : r ∈ (s.detachAll p).rtk) (hp : r.head = p) : r.synthetic = true ∧ r.detached = true := by
  obtain ⟨x, -, rfl⟩ := List.mem_map.1 hr
  by_cases hx : x.head = p
  · simp [hx]
  · simp [hx] at hp

/-- The credits of a link that no detached entry takes. -/
def State.creditsLeft (s : State) (p : Head) (c : CreditChan) : Nat := s.linkCredits p - s.detachedOn p c

/-- The engine of a link that has come up and returned `req` and `rwd` credits. -/
def Port.linkedUp (q : Port) (g : S2mGrant) (req rwd : Nat) (ready : Bool) : Port := (q.linked g req rwd ready).creditsSent req rwd

theorem Port.linkedUp_replay (q : Port) (g : S2mGrant) (req rwd : Nat) (ready : Bool) :
    (q.linkedUp g req rwd ready).replay = creditFlits (q.linked g req rwd ready).txKey 0 (flitParts req rwd) := List.nil_append _

theorem Port.linkedUp_hosts (q : Port) (g : S2mGrant) (req rwd : Nat) (ready : Bool) :
    (q.linkedUp g req rwd ready).reqHost = req ∧ (q.linkedUp g req rwd ready).rwdHost = rwd := ⟨Nat.zero_add _, Nat.zero_add _⟩

/-- The first flits carry the credits, in fields that hold them, and are numbered from zero (R213, R215). -/
theorem Port.linkedUp_flits (q : Port) (g : S2mGrant) (req rwd : Nat) (ready : Bool) :
    let fs := (q.linkedUp g req rwd ready).replay
    ((fs.map (·.reqInc)).sum = req ∧ (fs.map (·.rwdInc)).sum = rwd) ∧
    (∀ x ∈ fs, x.reqInc ≤ fieldMax ∧ x.rwdInc ≤ fieldMax ∧ x.msg = none ∧ x.replays = 0) ∧ fs.map (·.seq) = List.range fs.length := by
  rw [Port.linkedUp_replay]
  refine ⟨⟨?_, ?_⟩, fun x hx => ?_, ?_⟩
  · rw [creditFlits_map_reqInc, flitParts_sum_req]
  · rw [creditFlits_map_rwdInc, flitParts_sum_rwd]
  · obtain ⟨hmem, hmsg, hreplays⟩ := mem_creditFlits _ _ _ hx
    obtain ⟨hreq, hrwd⟩ := flitParts_le hmem
    exact ⟨hreq, hrwd, hmsg, hreplays⟩
  · rw [creditFlits_map_seq, creditFlits_length, List.range_eq_range']

/-- A link as LINK_UP leaves it, before its first credits go. -/
def State.linkUpAt (s : State) (p : Head) (g : S2mGrant) : State :=
  (s.detachAll p).updPort p fun q => q.linked g (s.creditsLeft p .req) (s.creditsLeft p .rwd) (s.fb Reg.XLT_STATUS.READY)

theorem State.linkUpAt_port (s : State) (p h : Head) (g : S2mGrant) :
    (s.linkUpAt p g).port h = if h = p then (s.port p).linked g (s.creditsLeft p .req) (s.creditsLeft p .rwd) (s.fb Reg.XLT_STATUS.READY) else s.port h :=
  (s.detachAll p).port_updPort p h _

theorem exec_linkUp {s : State} {p : Head} (g : S2mGrant) (hup : (s.port p).up = true) (hoff : (s.port p).active = false) (hmem : (s.port p).mem = true)
    (hl0 : (s.port p).ltssm = .l0) (hm : ∀ x ∈ s.cmd.heldMsix, x.1 ≠ p) :
    exec (.linkUp p g true) s = .next ((s.linkUpAt p g).sendCredits p (s.creditsLeft p .req) (s.creditsLeft p .rwd)) := by
  have hexec : exec (.linkUp p g true) s = execLinkUp p g true s := rfl
  have hcmd : ((s.linkUpAt p g).sendCredits p (s.creditsLeft p .req) (s.creditsLeft p .rwd)).cmd = s.cmd := by
    have hframe := congrArg State.cmd (State.sendCredits_frame (s.linkUpAt p g) p (s.creditsLeft p .req) (s.creditsLeft p .rwd))
    exact hframe
  simp only [hexec, execLinkUp, hup, hoff, hmem, hl0, bne_self_eq_false, Bool.not_true, Bool.or_self, Bool.false_eq_true, if_false, if_true]
  exact congrArg _ (State.releaseMsix_none (hcmd ▸ hm))

/-- Settles O38: the flits of `sendCredits` carry what the detached entries leave, from a replay buffer that is empty. -/
theorem linkUpCredits : Obligations.LinkUpCredits := by
  intro s p g hup hoff hmem hl0 hm
  refine ⟨_, exec_linkUp g hup hoff hmem hl0 hm, ?_⟩
  have hframe := State.sendCredits_frame (s.linkUpAt p g) p (s.creditsLeft p .req) (s.creditsLeft p .rwd)
  have hports := State.sendCredits_port (s.linkUpAt p g) p (s.creditsLeft p .req) (s.creditsLeft p .rwd)
  have hout := State.sendCredits_out (s.linkUpAt p g) p (s.creditsLeft p .req) (s.creditsLeft p .rwd)
  generalize (s.linkUpAt p g).sendCredits p _ _ = t at hframe hports hout
  have hport : t.port p = (s.port p).linkedUp g (s.creditsLeft p .req) (s.creditsLeft p .rwd) (s.fb Reg.XLT_STATUS.READY) := by
    rw [hports, if_pos rfl, State.linkUpAt_port, if_pos rfl]
    rfl
  have hother : ∀ h, h ≠ p → t.port h = s.port h := fun h hh => by
    rw [hports, if_neg hh, State.linkUpAt_port, if_neg hh]
  have hsent : t.out = s.out ++ creditMsgs p (t.port p).replay := by
    rw [hout, hport, Port.linkedUp_replay, State.linkUpAt_port, if_pos rfl]
    rfl
  have hrtk : t.rtk = (s.detachAll p).rtk := by
    have hrtk := congrArg State.rtk hframe
    exact hrtk
  have hdetached : ∀ r ∈ t.rtk, r.head = p → r.synthetic = true ∧ r.detached = true := fun r hr => State.detachAll_detached (hrtk ▸ hr)
  have hrest : { t with ports := s.ports, rtk := s.rtk, out := s.out, pmu := s.pmu } = s :=
    congrArg (fun x : State => { x with ports := s.ports, rtk := s.rtk, out := s.out, pmu := s.pmu }) hframe
  obtain ⟨hreq, hrwd⟩ := Port.linkedUp_hosts (s.port p) g (s.creditsLeft p .req) (s.creditsLeft p .rwd) (s.fb Reg.XLT_STATUS.READY)
  obtain ⟨hsums, hfields, hseqs⟩ := Port.linkedUp_flits (s.port p) g (s.creditsLeft p .req) (s.creditsLeft p .rwd) (s.fb Reg.XLT_STATUS.READY)
  rw [hport] at hsent
  dsimp only
  rw [hport]
  exact ⟨rfl, hreq, hrwd, rfl, rfl, rfl, rfl, rfl, rfl, hsums, hfields, hseqs, hsent, hdetached, hother, hrest⟩

end Sys2Proof.Machine
end

section
/-! PROOFS. What answers of entries may change and what they send: interrupts and event records in their course, responses, and the end of an entry (R48, R54, R55, R217, R228, R230). -/

namespace Sys2Proof.Machine

/-! ## Records only add messages (R33, R228, R350, R469) -/

theorem State.msix_out (s : State) (h : Head) (v : Nat) : s.out <+: (s.msix h v).out := by
  unfold State.msix
  dsimp only
  split
  · exact List.prefix_rfl
  · split
    · exact List.prefix_append ..
    · exact List.prefix_rfl

theorem State.event1_out (s : State) (h : Head) (l : EventLog) (c : Cause) (a : Nat) (b : Bool) (sl : Option (Fin 16)) : s.out <+: (s.event1 h l c a b sl).out := by
  unfold State.event1
  dsimp only
  split
  · exact List.prefix_rfl
  · exact State.msix_out { s with events := s.events ++ [⟨h, l, c, a, s.tb, s.nextHandle, b, sl⟩], nextHandle := s.nextHandle + 1 } _ _

theorem State.event_out (hs : List Head) (l : EventLog) (c : Cause) (a : Nat) (b : Bool) (sl : Option (Fin 16)) (s : State) : s.out <+: (s.event hs l c a b sl).out := by
  unfold State.event
  induction hs generalizing s with
  | nil => exact List.prefix_rfl
  | cons h hs ih => exact (s.event1_out h l c a b sl).trans (ih _)

/-- A note of an event record's time on a head changes nothing but that. -/
theorem State.updPort_lastEvt_noted (s : State) (h : Head) (k : Nat) : Noted s (s.updPort h fun p => { p with lastEvt := p.lastEvt.put k s.now }) := by
  refine ⟨rfl, fun j => ?_⟩
  by_cases hj : j = h
  · subst hj
    simp
  · rw [State.port_updPort_ne _ _ hj]

/-- One event record per head and second leaves the registers as they were, and messages are only added (R228). -/
theorem State.eventPerSecond_noted (s : State) (h : Head) (k : Nat) (l : EventLog) (c : Cause) (a : Nat) (sl : Option (Fin 16)) :
    Noted s (s.eventPerSecond h k l c a sl) ∧ (s.eventPerSecond h k l c a sl).csr = s.csr ∧ s.out <+: (s.eventPerSecond h k l c a sl).out := by
  have hdue (t : State) (hn : Noted s t) (hc : t.csr = s.csr) (ho : t.out = s.out) :
      Noted s (t.event (withOwner t [h]) l c a false sl) ∧ (t.event (withOwner t [h]) l c a false sl).csr = s.csr ∧ s.out <+: (t.event (withOwner t [h]) l c a false sl).out := by
    obtain ⟨hevent, hcsr, -⟩ := State.event_noted (withOwner t [h]) l c a false sl t
    exact ⟨hn.trans hevent, hcsr.trans hc, ho ▸ State.event_out _ l c a false sl t⟩
  unfold State.eventPerSecond
  exact iteInduction (motive := fun t : State => Noted s t ∧ t.csr = s.csr ∧ s.out <+: t.out)
    (fun _ => hdue (s.updPort h fun p => { p with lastEvt := p.lastEvt.put k s.now }) (s.updPort_lastEvt_noted h k) rfl rfl)
    fun _ => ⟨Noted.refl s, rfl, List.prefix_rfl⟩

theorem State.count_noted (s : State) (g i n : Nat) (u : Option Nat) : Noted s (s.count g i n u) := ⟨rfl, fun _ => rfl⟩

/-- A violation at a port is counted and recorded; the registers stay (R228). -/
theorem State.portViolation_noted (s : State) (h : Head) (k : Nat) (c : Cause) :
    Noted s (s.portViolation h k c) ∧ (s.portViolation h k c).csr = s.csr ∧ s.out <+: (s.portViolation h k c).out := by
  have hcount : Noted s (s.countPort 1 h 7) := s.count_noted 1 (9 * h.val + 7) 1 (some h.val)
  unfold State.portViolation
  obtain ⟨hn, hcsr, hout⟩ := (s.countPort 1 h 7).eventPerSecond_noted h k .informational c h.val none
  exact ⟨hcount.trans hn, hcsr, hout⟩

/-! ## What answers may change -/

/-- `t` differs from `s` at most in RTK, the ports, registers, counters and what records leave; messages are only added, and no entry is new. -/
def AnswersOnly (s t : State) : Prop :=
  { t with rtk := s.rtk, csr := s.csr, pmu := s.pmu, pan := s.pan, events := s.events, nextHandle := s.nextHandle, out := s.out, free := s.free, ports := s.ports,
           cmd := { t.cmd with heldMsix := s.cmd.heldMsix } } = s ∧
  s.out <+: t.out ∧ ∀ id, s.entry id = none → t.entry id = none

theorem AnswersOnly.refl (s : State) : AnswersOnly s s := ⟨rfl, List.prefix_rfl, fun _ h => h⟩

theorem AnswersOnly.trans {s t u : State} (h1 : AnswersOnly s t) (h2 : AnswersOnly t u) : AnswersOnly s u := by
  obtain ⟨f1, o1, e1⟩ := h1
  obtain ⟨f2, o2, e2⟩ := h2
  refine ⟨?_, o1.trans o2, fun id h => e2 id (e1 id h)⟩
  exact (congrArg (fun x : State => { x with rtk := s.rtk, csr := s.csr, pmu := s.pmu, pan := s.pan, events := s.events, nextHandle := s.nextHandle, out := s.out, free := s.free, ports := s.ports, cmd := { x.cmd with heldMsix := s.cmd.heldMsix } }) f2).trans f1

theorem AnswersOnly.foldl {α : Type} {f : State → α → State} (hf : ∀ s a, AnswersOnly s (f s a)) (as : List α) (s : State) : AnswersOnly s (as.foldl f s) := by
  induction as generalizing s with
  | nil => exact .refl s
  | cons a as ih => exact (hf s a).trans (ih _)

theorem Noted.rtk_eq {s t : State} (h : Noted s t) : t.rtk = s.rtk := by
  have hrtk := congrArg State.rtk h.1
  exact hrtk

theorem Noted.answersOnly {s t : State} (h : Noted s t) (ho : s.out <+: t.out) : AnswersOnly s t := by
  refine ⟨?_, ho, fun id hid => ?_⟩
  · exact (congrArg (fun x : State => { x with rtk := s.rtk }) h.1)
  · rwa [State.entry, h.rtk_eq]

/-- What a host can read stays, RTK aside. -/
theorem AnswersOnly.dataKept {s t : State} (h : AnswersOnly s t) : DataKept { s with rtk := t.rtk } t := by
  obtain ⟨hf, -, -⟩ := h
  rw [← hf]
  exact ⟨rfl, rfl, rfl, rfl, rfl, rfl⟩

theorem State.updPort_answers (s : State) (h : Head) (g : Port → Port) : AnswersOnly s (s.updPort h g) := ⟨rfl, List.prefix_rfl, fun _ h => h⟩

theorem State.count_answers (s : State) (g i n : Nat) (u : Option Nat) : AnswersOnly s (s.count g i n u) := ⟨rfl, List.prefix_rfl, fun _ h => h⟩

theorem State.flag_answers (s : State) (x : Fld) : AnswersOnly s (s.flag x) := ⟨rfl, List.prefix_rfl, fun _ h => h⟩

/-- An entry that is not there is not made by a change of entries that keeps their numbers. -/
theorem State.updEntry_answers (s : State) (id : Nat) {g : RtkEntry → RtkEntry} (hg : ∀ r, r.id = id → (g r).id = id) : AnswersOnly s (s.updEntry id g) := by
  refine ⟨rfl, List.prefix_rfl, fun k hk => ?_⟩
  simp only [State.entry, State.updEntry, updWhere, List.find?_eq_none, List.mem_map] at hk ⊢
  rintro _ ⟨x, hx, rfl⟩
  have hne := hk x hx
  by_cases hid : x.id = id
  · simpa [hid, hg x hid] using hne
  · simpa [hid] using hne

/-! ## Responses (R48, R55, R177, R217) -/

/-- What an entry's response sends. -/
def RtkEntry.answers (r : RtkEntry) (dl : BitVec 2) : List Msg :=
  (if r.needs.1 then [Msg.data r.head r.tag (r.kept.getD LineVal.zero) r.grant dl] else []) ++
  (if r.needs.2 && (!r.needs.1 || r.op == .rdFwd) then [Msg.cmp r.head r.tag r.grant dl] else [])

/-- What a response leaves of the ports, apart from flits that wait for their acknowledgement and credits. -/
def Port.SameReady (p q : Port) : Prop := q.ready = p.ready ∧ q.loopWait = p.loopWait

/-- `t` is `s` with messages sent at ports: the messages `ms`. -/
def Sent (s : State) (ms : List Msg) (t : State) : Prop :=
  { t with ports := s.ports, out := s.out, pmu := s.pmu } = s ∧ t.out = s.out ++ ms ∧ ∀ k, (s.port k).SameReady (t.port k)

theorem Sent.nil (s : State) : Sent s [] s := ⟨rfl, (List.append_nil _).symm, fun _ => ⟨rfl, rfl⟩⟩

theorem Sent.trans {s t u : State} {ms ns : List Msg} (h1 : Sent s ms t) (h2 : Sent t ns u) : Sent s (ms ++ ns) u := by
  obtain ⟨f1, o1, p1⟩ := h1
  obtain ⟨f2, o2, p2⟩ := h2
  refine ⟨?_, by rw [o2, o1, List.append_assoc], fun k => ?_⟩
  · exact (congrArg (fun x : State => { x with ports := s.ports, out := s.out, pmu := s.pmu }) f2).trans f1
  · obtain ⟨r1, l1⟩ := p1 k
    obtain ⟨r2, l2⟩ := p2 k
    exact ⟨r2.trans r1, l2.trans l1⟩

theorem Sent.count {s t : State} {ms : List Msg} (h : Sent s ms t) (g i n : Nat) (u : Option Nat) : Sent s ms (t.count g i n u) := h

/-- A change of a port that leaves its waiting responses sends nothing. -/
theorem Sent.updPort (s : State) (h : Head) {g : Port → Port} (hg : (s.port h).SameReady (g (s.port h))) : Sent s [] (s.updPort h g) := by
  refine ⟨rfl, (List.append_nil _).symm, fun k => ?_⟩
  rw [State.port_updPort]
  split
  · next hk => exact hk ▸ hg
  · exact ⟨rfl, rfl⟩

theorem Sent.send (s : State) (m : Msg) : Sent s [m] (s.send m) := ⟨rfl, rfl, fun _ => ⟨rfl, rfl⟩⟩

theorem Sent.emit (s : State) (h : Head) (m : Msg) : Sent s [m] (s.emit h m) :=
  ((Sent.updPort s h (g := fun p => p.pushFlit 0 0 (some m)) ⟨rfl, rfl⟩).trans (Sent.send _ m)).count 0 (9 * h.val + 1) 1 (some h.val)

theorem Sent.answersOnly {s t : State} {ms : List Msg} (h : Sent s ms t) : AnswersOnly s t := by
  obtain ⟨hf, ho, -⟩ := h
  refine ⟨congrArg (fun x : State => { x with rtk := s.rtk, csr := s.csr, pan := s.pan, events := s.events, nextHandle := s.nextHandle, free := s.free, cmd := { x.cmd with heldMsix := s.cmd.heldMsix } }) hf, ⟨ms, ho.symm⟩, fun id hid => ?_⟩
  have hrtk := congrArg State.rtk hf
  have hrtk : t.rtk = s.rtk := hrtk
  rwa [State.entry, hrtk]

/-- A response's credits are spent (R217). -/
def State.spendAnswer (s : State) (r : RtkEntry) : State :=
  s.updPort r.head fun p => { p with drs := p.drs - r.needs.1.toNat, ndr := p.ndr - r.needs.2.toNat }

/-- A response's data goes, if it has any. -/
def State.sendData (s : State) (r : RtkEntry) (dl : BitVec 2) : State :=
  if r.needs.1 then
    (((s.emit r.head (.data r.head r.tag (r.kept.getD LineVal.zero) r.grant dl)).countPort 1 r.head 0).countPort 1 r.head 2 (s.now - r.born)).count 2 48 1 (some r.head.val)
  else s

/-- A response's Cmp goes, if it has one. -/
def State.sendCmp (s : State) (r : RtkEntry) (dl : BitVec 2) : State :=
  if r.needs.2 && (!r.needs.1 || r.op == .rdFwd) then s.emit r.head (.cmp r.head r.tag r.grant dl) else s

/-- A response counts (R55, R415). -/
def State.countAnswer (s : State) (r : RtkEntry) : State :=
  let s := if r.needs.2 then s.count 2 47 1 (some r.head.val) else s
  if r.op.isWrite then s.countPort 1 r.head 1 else s

theorem State.sendResponse_eq (s : State) (r : RtkEntry) :
    s.sendResponse r = (((s.spendAnswer r).sendData r (s.devloadOf r.head)).sendCmp r (s.devloadOf r.head)).countAnswer r := rfl

section
variable (s : State) (r : RtkEntry) (dl : BitVec 2)

theorem State.spendAnswer_sent : Sent s [] (s.spendAnswer r) := Sent.updPort s r.head ⟨rfl, rfl⟩

theorem State.sendData_sent :
    Sent s (if r.needs.1 then [Msg.data r.head r.tag (r.kept.getD LineVal.zero) r.grant dl] else []) (s.sendData r dl) := by
  unfold State.sendData
  split
  · exact (((Sent.emit s r.head _).count ..).count ..).count ..
  · exact .nil s

theorem State.sendCmp_sent :
    Sent s (if r.needs.2 && (!r.needs.1 || r.op == .rdFwd) then [Msg.cmp r.head r.tag r.grant dl] else []) (s.sendCmp r dl) := by
  unfold State.sendCmp
  split
  · exact Sent.emit s r.head _
  · exact .nil s

theorem State.countAnswer_sent : Sent s [] (s.countAnswer r) := by
  unfold State.countAnswer
  dsimp only
  split <;> split
  · exact ((Sent.nil s).count ..).count ..
  · exact (Sent.nil s).count ..
  · exact (Sent.nil s).count ..
  · exact .nil s

/-- A response sends what the entry's operation asks for, and nothing else (R48, R177, R199). -/
theorem State.sendResponse_sent : Sent s (r.answers (s.devloadOf r.head)) (s.sendResponse r) := by
  have hsent := (((s.spendAnswer_sent r).trans (State.sendData_sent _ r (s.devloadOf r.head))).trans (State.sendCmp_sent _ r (s.devloadOf r.head))).trans (State.countAnswer_sent _ r)
  rw [List.nil_append, List.append_nil] at hsent
  exact hsent

end

theorem State.freeCredit_sent (s : State) (h : Head) (c : CreditChan) : Sent s [] (s.freeCredit h c) :=
  Sent.updPort s h (by cases c <;> exact ⟨rfl, rfl⟩)

/-! ## The end of an entry (R55, R186, R230, R353) -/

/-- The entries but one number. -/
def State.without (s : State) (id : Nat) : State := { s with rtk := s.rtk.filter (·.id != id) }

theorem State.without_answers (s : State) (id : Nat) : AnswersOnly s (s.without id) := by
  refine ⟨rfl, List.prefix_rfl, fun k hk => ?_⟩
  simp only [State.entry, State.without, List.find?_eq_none, List.mem_filter] at hk ⊢
  exact fun x hx => hk x hx.1

theorem State.entry_without (s : State) (id : Nat) : (s.without id).entry id = none := by
  simp [State.entry, State.without, List.find?_eq_none]

/-- An entry that leaves RTK: the state without it, and the port that waited for it. -/
theorem State.dropEntry_answers (s : State) (r : RtkEntry) : AnswersOnly s (s.dropEntry r) ∧ (s.dropEntry r).entry r.id = none := by
  have hready (t : State) (ht : AnswersOnly s t) : AnswersOnly s ((t.without r.id).freeCredit r.head r.chan) ∧ ((t.without r.id).freeCredit r.head r.chan).entry r.id = none :=
    ⟨(ht.trans (t.without_answers r.id)).trans (State.updPort_answers ..), t.entry_without r.id⟩
  unfold State.dropEntry
  dsimp only
  split
  · exact hready s (.refl s)
  · exact hready _ (s.updPort_answers r.head _)

theorem State.ackConflict_answers (s : State) (h : Head) (tag : BitVec 16) : AnswersOnly s (s.ackConflict h tag) := by
  unfold State.ackConflict
  split
  · exact s.updPort_answers ..
  · exact (((s.updPort_answers ..).trans (Sent.emit ..).answersOnly).trans (State.count_answers ..)).trans (State.updPort_answers ..)

theorem State.mbxReply_answers (s : State) (h : Head) (r : Reply) : AnswersOnly s (s.mbxReply h r) := by
  unfold State.mbxReply
  split
  · exact ⟨rfl, List.prefix_append .., fun _ h => h⟩
  · exact s.updPort_answers ..

theorem State.waitCredit_answers (s : State) (r : RtkEntry) : AnswersOnly s (s.waitCredit r) :=
  (s.updEntry_answers r.id (g := fun r => { r with phase := .respond }) fun _ h => h).trans (State.updPort_answers ..)

/-- What the port loop makes of a request that waited for it (R230). -/
theorem State.loopEntry_answers (s : State) (r : RtkEntry) : AnswersOnly s (s.loopEntry r) := by
  have hdone (t : State) (x : RtkEntry) (hx : x.id = r.id) (ht : AnswersOnly s t) :
      AnswersOnly s (if x.synthetic then t.dropEntry x else if t.maySend x then (t.sendResponse x).dropEntry x else (t.updEntry r.id fun _ => x).waitCredit x) := by
    split
    · exact ht.trans (t.dropEntry_answers x).1
    · split
      · exact (ht.trans (t.sendResponse_sent x).answersOnly).trans (State.dropEntry_answers _ x).1
      · exact (ht.trans (t.updEntry_answers r.id fun _ _ => hx)).trans (State.waitCredit_answers ..)
  have hmiss : AnswersOnly s ((s.flag (Reg.PRTn_LINK_ERR.HDM_MISS.nth r.head.val)).portViolation r.head 4 .hdmMiss) := by
    obtain ⟨hn, -, hout⟩ := (s.flag (Reg.PRTn_LINK_ERR.HDM_MISS.nth r.head.val)).portViolation_noted r.head 4 .hdmMiss
    exact (s.flag_answers _).trans (hn.answersOnly hout)
  unfold State.loopEntry
  refine hdone _ _ rfl ?_
  split
  · exact hmiss
  · split
    · exact s.count_answers ..
    · exact .refl s

theorem State.loopStart_answers (s : State) (h : Head) : AnswersOnly s (s.loopStart h) := by
  unfold State.loopStart
  split
  · exact .refl s
  · exact ((s.updPort_answers ..).trans (State.flag_answers ..)).trans (AnswersOnly.foldl (fun s r => s.loopEntry_answers r) _ _)

/-- With no port loop waited for, none starts. -/
theorem State.loopStart_of_not_waiting {s : State} {h : Head} (hw : (s.port h).loopWait = false) : s.loopStart h = s := by
  simp [State.loopStart, hw]

/-- The end of an entry changes what answers may change, and the entry is gone. -/
theorem State.closeEntry_answers (s : State) (r : RtkEntry) : AnswersOnly s (s.closeEntry r) ∧ (s.closeEntry r).entry r.id = none := by
  obtain ⟨hdrop, hgone⟩ := s.dropEntry_answers r
  have hrest : AnswersOnly (s.dropEntry r) (s.closeEntry r) := by
    unfold State.closeEntry
    refine AnswersOnly.trans ?_ ((AnswersOnly.foldl (fun s t => s.ackConflict_answers r.head t) _ _).trans (State.loopStart_answers ..))
    split
    · exact State.mbxReply_answers ..
    · exact .refl _
  exact ⟨hdrop.trans hrest, hrest.2.2 r.id hgone⟩

/-- A response that may go is sent, and its entry ends (R48, R55). -/
theorem State.respond_eq {s : State} {id : Nat} {r : RtkEntry} (hr : s.entry id = some r) (hs : r.synthetic = false) (hm : s.maySend r = true) :
    s.respond id = (s.sendResponse r).closeEntry r := by
  simp [State.respond, hr, hs, hm]

end Sys2Proof.Machine
end

section
/-! PROOFS. Fill data that arrives, write-backs of lines of DIRECT extents, and what they let go on (R43, R76, R79, R93, R97 to R99, R117, R118, R274, R277). -/

namespace Sys2Proof

theorem Tbl.has_put {α : Type} (t : Tbl α) (k j : Nat) (v : α) : (t.put k v).has j = (decide (j = k) || t.has j) := by
  unfold Tbl.has
  rw [Tbl.look_put]
  by_cases h : j = k <;> simp [h]

theorem Tbl.has_del {α : Type} (t : Tbl α) (k j : Nat) : (t.del k).has j = (!decide (j = k) && t.has j) := by
  unfold Tbl.has
  rw [Tbl.look_del]
  by_cases h : j = k <;> simp [h]

end Sys2Proof

namespace Sys2Proof.Machine

/-! ## Fill data (R43, R47) -/

/-- A heat event changes the queue of heat events and the counters alone (R148, R149). -/
theorem State.heat_frame (s : State) (l : Nat) : { s.heat l with nc := { (s.heat l).nc with heatQ := s.nc.heatQ }, pmu := s.pmu } = s := by
  unfold State.heat
  split <;> rfl

theorem State.heat_rtk (s : State) (l : Nat) : (s.heat l).rtk = s.rtk := by
  have hrtk := congrArg State.rtk (s.heat_frame l)
  exact hrtk

/-- A read of good data from a channel that serves it returns the data, and changes nothing. -/
theorem State.meet_good {s : State} {l : Nat} (v : LineVal) {second : Bool} (hlost : s.lostHere l = false) (hdeep : (s.storageRec (pageKey l)).state ≠ .deep)
    (hred : s.redirected ((s.copyChan l second).getD 0) = false) : s.meet l v .good second = (some v, s) := by
  simp [State.meet, hlost, hdeep, hred]

section
variable {s : State} {l : Nat} (hr : ∀ r ∈ s.rtk, r.line ≠ l)
include hr

theorem State.drainReads_of_no_entry (fuel : Nat) : s.drainReads l fuel = s := by
  have hnone : (s.rtk.find? fun r => r.line == l && r.isOpen && !r.crossing) = none := List.find?_eq_none.2 fun r h => by simp [hr r h]
  cases fuel with
  | zero => rfl
  | succ n => simp only [State.drainReads, hnone]

theorem State.answerFill_of_no_entry (v : LineVal) : s.answerFill l v = s := by
  have hnone : (s.rtk.filter fun r => r.line == l && r.phase == .fill && !s.frozen r.id) = [] := List.filter_eq_nil_iff.2 fun r h => by simp [hr r h]
  simp only [State.answerFill, hnone, List.map_nil, List.foldl_nil]
  exact State.drainReads_of_no_entry hr _

end

/-- Line `l` filled, and its fill closed. -/
def State.fillArrived (s : State) (l : Nat) (n : NcLine) : State :=
  State.setNc { s with nc := { s.nc with fills := dropFirst (fun g => g.line == l) s.nc.fills } } l n

theorem exec_fillDataArrival_good {s : State} {line : BitVec 40} {v : LineVal} {second host : Bool} {since : Nat} {n : NcLine}
    (hf : s.nc.fills.find? (fun f => f.line == line.toNat) = some ⟨line.toNat, some v, false, [], second, host, since⟩) (hcry : s.cry.st ≠ .error)
    (hn : s.nc.lines.look line.toNat = some n) (hlost : s.lostHere line.toNat = false) (hred : s.redirected ((s.copyChan line.toNat second).getD 0) = false)
    (hdeep : (s.storageRec (pageKey line.toNat)).state ≠ .deep) (hr : ∀ r ∈ s.rtk, r.line ≠ line.toNat) :
    exec (.fillDataArrival line .good) s =
      .next (if host then (s.fillArrived line.toNat (n.filled v)).heat line.toNat else s.fillArrived line.toNat (n.filled v)) := by
  have hexec : exec (.fillDataArrival line .good) s = execFillDataArrival line .good s := rfl
  have hst : ((s.storageRec (pageKey line.toNat)).state == .deep) = false := by simpa using hdeep
  rw [hexec, execFillDataArrival]
  simp only [hf, hcry, beq_iff_eq, if_false, Bool.false_eq_true, State.meet_good v hlost hdeep hred, hst, Bool.and_false, Bool.false_and, State.answerReaders, List.foldl_nil,
    State.resolveFill, hn]
  refine congrArg _ (State.answerFill_of_no_entry (s := if host then (s.fillArrived line.toNat (n.filled v)).heat line.toNat else s.fillArrived line.toNat (n.filled v)) ?_ _)
  split
  · rw [State.heat_rtk]
    exact hr
  · exact hr

/-- A fill that has arrived: the line is whole, its fill is closed, and no other line of the near cache nor anything stored has changed. -/
theorem State.fillArrived_facts (s : State) (l : Nat) (n : NcLine) (host : Bool) :
    let t := if host then (s.fillArrived l n).heat l else s.fillArrived l n
    t.nc.lines.look l = some n ∧ (∀ k, k ≠ l → t.nc.lines.look k = s.nc.lines.look k) ∧ t.nc.fills = dropFirst (fun g => g.line == l) s.nc.fills ∧
      t.nc.wbb = s.nc.wbb ∧ { t with nc := s.nc, pmu := s.pmu } = s := by
  have hplain : (s.fillArrived l n).nc.lines.look l = some n ∧ ∀ k, k ≠ l → (s.fillArrived l n).nc.lines.look k = s.nc.lines.look k :=
    ⟨Tbl.look_put_self .., fun k hk => Tbl.look_put_ne _ _ hk⟩
  obtain ⟨hself, hother⟩ := hplain
  cases host with
  | false => exact ⟨hself, hother, rfl, rfl, rfl⟩
  | true =>
    have hheat := (s.fillArrived l n).heat_frame l
    dsimp only
    rw [if_pos rfl]
    generalize (s.fillArrived l n).heat l = t at hheat
    have hnc := congrArg (fun x : State => (x.nc.lines, x.nc.fills, x.nc.wbb)) hheat
    obtain ⟨hlines, hfills, hwbb⟩ : t.nc.lines = (s.fillArrived l n).nc.lines ∧ t.nc.fills = _ ∧ t.nc.wbb = _ := by simpa using hnc
    refine ⟨hlines ▸ hself, hlines ▸ hother, hfills, hwbb, ?_⟩
    exact congrArg (fun x : State => { x with nc := s.nc }) hheat

/-! ## Write-backs of lines of DIRECT extents (R97 to R99) -/

theorem State.touchExt_frame (s : State) (e way : Nat) : { s.touchExt e way with xlt := { (s.touchExt e way).xlt with extPlru := s.xlt.extPlru } } = s := rfl

/-- A record that is cached is found; the look touches its place in the set, and counts (R93). -/
theorem State.lookExt_cached {s : State} {e : Nat} (h : s.xlt.extCache.has e = true) :
    ∃ u, s.lookExt e = (true, u) ∧ { u with xlt := { u.xlt with extPlru := s.xlt.extPlru }, pmu := s.pmu } = s := by
  obtain ⟨c, hc⟩ := Option.isSome_iff_exists.1 h
  refine ⟨(s.countXlt e 0).touchExt e c.way, by simp only [State.lookExt, hc], ?_⟩
  exact (congrArg (fun x : State => { x with pmu := s.pmu }) ((s.countXlt e 0).touchExt_frame e c.way)).trans (s.count_frame ..)

/-- A line stored in place, and what the store leaves. -/
theorem State.inPlace_facts (s : State) (l : Nat) (w : WbLine) :
    (s.inPlace l w).mem = Memory.writeLine s.mem l w.data w.mask ∧
    (s.inPlace l w).bad = (if w.poison then s.bad.put l () else if w.mask = fullMask then s.bad.del l else s.bad) ∧
    { s.inPlace l w with mem := s.mem, bad := s.bad, trm := s.trm } = s := by
  unfold State.inPlace State.dropLost
  split <;> exact ⟨rfl, rfl, rfl⟩

/-- `t` with what a write-back in place may change, apart from RTK and what a host can read, put back as it is in `s`. -/
def State.undoWriteBack (s t : State) : State :=
  { t with mem := s.mem, bad := s.bad, trm := s.trm, xlt := { t.xlt with extPlru := s.xlt.extPlru }, nc := { t.nc with heatQ := s.nc.heatQ }
           chans := s.chans, doms := s.doms, pmu := s.pmu }

/-- `t` is `s` with line `l` written back in place. -/
def WrittenBack (s : State) (l : Nat) (w : WbLine) (t : State) : Prop :=
  t.mem = Memory.writeLine s.mem l w.data w.mask ∧
  t.bad = (if w.poison then s.bad.put l () else if w.mask = fullMask then s.bad.del l else s.bad) ∧
  s.undoWriteBack t = s

theorem WrittenBack.kept {s t : State} {l : Nat} {w : WbLine} (h : WrittenBack s l w t) :
    t.nc.wbb = s.nc.wbb ∧ t.nc.lines = s.nc.lines ∧ t.rtk = s.rtk ∧ t.dir = s.dir ∧ t.xlt.ext = s.xlt.ext ∧ t.xlt.page = s.xlt.page := by
  obtain ⟨-, -, hf⟩ := h
  have hkept := congrArg (fun x : State => (x.nc.wbb, x.nc.lines, x.rtk, x.dir, x.xlt.ext, x.xlt.page)) hf
  simpa [State.undoWriteBack] using hkept

/-- A byte of memory after a write-back: the line's where it is enabled, else as before. -/
theorem WrittenBack.read {s t : State} {l : Nat} {w : WbLine} (h : WrittenBack s l w t) (a : Nat) :
    Memory.read t.mem a = if a / 64 = l ∧ w.mask.getLsbD (a % 64) = true then lineByte w.data (a % 64) else Memory.read s.mem a := by
  obtain ⟨hmem, -, -⟩ := h
  rw [hmem, Memory.read_writeLine]

/-- The poison that a write-back leaves: only a write of the whole line clears it (R17). -/
theorem WrittenBack.isBad {s t : State} {l : Nat} {w : WbLine} (h : WrittenBack s l w t) (k : Nat) :
    t.isBad k = if k = l then w.poison || (s.isBad l && w.mask != fullMask) else s.isBad k := by
  obtain ⟨-, hbad, -⟩ := h
  unfold State.isBad
  rw [hbad]
  by_cases hp : w.poison = true
  · by_cases hk : k = l <;> simp [hp, hk, Tbl.has_put]
  · by_cases hm : w.mask = fullMask
    · by_cases hk : k = l <;> simp [hp, hm, hk, Tbl.has_del]
    · by_cases hk : k = l <;> simp [hp, hm, hk]

/-- The steps of a write-back in place: the look at the extent record, the store, the heat event, and the writes issued to the DIMMs. -/
theorem WrittenBack.of_steps {s u a b t : State} {l : Nat} {w : WbLine} (hu : { u with xlt := { u.xlt with extPlru := s.xlt.extPlru }, pmu := s.pmu } = s)
    (ha : a.mem = Memory.writeLine u.mem l w.data w.mask ∧ a.bad = (if w.poison then u.bad.put l () else if w.mask = fullMask then u.bad.del l else u.bad) ∧
      { a with mem := u.mem, bad := u.bad, trm := u.trm } = u)
    (hb : { b with nc := { b.nc with heatQ := a.nc.heatQ }, pmu := a.pmu } = a) (ht : IssuedOnly b t) : WrittenBack s l w t := by
  obtain ⟨hmem, hbad, ha⟩ := ha
  obtain ⟨hum, hub⟩ : u.mem = s.mem ∧ u.bad = s.bad := by simpa using congrArg (fun x : State => (x.mem, x.bad)) hu
  obtain ⟨hbm, hbb⟩ : b.mem = a.mem ∧ b.bad = a.bad := by simpa using congrArg (fun x : State => (x.mem, x.bad)) hb
  obtain ⟨htm, htb, -⟩ := ht.kept
  refine ⟨?_, ?_, ?_⟩
  · rw [htm, hbm, hmem, hum]
  · rw [htb, hbb, hbad, hub]
  · have h1 := congrArg s.undoWriteBack ht
    have h2 := congrArg s.undoWriteBack hb
    have h3 := congrArg s.undoWriteBack ha
    have h4 := congrArg s.undoWriteBack hu
    exact h1.trans (h2.trans (h3.trans h4))

/-- No stripe guards a line of a DIRECT extent (R277). -/
theorem State.guardOf_direct {s : State} {l : Nat} (h : (s.extRec (extOf l)).mode = .direct) : s.guardOf l = none := by
  unfold State.guardOf
  split
  · rfl
  · simp [h]

section
variable {s : State} {w : WbLine} (run : CodecRun) (hcache : s.xlt.extCache.has (extOf w.line) = true) (hdir : (s.extRec (extOf w.line)).mode = .direct)
  (hreb : s.xlt.rebuilds.contains (extOf w.line / 64) = false) (hzero : s.xlt.zeroing.has (pageKey w.line) = false)
include hcache hdir hreb hzero

/-- Translated by a DIRECT extent that is cached, a line is stored in place (R98). -/
theorem State.wbExt_direct :
    ∃ u : State, s.wbExt w.line w run = .made (u.inPlace w.line w) ∧ { u with xlt := { u.xlt with extPlru := s.xlt.extPlru }, pmu := s.pmu } = s := by
  obtain ⟨u, hlook, hu⟩ := State.lookExt_cached hcache
  have hxlt : u.xlt.ext = s.xlt.ext ∧ u.xlt.zeroing = s.xlt.zeroing := by simpa using congrArg (fun x : State => (x.xlt.ext, x.xlt.zeroing)) hu
  obtain ⟨hext, hzeroing⟩ := hxlt
  have hmode : (u.extRec (extOf w.line)).mode = .direct := by rw [State.extRec, hext]; exact hdir
  refine ⟨u, ?_, hu⟩
  unfold State.wbExt
  simp only [hreb, hlook, hmode, hzeroing, hzero, Bool.false_eq_true, if_false, Bool.not_true]

theorem State.writeBack_direct (hheld : s.wbHeld w run.bad = false) (hon : s.domOn (48 + (Config.xltSlice (extOf w.line)).val) = true)
    (hgran : s.granulesBusy w.line = false) (hsync : s.resyncBusy w.line = false) (hlost : s.lineLost w.line = false) :
    ∃ t, s.writeBack w run = .made t ∧ WrittenBack s w.line w t := by
  obtain ⟨u, hmade, hu⟩ := State.wbExt_direct run hcache hdir hreb hzero
  refine ⟨((u.inPlace w.line w).heat w.line).wroteBack s w.line, ?_, ?_⟩
  · simp [State.writeBack, hheld, hon, hgran, hsync, hlost, State.guardOf_direct hdir, hmade, WbRes.onMade]
  · exact WrittenBack.of_steps hu (u.inPlace_facts w.line w) ((u.inPlace w.line w).heat_frame w.line) (State.wroteBack_issued ..)

end

/-! ## Drains of the write queues (R239, R274) -/

/-- `t` differs from `s` at most in whether write queues are in drain. -/
def OnlyDrains (s t : State) : Prop := (∀ c, { t.chan c with drain := (s.chan c).drain } = s.chan c) ∧ { t with chans := s.chans } = s

theorem OnlyDrains.refl (s : State) : OnlyDrains s s := ⟨fun _ => rfl, rfl⟩

theorem OnlyDrains.trans {s t u : State} (h1 : OnlyDrains s t) (h2 : OnlyDrains t u) : OnlyDrains s u := by
  obtain ⟨c1, f1⟩ := h1
  obtain ⟨c2, f2⟩ := h2
  exact ⟨fun c => (congrArg (fun x : Channel => { x with drain := (s.chan c).drain }) (c2 c)).trans (c1 c), (congrArg (fun x : State => { x with chans := s.chans }) f2).trans f1⟩

theorem State.noteDrain_only (s : State) (c : Chan) : OnlyDrains s (s.noteDrain c) := by
  unfold State.noteDrain
  dsimp only
  split
  · exact .refl s
  · refine ⟨fun k => ?_, rfl⟩
    rw [State.chan_updChan]
    split
    · next hk => rw [hk]
    · rfl

theorem State.noteDrains_only (s : State) (l : Nat) : OnlyDrains s (s.noteDrains l) := by
  unfold State.noteDrains
  generalize (s.writePlaces l).filterMap (fun q => s.slotChan q.slot) = cs
  induction cs generalizing s with
  | nil => exact .refl s
  | cons c cs ih => exact (s.noteDrain_only c).trans (ih _)

/-! ## Entries of the write-back buffer -/

/-- The entry that a change of a line's oldest unissued entry takes is in the buffer changed. -/
theorem mem_updWbb {l : Nat} (g : WbLine → WbLine) {ws : List WbLine} {w : WbLine} (h : ws.find? (fun w => w.line == l && !w.issued) = some w) : g w ∈ updWbb l g ws := by
  induction ws with
  | nil => simp at h
  | cons x ws ih =>
    by_cases hx : x.line = l ∧ x.issued = false
    · simp_all [updWbb]
    · have hx' : (x.line == l && !x.issued) = false := by simpa using hx
      rw [List.find?_cons, hx'] at h
      have hrest : updWbb l g (x :: ws) = x :: updWbb l g ws := if_neg (by simpa using hx)
      rw [hrest]
      exact List.mem_cons_of_mem _ (ih h)

theorem line_of_find_wbb {l : Nat} {ws : List WbLine} {w : WbLine} (h : ws.find? (fun w => w.line == l && !w.issued) = some w) : w.line = l := by
  have hw := List.find?_some h
  simp only [Bool.and_eq_true, beq_iff_eq] at hw
  exact hw.1

theorem exec_writeBack {s : State} {line : BitVec 40} {w : WbLine} (run : CodecRun) (hw : s.nc.wbb.find? (fun w => w.line == line.toNat && !w.issued) = some w)
    (hcry : s.cry.st ≠ .error) : exec (.writeBack line run) s = .next (s.issueWb w run) := by
  have hexec : exec (.writeBack line run) s = execWriteBack line run s := rfl
  simp [hexec, execWriteBack, hw, hcry]

/-- A write-back that is made issues its entry of the buffer; beyond that and the drains the state is the one made. -/
theorem State.issueWb_made {s t : State} {w : WbLine} {run : CodecRun} (h : s.writeBack w run = .made t) :
    ∃ g, OnlyDrains { t with nc := { t.nc with wbb := updWbb w.line (fun w => { w with issued := true, held := false, guard := g }) t.nc.wbb } } (s.issueWb w run) := by
  unfold State.issueWb
  simp only [h]
  exact ⟨_, State.noteDrains_only ..⟩

/-- A write-back that waits stays in its buffer (R97). -/
theorem State.issueWb_waits {s : State} {w : WbLine} {run : CodecRun} (h : s.writeBack w run = .waits s) :
    s.issueWb w run = { s with nc := { s.nc with wbb := updWbb w.line (fun w => { w with held := true }) s.nc.wbb } } := by
  unfold State.issueWb
  simp only [h]

/-- A line written back in place and issued: what its write leaves, and what stays. -/
theorem State.issueWb_written {s t : State} {w : WbLine} {run : CodecRun} (hw : s.nc.wbb.find? (fun x => x.line == w.line && !x.issued) = some w)
    (h : s.writeBack w run = .made t) (ht : WrittenBack s w.line w t) :
    let u := s.issueWb w run
    u.mem = t.mem ∧ u.bad = t.bad ∧ (∃ x ∈ u.nc.wbb, x.line = w.line ∧ x.issued = true) ∧
      u.nc.lines = s.nc.lines ∧ u.rtk = s.rtk ∧ u.dir = s.dir ∧ u.xlt.ext = s.xlt.ext ∧ u.xlt.page = s.xlt.page := by
  obtain ⟨g, -, hf⟩ := State.issueWb_made h
  obtain ⟨hwbb, hlines, hrtk, hdir, hext, hpage⟩ := ht.kept
  generalize s.issueWb w run = u at hf
  obtain ⟨hm, hb, hub, hul, hur, hud, hue, hup⟩ :
      u.mem = t.mem ∧ u.bad = t.bad ∧ u.nc.wbb = updWbb w.line (fun w => { w with issued := true, held := false, guard := g }) t.nc.wbb ∧
        u.nc.lines = t.nc.lines ∧ u.rtk = t.rtk ∧ u.dir = t.dir ∧ u.xlt.ext = t.xlt.ext ∧ u.xlt.page = t.xlt.page := by
    simpa using congrArg (fun x : State => (x.mem, x.bad, x.nc.wbb, x.nc.lines, x.rtk, x.dir, x.xlt.ext, x.xlt.page)) hf
  refine ⟨hm, hb, ⟨{ w with issued := true, held := false, guard := g }, ?_, rfl, rfl⟩, hul.trans hlines, hur.trans hrtk, hud.trans hdir, hue.trans hext, hup.trans hpage⟩
  rw [hub, hwbb]
  exact mem_updWbb _ hw

/-! ## What goes on (R93, R117, R118, R277) -/

section
variable {s : State} {line : BitVec 40} (run : CodecRun)

theorem exec_stripeGuardResume_taken (h : (s.guardOf line.toNat).all s.guardFree = false) : exec (.stripeGuardResume line run) s = .next s := by
  have hexec : exec (.stripeGuardResume line run) s = execStripeGuardResume line run s := rfl
  simp [hexec, execStripeGuardResume, h]

theorem exec_stripeGuardResume_free (h : (s.guardOf line.toNat).all s.guardFree = true) (hr : ∀ r ∈ s.rtk, ¬(r.line = line.toNat ∧ r.phase = .guard)) :
    exec (.stripeGuardResume line run) s = .next (((s.nc.wbb.find? fun w => w.line == line.toNat && !w.issued && w.held).map fun w => s.issueWb w run).getD s) := by
  have hexec : exec (.stripeGuardResume line run) s = execStripeGuardResume line run s := rfl
  have hids : (s.rtk.filter fun r => r.line == line.toNat && r.phase == .guard) = [] := List.filter_eq_nil_iff.2 fun r hm => by simpa using hr r hm
  rw [hexec, execStripeGuardResume]
  simp only [h, hids, Bool.not_true, Bool.false_eq_true, if_false, List.map_nil, List.foldl_nil]
  cases s.nc.wbb.find? fun w => w.line == line.toNat && !w.issued && w.held <;> rfl

end

/-- The first element that meets a test meets the stronger test first, if it meets that too. -/
theorem find?_and_of_find? {α : Type} {p q : α → Bool} {l : List α} {x : α} (h : l.find? p = some x) (hq : q x = true) : l.find? (fun y => p y && q y) = some x := by
  rw [List.find?_eq_some_iff_append] at h ⊢
  obtain ⟨hp, as, bs, hl, has⟩ := h
  exact ⟨by simp [hp, hq], as, bs, hl, fun a ha => by simp [show p a = false by simpa using has a ha]⟩

/-- An entry whose write is held answers with Cmp once its time is over (R118). -/
theorem State.respond_write {s : State} {id : Nat} {r : RtkEntry} {mv : MetaVal} (hr : s.entry id = some r) (hs : r.synthetic = false) (hop : r.op = .wr mv)
    (hready : (s.port r.head).ready = []) (hroom : (s.port r.head).txRoom = true) (hndr : (s.port r.head).ndr ≠ 0) :
    Msg.cmp r.head r.tag r.grant (s.devloadOf r.head) ∈ (s.respond id).out ∧ s.out <+: (s.respond id).out ∧ (s.respond id).entry id = none ∧
      DataKept { s with rtk := (s.respond id).rtk } (s.respond id) := by
  have hid : r.id = id := by simpa using List.find?_some hr
  have hm : s.maySend r = true := by simp [State.maySend, RtkEntry.needs, hop, ReqOp.isRead, hready, hroom, hndr]
  have hans : r.answers (s.devloadOf r.head) = [.cmp r.head r.tag r.grant (s.devloadOf r.head)] := by simp [RtkEntry.answers, RtkEntry.needs, hop, ReqOp.isRead]
  have hsent := s.sendResponse_sent r
  obtain ⟨hclosed, hgone⟩ := (s.sendResponse r).closeEntry_answers r
  have hall := hsent.answersOnly.trans hclosed
  rw [State.respond_eq hr hs hm]
  obtain ⟨-, hout, -⟩ := hsent
  refine ⟨?_, hall.2.1, hid ▸ hgone, hall.dataKept⟩
  exact hclosed.2.1.subset (by rw [hout, hans]; exact List.mem_append_right _ (List.mem_singleton_self _))

/-- A pool line written back, with no write held for it and none that waits for the pool (R117). -/
theorem State.poolDone_of_no_entry {s : State} (l : Nat) (n : NcLine) (h : ∀ r ∈ s.rtk, (∀ k, r.phase ≠ .pool k) ∧ r.phase ≠ .poolFull) :
    s.poolDone l n = s.setNc l { n with dirty := false, pool := none } := by
  have hwait : (s.rtk.filter fun r => r.phase == .poolFull) = [] := List.filter_eq_nil_iff.2 fun r hr => by simpa using (h r hr).2
  unfold State.poolDone
  extract_lets u held v waits
  have hheld : held = [] := by
    refine List.map_eq_nil_iff.2 (List.filter_eq_nil_iff.2 fun r hr => ?_)
    obtain ⟨hpool, -⟩ := h r hr
    cases hp : r.phase <;> simp_all
  have hv : v = u := by rw [show v = held.foldl (fun s id => s.respond id) u from rfl, hheld, List.foldl_nil]
  have hwaits : waits = [] := by rw [show waits = (v.rtk.filter fun r => r.phase == .poolFull).map (·.id) from rfl, hv, show u.rtk = s.rtk from rfl, hwait, List.map_nil]
  rw [hwaits, hv, List.foldl_nil]

/-- With nothing waiting in a phase, and no fill whose translation waits, nothing is resumed. -/
theorem State.resumePhase_none {s : State} {p : Phase} (f : Nat → Bool) (hr : ∀ r ∈ s.rtk, r.phase ≠ p) (hf : ∀ x ∈ s.nc.fills, x.value ≠ none) : s.resumePhase p f = s := by
  have hids : (s.rtk.filter fun r => r.phase == p) = [] := List.filter_eq_nil_iff.2 fun r h => by simpa using hr r h
  have hls : (s.nc.fills.filter fun x => x.value.isNone && f x.line) = [] := List.filter_eq_nil_iff.2 fun x h => by simp [hf x h]
  simp only [State.resumePhase, hids, hls, List.map_nil, List.foldl_nil]

theorem exec_poolLineWriteBack {s u : State} {l : Nat} {n : NcLine} {run : CodecRun} (hn : s.nextPool = some (l, n))
    (hw : s.writeBack ⟨l, n.data, n.mask, n.poison, false, false, none⟩ run = .made u) : exec (.poolLineWriteBack run) s = .next (u.poolDone l n) := by
  have hexec : exec (.poolLineWriteBack run) s = execPoolLineWriteBack run s := rfl
  simp only [hexec, execPoolLineWriteBack, hn, hw]

theorem exec_poolHoldTimeout {s : State} {id : Nat} {r : RtkEntry} {since : Nat} (hr : s.entry id = some r) (hp : r.phase = .pool since) :
    exec (.poolHoldTimeout id) s = .next (s.respond id) := by
  have hexec : exec (.poolHoldTimeout id) s = execPoolHoldTimeout id s := rfl
  simp only [hexec, execPoolHoldTimeout, hr, hp]

/-! ## Map-area reads and bitmap rebuilds (R76, R79, R93) -/

/-- A record written as it is stays, and so does every other. -/
theorem State.extRec_setExt_same (s : State) (e j : Nat) : (s.setExt e (s.extRec e)).extRec j = s.extRec j := by
  have hget := Tbl.get_set ExtRec.zero s.xlt.ext e j (s.extRec e)
  refine Eq.trans hget ?_
  split
  · next hj => rw [hj]
  · rfl

/-- A fill of the extent cache caches the record, and changes the cache alone. -/
theorem State.fillExt_facts {s u : State} {e : Nat} (h : s.fillExt e = some u) :
    u.xlt.extCache.has e = true ∧ u.xlt.ext = s.xlt.ext ∧ { u with xlt := s.xlt } = s := by
  unfold State.fillExt at h
  split at h
  · next hc =>
    cases h
    exact ⟨hc, rfl, rfl⟩
  · obtain ⟨w, -, rfl⟩ := Option.map_eq_some_iff.1 h
    refine ⟨?_, rfl, rfl⟩
    exact (Tbl.has_put _ e e _).trans (by simp)

/-- The bits of a bitmap word as the records give them (R76). -/
def State.rebuiltBits (s : State) (w : Nat) (t : Tbl Unit) (n : Nat) : Tbl Unit :=
  (List.range n).foldl (fun (t : Tbl Unit) i => if (s.extRec (64 * w + i)).mode == .untouched then t.del (64 * w + i) else t.put (64 * w + i) ()) t

theorem State.has_rebuiltBits (s : State) (w : Nat) (t : Tbl Unit) (n e : Nat) :
    (s.rebuiltBits w t n).has e = if 64 * w ≤ e ∧ e < 64 * w + n then (s.extRec e).mode != .untouched else t.has e := by
  induction n with
  | zero => rw [if_neg (by omega)]; rfl
  | succ n ih =>
    have hstep : s.rebuiltBits w t (n + 1) =
        if (s.extRec (64 * w + n)).mode == .untouched then (s.rebuiltBits w t n).del (64 * w + n) else (s.rebuiltBits w t n).put (64 * w + n) () := by
      unfold State.rebuiltBits
      rw [List.range_succ, List.foldl_append]
      rfl
    rw [hstep]
    by_cases he : e = 64 * w + n
    · subst he
      rw [if_pos (c := 64 * w ≤ 64 * w + n ∧ 64 * w + n < 64 * w + (n + 1)) (by omega)]
      cases hm : (s.extRec (64 * w + n)).mode == .untouched <;> simp [Tbl.has_del, Tbl.has_put, bne, hm]
    · have hiff : (64 * w ≤ e ∧ e < 64 * w + (n + 1)) ↔ (64 * w ≤ e ∧ e < 64 * w + n) := by omega
      simp only [hiff, ← ih]
      cases (s.extRec (64 * w + n)).mode == .untouched <;> simp [Tbl.has_del, Tbl.has_put, he]

theorem exec_mapReadReturn_ext {s u : State} {e : BitVec 25} (b : MapCopy) (hread : s.reading (.ext e) = true)
    (hu : (s.setExt e.toNat (s.extRec e.toNat)).fillExt e.toNat = some u) (hr : ∀ r ∈ s.rtk, r.phase ≠ .map (.ext e)) (hf : ∀ f ∈ s.nc.fills, f.value ≠ none) :
    exec (.mapReadReturn (.ext e) .current b) s = .next { u with xlt := { u.xlt with reads := u.xlt.reads.filter (· != .ext e) } } := by
  have hexec : exec (.mapReadReturn (.ext e) .current b) s = execMapReadReturn (.ext e) .current b s := rfl
  obtain ⟨-, -, hframe⟩ := State.fillExt_facts hu
  have hsame : u.rtk = s.rtk ∧ u.nc = s.nc := by
    have h := congrArg (fun x : State => (x.rtk, x.nc)) hframe
    simpa [State.setExt] using h
  obtain ⟨hrtk, hnc⟩ := hsame
  have htake : (s.takeRecord (.ext e) .current b).fillKey (.ext e) = some u := hu
  rw [hexec, execMapReadReturn]
  simp only [hread, htake, Bool.not_true, Bool.false_eq_true, if_false]
  exact congrArg _ (State.resumePhase_none _ (hrtk ▸ hr) (hnc ▸ hf))

theorem exec_bitmapRebuildDone {s : State} {word : BitVec 19} (hw : word.toNat ∈ s.xlt.rebuilds) (hr : ∀ r ∈ s.rtk, r.phase ≠ .bitmap word.toNat)
    (hf : ∀ f ∈ s.nc.fills, f.value ≠ none) :
    exec (.bitmapRebuildDone word) s = .next (State.flag { s with xlt := { s.xlt with
      touched := s.rebuiltBits word.toNat s.xlt.touched 64, rebuilds := s.xlt.rebuilds.filter (· != word.toNat) } } Reg.XLT_STATUS.BMP_UE) := by
  have hexec : exec (.bitmapRebuildDone word) s = execBitmapRebuildDone word s := rfl
  have hc : s.xlt.rebuilds.contains word.toNat = true := List.contains_iff_mem.2 hw
  rw [hexec, execBitmapRebuildDone]
  simp only [hc, Bool.not_true, Bool.false_eq_true, if_false]
  exact congrArg _ (State.resumePhase_none _ hr hf)

/-- Settles O58: each clause by the lemma on its command; a write-back in place is WrittenBack, and the entries that end change what AnswersOnly lists. -/
theorem fillsAndWriteBacks : Obligations.FillsAndWriteBacks := by
  intro s line l
  refine ⟨fun v second host since n hf hcry hn hlost hred hdeep hr => ?_, fun w run hw hcry => ⟨fun hheld hon hgran hsync hlost hreb hcache hdir hzero => ?_, fun hoff => ?_⟩, ?_,
    fun run => ⟨fun hfree hr => ⟨fun w hw hheld => ?_, fun hnone => ?_⟩, fun htaken => exec_stripeGuardResume_taken run htaken⟩,
    fun id r since hr hp hs hop hready hroom hndr => ?_, fun n run u hn hw hr => ?_, fun e b u hread hu hr hf => ?_, fun word hw hr hf => ?_⟩
  · exact ⟨_, exec_fillDataArrival_good hf hcry hn hlost hred hdeep hr, s.fillArrived_facts l _ host⟩
  · have hl : w.line = l := line_of_find_wbb hw
    have hexec := exec_writeBack run hw hcry
    rw [← hl] at hw hgran hsync hlost hcache hdir hzero hreb hon ⊢
    obtain ⟨t, hmade, ht⟩ := State.writeBack_direct run hcache hdir hreb hzero hheld hon hgran hsync hlost
    obtain ⟨hm, hb, hissued, hrest⟩ := State.issueWb_written hw hmade ht
    have hbad : ∀ k, (s.issueWb w run).isBad k = if k = w.line then w.poison || (s.isBad w.line && w.mask != fullMask) else s.isBad k := fun k => by
      rw [← ht.isBad k, State.isBad, hb]
      rfl
    refine ⟨_, hexec, fun a => ?_, (hbad _).trans (if_pos rfl), fun k hk => (hbad k).trans (if_neg hk), hissued, hrest⟩
    rw [hm]
    exact ht.read a
  · have hl : w.line = l := line_of_find_wbb hw
    have hwaits : s.writeBack w run = .waits s := by simp [State.writeBack, hl, hoff]
    refine ⟨_, exec_writeBack run hw hcry, ?_⟩
    rw [State.issueWb_waits hwaits, hl]
    exact ⟨rfl, rfl⟩
  · obtain ⟨hdrain, hframe⟩ := State.noteDrains_only { s with nc := { s.nc with wbb := dropFirst (fun w => w.line == line.toNat && w.issued) s.nc.wbb } } line.toNat
    refine ⟨_, rfl, ?_, hdrain, congrArg (fun x : State => { x with nc := s.nc }) hframe⟩
    have hnc := congrArg State.nc hframe
    exact hnc
  · rw [exec_stripeGuardResume_free run hfree hr, find?_and_of_find? hw hheld]
    rfl
  · have hfind : (s.nc.wbb.find? fun w => w.line == l && !w.issued && w.held) = none := List.find?_eq_none.2 fun w hw => by simp [hnone w hw]
    rw [exec_stripeGuardResume_free run hfree hr, hfind]
    rfl
  · exact ⟨_, exec_poolHoldTimeout hr hp, State.respond_write hr hs hop hready hroom hndr⟩
  · rw [exec_poolLineWriteBack hn hw, State.poolDone_of_no_entry l n hr]
  · obtain ⟨hcached, hext, hframe⟩ := State.fillExt_facts hu
    refine ⟨_, exec_mapReadReturn_ext b hread hu hr hf, hcached, ?_, fun j => ?_, ?_⟩
    · simp [State.reading]
    · refine Eq.trans ?_ (s.extRec_setExt_same e.toNat j)
      exact congrArg (fun x : Tbl ExtRec => x.get ExtRec.zero j) hext
    · exact congrArg (fun x : State => { x with xlt := s.xlt }) hframe
  · refine ⟨_, exec_bitmapRebuildDone hw hr hf, fun i hi => ?_, fun e he => ?_, ?_, State.fb_flag_self _ _ (by decide) (by decide), rfl⟩
    · exact (s.has_rebuiltBits ..).trans (if_pos (by omega))
    · exact (s.has_rebuiltBits ..).trans (if_neg (by omega))
    · simp

end Sys2Proof.Machine
end

section
/-! PROOFS. A host's request of a line of an HDM-H region: what accepting it leaves, its service in its place, and its answer (R37, R42, R43, R54, R177, R178, R199, R228). -/

namespace Sys2Proof.Machine

/-! ## What accepting and answering a request may change -/

/-- `t` with what a request that changes no data may leave put back as it is in `s`: RTK, the ports, registers, counters, records, and the near cache's ways, hits and heat events. -/
def State.undoAccess (s t : State) : State :=
  { t with rtk := s.rtk, nextEntry := s.nextEntry, out := s.out, free := s.free, csr := s.csr, pmu := s.pmu, pan := s.pan, events := s.events, nextHandle := s.nextHandle
           ports := s.ports, cmd := { t.cmd with heldMsix := s.cmd.heldMsix }, nc := { t.nc with plru := s.nc.plru, hits := s.nc.hits, heatQ := s.nc.heatQ } }

/-- No data, record, directory entry, domain or ring has changed. -/
def SameData (s t : State) : Prop := s.undoAccess t = s

theorem SameData.refl (s : State) : SameData s s := rfl

theorem SameData.trans {s t u : State} (h1 : SameData s t) (h2 : SameData t u) : SameData s u := by
  have h := congrArg s.undoAccess h2
  exact Eq.trans h h1

theorem Noted.sameData {s t : State} (h : Noted s t) : SameData s t := by
  have hf := congrArg s.undoAccess h.1
  exact hf

theorem SameData.parts {s t : State} (h : SameData s t) :
    t.mem = s.mem ∧ t.nc.lines = s.nc.lines ∧ t.nc.wbb = s.nc.wbb ∧ t.nc.lost = s.nc.lost ∧ t.dir = s.dir ∧ t.xlt = s.xlt ∧ t.doms = s.doms ∧
      { t.cmd with heldMsix := s.cmd.heldMsix } = s.cmd := by
  have hp := congrArg (fun x : State => (x.mem, x.nc.lines, x.nc.wbb, x.nc.lost, x.dir, x.xlt, x.doms, x.cmd)) h
  simpa [State.undoAccess] using hp

theorem SameData.readKept {s t : State} (h : SameData s t) (hrtk : t.rtk = s.rtk) : ReadKept s t := by
  obtain ⟨hmem, hlines, hwbb, -, hdir, hxlt, -, hcmd⟩ := h.parts
  exact ⟨hrtk, hmem, hlines, hwbb, hdir, hxlt, hcmd⟩

/-! ## Slips of a host that are served all the same (R199, R228) -/

/-- `t` is `s` with violations recorded: no register but DIR_STATUS has changed. -/
structure Slips (s t : State) : Prop where
  noted : Noted s t
  words : ∀ o, o ≠ Reg.DIR_STATUS.VIOL.off → t.word o = s.word o

theorem Slips.refl (s : State) : Slips s s := ⟨.refl s, fun _ _ => rfl⟩

theorem Slips.trans {s t u : State} (h1 : Slips s t) (h2 : Slips t u) : Slips s u := ⟨h1.noted.trans h2.noted, fun o ho => (h2.words o ho).trans (h1.words o ho)⟩

theorem State.hostSlips_noted (s : State) (h : Head) (op : ReqOp) (tag : BitVec 16) (m : Mask) :
    Noted s (s.hostSlips h op tag m) ∧ (s.hostSlips h op tag m).csr = s.csr := by
  have hslip (t : State) (b : Bool) (k : Nat) : Noted t (if b then t.portViolation h k .violation else t) ∧ (if b then t.portViolation h k .violation else t).csr = t.csr := by
    cases b
    · exact ⟨.refl t, rfl⟩
    · obtain ⟨hn, hcsr, -⟩ := t.portViolation_noted h k .violation
      exact ⟨hn, hcsr⟩
  unfold State.hostSlips
  obtain ⟨n1, c1⟩ := hslip s (op != .specRd && s.rtk.any fun q => q.head == h && q.chan != .inner && !q.synthetic && q.tag == tag) 9
  obtain ⟨n2, c2⟩ := hslip _ (op.isWrite && m == 0) 10
  exact ⟨n1.trans n2, c2.trans c1⟩

/-- A request under a free tag, with a byte enabled if it writes, is no slip. -/
theorem State.hostSlips_none {s : State} {h : Head} {op : ReqOp} {tag : BitVec 16} {m : Mask} (htag : op = .specRd ∨ TagFree s h tag) (hm : op.isWrite = true → m ≠ 0) :
    s.hostSlips h op tag m = s := by
  have hfree : (op != .specRd && s.rtk.any fun q => q.head == h && q.chan != .inner && !q.synthetic && q.tag == tag) = false := by
    rcases htag with rfl | htag
    · rfl
    · refine Bool.and_eq_false_iff.2 (.inr (List.any_eq_false.2 fun q hq => ?_))
      have hq := htag q hq
      simp only [Bool.and_eq_true, beq_iff_eq, bne_iff_ne, Bool.not_eq_true']
      rintro ⟨⟨⟨hh, hc⟩, hs⟩, ht⟩
      rcases hq hh with h1 | h1 | h1
      · exact hc h1
      · simp [h1] at hs
      · exact h1 ht
  have hmask : (op.isWrite && m == 0) = false := by
    cases hw : op.isWrite with
    | false => rfl
    | true => simpa using hm hw
  simp only [State.hostSlips, hfree, hmask, Bool.false_eq_true, if_false]

theorem State.flag_noted (s : State) (x : Fld) : Noted s (s.flag x) := ⟨rfl, fun _ => rfl⟩

theorem State.violation_slips (s : State) (h : Head) (l : Nat) : Slips s (s.violation h l) := by
  unfold State.violation
  obtain ⟨hn, hcsr, -⟩ := ((s.countPort 1 h 7).flag Reg.DIR_STATUS.VIOL).eventPerSecond_noted h 1 .informational .violation (64 * l) (some (slice l))
  refine ⟨((s.count_noted 1 (9 * h.val + 7) 1 (some h.val)).trans (State.flag_noted _ _)).trans hn, fun o ho => ?_⟩
  exact (State.word_congr hcsr o).trans (State.word_setF_ne _ _ _ ho)

/-! ## A port that can answer -/

/-- Port `h` can take an answer at once, and no port loop waits at it. -/
structure Answerable (s : State) (h : Head) : Prop where
  ready : (s.port h).ready = []
  room : (s.port h).txRoom = true
  ndr : (s.port h).ndr ≠ 0
  drs : (s.port h).drs ≠ 0
  loop : (s.port h).loopWait = false

/-- Of `t`, port `h` can answer with the DevLoad that it has in `s`. -/
structure Ready (s : State) (h : Head) (t : State) : Prop where
  answers : Answerable t h
  devload : t.devloadOf h = s.devloadOf h

theorem loop_offsets_ne (h : Head) : (Reg.PRTn_TEST_CTL.LOOP.nth h.val).off ≠ Reg.DIR_STATUS.VIOL.off ∧ (Reg.PRTn_TEST_STATUS.ACTIVE.nth h.val).off ≠ Reg.DIR_STATUS.VIOL.off := by
  revert h
  decide

theorem State.portLoop_of_words {s t : State} (h : Head) (hw : ∀ o, o ≠ Reg.DIR_STATUS.VIOL.off → t.word o = s.word o) : t.portLoop h = s.portLoop h := by
  obtain ⟨hctl, hstat⟩ := loop_offsets_ne h
  simp only [State.portLoop, State.f, State.fb, hw _ hctl, hw _ hstat]

theorem State.level_of_words {s t : State} (hw : ∀ o, o ≠ Reg.DIR_STATUS.VIOL.off → t.word o = s.word o) : t.level = s.level := by
  have hlevel : t.word Reg.XLT_CAP_STATUS.LEVEL.off = s.word Reg.XLT_CAP_STATUS.LEVEL.off := hw _ (by decide)
  simp only [State.level, State.f, hlevel]

/-- Violations leave a port able to answer as it was. -/
theorem Slips.ready {s t u : State} {h : Head} (hs : Ready s h t) (hu : Slips t u) : Ready s h u := by
  obtain ⟨⟨hready, hroom, hndr, hdrs, hloop⟩, hdl⟩ := hs
  have hp := hu.noted.2 h
  rw [← hp] at hready hroom hndr hdrs hloop
  refine ⟨⟨hready, hroom, hndr, hdrs, hloop⟩, ?_⟩
  rw [← hdl]
  have hdev : (u.port h).devload = (t.port h).devload := by rw [← hp]
  simp only [State.devloadOf, State.portLoop_of_words h hu.words, hdev]

/-- With the ports and registers as they were, a port answers as before. -/
theorem Ready.congr {s t u : State} {h : Head} (hs : Ready s h t) (hp : u.ports = t.ports) (hc : u.csr = t.csr) : Ready s h u := by
  obtain ⟨⟨hready, hroom, hndr, hdrs, hloop⟩, hdl⟩ := hs
  have hport : u.port h = t.port h := State.port_congr hp h
  have hword : ∀ o, o ≠ Reg.DIR_STATUS.VIOL.off → u.word o = t.word o := fun o _ => State.word_congr hc o
  rw [← hport] at hready hroom hndr hdrs hloop
  refine ⟨⟨hready, hroom, hndr, hdrs, hloop⟩, ?_⟩
  rw [← hdl]
  simp only [State.devloadOf, State.portLoop_of_words h hword, hport]

/-! ## A request last in RTK, and its answer (R46, R48, R55) -/

/-- An entry's end with nothing that waits on it: it leaves RTK, and its credit returns (R55). -/
theorem State.closeEntry_plain {s : State} {r : RtkEntry} (hready : (s.port r.head).ready = []) (hloop : (s.port r.head).loopWait = false) (hchan : r.chan ≠ .inner)
    (hconf : r.conflicts = []) : s.closeEntry r = (s.without r.id).freeCredit r.head r.chan := by
  have hdrop : s.dropEntry r = (s.without r.id).freeCredit r.head r.chan := by
    simp only [State.dropEntry, hready, List.isEmpty_nil, if_true]
    rfl
  obtain ⟨-, -, hp⟩ := (s.without r.id).freeCredit_sent r.head r.chan
  have hwait : (((s.without r.id).freeCredit r.head r.chan).port r.head).loopWait = false := (hp r.head).2.trans hloop
  have hc : (r.chan == .inner) = false := by simpa using hchan
  simp only [State.closeEntry, hdrop, hc, hconf, Bool.false_eq_true, if_false, List.foldl_nil]
  exact State.loopStart_of_not_waiting hwait

/-- Entry `r` is the last of RTK, after the entries `q`, and its number is its own. -/
structure LastEntry (t : State) (q : List RtkEntry) (r : RtkEntry) : Prop where
  rtk : t.rtk = q ++ [r]
  fresh : ∀ x ∈ q, x.id ≠ r.id

theorem LastEntry.entry {t : State} {q : List RtkEntry} {r : RtkEntry} (h : LastEntry t q r) : t.entry r.id = some r := by
  have hq : q.find? (·.id == r.id) = none := List.find?_eq_none.2 fun x hx => by simpa using h.fresh x hx
  simp [State.entry, h.rtk, hq]

theorem LastEntry.without {t : State} {q : List RtkEntry} {r : RtkEntry} (h : LastEntry t q r) : t.rtk.filter (·.id != r.id) = q := by
  have hq : q.filter (·.id != r.id) = q := List.filter_eq_self.2 fun x hx => by simpa using h.fresh x hx
  simp [h.rtk, hq]

theorem LastEntry.updEntry {t : State} {q : List RtkEntry} {r : RtkEntry} (h : LastEntry t q r) {g : RtkEntry → RtkEntry} (hg : (g r).id = r.id) :
    LastEntry (t.updEntry r.id g) q (g r) := by
  refine ⟨?_, fun x hx => hg ▸ h.fresh x hx⟩
  have hq : q.map (fun a => if a.id == r.id then g a else a) = q :=
    (List.map_congr_left fun x hx => by simp [h.fresh x hx]).trans (List.map_id q)
  have hrtk : (t.updEntry r.id g).rtk = t.rtk.map fun a => if a.id == r.id then g a else a := rfl
  rw [hrtk, h.rtk, List.map_append, hq]
  simp

/-- A request of a host that nothing else waits on. -/
structure RtkEntry.Plain (r : RtkEntry) : Prop where
  chan : r.chan ≠ .inner
  synthetic : r.synthetic = false
  conflicts : r.conflicts = []

/-- A request that can be answered is answered at once: its messages are sent, its entry is free, and its credit returns (R48, R55). -/
theorem State.respond_last {t : State} {q : List RtkEntry} {r : RtkEntry} (hl : LastEntry t q r) (hr : r.Plain) (ha : Answerable t r.head) :
    (t.respond r.id).rtk = q ∧ (t.respond r.id).out = t.out ++ r.answers (t.devloadOf r.head) ∧
      { t.respond r.id with rtk := t.rtk, ports := t.ports, out := t.out, pmu := t.pmu } = t := by
  have hm : t.maySend r = true := by simp [State.maySend, ha.ready, ha.room, ha.ndr, ha.drs]
  obtain ⟨hframe, hout, hports⟩ := t.sendResponse_sent r
  obtain ⟨hready, hloop⟩ := hports r.head
  rw [State.respond_eq hl.entry hr.synthetic hm,
    State.closeEntry_plain (hready.trans ha.ready) (hloop.trans ha.loop) hr.chan hr.conflicts]
  obtain ⟨hframe', hout', -⟩ := ((t.sendResponse r).without r.id).freeCredit_sent r.head r.chan
  generalize ((t.sendResponse r).without r.id).freeCredit r.head r.chan = u at hframe' hout'
  have hrtk : (t.sendResponse r).rtk = t.rtk := by
    have h := congrArg State.rtk hframe
    exact h
  have hu : u.rtk = (t.sendResponse r).rtk.filter (·.id != r.id) := by
    have h := congrArg State.rtk hframe'
    exact h
  refine ⟨by rw [hu, hrtk, hl.without], by rw [hout', List.append_nil]; exact hout, ?_⟩
  have h1 := congrArg (fun x : State => { x with rtk := t.rtk, ports := t.ports, out := t.out, pmu := t.pmu }) hframe'
  have h2 := congrArg (fun x : State => { x with rtk := t.rtk }) hframe
  exact h1.trans h2

/-- Nothing open on its line, its slices ON and its bitmap word whole, a request of an HDM-H region is served at once (R46, R76, R356). -/
theorem State.serve_last {t : State} {q : List RtkEntry} {r : RtkEntry} (hl : LastEntry t q r) (hline : ∀ x ∈ q, x.line ≠ r.line) (hdb : r.db = false)
    (hon : ∀ d ∈ lineDomains r.line false, t.domOn d = true) (hreb : t.xlt.rebuilds.contains (extOf r.line / 64) = false) : t.serve r.id = t.access r.id := by
  have htake : t.rtk.takeWhile (·.id != r.id) = q := by
    rw [hl.rtk, List.takeWhile_append_of_pos fun x hx => by simpa using hl.fresh x hx]
    simp
  have hblock : t.blocked r = false := by
    rw [State.blocked, htake]
    exact List.any_eq_false.2 fun x hx => by simp [RtkEntry.holdsUp, hline x hx]
  have hoff : ((lineDomains r.line false).filter fun d => !t.domOn d && !(t.dom d).failed) = [] := List.filter_eq_nil_iff.2 fun d hd => by simp [hon d hd]
  simp only [State.serve, hl.entry, hblock, hoff, hreb, hdb, List.isEmpty_nil, Bool.not_true, Bool.false_and, Bool.false_eq_true, if_false]

/-! ## A request that enters RTK (R52, R54, R228) -/

/-- `t` is `s` with request `r` of head `h` entered last in RTK, and nothing else changed but what accepting it may leave. -/
structure Entered (s : State) (h : Head) (r : RtkEntry) (t : State) : Prop where
  same : SameData s t
  last : LastEntry t s.rtk r
  ready : Ready s h t
  level : t.level = s.level

/-- A step that changes no data, and no entry, port or register, leaves a request entered as it is. -/
theorem Entered.step {s t u : State} {h : Head} {r : RtkEntry} (he : Entered s h r t) (hs : SameData t u) (hrtk : u.rtk = t.rtk) (hp : u.ports = t.ports) (hc : u.csr = t.csr) :
    Entered s h r u :=
  ⟨he.same.trans hs, ⟨hrtk.trans he.last.rtk, he.last.fresh⟩, he.ready.congr hp hc, (State.level_of_words fun o _ => State.word_congr hc o).trans he.level⟩

/-- A request entered is answered. -/
theorem Entered.respond {s t : State} {h : Head} {r : RtkEntry} (he : Entered s h r t) (hr : r.Plain) (hh : r.head = h) :
    (t.respond r.id).out = t.out ++ r.answers (s.devloadOf h) ∧ ReadKept s (t.respond r.id) ∧ (t.respond r.id).csr = t.csr := by
  subst hh
  obtain ⟨hrtk, hout, hframe⟩ := State.respond_last he.last hr he.ready.answers
  have hsame : SameData t (t.respond r.id) := by
    have h := congrArg t.undoAccess hframe
    exact h
  have hcsr := congrArg State.csr hframe
  exact ⟨he.ready.devload ▸ hout, (he.same.trans hsame).readKept hrtk, hcsr⟩

theorem State.pushEntry_port (s : State) (r : RtkEntry) (h : Head) :
    ∃ n, (s.pushEntry r).port h = { s.port h with occPeak := n } := by
  unfold State.pushEntry State.noteOcc
  rw [State.port_updPort]
  split
  · next hh => exact ⟨_, by rw [hh]; rfl⟩
  · exact ⟨_, rfl⟩

theorem State.updPort_same (s : State) (h : Head) (g : Port → Port) : SameData s (s.updPort h g) := rfl

theorem State.pushEntry_same (s : State) (r : RtkEntry) : SameData s (s.pushEntry r) := by
  have hrtk : SameData s { s with rtk := s.rtk ++ [r], nextEntry := s.nextEntry + 1 } := rfl
  exact hrtk.trans (State.updPort_same ..)

theorem State.pushEntry_csr (s : State) (r : RtkEntry) : (s.pushEntry r).csr = s.csr := rfl

theorem Ready.pushEntry {s t : State} {h : Head} (hs : Ready s h t) (r : RtkEntry) : Ready s h (t.pushEntry r) := by
  obtain ⟨⟨hready, hroom, hndr, hdrs, hloop⟩, hdl⟩ := hs
  obtain ⟨n, hp⟩ := t.pushEntry_port r h
  have hport : (t.pushEntry r).devloadOf h = t.devloadOf h := by
    simp only [State.devloadOf, State.portLoop_of_words h fun o _ => State.word_congr (t.pushEntry_csr r) o, hp]
  exact ⟨⟨hp ▸ hready, hp ▸ hroom, hp ▸ hndr, hp ▸ hdrs, hp ▸ hloop⟩, hport.trans hdl⟩

/-! ## Decoding and ordering (R67, R68, R178) -/

theorem State.hdpaOf_noted {s t : State} (h : Noted s t) (k : Head) (hpa : Nat) : t.hdpaOf k hpa = s.hdpaOf k hpa := by
  have hdm : (t.port k).hdm = (s.port k).hdm := by rw [← h.2 k]
  rw [State.hdpaOf, State.hdpaOf, hdm]

theorem State.regionAt_congr {s t : State} (hc : t.csr = s.csr) (h : Head) (a : Nat) : t.regionAt h a = s.regionAt h a := by
  have hregion : t.region h = s.region h := funext fun e => by simp only [State.region, State.f_congr hc, State.fb_congr hc]
  simp only [State.regionAt, State.regionsOf, hregion]

/-- A request that is no slip: its tag is free, it enables a byte if it writes, and it has no metadata and is no forward. -/
structure NoSlip (s : State) (h : Head) (op : ReqOp) (tag : BitVec 16) (mv : MetaVal) (m : Mask) : Prop where
  tag : TagFree s h tag
  mask : op.isWrite = true → m ≠ 0
  mv : mv = .noOp
  rdFwd : op ≠ .rdFwd
  wrFwd : op ≠ .wrFwd

/-- `t` is `s` as it has taken the credit of a request of head `h` and recorded what is wrong with it. -/
structure Taken (s : State) (h : Head) (t : State) : Prop where
  same : SameData s t
  rtk : t.rtk = s.rtk
  nextEntry : t.nextEntry = s.nextEntry
  ready : Ready s h t
  level : t.level = s.level

theorem Taken.slips {s t u : State} {h : Head} (ht : Taken s h t) (hu : Slips t u) : Taken s h u := by
  obtain ⟨hrtk, hnext⟩ : u.rtk = t.rtk ∧ u.nextEntry = t.nextEntry := by
    have hp := congrArg (fun x : State => (x.rtk, x.nextEntry)) hu.noted.1
    simpa using hp
  exact ⟨ht.same.trans hu.noted.sameData, hrtk.trans ht.rtk, hnext.trans ht.nextEntry, hu.ready ht.ready, (State.level_of_words hu.words).trans ht.level⟩

/-- The state as the credit of a request has been spent (R54). -/
def State.spendCredit (s : State) (h : Head) (c : CreditChan) : State := (s.updPort h fun q => q.spend c).count 2 45 1 (some h.val)

theorem State.spendCredit_port (s : State) (h : Head) (c : CreditChan) : (s.spendCredit h c).port h = (s.port h).spend c :=
  (State.port_count ..).trans (s.port_updPort_self h fun q => q.spend c)

theorem State.spendCredit_same (s : State) (h : Head) (c : CreditChan) : SameData s (s.spendCredit h c) :=
  (s.updPort_same h fun q => q.spend c).trans (State.count_noted _ 2 45 1 (some h.val)).sameData

theorem State.spendCredit_csr (s : State) (h : Head) (c : CreditChan) : (s.spendCredit h c).csr = s.csr := rfl

/-- A credit spent leaves of the port what its answers and its decoding ask for. -/
theorem Port.spend_keeps (q : Port) (c : CreditChan) :
    (q.spend c).ready = q.ready ∧ (q.spend c).txRoom = q.txRoom ∧ (q.spend c).ndr = q.ndr ∧ (q.spend c).drs = q.drs ∧ (q.spend c).loopWait = q.loopWait ∧
      (q.spend c).devload = q.devload ∧ (q.spend c).memActive = q.memActive ∧ (q.spend c).hdm = q.hdm := by
  cases c <;> exact ⟨rfl, rfl, rfl, rfl, rfl, rfl, rfl, rfl⟩

theorem State.spendCredit_taken {s : State} {h : Head} (c : CreditChan) (ha : Answerable s h) : Taken s h (s.spendCredit h c) := by
  obtain ⟨hready, hroom, hndr, hdrs, hloop⟩ := ha
  obtain ⟨kready, kroom, kndr, kdrs, kloop, kdev, -, -⟩ := (s.port h).spend_keeps c
  rw [← s.spendCredit_port h c] at kready kroom kndr kdrs kloop kdev
  have hword : ∀ o, (s.spendCredit h c).word o = s.word o := State.word_congr (s.spendCredit_csr h c)
  refine ⟨s.spendCredit_same h c, rfl, rfl, ⟨⟨kready.trans hready, kroom.trans hroom, kndr ▸ hndr, kdrs ▸ hdrs, kloop.trans hloop⟩, ?_⟩, State.level_of_words fun o _ => hword o⟩
  simp only [State.devloadOf, State.portLoop_of_words h fun o _ => hword o, kdev]

/-- Host address `hpa` of head `h` decodes to HDPA `a` in region `g`. -/
structure Decodes (s : State) (h : Head) (hpa a : Nat) (g : Region) : Prop where
  memActive : (s.port h).memActive = true
  hdpa : s.hdpaOf h hpa = some a
  loop : s.portLoop h = false
  region : s.regionAt h a = some g

theorem Decodes.noted {s t : State} {h : Head} {hpa a : Nat} {g : Region} (hd : Decodes s h hpa a g) (hn : Noted s t) (hc : t.csr = s.csr) : Decodes t h hpa a g := by
  refine ⟨?_, (State.hdpaOf_noted hn h hpa).trans hd.hdpa, ?_, (State.regionAt_congr hc h a).trans hd.region⟩
  · have hp := hn.2 h
    have hm := hd.memActive
    rw [← hp] at hm
    exact hm
  · exact (State.portLoop_of_words h fun o _ => State.word_congr hc o).trans hd.loop

theorem HostReady.decodes {s : State} {h : Head} {hpa a : Nat} {g : Region} (hr : HostReady s h hpa a g) (c : CreditChan) : Decodes (s.spendCredit h c) h hpa a g := by
  obtain ⟨-, -, -, -, hmem, hloop, hhdpa, hregion, -, -⟩ := hr
  obtain ⟨-, -, -, -, -, -, kmem, khdm⟩ := (s.port h).spend_keeps c
  rw [← s.spendCredit_port h c] at kmem khdm
  refine ⟨kmem.trans hmem, ?_, ?_, ?_⟩
  · rw [State.hdpaOf, khdm]
    exact hhdpa
  · exact (State.portLoop_of_words h fun o _ => State.word_congr (s.spendCredit_csr h c) o).trans hloop
  · exact (State.regionAt_congr (s.spendCredit_csr h c) h a).trans hregion

/-- Ordering a request of an HDM-H region: metadata and forwards are violations, and it enters RTK and is served in its place (R178, R199). -/
theorem State.order_hdmH {t : State} {h : Head} {hpa a : Nat} {g : Region} (hd : Decodes t h hpa a g) (hdb : g.db = false) (c : CreditChan) {op : ReqOp} (hop : op ≠ .specRd)
    (tag : BitVec 16) (mv : MetaVal) (snp : SnpType) (m : Mask) (d : LineData) (p : Bool) :
    ∃ u, Slips t u ∧ (mv = .noOp → op ≠ .rdFwd → op ≠ .wrFwd → u = t) ∧
      t.order (t.newEntry h c op tag hpa 0 false m d p) hpa mv snp .none =
        ((u.firstTouched (t.newEntry h c op tag a (g.dpa a / 64) false m d p)).pushEntry (t.newEntry h c op tag a (g.dpa a / 64) false m d p)).serve t.nextEntry := by
  refine ⟨if mv != .noOp || (op == .rdFwd || op == .wrFwd) then t.violation h (g.dpa a / 64) else t, ?_, fun hmv hrd hwr => ?_, ?_⟩
  · split
    · exact t.violation_slips h _
    · exact .refl t
  · simp [hmv, hrd, hwr]
  · unfold State.order
    simp only [State.newEntry, hd.memActive, hd.hdpa, hd.loop, hd.region, hdb]
    cases op
    case specRd => exact absurd rfl hop
    all_goals rfl

section
variable {s : State} {h : Head} {hpa : BitVec 52} {a : Nat} {g : Region} (hr : HostReady s h hpa.toNat a g) (hdb : g.db = false)
  (hndr : (s.port h).ndr ≠ 0) (hdrs : (s.port h).drs ≠ 0)

include hr hndr hdrs

theorem HostReady.answerable : Answerable s h := by
  obtain ⟨-, -, -, hloop, -, -, -, -, hready, hroom⟩ := hr
  exact ⟨hready, hroom, hndr, hdrs, hloop⟩

/-- A request with a credit is taken: its slips are recorded, and it is decoded and ordered (R52, R54, R228). -/
theorem State.request_ordered {c : CreditChan} (hc : c ≠ .inner) (op : ReqOp) (tag : BitVec 16) (mv : MetaVal) (snp : SnpType) (m : Mask) (d : LineData) (p : Bool) :
    ∃ t, Taken s h t ∧ Decodes t h hpa.toNat a g ∧ ((op = .specRd ∨ TagFree s h tag) → (op.isWrite = true → m ≠ 0) → t = s.spendCredit h c) ∧
      s.request h c op hpa tag mv snp m d p .none = t.order (t.newEntry h c op tag hpa.toNat 0 false m d p) hpa.toNat mv snp .none := by
  obtain ⟨hn, hcsr⟩ := (s.spendCredit h c).hostSlips_noted h op tag m
  have htaken := (State.spendCredit_taken c (hr.answerable hndr hdrs)).slips ⟨hn, fun o _ => State.word_congr hcsr o⟩
  refine ⟨(s.spendCredit h c).hostSlips h op tag m, htaken, (hr.decodes c).noted hn hcsr, fun htag hm => State.hostSlips_none htag hm, ?_⟩
  have hloop := htaken.ready.answers.loop
  obtain ⟨hactive, hreq, hrwd, -⟩ := hr
  have hcredit : (s.port h).credits c ≠ 0 := by
    cases c
    · exact hreq
    · exact hrwd
    · exact absurd rfl hc
  unfold State.request
  simp only [hactive, hcredit, Bool.not_true, Bool.false_eq_true, if_false]
  exact (if_neg (by decide)).trans (if_neg (by rw [Bool.not_eq_true]; exact hloop))

end

/-! ## A request in its place (R23, R46, R73) -/

theorem State.firstTouched_frame (s : State) (r : RtkEntry) : { s.firstTouched r with xlt := { (s.firstTouched r).xlt with touched := s.xlt.touched } } = s := by
  unfold State.firstTouched
  split
  · exact s.touch_frame r.line
  · rfl

theorem State.firstTouched_parts (s : State) (r : RtkEntry) :
    (s.firstTouched r).rtk = s.rtk ∧ (s.firstTouched r).ports = s.ports ∧ (s.firstTouched r).csr = s.csr ∧ (s.firstTouched r).out = s.out ∧ (s.firstTouched r).nc = s.nc ∧
      (s.firstTouched r).mem = s.mem ∧ (s.firstTouched r).dir = s.dir ∧ (s.firstTouched r).cmd = s.cmd ∧ (s.firstTouched r).doms = s.doms ∧
      (s.firstTouched r).xlt.rebuilds = s.xlt.rebuilds := by
  have hp := congrArg (fun x : State => (x.rtk, x.ports, x.csr, x.out, x.nc, x.mem, x.dir, x.cmd, x.doms, x.xlt.rebuilds)) (s.firstTouched_frame r)
  simpa using hp

/-- Where no data differs, a first touch makes none differ. -/
theorem SameData.firstTouched {s t : State} (h : SameData s t) (r : RtkEntry) : SameData (s.firstTouched r) (t.firstTouched r) := by
  obtain ⟨-, -, -, -, -, hxlt, -⟩ := h.parts
  unfold State.firstTouched State.touch
  rw [hxlt]
  split
  · split
    · exact h
    · have hx := congrArg (fun x : State => { x with xlt := { s.xlt with touched := s.xlt.touched.put (extOf r.line) () } }) h
      exact hx
  · exact h

section
variable {s : State} {h : Head} {hpa : BitVec 52} {a : Nat} {g : Region} {n : NcLine} (hr : HostReady s h hpa.toNat a g) (hdb : g.db = false)
  (hndr : (s.port h).ndr ≠ 0) (hdrs : (s.port h).drs ≠ 0) (hn : NcHolds s (g.dpa a / 64) n)
include hr hdb hndr hdrs hn

/-- A request of a line of an HDM-H region that the near cache holds, with none open for it, enters RTK and makes its access. -/
theorem State.request_entered {c : CreditChan} (hc : c ≠ .inner) {op : ReqOp} (hop : op ≠ .specRd) (tag : BitVec 16) (mv : MetaVal) (snp : SnpType) (m : Mask) (d : LineData) (p : Bool) :
    ∃ v, Entered (s.firstTouched (s.newEntry h c op tag a (g.dpa a / 64) false m d p)) h (s.newEntry h c op tag a (g.dpa a / 64) false m d p) v ∧
      (NoSlip s h op tag mv m → v.out = s.out ∧ v.csr = s.csr) ∧
      s.request h c op hpa tag mv snp m d p .none = v.access s.nextEntry := by
  obtain ⟨t, htaken, hdec, hclean, hreq⟩ := State.request_ordered hr hndr hdrs hc op tag mv snp m d p
  obtain ⟨u, hslips, hnone, hord⟩ := State.order_hdmH hdec hdb c hop tag mv snp m d p
  obtain ⟨-, -, -, hon, hrtk, -, -, hreb⟩ := hn
  have hentry : t.newEntry h c op tag a (g.dpa a / 64) false m d p = s.newEntry h c op tag a (g.dpa a / 64) false m d p := by
    have hnow := congrArg State.now htaken.same
    have hnow : t.now = s.now := hnow
    simp only [State.newEntry, htaken.nextEntry, hnow]
  rw [hentry, htaken.nextEntry] at hord
  generalize hrdef : s.newEntry h c op tag a (g.dpa a / 64) false m d p = r at hord ⊢
  have hu := htaken.slips hslips
  obtain ⟨srtk, sports, scsr, -, -, -, -, -, sdoms, sreb⟩ := s.firstTouched_parts r
  obtain ⟨urtk, uports, ucsr, uout, -⟩ := u.firstTouched_parts r
  have hsame : SameData (s.firstTouched r) ((u.firstTouched r).pushEntry r) := (hu.same.firstTouched r).trans (State.pushEntry_same ..)
  have hlast : LastEntry ((u.firstTouched r).pushEntry r) (s.firstTouched r).rtk r := by
    refine ⟨?_, fun x hx => ?_⟩
    · rw [srtk, ← hu.rtk, ← urtk]
      rfl
    · rw [srtk] at hx
      rw [← hrdef]
      exact (hrtk x hx).2
  have hready : Ready (s.firstTouched r) h ((u.firstTouched r).pushEntry r) := by
    have hdl : (s.firstTouched r).devloadOf h = s.devloadOf h := by
      simp only [State.devloadOf, State.portLoop_of_words h fun o _ => State.word_congr scsr o, State.port_congr sports h]
    obtain ⟨hans, hdev⟩ := (hu.ready.congr uports ucsr).pushEntry r
    exact ⟨hans, hdev.trans hdl.symm⟩
  have hlevel : ((u.firstTouched r).pushEntry r).level = (s.firstTouched r).level := by
    rw [State.level_of_words fun o _ => State.word_congr (State.pushEntry_csr ..) o, State.level_of_words fun o _ => State.word_congr ucsr o, hu.level,
      State.level_of_words fun o _ => State.word_congr scsr o]
  refine ⟨(u.firstTouched r).pushEntry r, ⟨hsame, hlast, hready, hlevel⟩, fun hno => ?_, ?_⟩
  · have hut : u = s.spendCredit h c := (hnone hno.mv hno.rdFwd hno.wrFwd).trans (hclean (.inr hno.tag) hno.mask)
    refine ⟨uout.trans ?_, ucsr.trans ?_⟩
    · rw [hut]
      rfl
    · rw [hut]
      exact s.spendCredit_csr h c
  · obtain ⟨-, -, -, -, -, vxlt, vdoms, -⟩ := hsame.parts
    have hdom : ∀ d ∈ lineDomains r.line false, ((u.firstTouched r).pushEntry r).domOn d = true := fun d hd => by
      have hline : r.line = g.dpa a / 64 := by rw [← hrdef]; rfl
      rw [State.domOn, State.dom_congr (vdoms.trans sdoms)]
      exact hon d (hline ▸ hd)
    have hid : r.id = s.nextEntry := by rw [← hrdef]; rfl
    rw [hreq, hord, ← hid]
    refine State.serve_last hlast (fun x hx => ?_) (by rw [← hrdef]; rfl) hdom ?_
    · rw [srtk] at hx
      rw [← hrdef]
      exact (hrtk x hx).1
    · rw [vxlt, sreb, ← hrdef]
      exact hreb

end

end Sys2Proof.Machine
end

section
/-! PROOFS. The accesses of host requests to a held line of an HDM-H region: reads, completions and writes (R15, R17, R37, R42, R43, R177, R199). -/

namespace Sys2Proof.Machine

/-! ## A hit in the near cache (R37, R44, R148) -/

/-- `t` is `s` with a hit of the near cache noted: its ways, hits and heat events, and counters. -/
def HitOnly (s t : State) : Prop :=
  { t with nc := { t.nc with plru := s.nc.plru, hits := s.nc.hits, heatQ := s.nc.heatQ }, pmu := s.pmu } = s

theorem HitOnly.trans {s t u : State} (h1 : HitOnly s t) (h2 : HitOnly t u) : HitOnly s u := by
  have h := congrArg (fun x : State => { x with nc := { x.nc with plru := s.nc.plru, hits := s.nc.hits, heatQ := s.nc.heatQ }, pmu := s.pmu }) h2
  exact Eq.trans h h1

theorem State.heat_hit (s : State) (l : Nat) : HitOnly s (s.heat l) := by
  have h := congrArg (fun x : State => { x with nc := { x.nc with plru := s.nc.plru, hits := s.nc.hits } }) (s.heat_frame l)
  exact h

theorem State.touchNc_hit (s : State) (l : Nat) (w : Fin 16) : HitOnly s (s.touchNc l w) := rfl

theorem State.ncHit_hit (s : State) (l : Nat) : HitOnly s (s.ncHit l) := by
  have hcount (b : BitVec 4) : HitOnly s (({ s with nc := { s.nc with hits := s.nc.hits.set 0 (slice l).val b } }).count 3 (4 * (slice l).val)) := rfl
  unfold State.ncHit
  dsimp only
  rw [if_pos rfl]
  split
  · exact (hcount _).trans (State.heat_hit ..)
  · exact hcount _

theorem HitOnly.parts {s t : State} (h : HitOnly s t) :
    t.rtk = s.rtk ∧ t.ports = s.ports ∧ t.csr = s.csr ∧ t.out = s.out ∧ t.nc.lines = s.nc.lines ∧ t.nc.wbb = s.nc.wbb ∧ t.mem = s.mem ∧ t.dir = s.dir ∧ t.cmd = s.cmd := by
  have hp := congrArg (fun x : State => (x.rtk, x.ports, x.csr, x.out, x.nc.lines, x.nc.wbb, x.mem, x.dir, x.cmd)) h
  simpa using hp

theorem HitOnly.sameData {s t : State} (h : HitOnly s t) : SameData s t := by
  have hs := congrArg s.undoAccess h
  exact hs

/-! ## Answers -/

/-- A request entered is answered with a value: good data as it stands, and poison (R268). -/
theorem Entered.answer {s t : State} {h : Head} {r : RtkEntry} (he : Entered s h r t) (hr : r.Plain) (hh : r.head = h) (v : LineVal) :
    ∃ x : LineVal, x.poison = v.poison ∧ (v.poison = false → x = v) ∧ (t.answer r.id v).out = t.out ++ ({ r with kept := some x } : RtkEntry).answers (s.devloadOf h) ∧
      ReadKept s (t.answer r.id v) ∧ (t.answer r.id v).csr = t.csr := by
  have hreply (u : State) (hu : Entered s h r u) (x : LineVal) :
      (u.reply r.id x).out = u.out ++ ({ r with kept := some x } : RtkEntry).answers (s.devloadOf h) ∧ ReadKept s (u.reply r.id x) ∧ (u.reply r.id x).csr = u.csr := by
    have hkept : Entered s h { r with kept := some x } (u.updEntry r.id fun r => { r with kept := some x }) :=
      ⟨hu.same.trans rfl, hu.last.updEntry rfl, hu.ready.congr rfl rfl, hu.level⟩
    exact hkept.respond ⟨hr.chan, hr.synthetic, hr.conflicts⟩ hh
  unfold State.answer
  split
  · next hp =>
    have hfree : Entered s h r t.takeFree := he.step rfl rfl rfl rfl
    exact ⟨⟨Config.freeLine t.free, true⟩, hp.symm, fun hgood => absurd hp (by simp [hgood]), hreply _ hfree _⟩
  · exact ⟨v, rfl, fun _ => rfl, hreply t he v⟩

/-- A read of a line that the near cache holds whole is answered from it (R37). -/
theorem Entered.access_read {s t : State} {h : Head} {r : RtkEntry} {n : NcLine} (he : Entered s h r t) (hop : r.op.isRead = true) (hspec : r.op ≠ .specRd) (hkept : r.kept = none)
    (hlost : s.setLost r.line = false) (hn : s.nc.lines.look r.line = some n) (hf : n.filling = false) :
    ∃ u, Entered s h r u ∧ u.out = t.out ∧ u.csr = t.csr ∧ t.access r.id = u.answer r.id ⟨n.data, n.poison⟩ := by
  obtain ⟨-, hlines, -, hnclost, -⟩ := he.same.parts
  have hhit : HitOnly t ((t.touchNc r.line n.way).ncHit r.line) := (t.touchNc_hit ..).trans (State.ncHit_hit ..)
  obtain ⟨hrtk, hports, hcsr, hout, -⟩ := hhit.parts
  refine ⟨_, he.step hhit.sameData hrtk hports hcsr, hout, hcsr, ?_⟩
  have hl : t.setLost r.line = false := by rw [State.setLost, hnclost]; exact hlost
  have hread : t.accessRead r = ((t.touchNc r.line n.way).ncHit r.line).answer r.id ⟨n.data, n.poison⟩ := by
    simp only [State.accessRead, hkept, hl, hlines, hn, hf, Bool.false_eq_true, if_false]
  have haccess : t.access r.id = t.accessRead r := by
    simp only [State.access, he.last.entry]
    cases hr : r.op <;> simp_all [ReqOp.isRead]
  rw [haccess, hread]

/-- Invalidations, evictions and forwarded writes of an HDM-H region complete with no access. -/
theorem Entered.access_completes {s t : State} {h : Head} {r : RtkEntry} (he : Entered s h r t) (hop : r.op.isRead = false) (hwr : r.op.isWrite = false) :
    t.access r.id = t.respond r.id := by
  simp only [State.access, he.last.entry]
  cases hr : r.op <;> simp_all [ReqOp.isRead, ReqOp.isWrite]

/-! ## Writes of a held line (R15, R17, R42, R43) -/

/-- `t` differs from `s` at most in the queue of doorbells. -/
def OnlyBells (s t : State) : Prop := { t with cmd := { t.cmd with bells := s.cmd.bells } } = s

theorem OnlyBells.trans {s t u : State} (h1 : OnlyBells s t) (h2 : OnlyBells t u) : OnlyBells s u := by
  have h := congrArg (fun x : State => { x with cmd := { x.cmd with bells := s.cmd.bells } }) h2
  exact Eq.trans h h1

theorem State.doorbell_bells (s : State) (l : Nat) : OnlyBells s (s.doorbell l) := by
  unfold State.doorbell
  generalize lineNat (s.current l).data 0 8 = v
  generalize s.heads = hs
  induction hs generalizing s with
  | nil => rfl
  | cons h hs ih =>
    refine OnlyBells.trans ?_ (ih _)
    dsimp only
    split
    · rfl
    · split
      · exact iteInduction (motive := fun x => OnlyBells s x) (fun _ => rfl) fun _ => rfl
      · rfl

/-- A held line as a write leaves it (R43). -/
def State.heldWritten (s : State) (l : Nat) (n : NcLine) (w : Fin 16) : State := (((s.setNc l n).touchNc l w).ncHit l).doorbell l

theorem State.heldWritten_parts (s : State) (l : Nat) (n : NcLine) (w : Fin 16) :
    (s.heldWritten l n w).nc.lines = s.nc.lines.put l n ∧ (s.heldWritten l n w).rtk = s.rtk ∧ (s.heldWritten l n w).ports = s.ports ∧ (s.heldWritten l n w).csr = s.csr ∧
      (s.heldWritten l n w).out = s.out ∧ (s.heldWritten l n w).mem = s.mem ∧ (s.heldWritten l n w).nc.wbb = s.nc.wbb ∧ (s.heldWritten l n w).dir = s.dir ∧
      (s.heldWritten l n w).cmd.cmds = s.cmd.cmds := by
  have hbells := State.doorbell_bells (((s.setNc l n).touchNc l w).ncHit l) l
  have hhit : HitOnly (s.setNc l n) (((s.setNc l n).touchNc l w).ncHit l) := (State.touchNc_hit ..).trans (State.ncHit_hit ..)
  obtain ⟨hrtk, hports, hcsr, hout, hlines, hwbb, hmem, hdir, hcmd⟩ := hhit.parts
  rw [State.heldWritten]
  generalize ((s.setNc l n).touchNc l w).ncHit l = t at *
  obtain ⟨brtk, bports, bcsr, bout, bnc, bmem, bdir, bcmds⟩ : (t.doorbell l).rtk = t.rtk ∧ (t.doorbell l).ports = t.ports ∧ (t.doorbell l).csr = t.csr ∧
      (t.doorbell l).out = t.out ∧ (t.doorbell l).nc = t.nc ∧ (t.doorbell l).mem = t.mem ∧ (t.doorbell l).dir = t.dir ∧ (t.doorbell l).cmd.cmds = t.cmd.cmds := by
    have hp := congrArg (fun x : State => (x.rtk, x.ports, x.csr, x.out, x.nc, x.mem, x.dir, x.cmd.cmds)) hbells
    simpa using hp
  rw [brtk, bports, bcsr, bout, bnc, bmem, bdir, bcmds, hcmd]
  exact ⟨hlines, hrtk, hports, hcsr, hout, hmem, hwbb, hdir, rfl⟩

/-- A write lands in the way of its line (R43); one with no byte enabled changes nothing. -/
theorem State.land_held {s : State} {l : Nat} {n : NcLine} (hn : s.nc.lines.look l = some n) (hf : n.filling = false) (ht : s.xlt.touched.has (extOf l) = true)
    (d : LineData) (m : Mask) (p : Bool) : s.land l d m p = .landed (if m = 0 then s else s.heldWritten l (n.written d m p) n.way) := by
  have htouch : s.touch l = s := if_pos ht
  simp only [State.land, htouch, hn, hf, Bool.false_and, Bool.false_eq_true, if_false]
  split <;> rfl

theorem State.poolsWrite_of_level {s : State} (h : s.level ≠ 3) (r : RtkEntry) : s.poolsWrite r = false := by
  simp [State.poolsWrite, State.backingHeld, h]

/-- A write of a held line below FLOOR lands and completes (R42, R43). -/
theorem State.accessWrite_held {s : State} {r : RtkEntry} {n : NcLine} (hlevel : s.level ≠ 3) (hlost : s.setLost r.line = false) (hcross : r.crossing = false)
    (hn : s.nc.lines.look r.line = some n) (hf : n.filling = false) (ht : s.xlt.touched.has (extOf r.line) = true) :
    s.accessWrite r = (if r.mask = 0 then s else s.heldWritten r.line (n.written r.data r.mask r.poison) n.way).respond r.id := by
  obtain ⟨-, -, -, hcsr, -⟩ := s.heldWritten_parts r.line (n.written r.data r.mask r.poison) n.way
  have hlevel' : (if r.mask = 0 then s else s.heldWritten r.line (n.written r.data r.mask r.poison) n.way).level ≠ 3 := by
    split
    · exact hlevel
    · rwa [State.level_of_words fun o _ => State.word_congr hcsr o]
  have hhas : s.nc.lines.has r.line = true := by simp [Tbl.has, hn]
  simp only [State.accessWrite, hlost, State.poolsWrite_of_level hlevel, hcross, hhas, State.land_held hn hf ht, State.poolsWrite_of_level hlevel', Bool.true_or, Bool.false_and,
    Bool.false_eq_true, if_false, if_true]

/-- What a write leaves of a request entered: the answer, the line, and every other part of the data as it was. -/
theorem Entered.access_write {s t : State} {h : Head} {r : RtkEntry} {n : NcLine} (he : Entered s h r t) (hr : r.Plain) (hh : r.head = h) (hop : r.op.isWrite = true)
    (hcross : r.crossing = false) (hlevel : s.level ≠ 3) (hlost : s.setLost r.line = false) (hn : s.nc.lines.look r.line = some n) (hf : n.filling = false)
    (ht : s.xlt.touched.has (extOf r.line) = true) :
    (t.access r.id).out = t.out ++ r.answers (s.devloadOf h) ∧ (t.access r.id).rtk = s.rtk ∧ (t.access r.id).mem = s.mem ∧ (t.access r.id).nc.wbb = s.nc.wbb ∧
      (t.access r.id).dir = s.dir ∧ (t.access r.id).cmd.cmds = s.cmd.cmds ∧
      (t.access r.id).nc.lines = if r.mask = 0 then s.nc.lines else s.nc.lines.put r.line (n.written r.data r.mask r.poison) := by
  subst hh
  obtain ⟨hmem, hlines, hwbb, hnclost, hdir, hxlt, -, hcmd⟩ := he.same.parts
  have hcmds : t.cmd.cmds = s.cmd.cmds := by rw [← hcmd]
  have haccess : t.access r.id = t.accessWrite r := by
    simp only [State.access, he.last.entry]
    cases ho : r.op <;> simp_all [ReqOp.isWrite]
  have hl : t.setLost r.line = false := by rw [State.setLost, hnclost]; exact hlost
  rw [haccess, State.accessWrite_held (he.level ▸ hlevel) hl hcross (hlines ▸ hn) hf (hxlt ▸ ht)]
  generalize hu : (if r.mask = 0 then t else t.heldWritten r.line (n.written r.data r.mask r.poison) n.way) = u
  obtain ⟨ulines, urtk, uports, ucsr, uout, umem, uwbb, udir, ucmds⟩ :
      u.nc.lines = (if r.mask = 0 then t.nc.lines else t.nc.lines.put r.line (n.written r.data r.mask r.poison)) ∧ u.rtk = t.rtk ∧ u.ports = t.ports ∧ u.csr = t.csr ∧ u.out = t.out ∧
        u.mem = t.mem ∧ u.nc.wbb = t.nc.wbb ∧ u.dir = t.dir ∧ u.cmd.cmds = t.cmd.cmds := by
    rw [← hu]
    split
    · exact ⟨rfl, rfl, rfl, rfl, rfl, rfl, rfl, rfl, rfl⟩
    · exact t.heldWritten_parts ..
  obtain ⟨hans, hdl⟩ := he.ready.congr uports ucsr
  obtain ⟨arktk, aout, aframe⟩ := State.respond_last ⟨urtk.trans he.last.rtk, he.last.fresh⟩ hr hans
  obtain ⟨amem, anc, adir, acmd⟩ : (u.respond r.id).mem = u.mem ∧ (u.respond r.id).nc = u.nc ∧ (u.respond r.id).dir = u.dir ∧ (u.respond r.id).cmd = u.cmd := by
    have hp := congrArg (fun x : State => (x.mem, x.nc, x.dir, x.cmd)) aframe
    simpa using hp
  refine ⟨by rw [aout, uout, hdl], arktk, by rw [amem, umem, hmem], by rw [anc, uwbb, hwbb], by rw [adir, udir, hdir], by rw [acmd, ucmds, hcmds], ?_⟩
  rw [anc, ulines, hlines]

end Sys2Proof.Machine
end

section
/-! PROOFS. What a host's request of a held line of an HDM-H region gives: reads, completions, writes, and speculative reads (R37, R42, R43, R177, R178, R199). -/

namespace Sys2Proof.Machine

/-! ## The messages of an answer with no state granted (R177, R199) -/

theorem RtkEntry.answers_read {r : RtkEntry} (hread : r.op.isRead = true) (hspec : r.op ≠ .specRd) (hg : r.grant = .none) (dl : BitVec 2) :
    r.answers dl = Msg.data r.head r.tag (r.kept.getD LineVal.zero) .none dl :: if r.op = .rdFwd then [Msg.cmp r.head r.tag .none dl] else [] := by
  unfold RtkEntry.answers RtkEntry.needs
  rw [hg]
  cases hop : r.op with
  | rd _ | rdData | rdFwd => simp [ReqOp.isRead]
  | specRd => exact absurd hop hspec
  | wr _ | inv _ | clnEvct | wrFwd => simp [hop, ReqOp.isRead] at hread

theorem RtkEntry.answers_completion {r : RtkEntry} (hread : r.op.isRead = false) (hg : r.grant = .none) (dl : BitVec 2) :
    r.answers dl = [Msg.cmp r.head r.tag .none dl] := by
  unfold RtkEntry.answers RtkEntry.needs
  rw [hg]
  cases hop : r.op with
  | rd _ | rdData | rdFwd | specRd => simp [hop, ReqOp.isRead] at hread
  | wr _ | inv _ | clnEvct | wrFwd => simp [ReqOp.isRead]

theorem State.newEntry_plain (s : State) (h : Head) {c : CreditChan} (hc : c ≠ .inner) (op : ReqOp) (tag : BitVec 16) (a l : Nat) (m : Mask) (d : LineData) (p : Bool) :
    (s.newEntry h c op tag a l false m d p).Plain := ⟨hc, rfl, rfl⟩

/-! ## The first write to an extent (R23, R73) -/

theorem State.firstTouched_of_not_write (s : State) {r : RtkEntry} (hop : r.op.isWrite = false) : s.firstTouched r = s := by
  simp [State.firstTouched, hop]

theorem State.firstTouched_touched (s : State) {r : RtkEntry} (hop : r.op.isWrite = true) : (s.firstTouched r).xlt.touched.has (extOf r.line) = true := by
  rw [State.firstTouched, if_pos hop, State.touch]
  split
  · assumption
  · simp [Tbl.has_put]

theorem State.firstTouched_level (s : State) (r : RtkEntry) : (s.firstTouched r).level = s.level := by
  obtain ⟨-, -, hcsr, -⟩ := s.firstTouched_parts r
  exact State.level_of_words fun o _ => State.word_congr hcsr o

theorem State.firstTouched_devload (s : State) (r : RtkEntry) (h : Head) : (s.firstTouched r).devloadOf h = s.devloadOf h := by
  obtain ⟨-, hports, hcsr, -⟩ := s.firstTouched_parts r
  simp only [State.devloadOf, State.portLoop_of_words h fun o _ => State.word_congr hcsr o, State.port_congr hports h]

/-! ## Full writes (R15, R17) -/

theorem mergeLine_fullMask (old new : LineData) : mergeLine old new fullMask = new := by
  have hbits : maskBits fullMask = BitVec.allOnes 512 := by decide +kernel
  rw [mergeLine, hbits, BitVec.not_allOnes, BitVec.and_zero, BitVec.zero_or, BitVec.and_allOnes]

/-- A line that the near cache holds whole is read from it (R16). -/
theorem State.current_of_whole {s : State} {l : Nat} {n : NcLine} (hn : s.nc.lines.look l = some n) (hm : n.mask = fullMask) : s.current l = ⟨n.data, n.poison⟩ := by
  simp [State.current, hn, hm, mergeLine_fullMask]

/-! ## Requests of a held line -/

section
variable {s : State} {h : Head} {hpa : BitVec 52} {a : Nat} {g : Region} {n : NcLine} (hr : HostReady s h hpa.toNat a g) (hdb : g.db = false)
  (hndr : (s.port h).ndr ≠ 0) (hdrs : (s.port h).drs ≠ 0) (hn : NcHolds s (g.dpa a / 64) n)
include hr hdb hndr hdrs hn

/-- A read is answered with the line's value, poison included, and no state; MEM_RD_FWD also with Cmp (R37, R177, R199). -/
theorem State.request_read {op : ReqOp} (hread : op.isRead = true) (hspec : op ≠ .specRd) (tag : BitVec 16) (mv : MetaVal) (snp : SnpType) :
    let t := s.request h .req op hpa tag mv snp 0 0 false .none
    ∃ x : LineVal, x.poison = n.poison ∧ (n.poison = false → x = ⟨n.data, false⟩) ∧ Msg.data h tag x .none (s.devloadOf h) ∈ t.out ∧
      (op = .rdFwd → Msg.cmp h tag .none (s.devloadOf h) ∈ t.out) ∧ ReadKept s t ∧
      (NoSlip s h op tag mv 0 → t.out = s.out ++ [.data h tag x .none (s.devloadOf h)] ∧ t.csr = s.csr) := by
  have hwrite : op.isWrite = false := by cases op <;> simp_all [ReqOp.isRead, ReqOp.isWrite]
  obtain ⟨v, he, hno, hreq⟩ := State.request_entered hr hdb hndr hdrs hn (c := .req) (by decide) hspec tag mv snp 0 0 false
  obtain ⟨hlook, hfill, -, -, -, hlost, -⟩ := hn
  rw [s.firstTouched_of_not_write hwrite] at he
  obtain ⟨u, hu, uout, ucsr, haccess⟩ := he.access_read hread hspec rfl hlost hlook hfill
  obtain ⟨x, hpoison, hgood, xout, xkept, xcsr⟩ := hu.answer (s.newEntry_plain h (by decide) op tag a _ 0 0 false) rfl ⟨n.data, n.poison⟩
  rw [RtkEntry.answers_read hread hspec rfl] at xout
  dsimp only
  rw [hreq]
  have haccess : v.access s.nextEntry = u.answer s.nextEntry ⟨n.data, n.poison⟩ := haccess
  rw [haccess]
  have xout : (u.answer s.nextEntry ⟨n.data, n.poison⟩).out = u.out ++ Msg.data h tag x .none (s.devloadOf h) :: if op = .rdFwd then [Msg.cmp h tag .none (s.devloadOf h)] else [] := xout
  refine ⟨x, hpoison, fun hp => (hgood hp).trans (by rw [hp]), ?_, fun hop => ?_, xkept, fun hclean => ?_⟩
  · simp [xout]
  · simp [xout, hop]
  · obtain ⟨vout, vcsr⟩ := hno hclean
    exact ⟨by rw [xout, uout, vout, if_neg hclean.rdFwd], xcsr.trans (ucsr.trans vcsr)⟩

/-- MEM_INV, MEM_CLN_EVCT and MEM_WR_FWD complete with Cmp and change no data (R178, R199). -/
theorem State.request_complete {c : CreditChan} (hc : c ≠ .inner) {op : ReqOp} (hread : op.isRead = false) (hwrite : op.isWrite = false) (tag : BitVec 16) (mv : MetaVal) (snp : SnpType) (m : Mask)
    (d : LineData) :
    let t := s.request h c op hpa tag mv snp m d false .none
    Msg.cmp h tag .none (s.devloadOf h) ∈ t.out ∧ ReadKept s t ∧ (NoSlip s h op tag mv m → t.out = s.out ++ [.cmp h tag .none (s.devloadOf h)] ∧ t.csr = s.csr) := by
  have hspec : op ≠ .specRd := by rintro rfl; simp [ReqOp.isRead] at hread
  obtain ⟨v, he, hno, hreq⟩ := State.request_entered hr hdb hndr hdrs hn hc hspec tag mv snp m d false
  rw [s.firstTouched_of_not_write hwrite] at he
  have haccess : v.access s.nextEntry = v.respond s.nextEntry := he.access_completes hread hwrite
  obtain ⟨rout, rkept, rcsr⟩ := he.respond (s.newEntry_plain h hc op tag a _ m d false) rfl
  rw [RtkEntry.answers_completion hread rfl] at rout
  have rout : (v.respond s.nextEntry).out = v.out ++ [Msg.cmp h tag .none (s.devloadOf h)] := rout
  dsimp only
  rw [hreq, haccess]
  refine ⟨by simp [rout], rkept, fun hclean => ?_⟩
  obtain ⟨vout, vcsr⟩ := hno hclean
  exact ⟨by rw [rout, vout], rcsr.trans vcsr⟩

/-- A write completes with Cmp, and its line holds the written bytes over its old ones (R15, R17, R42, R43). -/
theorem State.request_write (hlevel : s.level ≠ 3) (tag : BitVec 16) (mv : MetaVal) (m : Mask) (d : LineData) (p : Bool) :
    let l := g.dpa a / 64
    let t := s.request h .rwd (.wr mv) hpa tag mv .noOp m d p .none
    t.nc.lines.look l = some (if m = 0 then n else n.written d m p) ∧ Msg.cmp h tag .none (s.devloadOf h) ∈ t.out ∧ WriteKept s l t ∧
      (NoSlip s h (.wr mv) tag mv m → t.out = s.out ++ [.cmp h tag .none (s.devloadOf h)]) := by
  obtain ⟨v, he, hno, hreq⟩ := State.request_entered hr hdb hndr hdrs hn (c := .rwd) (by decide) (op := .wr mv) (by simp) tag mv .noOp m d p
  obtain ⟨hlook, hfill, -, -, -, hlost, -⟩ := hn
  generalize hrdef : s.newEntry h .rwd (.wr mv) tag a (g.dpa a / 64) false m d p = r at he
  have hop : r.op.isWrite = true := by rw [← hrdef]; rfl
  have hline : r.line = g.dpa a / 64 := by rw [← hrdef]; rfl
  have hid : r.id = s.nextEntry := by rw [← hrdef]; rfl
  have hmask : r.mask = m ∧ r.data = d ∧ r.poison = p := by rw [← hrdef]; exact ⟨rfl, rfl, rfl⟩
  obtain ⟨srtk, -, -, -, snc, smem, sdir, scmd, -⟩ := s.firstTouched_parts r
  obtain ⟨aout, artk, amem, awbb, adir, acmds, alines⟩ := he.access_write (n := n) (hrdef ▸ s.newEntry_plain h (by decide) (.wr mv) tag a _ m d p) (by rw [← hrdef]; rfl) hop
    (by rw [← hrdef]; rfl) ((s.firstTouched_level r).symm ▸ hlevel) (by rw [State.setLost, snc, hline]; exact hlost) (by rw [snc, hline]; exact hlook) hfill
    (s.firstTouched_touched hop)
  obtain ⟨rmask, rdata, rpoison⟩ := hmask
  rw [rmask, rdata, rpoison, hline, snc, hid] at alines
  have hans : r.answers ((s.firstTouched r).devloadOf h) = [Msg.cmp h tag .none (s.devloadOf h)] := by
    rw [s.firstTouched_devload, RtkEntry.answers_completion (by rw [← hrdef]; rfl) (by rw [← hrdef]; rfl), ← hrdef]
    rfl
  rw [hans, hid] at aout
  rw [hid] at artk amem awbb adir acmds
  dsimp only
  rw [hreq]
  refine ⟨?_, by simp [aout], ⟨artk.trans srtk, amem.trans smem, fun k hk => ?_, by rw [awbb, snc], adir.trans sdir, by rw [acmds, scmd]⟩, fun hclean => ?_⟩
  · rw [alines]
    split
    · exact hlook
    · exact Tbl.look_put_self ..
  · rw [alines]
    split
    · rfl
    · exact Tbl.look_put_ne _ _ hk
  · rw [aout, (hno hclean).1]

end

end Sys2Proof.Machine
end

section
/-! PROOFS. Speculative reads of a line of an HDM-H region, and the fill that a miss opens (R43, R44, R54, R177). -/

namespace Sys2Proof.Machine

/-! ## Translation of a read of a DIRECT extent (R72 to R78) -/

/-- A read of a DIRECT extent whose record is cached, and of no page being zeroed, goes to storage. -/
theorem State.xlate_direct {s : State} {l : Nat} (hreb : s.xlt.rebuilds.contains (extOf l / 64) = false) (htouched : s.xlt.touched.has (extOf l) = true)
    (hcached : s.xlt.extCache.has (extOf l) = true) (hmode : (s.extRec (extOf l)).mode = .direct) (hzero : s.xlt.zeroing.has (pageKey l) = false) :
    ∃ u, s.xlate l = (.storage, u) ∧ { u with xlt := { u.xlt with extPlru := s.xlt.extPlru }, pmu := s.pmu } = s := by
  obtain ⟨u, hlook, hframe⟩ := State.lookExt_cached hcached
  refine ⟨u, ?_, hframe⟩
  obtain ⟨hext, hzeroing⟩ : u.xlt.ext = s.xlt.ext ∧ u.xlt.zeroing = s.xlt.zeroing := by
    have hp := congrArg (fun x : State => (x.xlt.ext, x.xlt.zeroing)) hframe
    simpa using hp
  have hview : (u.extView (extOf l)).1 = .direct := by
    have hrec : (u.extRec (extOf l)).mode = .direct := by rw [State.extRec, hext]; exact hmode
    simp [State.extView, hrec]
  simp only [State.xlate, hreb, htouched, hlook, hview, hzeroing, hzero, Bool.not_true, Bool.false_eq_true, if_false]

/-! ## A free way (R44) -/

/-- With a way of its set free a line takes a free way, and nothing else changes. -/
theorem State.takeWay_free {s : State} {l : Nat} (h : ∃ w < 16, ∀ p ∈ s.ncMembers (setKey l), p.2.way.val ≠ w) (fuel : Nat) : ∃ w, s.takeWay l (fuel + 1) = .got w s := by
  obtain ⟨w, hw, hfree⟩ := h
  have hsome : ((List.range 16).find? fun w => !((s.ncMembers (setKey l)).any fun p => p.2.way.val == w)).isSome = true := by
    refine List.find?_isSome.2 ⟨w, List.mem_range.2 hw, ?_⟩
    rw [Bool.not_eq_true', List.any_eq_false]
    exact fun p hp => by simpa using hfree p hp
  obtain ⟨k, hk⟩ := Option.isSome_iff_exists.1 hsome
  exact ⟨⟨k % 16, Nat.mod_lt _ (by decide)⟩, by simp only [State.takeWay, hk]⟩

/-! ## An opened fill (R43, R171) -/

theorem State.wakeRead_issued (s : State) (l : Nat) (second : Bool) : IssuedOnly s (s.wakeRead l second) :=
  IssuedOnly.foldl (fun s q => s.wakePlace_issued q _) _ s

theorem State.rebuildReads_issued (s : State) (l : Nat) (q : PosSlot) (n : Nat) : IssuedOnly s (s.rebuildReads l q n) :=
  IssuedOnly.foldl (fun s _ => s.chanIssue_issued _ _ _) _ s

theorem OnlyDrains.foldl {α : Type} {f : State → α → State} (hf : ∀ s a, OnlyDrains s (f s a)) (as : List α) (s : State) : OnlyDrains s (as.foldl f s) := by
  induction as generalizing s with
  | nil => exact .refl s
  | cons a as ih => exact (hf s a).trans (ih _)

/-- An opened fill adds one to the fills of the near cache, and changes no line, message, entry or stored byte. -/
theorem State.addFill_facts (s : State) (l : Nat) (v : Option LineVal) (host : Bool) :
    (∃ f, (s.addFill l v host).nc.fills = s.nc.fills ++ [f] ∧ f.line = l ∧ f.value = v) ∧ (s.addFill l v host).nc.lines = s.nc.lines ∧
      (s.addFill l v host).out = s.out ∧ (s.addFill l v host).rtk = s.rtk ∧ (s.addFill l v host).mem = s.mem := by
  unfold State.addFill
  extract_lets second reads places woken issued _ coded _ added
  have hwoken : IssuedOnly s woken := by
    simp only [woken]
    split
    · exact s.wakeRead_issued l second
    · exact .refl s
  have hissued : IssuedOnly s issued := by
    refine hwoken.trans (IssuedOnly.foldl (fun s p => ?_) places woken)
    split
    · exact s.rebuildReads_issued l _ _
    · exact s.chanIssue_issued _ _ _
  obtain ⟨imem, -, inc, -, irtk, -, -, -, -, -, iout⟩ := hissued.kept
  have hcoded : coded.nc = issued.nc ∧ coded.out = issued.out ∧ coded.rtk = issued.rtk ∧ coded.mem = issued.mem := by
    simp only [coded]
    split <;> exact ⟨rfl, rfl, rfl, rfl⟩
  obtain ⟨cnc, cout, crtk, cmem⟩ := hcoded
  have hdrains : OnlyDrains added (if added.nc.wbb.any (·.issued) then places.foldl (fun (s : State) p => ((s.slotChan p.1.slot).map s.noteDrain).getD s) added else added) := by
    split
    · refine OnlyDrains.foldl (fun s p => ?_) places added
      cases s.slotChan p.1.slot with
      | none => exact .refl s
      | some c => exact s.noteDrain_only c
    · exact .refl added
  obtain ⟨hnc, hout, hrtk, hmem⟩ : _ ∧ _ ∧ _ ∧ _ := by
    have hp := congrArg (fun x : State => (x.nc, x.out, x.rtk, x.mem)) hdrains.2
    simpa only [Prod.mk.injEq] using hp
  rw [hnc, hout, hrtk, hmem]
  have hfills : added.nc.fills = coded.nc.fills ++ [Fill.mk l v false [] second host coded.now] := rfl
  have hlines : added.nc.lines = coded.nc.lines := rfl
  refine ⟨⟨_, by rw [hfills, cnc, inc], rfl, rfl⟩, by rw [hlines, cnc, inc], cout.trans iout, crtk.trans irtk, cmem.trans imem⟩

/-! ## Speculative reads (R177) -/

/-- With the records, the registers and the channels as they were, the storage of a line of a DIRECT extent is lost just as it was (R284). -/
theorem State.lineLost_of_direct {s t : State} {l : Nat} (hmode : (s.extRec (extOf l)).mode = .direct)
    (h : { t with xlt := { t.xlt with extPlru := s.xlt.extPlru }, ports := s.ports, pmu := s.pmu, nextEntry := s.nextEntry } = s) : t.lineLost l = s.lineLost l := by
  have hdirect (x : State) (hx : (x.extRec (extOf l)).mode = .direct) :
      x.lineLost l = (x.lean && (x.slotChan (x.directAt ((x.extRec (extOf l)).loc * 4096 + l % 32768 / 8)).slot).any x.chanLost) := by
    simp [State.lineLost, State.lineAt, State.extView, hx]
  have hrec : (t.extRec (extOf l)).mode = .direct := by
    have hp := congrArg (fun x : State => (x.extRec (extOf l)).mode) h
    exact Eq.trans hp hmode
  rw [hdirect s hmode, hdirect t hrec]
  have hp := congrArg (fun x : State => x.lean && (x.slotChan (x.directAt ((x.extRec (extOf l)).loc * 4096 + l % 32768 / 8)).slot).any x.chanLost) h
  exact hp

theorem State.specFill_of_held {s : State} {l : Nat} (h : s.nc.lines.has l = true) : s.specFill l = s := by
  simp only [State.specFill, h, Bool.true_or, if_true]

/-- A speculative read of a line that is not held, stored in a DIRECT extent, opens a fill of it. -/
theorem State.specFill_opens {s : State} {l : Nat} (hl : s.nc.lines.look l = none) (hw : s.wbbLine l = none) (hset : s.setLost l = false) (hon : ∀ d ∈ lineDomains l false, s.domOn d = true)
    (hreb : s.xlt.rebuilds.contains (extOf l / 64) = false) (htouched : s.xlt.touched.has (extOf l) = true) (hcached : s.xlt.extCache.has (extOf l) = true)
    (hmode : (s.extRec (extOf l)).mode = .direct) (hzero : s.xlt.zeroing.has (pageKey l) = false) (hlost : s.lineLost l = false)
    (hway : ∃ w < 16, ∀ p ∈ s.ncMembers (setKey l), p.2.way.val ≠ w) :
    let t := s.specFill l
    (t.nc.lines.look l).map (fun x => (x.filling, x.mask)) = some (true, 0) ∧ (∃ f, t.nc.fills = s.nc.fills ++ [f] ∧ f.line = l ∧ f.value = some (s.stored l)) ∧
      t.out = s.out ∧ t.rtk = s.rtk ∧ t.mem = s.mem ∧ ∀ k, k ≠ l → t.nc.lines.look k = s.nc.lines.look k := by
  obtain ⟨u, hx, hframe⟩ := State.xlate_direct (s := s.ncMiss l) hreb htouched hcached hmode hzero
  have hframe : { u with xlt := { u.xlt with extPlru := s.xlt.extPlru }, pmu := s.pmu } = s := by
    have h := congrArg (fun x : State => { x with pmu := s.pmu }) hframe
    exact h
  have hulost : u.lineLost l = s.lineLost l := by
    refine State.lineLost_of_direct hmode ?_
    have h := congrArg (fun x : State => { x with ports := s.ports, nextEntry := s.nextEntry }) hframe
    exact h
  have hustored : u.stored l = s.stored l := by
    have h := congrArg (fun x : State => x.stored l) hframe
    exact h
  obtain ⟨hnc, hout, hrtk, hmem⟩ : u.nc = s.nc ∧ u.out = s.out ∧ u.rtk = s.rtk ∧ u.mem = s.mem := by
    have hp := congrArg (fun x : State => (x.nc, x.out, x.rtk, x.mem)) hframe
    simpa only [Prod.mk.injEq] using hp
  obtain ⟨w, htake⟩ := State.takeWay_free (s := u) (l := l) (by rw [State.ncMembers, hnc]; exact hway) 16
  have hhas : s.nc.lines.has l = false := by simp [Tbl.has, hl]
  have hdoms : (lineDomains l false).any (fun d => !s.domOn d) = false := List.any_eq_false.2 fun d hd => by simp [hon d hd]
  have hspec : s.specFill l = ((u.setNc l ⟨w, 0, 0, false, false, true, none⟩).touchNc l w).addFill l (some (s.stored l)) := by
    simp only [State.specFill, hhas, hw, hset, hdoms, hx, hulost, hlost, htake, hustored, Option.isSome_none, Bool.or_self, Bool.false_eq_true, if_false]
  have hplaced (n : NcLine) : ((u.setNc l n).touchNc l w).nc.lines = u.nc.lines.put l n ∧ ((u.setNc l n).touchNc l w).nc.fills = u.nc.fills ∧ ((u.setNc l n).touchNc l w).out = u.out ∧
      ((u.setNc l n).touchNc l w).rtk = u.rtk ∧ ((u.setNc l n).touchNc l w).mem = u.mem := ⟨rfl, rfl, rfl, rfl, rfl⟩
  obtain ⟨plines, pfills, pout, prtk, pmem⟩ := hplaced ⟨w, 0, 0, false, false, true, none⟩
  dsimp only
  rw [hspec]
  generalize (u.setNc l ⟨w, 0, 0, false, false, true, none⟩).touchNc l w = v at *
  obtain ⟨hfill, alines, aout, artk, amem⟩ := v.addFill_facts l (some (s.stored l)) true
  rw [pfills, hnc] at hfill
  rw [alines, plines, hnc, aout, pout, hout, artk, prtk, hrtk, amem, pmem, hmem]
  exact ⟨by rw [Tbl.look_put_self]; rfl, hfill, rfl, rfl, rfl, fun k hk => Tbl.look_put_ne _ _ hk⟩

/-- `t` is `s` after a request that has come and gone: the ports, the counters and the next number of an entry alone may differ. -/
def CameAndWent (s t : State) : Prop := { t with ports := s.ports, pmu := s.pmu, nextEntry := s.nextEntry } = s

theorem CameAndWent.trans {s t u : State} (h1 : CameAndWent s t) (h2 : CameAndWent t u) : CameAndWent s u := by
  have h := congrArg (fun x : State => { x with ports := s.ports, pmu := s.pmu, nextEntry := s.nextEntry }) h2
  exact Eq.trans h h1

theorem State.updPort_cameAndWent (s : State) (h : Head) (g : Port → Port) : CameAndWent s (s.updPort h g) := rfl

theorem State.count_cameAndWent (s : State) (i j n : Nat) (u : Option Nat) : CameAndWent s (s.count i j n u) := rfl

theorem State.spendCredit_cameAndWent (s : State) (h : Head) (c : CreditChan) : CameAndWent s (s.spendCredit h c) :=
  (s.updPort_cameAndWent h fun q => q.spend c).trans (State.count_cameAndWent ..)

theorem State.freeCredit_cameAndWent (s : State) (h : Head) (c : CreditChan) : CameAndWent s (s.freeCredit h c) :=
  s.updPort_cameAndWent h _

/-- An entry put into RTK and taken out again, with no other of its number. -/
theorem State.pushEntry_without_cameAndWent {s : State} {r : RtkEntry} (h : LastEntry (s.pushEntry r) s.rtk r) : CameAndWent s ((s.pushEntry r).without r.id) := by
  have hpush : CameAndWent { s with rtk := s.rtk ++ [r], nextEntry := s.nextEntry + 1 } (s.pushEntry r) := State.updPort_cameAndWent ..
  have hrtk : ((s.pushEntry r).without r.id).rtk = s.rtk := h.without
  have hframe : { (s.pushEntry r).without r.id with rtk := s.rtk, ports := s.ports, pmu := s.pmu, nextEntry := s.nextEntry } = s := by
    have hp := congrArg (fun x : State => { x with rtk := s.rtk, nextEntry := s.nextEntry }) hpush
    exact hp
  rw [← hrtk] at hframe
  exact hframe

/-- Ordering a speculative read of an HDM-H region: its entry comes and goes, and a fill of its line may begin (R177). -/
theorem State.order_specRd {t : State} {h : Head} {hpa a : Nat} {g : Region} (hd : Decodes t h hpa a g) (hdb : g.db = false) (tag : BitVec 16) :
    t.order (t.newEntry h .req .specRd tag hpa 0 false 0 0 false) hpa .noOp .noOp .none =
      ((t.pushEntry (t.newEntry h .req .specRd tag a (g.dpa a / 64) false 0 0 false)).closeEntry (t.newEntry h .req .specRd tag a (g.dpa a / 64) false 0 0 false)).specFill (g.dpa a / 64) := by
  unfold State.order
  simp only [State.newEntry, hd.memActive, hd.hdpa, hd.loop, hd.region, hdb, Bool.not_true, Bool.false_and, Bool.false_eq_true, if_false]

/-- A speculative read of an HDM-H region takes a credit and returns it, and then may begin a fill (R54, R177). -/
theorem State.request_specRd {s : State} {h : Head} {hpa : BitVec 52} {a : Nat} {g : Region} (hr : HostReady s h hpa.toNat a g) (hdb : g.db = false)
    (hndr : (s.port h).ndr ≠ 0) (hdrs : (s.port h).drs ≠ 0) (hid : ∀ r ∈ s.rtk, r.id ≠ s.nextEntry) (tag : BitVec 16) :
    ∃ c, CameAndWent s c ∧ s.request h .req .specRd hpa tag .noOp .noOp 0 0 false .none = c.specFill (g.dpa a / 64) := by
  obtain ⟨t, htaken, hdec, hclean, hreq⟩ := State.request_ordered hr hndr hdrs (c := .req) (by decide) .specRd tag .noOp .noOp 0 0 false
  have ht : t = s.spendCredit h .req := hclean (.inl rfl) (by simp [ReqOp.isWrite])
  rw [hreq, State.order_specRd hdec hdb]
  generalize hrdef : t.newEntry h .req .specRd tag a (g.dpa a / 64) false 0 0 false = r
  refine ⟨(t.pushEntry r).closeEntry r, ?_, rfl⟩
  have hhead : r.head = h := by rw [← hrdef]; rfl
  have hchan : r.chan = .req := by rw [← hrdef]; rfl
  have hrid : r.id = s.nextEntry := by rw [← hrdef]; exact htaken.nextEntry
  have hlast : LastEntry (t.pushEntry r) s.rtk r := ⟨by rw [← htaken.rtk]; rfl, fun x hx => hrid ▸ hid x hx⟩
  have hans := (htaken.ready.pushEntry r).answers
  rw [State.closeEntry_plain (by rw [hhead]; exact hans.ready) (by rw [hhead]; exact hans.loop) (by simp [hchan]) (by rw [← hrdef]; rfl)]
  have hspent : CameAndWent s t := ht ▸ s.spendCredit_cameAndWent h .req
  exact (hspent.trans (State.pushEntry_without_cameAndWent (htaken.rtk ▸ hlast))).trans (State.freeCredit_cameAndWent ..)

end Sys2Proof.Machine
end

section
/-! PROOFS. Host requests of a line in an HDM-H region, put together (R37, R42, R43, R54, R177, R178, R199). -/

namespace Sys2Proof.Machine

theorem CameAndWent.parts {s t : State} (h : CameAndWent s t) :
    t.rtk = s.rtk ∧ t.mem = s.mem ∧ t.nc = s.nc ∧ t.dir = s.dir ∧ t.xlt = s.xlt ∧ t.cmd = s.cmd ∧ t.out = s.out ∧ t.csr = s.csr ∧ t.doms = s.doms := by
  have hp := congrArg (fun x : State => (x.rtk, x.mem, x.nc, x.dir, x.xlt, x.cmd, x.out, x.csr, x.doms)) h
  simpa only [Prod.mk.injEq] using hp

section
variable {s : State} {h : Head} {hpa : BitVec 52} {a : Nat} {g : Region} (hr : HostReady s h hpa.toNat a g) (hdb : g.db = false)
  (hndr : (s.port h).ndr ≠ 0) (hdrs : (s.port h).drs ≠ 0)
include hr hdb hndr hdrs

/-- MEM_SPEC_RD of a line that the near cache holds sends nothing and changes no data (R177). -/
theorem State.request_specRd_held {n : NcLine} (hn : NcHolds s (g.dpa a / 64) n) (tag : BitVec 16) :
    let t := s.request h .req .specRd hpa tag .noOp .noOp 0 0 false .none
    t.out = s.out ∧ ReadKept s t ∧ t.csr = s.csr := by
  obtain ⟨hlook, -, -, -, hrtk, -⟩ := hn
  obtain ⟨c, hc, hreq⟩ := State.request_specRd hr hdb hndr hdrs (fun r hr => (hrtk r hr).2) tag
  obtain ⟨crtk, cmem, cnc, cdir, cxlt, ccmd, cout, ccsr, -⟩ := hc.parts
  dsimp only
  rw [hreq, State.specFill_of_held (by simp [Tbl.has, cnc, hlook])]
  exact ⟨cout, ⟨crtk, cmem, by rw [cnc], by rw [cnc], cdir, cxlt, by rw [ccmd]⟩, ccsr⟩

/-- The clause of reads of a good line. -/
theorem State.reads_good {n : NcLine} (hn : NcHolds s (g.dpa a / 64) n) (hgood : n.poison = false) (tag : BitVec 16) :
    (∀ mv snp, ∀ i ∈ [Instr.memRd h hpa tag mv snp .none, .memRdData h hpa tag .none], Gives i s fun t => Msg.data h tag ⟨n.data, false⟩ .none (s.devloadOf h) ∈ t.out ∧ ReadKept s t) ∧
      (TagFree s h tag → ∀ i ∈ [Instr.memRd h hpa tag .noOp .noOp .none, .memRdData h hpa tag .none], Gives i s fun t =>
        t.out = s.out ++ [.data h tag ⟨n.data, false⟩ .none (s.devloadOf h)] ∧ ReadKept s t ∧ t.csr = s.csr) ∧
      Gives (.memRdFwd h hpa tag) s fun t => Msg.data h tag ⟨n.data, false⟩ .none (s.devloadOf h) ∈ t.out ∧ Msg.cmp h tag .none (s.devloadOf h) ∈ t.out ∧ ReadKept s t := by
  have hread (op : ReqOp) (hop : op.isRead = true) (hspec : op ≠ .specRd) (mv : MetaVal) (snp : SnpType) :
      let t := s.request h .req op hpa tag mv snp 0 0 false .none
      Msg.data h tag ⟨n.data, false⟩ .none (s.devloadOf h) ∈ t.out ∧ (op = .rdFwd → Msg.cmp h tag .none (s.devloadOf h) ∈ t.out) ∧ ReadKept s t ∧
        (NoSlip s h op tag mv 0 → t.out = s.out ++ [.data h tag ⟨n.data, false⟩ .none (s.devloadOf h)] ∧ t.csr = s.csr) := by
    obtain ⟨x, -, hx, hdata, hcmp, hkept, hclean⟩ := State.request_read hr hdb hndr hdrs hn hop hspec tag mv snp
    obtain rfl := hx hgood
    exact ⟨hdata, hcmp, hkept, hclean⟩
  refine ⟨fun mv snp => List.forall_mem_cons.2 ⟨⟨_, rfl, ?_⟩, List.forall_mem_singleton.2 ⟨_, rfl, ?_⟩⟩,
    fun htag => List.forall_mem_cons.2 ⟨⟨_, rfl, ?_⟩, List.forall_mem_singleton.2 ⟨_, rfl, ?_⟩⟩, ⟨_, rfl, ?_⟩⟩
  · obtain ⟨hdata, -, hkept, -⟩ := hread (.rd mv) rfl (by simp) mv snp
    exact ⟨hdata, hkept⟩
  · obtain ⟨hdata, -, hkept, -⟩ := hread .rdData rfl (by simp) .noOp .data
    exact ⟨hdata, hkept⟩
  · obtain ⟨-, -, hkept, hclean⟩ := hread (.rd .noOp) rfl (by simp) .noOp .noOp
    obtain ⟨hout, hcsr⟩ := hclean ⟨htag, by simp [ReqOp.isWrite], rfl, by simp, by simp⟩
    exact ⟨hout, hkept, hcsr⟩
  · obtain ⟨-, -, hkept, hclean⟩ := hread .rdData rfl (by simp) .noOp .data
    obtain ⟨hout, hcsr⟩ := hclean ⟨htag, by simp [ReqOp.isWrite], rfl, by simp, by simp⟩
    exact ⟨hout, hkept, hcsr⟩
  · obtain ⟨hdata, hcmp, hkept, -⟩ := hread .rdFwd rfl (by simp) .noOp .noOp
    exact ⟨hdata, hcmp rfl, hkept⟩

/-- The clause of reads of a poisoned line. -/
theorem State.reads_poisoned {n : NcLine} (hn : NcHolds s (g.dpa a / 64) n) (hbad : n.poison = true) (tag : BitVec 16) (mv : MetaVal) (snp : SnpType) :
    ∀ i ∈ [Instr.memRd h hpa tag mv snp .none, .memRdData h hpa tag .none, .memRdFwd h hpa tag], Gives i s fun t =>
      (∃ d, Msg.data h tag ⟨d, true⟩ .none (s.devloadOf h) ∈ t.out) ∧ ReadKept s t := by
  have hread (op : ReqOp) (hop : op.isRead = true) (hspec : op ≠ .specRd) (mv : MetaVal) (snp : SnpType) :
      let t := s.request h .req op hpa tag mv snp 0 0 false .none
      (∃ d, Msg.data h tag ⟨d, true⟩ .none (s.devloadOf h) ∈ t.out) ∧ ReadKept s t := by
    obtain ⟨⟨d, p⟩, hp, -, hdata, -, hkept, -⟩ := State.request_read hr hdb hndr hdrs hn hop hspec tag mv snp
    obtain rfl : p = true := hp.trans hbad
    exact ⟨⟨d, hdata⟩, hkept⟩
  exact List.forall_mem_cons.2 ⟨⟨_, rfl, hread (.rd mv) rfl (by simp) mv snp⟩, List.forall_mem_cons.2 ⟨⟨_, rfl, hread .rdData rfl (by simp) .noOp .data⟩,
    List.forall_mem_singleton.2 ⟨_, rfl, hread .rdFwd rfl (by simp) .noOp .noOp⟩⟩⟩

/-- The clauses of requests that complete and change no data. -/
theorem State.completions {n : NcLine} (hn : NcHolds s (g.dpa a / 64) n) (tag : BitVec 16) :
    (∀ nt mv, ∀ i ∈ [Instr.memInv h hpa tag nt mv, .memClnEvct h hpa tag], Gives i s fun t => Msg.cmp h tag .none (s.devloadOf h) ∈ t.out ∧ ReadKept s t) ∧
      (TagFree s h tag → ∀ nt, ∀ i ∈ [Instr.memInv h hpa tag nt .noOp, .memClnEvct h hpa tag], Gives i s fun t =>
        t.out = s.out ++ [.cmp h tag .none (s.devloadOf h)] ∧ ReadKept s t ∧ t.csr = s.csr) ∧
      (∀ d, Gives (.memWrFwd h hpa tag d) s fun t => Msg.cmp h tag .none (s.devloadOf h) ∈ t.out ∧ ReadKept s t) := by
  have hinv (mv : MetaVal) := State.request_complete hr hdb hndr hdrs hn (c := .req) (by decide) (op := .inv mv) rfl rfl tag mv .inv 0 0
  have hevct := State.request_complete hr hdb hndr hdrs hn (c := .req) (by decide) (op := .clnEvct) rfl rfl tag .noOp .noOp 0 0
  have hfwd (d : LineData) := State.request_complete hr hdb hndr hdrs hn (c := .rwd) (by decide) (op := .wrFwd) rfl rfl tag .noOp .noOp fullMask d
  refine ⟨fun nt mv => List.forall_mem_cons.2 ⟨⟨_, rfl, ?_⟩, List.forall_mem_singleton.2 ⟨_, rfl, ?_⟩⟩,
    fun htag nt => List.forall_mem_cons.2 ⟨⟨_, rfl, ?_⟩, List.forall_mem_singleton.2 ⟨_, rfl, ?_⟩⟩, fun d => ⟨_, rfl, ?_⟩⟩
  · obtain ⟨hcmp, hkept, -⟩ := hinv mv
    exact ⟨hcmp, hkept⟩
  · obtain ⟨hcmp, hkept, -⟩ := hevct
    exact ⟨hcmp, hkept⟩
  · obtain ⟨-, hkept, hclean⟩ := hinv .noOp
    obtain ⟨hout, hcsr⟩ := hclean ⟨htag, by simp [ReqOp.isWrite], rfl, by simp, by simp⟩
    exact ⟨hout, hkept, hcsr⟩
  · obtain ⟨-, hkept, hclean⟩ := hevct
    obtain ⟨hout, hcsr⟩ := hclean ⟨htag, by simp [ReqOp.isWrite], rfl, by simp, by simp⟩
    exact ⟨hout, hkept, hcsr⟩
  · obtain ⟨hcmp, hkept, -⟩ := hfwd d
    exact ⟨hcmp, hkept⟩

/-- The clause of writes. -/
theorem State.writes {n : NcLine} (hn : NcHolds s (g.dpa a / 64) n) (hlevel : s.level ≠ 3) (tag : BitVec 16) (mv : MetaVal) (d : LineData) (poison : Bool) :
    let l := g.dpa a / 64
    (Gives (.memWr h hpa tag mv d poison .none) s fun t => t.current l = ⟨d, poison⟩ ∧ Msg.cmp h tag .none (s.devloadOf h) ∈ t.out ∧ WriteKept s l t) ∧
      (∀ m, Gives (.memWrPtl h hpa tag mv m d poison .none) s fun t =>
        (t.nc.lines.look l).map (fun x => (x.data, x.poison)) = some (if m = 0 then (n.data, n.poison) else (mergeLine n.data d m, if m = fullMask then poison else n.poison || poison)) ∧
        Msg.cmp h tag .none (s.devloadOf h) ∈ t.out ∧ WriteKept s l t) ∧
      (TagFree s h tag → ∀ m, m ≠ 0 → ∀ i ∈ [Instr.memWr h hpa tag .noOp d poison .none, .memWrPtl h hpa tag .noOp m d poison .none], Gives i s fun t =>
        t.out = s.out ++ [.cmp h tag .none (s.devloadOf h)]) := by
  have hwrite (mv : MetaVal) (m : Mask) := State.request_write hr hdb hndr hdrs hn hlevel tag mv m d poison
  have hfull : fullMask ≠ (0 : Mask) := by decide
  have hclean (m : Mask) (hm : m ≠ 0) (htag : TagFree s h tag) : NoSlip s h (.wr .noOp) tag .noOp m := ⟨htag, fun _ => hm, rfl, by simp, by simp⟩
  dsimp only
  refine ⟨⟨_, rfl, ?_⟩, fun m => ⟨_, rfl, ?_⟩, fun htag m hm => List.forall_mem_cons.2 ⟨⟨_, rfl, ?_⟩, List.forall_mem_singleton.2 ⟨_, rfl, ?_⟩⟩⟩
  · obtain ⟨hlook, hcmp, hkept, -⟩ := hwrite mv fullMask
    rw [if_neg hfull] at hlook
    refine ⟨?_, hcmp, hkept⟩
    rw [State.current_of_whole hlook (show n.mask ||| fullMask = fullMask from BitVec.or_allOnes)]
    simp [NcLine.written, mergeLine_fullMask]
  · obtain ⟨hlook, hcmp, hkept, -⟩ := hwrite mv m
    refine ⟨?_, hcmp, hkept⟩
    rw [hlook]
    split <;> rfl
  · obtain ⟨-, -, -, hout⟩ := hwrite .noOp fullMask
    exact hout (hclean fullMask hfull htag)
  · obtain ⟨-, -, -, hout⟩ := hwrite .noOp m
    exact hout (hclean m hm htag)

end

/-- Settles O45: a request whose line is held whole enters RTK last, is served in its place, makes its access and is answered at once; a speculative read
that misses takes a free way and opens a fill. -/
theorem hostRequestsHdmH : Obligations.HostRequestsHdmH := by
  unfold Obligations.HostRequestsHdmH
  intro s h hpa tag g a l hr hdb hndr hdrs
  refine ⟨fun n hn => ?_, fun hl hw hset hon hreb htouched hcached hmode hzero hlost hway hid => ?_⟩
  · obtain ⟨hcomplete, hcompleteClean, hforward⟩ := State.completions hr hdb hndr hdrs hn tag
    exact ⟨fun hgood => State.reads_good hr hdb hndr hdrs hn hgood tag, fun hbad mv snp => State.reads_poisoned hr hdb hndr hdrs hn hbad tag mv snp,
      ⟨_, rfl, State.request_specRd_held hr hdb hndr hdrs hn tag⟩, hcomplete, hcompleteClean, hforward,
      fun hlevel mv d poison => State.writes hr hdb hndr hdrs hn hlevel tag mv d poison⟩
  · obtain ⟨c, hc, hreq⟩ := State.request_specRd hr hdb hndr hdrs hid tag
    obtain ⟨crtk, cmem, cnc, -, cxlt, -, cout, -, cdoms⟩ := hc.parts
    have hclost : c.lineLost l = s.lineLost l := by
      refine State.lineLost_of_direct hmode ?_
      have hp := congrArg (fun x : State => { x with xlt := { x.xlt with extPlru := s.xlt.extPlru } }) hc
      exact hp
    have hstored : c.stored l = s.stored l := by
      have hp := congrArg (fun x : State => x.stored l) hc
      exact hp
    have hopens := State.specFill_opens (s := c) (l := l) (cnc ▸ hl) (by rw [State.wbbLine, cnc]; exact hw) (by rw [State.setLost, cnc]; exact hset)
      (fun d hd => by rw [State.domOn, State.dom_congr cdoms]; exact hon d hd) (cxlt ▸ hreb) (cxlt ▸ htouched) (cxlt ▸ hcached)
      (by rw [State.extRec, cxlt]; exact hmode) (cxlt ▸ hzero) (hclost.trans hlost) (by rw [State.ncMembers, cnc]; exact hway)
    dsimp only at hopens
    rw [cnc, cout, crtk, cmem, hstored] at hopens
    exact ⟨_, rfl, by rw [hreq]; exact hopens⟩

end Sys2Proof.Machine
end

section
/-! PROOFS. The Trimmer: what a read of its walk finds, corrects and records, and the end of a lap (R256, R266, R280, R284 to R289). -/

namespace Sys2Proof.Machine

/-! ## What corrections and losses of a line's copy may change -/

/-- `t` with what a finding of the Trimmer may leave put back as it is in `s`: channels and their domains, the repair list, loss walks, the mark of a slow lap, the
count of poisoned lines, registers, counters and records. -/
def State.undoMend (s t : State) : State :=
  { t with chans := s.chans, doms := s.doms, repairs := s.repairs, csr := s.csr, pmu := s.pmu, pan := s.pan, events := s.events, nextHandle := s.nextHandle, out := s.out
           free := s.free, ports := s.ports, cmd := { t.cmd with heldMsix := s.cmd.heldMsix }
           trm := { t.trm with walks := s.trm.walks, slow := s.trm.slow, poisonSeen := s.trm.poisonSeen } }

/-- No data, frame, record or lost line has changed, and the walk stands where it stood. -/
def Mends (s t : State) : Prop := s.undoMend t = s

theorem Mends.refl (s : State) : Mends s s := rfl

theorem Mends.trans {s t u : State} (h1 : Mends s t) (h2 : Mends t u) : Mends s u := by
  have h := congrArg s.undoMend h2
  exact Eq.trans h h1

theorem Mends.foldl {α : Type} {f : State → α → State} (hf : ∀ s a, Mends s (f s a)) (as : List α) (s : State) : Mends s (as.foldl f s) := by
  induction as generalizing s with
  | nil => exact .refl s
  | cons a as ih => exact (hf s a).trans (ih _)

theorem Noted.mends {s t : State} (h : Noted s t) : Mends s t := by
  have hf := congrArg s.undoMend h.1
  exact hf

theorem IssuedOnly.mends {s t : State} (h : IssuedOnly s t) : Mends s t := by
  have hf := congrArg s.undoMend h
  exact hf

/-- What a host can read stays, and so do the capacity, the dictionaries and lean mode. -/
theorem Mends.kept {s t : State} (h : Mends s t) : DataKept s t ∧ t.cap = s.cap ∧ t.cdc = s.cdc ∧ t.lean = s.lean := by
  have hp := congrArg (fun x : State => (x.mem, x.bad, x.nc, x.dir, x.rtk, x.xlt, x.cap, x.cdc, x.lean)) h
  simp only [Prod.mk.injEq] at hp
  obtain ⟨hmem, hbad, hnc, hdir, hrtk, hxlt, hcap, hcdc, hlean⟩ := hp
  exact ⟨⟨hmem, hbad, hnc, hdir, hrtk, hxlt⟩, hcap, hcdc, hlean⟩

theorem Mends.walk {s t : State} (h : Mends s t) : t.trm.pos = s.trm.pos ∧ t.trm.credit = s.trm.credit ∧ t.trm.lost = s.trm.lost := by
  have hp := congrArg (fun x : State => (x.trm.pos, x.trm.credit, x.trm.lost)) h
  simp only [Prod.mk.injEq] at hp
  exact hp

/-- Which lines are mirrored depends on the straps, the capacity and the stripes. -/
theorem Mends.saMirrored {s t : State} (h : Mends s t) (a : Nat) : t.saMirrored a = s.saMirrored a := by
  have hp := congrArg (fun x : State => x.saMirrored a) h
  exact hp

/-! ## Channels that fail, devices that are marked (R256, R266, R267, R280) -/

theorem State.updChan_mends (s : State) (c : Chan) (g : Channel → Channel) : Mends s (s.updChan c g) := rfl

theorem State.updDom_mends (s : State) (d : Nat) (g : Domain → Domain) : Mends s (s.updDom d g) := rfl

theorem State.setBit_mends (s : State) (x : Fld) (i : Nat) (b : Bool) : Mends s (s.setBit x i b) := rfl

theorem State.count_mends (s : State) (g i n : Nat) (u : Option Nat) : Mends s (s.count g i n u) := rfl

theorem State.flag_mends (s : State) (x : Fld) : Mends s (s.flag x) := rfl

theorem State.event_mends (s : State) (hs : List Head) (l : EventLog) (c : Cause) (a : Nat) : Mends s (s.event hs l c a) := by
  obtain ⟨hnoted, -⟩ := State.event_noted hs l c a false none s
  exact hnoted.mends

/-- An event record on some heads and a Pannier record of the same matter. -/
theorem State.reported_mends (s : State) (hs : List Head) (l : EventLog) (c : Cause) (a dom unit kind sev addr addrKind reg : Nat) (cxl : Bool) :
    Mends s ((s.event hs l c a).pannier dom unit kind c sev addr addrKind reg cxl) :=
  (s.event_mends hs l c a).trans (State.pannier_noted ..).mends

theorem State.failChan_mends (s : State) (c : Chan) (cause : FailCause) : Mends s (s.failChan c cause) := by
  unfold State.failChan
  split
  · exact .refl s
  · extract_lets failed bit told reported off noted
    have hnoted : Mends s noted :=
      ((((s.updChan_mends c _).trans (failed.setBit_mends ..)).trans (bit.reported_mends bit.heads .failure .channelFailed c.val ..)).trans (reported.updDom_mends ..)).trans
        ((off.setBit_mends ..).trans (State.setBit_mends ..))
    split
    · exact hnoted
    · exact hnoted

theorem State.noteBurst_mends (s : State) (c : Chan) (r : RankSet) : Mends s (s.noteBurst c r) := by
  unfold State.noteBurst
  extract_lets recent noted
  split
  · exact (s.updChan_mends c _).trans (noted.failChan_mends c _)
  · exact s.updChan_mends c _

theorem State.listRepair_mends (s : State) (c : Chan) (d : DevRow) (mark : Bool) : Mends s (s.listRepair c d mark) := by
  unfold State.listRepair
  split <;> rfl

theorem State.markDevice_mends (s : State) (c : Chan) (d : DevRow) : Mends s (s.markDevice c d) := by
  unfold State.markDevice
  split
  · exact .refl s
  · split
    · split
      · exact s.reported_mends ..
      · exact s.failChan_mends c _
    · extract_lets marked bit listed told
      exact (((s.updChan_mends c _).trans (marked.setBit_mends ..)).trans (bit.listRepair_mends ..)).trans
        (((listed.event_mends ..).trans (State.count_mends ..)).trans (State.pannier_noted ..).mends)

theorem State.tally_mends (s : State) (c : Chan) (l : Nat) (d : DevRow) : Mends s (s.tally c l d) := by
  unfold State.tally
  extract_lets day tallied rows lines offered
  have hoffered : Mends s offered := by
    simp only [offered]
    split
    · exact (s.updChan_mends c _).trans (tallied.updChan_mends c _)
    · exact s.updChan_mends c _
  split
  · exact hoffered.trans (offered.markDevice_mends c d)
  · exact hoffered

theorem State.corrected_mends (s : State) (c : Chan) (l : Nat) (ds : List DevRow) : Mends s (s.corrected c l ds) := by
  unfold State.corrected
  split
  · exact .refl s
  · exact (s.count_mends ..).trans (Mends.foldl (fun s d => s.tally_mends c l d) ds _)

theorem State.rewrite_mends (s : State) (q : Option PosSlot) : Mends s (s.rewrite q) := by
  cases q with
  | none => exact .refl s
  | some q => exact (s.chanIssue_issued q _ 1).mends

/-! ## What the Trimmer does with a finding (R286 to R288) -/

/-- The state with another lost-line table. -/
def State.withLost (s : State) (ls : List Nat) : State := { s with trm := { s.trm with lost := ls } }

theorem Mends.withLost {s t : State} (h : Mends s t) (ls : List Nat) : Mends (s.withLost ls) (t.withLost ls) := by
  have hf := congrArg (fun x : State => x.withLost ls) h
  exact hf

/-- A line enters the lost-line table once, while the table has room. -/
theorem State.recordLost_mends (s : State) (sa : Nat) (c : Chan) :
    ∃ ls, Mends (s.withLost ls) (s.recordLost sa c) ∧ (s.trm.lost.length < 1024 → sa ∈ ls) := by
  unfold State.recordLost
  split
  · next hfull =>
    refine ⟨s.trm.lost, .refl s, fun hroom => ?_⟩
    simpa [Nat.not_le.2 hroom] using hfull
  · exact ⟨s.trm.lost ++ [sa], Mends.trans (t := ((s.withLost (s.trm.lost ++ [sa])).flag Reg.TRM_EVENTS.LOST).count 11 21) rfl (State.pannier_noted ..).mends,
      fun _ => List.mem_append_right _ (List.mem_singleton_self sa)⟩

/-- A line with errors: corrected, or recovered in guarded mode, the lost-line table stays; otherwise the line enters it. -/
theorem State.trimFound_errors (s : State) (a : Nat) (c : Chan) (b : BurstErrors) (rec : Bool) :
    ((s.outerCode c b).isSome = true ∨ (rec = true ∧ s.lean = false) → Mends s (s.trimFound a c (.errors b rec))) ∧
    (s.outerCode c b = none → rec = false ∨ s.lean = true →
      ∃ ls, Mends (s.withLost ls) (s.trimFound a c (.errors b rec)) ∧ (s.trm.lost.length < 1024 → a ∈ ls)) := by
  have hburst := s.noteBurst_mends c b.rank
  obtain ⟨-, -, -, hlean⟩ := hburst.kept
  obtain ⟨-, -, hlost⟩ := hburst.walk
  cases hcode : s.outerCode c b with
  | some ds =>
    refine ⟨fun _ => ?_, nofun⟩
    simp only [State.trimFound, hcode]
    exact (s.corrected_mends c _ ds).trans (State.rewrite_mends _ _)
  | none =>
    simp only [State.trimFound, hcode]
    generalize s.noteBurst c b.rank = u at hburst hlean hlost
    refine ⟨fun hgood => ?_, fun _ hbad => ?_⟩
    · obtain ⟨hrec, hguarded⟩ := hgood.resolve_left (by simp)
      rw [if_pos (by simp [hrec, hlean, hguarded])]
      refine hburst.trans (Mends.trans ?_ ((State.rewrite_mends _ _).trans (State.count_mends ..)))
      split
      · cases (u.saPlaces a).find? fun q => u.slotChan q.slot != some c with
        | none => exact .refl u
        | some q => exact (u.chanIssue_issued q _ 1).mends
      · exact .refl u
    · rw [if_neg (by rcases hbad with h | h <;> simp [h, hlean])]
      obtain ⟨ls, hls, hroom⟩ := u.recordLost_mends a c
      exact ⟨ls, (hburst.withLost ls).trans hls, hlost ▸ hroom⟩

/-- Every other finding leaves the lost-line table as it is. -/
theorem State.trimFound_other (s : State) (a : Nat) (c : Chan) {found : TrimFinding} (h : ∀ b rec, found ≠ .errors b rec) : Mends s (s.trimFound a c found) := by
  cases found with
  | good => exact .refl s
  | errors b rec => exact absurd rfl (h b rec)
  | poison => rfl
  | mirrorsDiffer primary =>
    simp only [State.trimFound]
    split
    · exact ((s.rewrite_mends _).trans (State.flag_mends ..)).trans (State.count_mends ..)
    · exact .refl s
  | parityWrong =>
    simp only [State.trimFound]
    split
    · exact .refl s
    · exact (((s.rewrite_mends _).trans (State.flag_mends ..)).trans (State.count_mends ..)).trans (State.pannier_noted ..).mends

/-- Whatever is found, the lost-line table alone takes it: a line that nothing recovers enters it while it has room, and otherwise it stays. -/
theorem State.trimFound_lost (s : State) (a : Nat) (c : Chan) (found : TrimFinding) :
    ∃ ls, Mends (s.withLost ls) (s.trimFound a c found) ∧
      (∀ b rec, found = .errors b rec → s.outerCode c b = none → (rec = false ∨ s.lean = true) → s.trm.lost.length < 1024 → a ∈ ls) ∧
      ((∀ b rec, found = .errors b rec → (s.outerCode c b).isSome = true ∨ (rec = true ∧ s.lean = false)) → ls = s.trm.lost) := by
  by_cases hf : ∃ b rec, found = .errors b rec
  · obtain ⟨b, rec, rfl⟩ := hf
    obtain ⟨hgood, hbad⟩ := s.trimFound_errors a c b rec
    by_cases hok : (s.outerCode c b).isSome = true ∨ (rec = true ∧ s.lean = false)
    · refine ⟨s.trm.lost, hgood hok, ?_, fun _ => rfl⟩
      rintro _ _ ⟨⟩ hnone hlost
      rcases hok with h | ⟨h1, h2⟩
      · simp [hnone] at h
      · simp [h1, h2] at hlost
    · obtain ⟨hnone, hlost⟩ := not_or.1 hok
      obtain ⟨ls, hls, hroom⟩ := hbad (by simpa using hnone) (by cases rec <;> simp_all)
      refine ⟨ls, hls, ?_, fun h => absurd (h b rec rfl) hok⟩
      rintro _ _ ⟨⟩ - -
      exact hroom
  · refine ⟨s.trm.lost, s.trimFound_other a c fun b rec h => hf ⟨b, rec, h⟩, fun b rec h => absurd ⟨b, rec, h⟩ hf, fun _ => rfl⟩

/-! ## TRM_EVENTS (R286, R289, R290) -/

section
variable {o : Nat} (ho : o ≠ 0x750000)
include ho

theorem State.panStart_word (s : State) : s.panStart.word o = s.word o := by
  unfold State.panStart
  split
  · rfl
  · split
    · rfl
    · extract_lets pin r flagged
      have hflagged : flagged.word o = s.word o := by
        simp only [flagged]
        split
        · exact State.word_setF_ne s _ 1 ho
        · rfl
      exact hflagged

theorem State.panPut_word (s : State) (r : PanRec) : (s.panPut r).word o = s.word o := State.panStart_word ho _

theorem State.dropReport_word (s : State) : s.dropReport.word o = s.word o := by
  unfold State.dropReport
  split
  · exact State.panPut_word ho _ _
  · rfl

theorem State.panDrop_word (s : State) (r : PanRec) : (s.panDrop r).word o = s.word o := by
  unfold State.panDrop
  rw [State.word_count]
  exact State.word_setF_ne _ _ 1 ho

theorem State.panEnter_word (s : State) (r : PanRec) : (s.panEnter r).word o = s.word o := by
  have hdropped : (s.panDrop r).dropReport.word o = s.word o := (State.dropReport_word ho _).trans (State.panDrop_word ho s r)
  unfold State.panEnter
  split
  · rfl
  · dsimp only
    split
    · split
      · exact State.panPut_word ho s r
      · exact hdropped
    · split
      · exact hdropped
      · exact State.panPut_word ho _ r

/-- A Pannier record writes no register but BBX_STATUS (R424, R426). -/
theorem State.pannier_word (s : State) (dom unit kind : Nat) (c : Cause) (sev addr addrKind reg : Nat) (cxl : Bool) :
    (s.pannier dom unit kind c sev addr addrKind reg cxl).word o = s.word o := by
  unfold State.pannier
  extract_lets detail
  rw [State.word_takeFree]
  exact State.panEnter_word ho s _

end

/-- A lap that runs past twice its target marks itself slow, and only records follow (R289). -/
theorem State.lapSlow_noted (s : State) : ∃ b, Noted { s with trm := { s.trm with slow := b } } s.lapSlow := by
  unfold State.lapSlow
  split
  · exact ⟨s.trm.slow, .refl s⟩
  · extract_lets walk slow told
    obtain ⟨hnoted, -⟩ := State.event_noted [slow.owner] .warning .lapSlow 0 false none (slow.flag Reg.TRM_EVENTS.LAP_SLOW)
    exact ⟨true, ((slow.flag_noted _).trans hnoted).trans (State.pannier_noted ..)⟩

theorem State.lapSlow_mends (s : State) : Mends s s.lapSlow := by
  obtain ⟨b, hb⟩ := s.lapSlow_noted
  exact Mends.trans (t := { s with trm := { s.trm with slow := b } }) rfl hb.mends

/-- Of the bits of TRM_EVENTS, LAP_SLOW alone may be set by it. -/
theorem State.lapSlow_fb (s : State) {x : Fld} (hoff : x.off = Reg.TRM_EVENTS.LAP_SLOW.off) (hlo : x.lo < 32) (hne : x.lo ≠ Reg.TRM_EVENTS.LAP_SLOW.lo) :
    s.lapSlow.fb x = s.fb x := by
  unfold State.lapSlow
  split
  · rfl
  · extract_lets walk slow told
    obtain ⟨-, hcsr, -⟩ := State.event_noted [slow.owner] .warning .lapSlow 0 false none (slow.flag Reg.TRM_EVENTS.LAP_SLOW)
    have hne : x.lo < Reg.TRM_EVENTS.LAP_SLOW.lo ∨ Reg.TRM_EVENTS.LAP_SLOW.hi < x.lo := by
      have : Reg.TRM_EVENTS.LAP_SLOW.hi = Reg.TRM_EVENTS.LAP_SLOW.lo := rfl
      omega
    calc (told.pannier ..).fb x = told.fb x := by rw [State.fb, State.fb, State.pannier_word (by rw [hoff]; decide)]
      _ = (slow.flag Reg.TRM_EVENTS.LAP_SLOW).fb x := State.fb_congr hcsr x
      _ = slow.fb x := State.fb_flag_ne _ _ _ (by decide) (by decide) hlo (.inr hne)

theorem State.trimFound_mirrorFix {s : State} {a : Nat} (c : Chan) (primary : Bool) (h : s.saMirrored a = true) :
    (s.trimFound a c (.mirrorsDiffer primary)).fb Reg.TRM_EVENTS.MIRROR_FIX = true := by
  simp only [State.trimFound, h, if_true, State.fb_count]
  exact State.fb_flag_self _ _ (by decide) (by decide)

theorem State.trimFound_parityFix {s : State} {a : Nat} (c : Chan) (hlean : s.lean = false) (h : s.saMirrored a = false) :
    (s.trimFound a c .parityWrong).fb Reg.TRM_EVENTS.PARITY_FIX = true := by
  simp only [State.trimFound, h, hlean, Bool.or_self, Bool.false_eq_true, if_false]
  rw [State.fb, State.pannier_word (by decide), ← State.fb, State.fb_count]
  exact State.fb_flag_self _ _ (by decide) (by decide)

/-! ## TRIMMER_READ (R282, R285) -/

/-- What the outer code corrects depends on the channel's marks. -/
theorem State.outerCode_congr {s t : State} {c : Chan} (h : (t.chan c).marks = (s.chan c).marks) (b : BurstErrors) : t.outerCode c b = s.outerCode c b := by
  simp only [State.outerCode, h]

theorem State.updChan_marks (s : State) (c d : Chan) {g : Channel → Channel} (hg : ∀ x, (g x).marks = x.marks) : ((s.updChan c g).chan d).marks = (s.chan d).marks := by
  rw [State.chan_updChan]
  split
  · next h => rw [hg, h]
  · rfl

theorem State.wakeRank_marks (s : State) (c d : Chan) (r : RankSet) : ((s.wakeRank c r).chan d).marks = (s.chan d).marks := by
  have hrank (g : Rank → Rank) : ((s.updRank c r g).chan d).marks = (s.chan d).marks := by
    unfold State.updRank
    split
    · rfl
    · exact s.updChan_marks c d fun _ => rfl
  unfold State.wakeRank
  dsimp only
  split
  · exact (State.updChan_marks _ c d fun _ => by rfl).trans (hrank _)
  · exact hrank _

theorem State.wakeRank_issued (s : State) (c : Chan) (r : RankSet) : IssuedOnly s (s.wakeRank c r) := by
  refine (s.updRank_issued c r fun x => { x with st := .active, retrainDue := false }).trans ?_
  unfold State.wakeRank
  dsimp only
  split <;> rfl

theorem State.chanIssue_marks (s : State) (q : PosSlot) (x : ChanCmd) (n : Nat) (d : Chan) : ((s.chanIssue q x n).chan d).marks = (s.chan d).marks := by
  have hcmd (t : State) (c : Chan) : (t.countCmd c x n).chan d = t.chan d := by
    unfold State.countCmd State.countIssue
    dsimp only
    split <;> split <;> rfl
  unfold State.chanIssue
  split
  · rfl
  · dsimp only
    split
    · rfl
    · rw [hcmd]
      cases x
      case engine => exact (congrArg Channel.marks (State.chan_count ..)).trans (s.updChan_marks _ d fun _ => by rfl)
      all_goals exact s.updChan_marks _ d fun _ => by rfl

/-- The state in which a line is read that is paid for: the walk stands at the line's position, with one line less to read. -/
def State.walkedTo (s : State) (a : Nat) : State := { s with trm := { s.trm with pos := (s.saPos a).pos, credit := s.trm.credit - 1 } }

/-- With no dictionary lost, no page is lost with one (R145). -/
theorem State.trimLostDict_none {s : State} (h : ∀ d ∈ s.cdc.dicts, d.2.lost = false) (a : Nat) : s.trimLostDict a = s := by
  have hany : s.cdc.dicts.any (fun d => d.2.lost) = false := List.any_eq_false.2 fun d hd => by simp [h d hd]
  simp only [State.trimLostDict, hany, Bool.not_false, Bool.or_true, if_true]

/-- TRIMMER_READ of a line that may be read and is paid for acts on its finding in a state `u` that the read of the line leaves. -/
theorem State.exec_trimmerRead {s : State} {sa : BitVec 44} {c : Chan} {a : Nat} (ha : a = sa.toNat / 64 * 64) (hready : s.fb Reg.XLT_STATUS.READY = true) (hcry : s.cry.st ≠ .error)
    (hwalks : s.trm.walks = []) (hmay : s.mayTrim a c = true) (hcredit : s.trm.credit ≠ 0) (hdicts : ∀ d ∈ s.cdc.dicts, d.2.lost = false) (found : TrimFinding) :
    ∃ u, Mends (s.walkedTo a) u ∧ (u.chan c).marks = (s.chan c).marks ∧ exec (.trimmerRead sa c found) s = .next (u.trimFound a c found).lapSlow := by
  have hresync : (s.chan c).resync = false := by
    simp only [State.mayTrim, Bool.and_eq_true, Bool.not_eq_true'] at hmay
    tauto
  generalize hpaid : ({ s with trm := { s.trm with credit := s.trm.credit - 1 } } : State) = p
  have hpay : s.trimPaid = some p := by simp only [State.trimPaid, if_neg hcredit, hpaid]
  generalize hwoken : (if (p.rank c (p.saRank a)).any (·.asleep) then p.wakeRank c (p.saRank a) else p) = w
  have hw : IssuedOnly p w ∧ (w.chan c).marks = (p.chan c).marks := by
    rw [← hwoken]
    split
    · exact ⟨p.wakeRank_issued c _, p.wakeRank_marks c c _⟩
    · exact ⟨.refl p, rfl⟩
  generalize hread : (((w.saOn a c).map fun q => w.chanIssue q (.engine q.pos false)).getD w) = r
  have hr : IssuedOnly w r ∧ (r.chan c).marks = (w.chan c).marks := by
    rw [← hread]
    cases w.saOn a c with
    | none => exact ⟨.refl w, rfl⟩
    | some q => exact ⟨w.chanIssue_issued q _ 1, w.chanIssue_marks q _ 1 c⟩
  have hissued : Mends p r := (hw.1.trans hr.1).mends
  generalize hmoved : ({ r with trm := { r.trm with pos := (r.saPos a).pos } } : State) = v
  have hv : Mends (s.walkedTo a) v := by
    have hpos : (r.saPos a).pos = (s.saPos a).pos := by
      have h := congrArg (fun x : State => (x.saPos a).pos) hissued
      exact h.trans (by rw [← hpaid]; rfl)
    rw [← hmoved, hpos]
    have h := congrArg (fun x : State => { x with trm := { x.trm with pos := (s.saPos a).pos } }) hissued
    rw [← hpaid] at h
    exact h
  have hu : Mends (s.walkedTo a) (v.setF Reg.TRM_STATUS.PROGRESS (min 999 v.lapProgress)) := hv.trans rfl
  refine ⟨v.setF Reg.TRM_STATUS.PROGRESS (min 999 v.lapProgress), hu, ?_, ?_⟩
  · have hm : (r.chan c).marks = (s.chan c).marks := (hr.2.trans hw.2).trans (by rw [← hpaid]; rfl)
    rw [← hm, ← hmoved]
    rfl
  · have hbusy : (!s.fb Reg.XLT_STATUS.READY || s.cry.st == .error) = false := by simpa [hready] using hcry
    have hexec : exec (.trimmerRead sa c found) s =
        .next (((v.setF Reg.TRM_STATUS.PROGRESS (min 999 v.lapProgress)).trimFound a c found).trimLostDict a).lapSlow := by
      simp only [exec, execTrimmerRead, hbusy, hwalks, hresync, ← ha, hmay, hpay, hwoken, hread, hmoved, List.isEmpty_nil, Bool.not_true, Bool.false_eq_true, if_false]
    obtain ⟨ls, hls, -⟩ := (v.setF Reg.TRM_STATUS.PROGRESS (min 999 v.lapProgress)).trimFound_lost a c found
    obtain ⟨-, -, hcdc, -⟩ := hls.kept
    obtain ⟨-, -, hcdc', -⟩ := hu.kept
    rw [hexec, State.trimLostDict_none]
    rw [hcdc]
    exact hcdc' ▸ hdicts

/-- The clause of TRIMMER_READ. -/
theorem State.trimmerRead_gives (s : State) (sa : BitVec 44) (c : Chan) (found : TrimFinding) {a : Nat} (ha : a = sa.toNat / 64 * 64) (hready : s.fb Reg.XLT_STATUS.READY = true)
    (hcry : s.cry.st ≠ .error) (hwalks : s.trm.walks = []) (hmay : s.mayTrim a c = true) (hcredit : s.trm.credit ≠ 0) (hdicts : ∀ d ∈ s.cdc.dicts, d.2.lost = false) :
    Gives (.trimmerRead sa c found) s fun t =>
      t.trm.pos = (s.saPos a).pos ∧ t.trm.credit = s.trm.credit - 1 ∧ DataKept s t ∧ t.cap = s.cap ∧
      (∀ b rec, found = .errors b rec → s.outerCode c b = none → (rec = false ∨ s.lean = true) → s.trm.lost.length < 1024 → a ∈ t.trm.lost) ∧
      ((∀ b rec, found = .errors b rec → (s.outerCode c b).isSome = true ∨ (rec = true ∧ s.lean = false)) → t.trm.lost = s.trm.lost) ∧
      (∀ b, found = .mirrorsDiffer b → s.saMirrored a = true → t.fb Reg.TRM_EVENTS.MIRROR_FIX = true) ∧
      (found = .parityWrong → s.lean = false → s.saMirrored a = false → t.fb Reg.TRM_EVENTS.PARITY_FIX = true) := by
  obtain ⟨u, hu, hmarks, hexec⟩ := State.exec_trimmerRead ha hready hcry hwalks hmay hcredit hdicts found
  obtain ⟨ls, hfound, henters, hstays⟩ := u.trimFound_lost a c found
  have hslow := (u.trimFound a c found).lapSlow_mends
  have hlean : u.lean = s.lean := hu.kept.2.2.2
  have hmirrored : u.saMirrored a = s.saMirrored a := hu.saMirrored a
  have hwalk := hu.walk
  have hend : Mends ((s.walkedTo a).withLost ls) (u.trimFound a c found).lapSlow := ((hu.withLost ls).trans hfound).trans hslow
  obtain ⟨hdata, hcap, -, -⟩ := hend.kept
  obtain ⟨hpos, hpaid, hlost⟩ := hend.walk
  have hlost0 : u.trm.lost = s.trm.lost := hwalk.2.2
  simp only [State.outerCode_congr hmarks, hlean, hlost0] at henters hstays
  refine ⟨_, hexec, hpos, hpaid, hdata, hcap, ?_, ?_, ?_, ?_⟩
  · intro b rec hf hnone hbad hroom
    rw [hlost]
    exact henters b rec hf hnone hbad hroom
  · intro h
    rw [hlost]
    exact hstays h
  · rintro b rfl hm
    rw [State.lapSlow_fb (x := Reg.TRM_EVENTS.MIRROR_FIX) _ rfl (by decide) (by decide)]
    exact State.trimFound_mirrorFix c b (hmirrored.trans hm)
  · rintro rfl hguarded hm
    rw [State.lapSlow_fb (x := Reg.TRM_EVENTS.PARITY_FIX) _ rfl (by decide) (by decide)]
    exact State.trimFound_parityFix c (hlean.trans hguarded) (hmirrored.trans hm)

/-! ## TRIMMER_LAP_END (R289) -/

/-- Hours from `start` to `now`, as LAST_LAP_H holds them. -/
def lapHours (start now : Nat) : Nat := min 0xFFFF ((now - start) / 3600000000000)

theorem lapHours_lt (start now : Nat) : lapHours start now < 2 ^ 16 := Nat.lt_of_le_of_lt (Nat.min_le_left ..) (by decide)

/-- A lap of `n` hours ends: its duration is recorded, and the next one begins. -/
def State.nextLap (s : State) (n : Nat) : State :=
  { (s.setF Reg.TRM_STATUS.LAST_LAP_H n).setF Reg.TRM_STATUS.PROGRESS 0 with
    trm := { s.trm with pos := 0, credit := 0, lapStart := s.now, slow := false, poisonSeen := 0 } }

theorem State.nextLap_fields (s : State) {n : Nat} (hn : n < 2 ^ 16) : (s.nextLap n).f Reg.TRM_STATUS.PROGRESS = 0 ∧ (s.nextLap n).f Reg.TRM_STATUS.LAST_LAP_H = n := by
  refine ⟨State.f_setF_self _ Reg.TRM_STATUS.PROGRESS 0 (by decide) (by decide), ?_⟩
  calc (s.nextLap n).f Reg.TRM_STATUS.LAST_LAP_H
      = (s.setF Reg.TRM_STATUS.LAST_LAP_H n).f Reg.TRM_STATUS.LAST_LAP_H :=
        State.f_setF_ne _ Reg.TRM_STATUS.PROGRESS _ 0 (by decide) (by decide) (by decide) (by decide) (.inr (.inr (by decide)))
    _ = n % 2 ^ 16 := State.f_setF_self s Reg.TRM_STATUS.LAST_LAP_H n (by decide) (by decide)
    _ = n := Nat.mod_eq_of_lt hn

/-- TRIMMER_LAP_END with the walk past every position in use. -/
theorem State.exec_trimmerLapEnd {s : State} (hready : s.fb Reg.XLT_STATUS.READY = true) (hon : s.fb Reg.TRM_CFG.TRM_EN = true) (hpast : ∀ q ∈ s.positionsInUse, q ≤ s.trm.pos) :
    exec .trimmerLapEnd s = .next (s.lapSlow.nextLap (lapHours s.lapSlow.trm.lapStart s.lapSlow.now)) := by
  have hmore : s.positionsInUse.any (fun q => decide (s.trm.pos < q)) = false :=
    List.any_eq_false.2 fun q hq => by simpa using hpast q hq
  simp only [exec, execTrimmerLapEnd, hready, hon, hmore, Bool.not_true, Bool.or_self, Bool.false_eq_true, if_false, State.nextLap, lapHours, State.setF_trm, State.setF_now]

/-- The clause of TRIMMER_LAP_END. -/
theorem State.trimmerLapEnd_gives (s : State) (hready : s.fb Reg.XLT_STATUS.READY = true) (hon : s.fb Reg.TRM_CFG.TRM_EN = true) (hpast : ∀ q ∈ s.positionsInUse, q ≤ s.trm.pos) :
    Gives .trimmerLapEnd s fun t =>
      t.trm = { s.trm with pos := 0, credit := 0, lapStart := s.now, slow := false, poisonSeen := 0 } ∧ t.f Reg.TRM_STATUS.PROGRESS = 0 ∧
      t.f Reg.TRM_STATUS.LAST_LAP_H = lapHours s.trm.lapStart s.now ∧ Noted { s with trm := t.trm } t := by
  obtain ⟨b, hslow⟩ := s.lapSlow_noted
  have hexec := State.exec_trimmerLapEnd hready hon hpast
  generalize s.lapSlow = v at hslow hexec
  obtain ⟨htrm, hnow⟩ : v.trm = { s.trm with slow := b } ∧ v.now = s.now := by
    have hp := congrArg (fun x : State => (x.trm, x.now)) hslow.1
    simpa only [Prod.mk.injEq] using hp
  have hstart : v.trm.lapStart = s.trm.lapStart := by rw [htrm]
  rw [hstart, hnow] at hexec
  obtain ⟨hprogress, hlap⟩ := v.nextLap_fields (lapHours_lt s.trm.lapStart s.now)
  generalize lapHours s.trm.lapStart s.now = n at *
  refine ⟨_, hexec, ?_, hprogress, hlap, ?_⟩
  · simp only [State.nextLap, htrm, hnow]
  · obtain ⟨hframe, hports⟩ := hslow
    refine ⟨?_, hports⟩
    have h := congrArg (fun x : State => { x with trm := (v.nextLap n).trm }) hframe
    exact h

end Sys2Proof.Machine
end

section
/-! PROOFS. Heat events and heat epochs: the HEAT of cached records, candidates, thresholds and park sets (R94, R148 to R157, R169). -/

namespace Sys2Proof.Machine

/-! ## Candidates (R151, R153) -/

/-- `t` is `s` with candidates offered: the candidate queues, registers and counters alone may differ. -/
def Offers (s t : State) : Prop := { t with drl := { t.drl with cands := s.drl.cands }, csr := s.csr, pmu := s.pmu } = s

theorem Offers.refl (s : State) : Offers s s := rfl

theorem Offers.trans {s t u : State} (h1 : Offers s t) (h2 : Offers t u) : Offers s u := by
  have h := congrArg (fun x : State => { x with drl := { x.drl with cands := s.drl.cands }, csr := s.csr, pmu := s.pmu }) h2
  exact Eq.trans h h1

theorem Offers.foldl {α : Type} {f : State → α → State} (hf : ∀ s a, Offers s (f s a)) (as : List α) (s : State) : Offers s (as.foldl f s) := by
  induction as generalizing s with
  | nil => exact .refl s
  | cons a as ih => exact (hf s a).trans (ih _)

theorem Offers.xlt_eq {s t : State} (h : Offers s t) : t.xlt = s.xlt := by
  have hx := congrArg State.xlt h
  exact hx

theorem Offers.epoch_eq {s t : State} (h : Offers s t) : t.drl.epoch = s.drl.epoch := by
  have hx := congrArg (fun x : State => x.drl.epoch) h
  exact hx

theorem State.countXlt_offers (s : State) (e k n : Nat) : Offers s (s.countXlt e k n) := rfl

theorem State.offerCand_offers (s : State) (w : Work) (x : Nat) : Offers s (s.offerCand w x) := by
  unfold State.offerCand
  split
  · exact .refl s
  · split <;> rfl

/-- A candidate that is offered where a condition holds. -/
theorem State.offerCand_ite_offers (s : State) (b : Bool) (w : Work) (x : Nat) : Offers s (if b then s.offerCand w x else s) := by
  cases b
  · exact .refl s
  · exact s.offerCand_offers w x

/-! ## HEAT of records (R94, R149) -/

/-- `t` is `s` with HEAT counted: translation, the Derailleur, registers and counters alone may differ, and of an extent record its HEAT alone. -/
structure Heats (s t : State) : Prop where
  frame : { t with xlt := s.xlt, drl := s.drl, csr := s.csr, pmu := s.pmu } = s
  ext : ∀ e, { t.extRec e with heat := (s.extRec e).heat } = s.extRec e

theorem Heats.refl (s : State) : Heats s s := ⟨rfl, fun _ => rfl⟩

theorem Heats.trans {s t u : State} (h1 : Heats s t) (h2 : Heats t u) : Heats s u := by
  refine ⟨?_, fun e => ?_⟩
  · have h := congrArg (fun x : State => { x with xlt := s.xlt, drl := s.drl, csr := s.csr, pmu := s.pmu }) h2.frame
    exact Eq.trans h h1.frame
  · have h := congrArg (fun x : ExtRec => { x with heat := (s.extRec e).heat }) (h2.ext e)
    exact Eq.trans h (h1.ext e)

theorem Heats.foldl {α : Type} {f : State → α → State} (hf : ∀ s a, Heats s (f s a)) (as : List α) (s : State) : Heats s (as.foldl f s) := by
  induction as generalizing s with
  | nil => exact .refl s
  | cons a as ih => exact (hf s a).trans (ih _)

theorem State.extRec_congr {s t : State} (h : t.xlt.ext = s.xlt.ext) (e : Nat) : t.extRec e = s.extRec e := by rw [State.extRec, State.extRec, h]

theorem State.pageRec_congr {s t : State} (h : t.xlt.page = s.xlt.page) (p : Nat) : t.pageRec p = s.pageRec p := by rw [State.pageRec, State.pageRec, h]

theorem State.extRec_setExt (s : State) (e k : Nat) (r : ExtRec) : (s.setExt e r).extRec k = if k = e then r else s.extRec k := Tbl.get_set ExtRec.zero s.xlt.ext e k r

theorem State.pageRec_setPage (s : State) (p k : Nat) (r : PageRec) : (s.setPage p r).pageRec k = if k = p then r else s.pageRec k := Tbl.get_set PageRec.zero s.xlt.page p k r

theorem Offers.heats {s t : State} (h : Offers s t) : Heats s t := by
  refine ⟨?_, fun e => ?_⟩
  · have hf := congrArg (fun x : State => { x with xlt := s.xlt, drl := s.drl }) h
    exact hf
  · rw [State.extRec_congr (congrArg Xlt.ext h.xlt_eq)]

/-- A change of the HEAT of an extent record. -/
theorem State.setExt_heats (s : State) (e n : Nat) : Heats s (s.setExt e { s.extRec e with heat := n }) := by
  refine ⟨rfl, fun k => ?_⟩
  rw [State.extRec_setExt]
  split
  · next h => rw [h]
  · rfl

theorem State.setPage_heats (s : State) (p : Nat) (r : PageRec) : Heats s (s.setPage p r) := ⟨rfl, fun _ => rfl⟩

/-! ## HEAT_EVENT (R148, R149) -/

/-- A cached page's record after a heat event. -/
def State.warmPage (s : State) (p : Nat) : State := s.setPage p { s.pageRec p with heat := heatUp (s.pageRec p).heat }

theorem State.heatPage_offers (s : State) (p : Nat) : Offers (if s.pageCached p then s.warmPage p else s) (s.heatPage p) := by
  unfold State.heatPage
  cases s.pageCached p with
  | false => exact s.countXlt_offers _ _ _
  | true => exact ((State.offerCand_ite_offers ..).trans (State.offerCand_ite_offers ..)).trans (State.offerCand_ite_offers ..)

/-- The page part of a heat event: the HEAT of a cached record rises, and no other record changes. -/
theorem State.heatPage_heats (s : State) (p : Nat) :
    Heats s (s.heatPage p) ∧ (∀ k, k ≠ p → (s.heatPage p).pageRec k = s.pageRec k) ∧
      (s.pageCached p = true → (s.heatPage p).pageRec p = { s.pageRec p with heat := heatUp (s.pageRec p).heat }) := by
  have hoffers := s.heatPage_offers p
  have hrec (k : Nat) := State.pageRec_congr (congrArg Xlt.page hoffers.xlt_eq) k
  cases hc : s.pageCached p with
  | false =>
    rw [hc] at hoffers hrec
    exact ⟨hoffers.heats, fun k _ => hrec k, nofun⟩
  | true =>
    rw [hc] at hoffers hrec
    have hwarm (k : Nat) := s.pageRec_setPage p k { s.pageRec p with heat := heatUp (s.pageRec p).heat }
    exact ⟨(s.setPage_heats p _).trans hoffers.heats, fun k hk => (hrec k).trans ((hwarm k).trans (if_neg hk)), fun _ => (hrec p).trans ((hwarm p).trans (if_pos rfl))⟩

/-- The extent part of a heat event leaves the page records as they are. -/
theorem State.heatExt_heats (s : State) (e : Nat) : Heats s (s.heatExt e) ∧ (s.heatExt e).xlt.page = s.xlt.page := by
  unfold State.heatExt
  split
  · exact ⟨(s.countXlt_offers _ _ _).heats, rfl⟩
  · next c hc =>
    generalize hv : ({ s with xlt := { s.xlt with extCache := s.xlt.extCache.put e { c with prescaler := c.prescaler + 1 } } } : State) = v
    have hs : Heats s v := by rw [← hv]; exact ⟨rfl, fun _ => rfl⟩
    have hp : v.xlt.page = s.xlt.page := by rw [← hv]
    have hoffered (b : Bool) : Offers (v.setExt e { v.extRec e with heat := heatUp (v.extRec e).heat })
        (if b then (v.setExt e { v.extRec e with heat := heatUp (v.extRec e).heat }).offerCand .toDirect e else v.setExt e { v.extRec e with heat := heatUp (v.extRec e).heat }) :=
      State.offerCand_ite_offers ..
    dsimp only
    split
    · exact ⟨hs.trans ((v.setExt_heats e _).trans (hoffered _).heats), (congrArg Xlt.page (hoffered _).xlt_eq).trans hp⟩
    · exact ⟨hs, hp⟩

/-- The clause of HEAT_EVENT. -/
theorem State.heatEvent_gives {s : State} {l : Nat} {q : List Nat} (hq : s.nc.heatQ = l :: q) :
    Gives .heatEvent s fun t => t.nc = { s.nc with heatQ := q } ∧ { t with nc := s.nc, xlt := s.xlt, drl := s.drl, csr := s.csr, pmu := s.pmu } = s ∧
      ((s.extRec (extOf l)).mode = .mapped → s.pageCached (pageKey l) = true → t.pageRec (pageKey l) = { s.pageRec (pageKey l) with heat := min 255 ((s.pageRec (pageKey l)).heat + 1) }) ∧
      (∀ p, p ≠ pageKey l → t.pageRec p = s.pageRec p) ∧ ∀ e, { t.extRec e with heat := (s.extRec e).heat } = s.extRec e := by
  generalize hv : ({ s with nc := { s.nc with heatQ := q } } : State).countXlt (extOf l) 6 = v
  generalize hw : (if (v.extView (extOf l)).1 == .mapped then v.heatPage (pageKey l) else v) = w
  generalize ht : (if (v.extRec (extOf l)).mode == .untouched || (v.extRec (extOf l)).mode == .poisoned then w else w.heatExt (extOf l)) = t
  have hexec : exec .heatEvent s = .next t := by simp only [exec, execHeatEvent, hq, hv, hw, ht]
  have hvnc : v.nc = { s.nc with heatQ := q } := by rw [← hv]; rfl
  have hvs : { v with nc := s.nc, pmu := s.pmu } = s := by rw [← hv]; rfl
  have hvx : v.xlt = s.xlt := by rw [← hv]; rfl
  have hve (e : Nat) : v.extRec e = s.extRec e := State.extRec_congr (by rw [hvx]) e
  have hvp (p : Nat) : v.pageRec p = s.pageRec p := State.pageRec_congr (by rw [hvx]) p
  obtain ⟨hheats, hothers, hwarm⟩ := v.heatPage_heats (pageKey l)
  have hvw : Heats v w ∧ (∀ p, p ≠ pageKey l → w.pageRec p = v.pageRec p) := by
    rw [← hw]
    split
    · exact ⟨hheats, hothers⟩
    · exact ⟨.refl v, fun _ _ => rfl⟩
  have hwt : Heats w t ∧ t.xlt.page = w.xlt.page := by
    rw [← ht]
    split
    · exact ⟨.refl w, rfl⟩
    · exact w.heatExt_heats _
  have htp := State.pageRec_congr hwt.2
  have hvt := hvw.1.trans hwt.1
  refine ⟨t, hexec, ?_, ?_, fun hmode hcached => ?_, fun p hp => ?_, fun e => ?_⟩
  · have h := congrArg State.nc hvt.frame
    exact Eq.trans h hvnc
  · have h := congrArg (fun x : State => { x with nc := s.nc, xlt := s.xlt, drl := s.drl, csr := s.csr, pmu := s.pmu }) hvt.frame
    have h' := congrArg (fun x : State => { x with xlt := s.xlt, drl := s.drl, csr := s.csr }) hvs
    exact Eq.trans h h'
  · have hview : (v.extView (extOf l)).1 = .mapped := by simp [State.extView, hve, hmode]
    rw [if_pos (by simp [hview])] at hw
    rw [htp, ← hw, hwarm (by rw [State.pageCached, hvx]; exact hcached), hvp, heatUp]
  · rw [htp, hvw.2 p hp, hvp]
  · rw [← hve e]
    exact hvt.ext e

/-! ## HEAT_EPOCH (R94, R154, R169) -/

/-- The HEAT of an extent record is halved. -/
def State.coolExt (s : State) (e : Nat) : State := s.setExt e { s.extRec e with heat := (s.extRec e).heat / 2 }

theorem State.coolExt_heats (s : State) (e : Nat) : Heats s (s.coolExt e) := s.setExt_heats e _

/-- Extents that each stand once in a list are each halved once, and no other is. -/
theorem State.extRec_coolExts {es : List Nat} (hn : es.Nodup) (s : State) (k : Nat) :
    (es.foldl State.coolExt s).extRec k = if k ∈ es then { s.extRec k with heat := (s.extRec k).heat / 2 } else s.extRec k := by
  induction es generalizing s with
  | nil => rfl
  | cons e es ih =>
    obtain ⟨he, hes⟩ := List.nodup_cons.1 hn
    rw [List.foldl_cons, ih hes, State.coolExt, State.extRec_setExt]
    by_cases hk : k = e
    · subst hk
      simp [he]
    · simp [hk]

/-- The HEAT of the four page records of a sector is halved. -/
def State.coolSector (s : State) (sec : Nat) : State :=
  (List.range 4).foldl (fun (s : State) i => s.setPage (4 * sec + i) { s.pageRec (4 * sec + i) with heat := (s.pageRec (4 * sec + i)).heat / 2 }) s

/-- HEAT of page records is counted, no extent record is changed, and the Derailleur's own state stays. -/
structure PagesCooled (s t : State) : Prop where
  heats : Heats s t
  ext : t.xlt.ext = s.xlt.ext
  drl : t.drl = s.drl

theorem PagesCooled.foldl {α : Type} {f : State → α → State} (hf : ∀ s a, PagesCooled s (f s a)) (as : List α) (s : State) : PagesCooled s (as.foldl f s) := by
  induction as generalizing s with
  | nil => exact ⟨.refl s, rfl, rfl⟩
  | cons a as ih => exact ⟨(hf s a).heats.trans (ih _).heats, (ih _).ext.trans (hf s a).ext, (ih _).drl.trans (hf s a).drl⟩

theorem State.coolSector_cooled (s : State) (sec : Nat) : PagesCooled s (s.coolSector sec) :=
  PagesCooled.foldl (fun s _ => ⟨s.setPage_heats _ _, rfl, rfl⟩) _ s

/-- What an epoch does after the HEAT of cached records is halved: the epoch advances, thresholds and park sets are set anew, and what waited for the epoch is offered again. -/
def State.turnEpoch (s : State) : State :=
  let s := { s with drl := { s.drl with epoch := s.drl.epoch + 1 } }
  let d := adjust s.dirUp s.dirDown s.cap.slots.length s.dirSlots (clamp 10 100 (s.f Reg.DRL_TARGET.DIR_TGT))
  let o := adjust s.openUp s.drl.openDown s.openUsed s.openBudget (clamp 10 100 (s.f Reg.DRL_TARGET.OPEN_TGT))
  let s := ((s.setF Reg.DRL_THR_EXT.DIR_UP d.1).setF Reg.DRL_THR_EXT.DIR_DOWN d.2).setF Reg.DRL_THR_PAGE.OPEN_UP o.1
  let again := s.drl.waiting
  let s := { s with drl := { s.drl with openDown := o.2, waiting := [] } }
  again.foldl (fun (s : State) e => s.offerCand .toDirect e) s.applyOffsets.planPark

/-- HEAT_EPOCH: extents cool, then page records, and the epoch turns. -/
theorem State.exec_heatEpoch (s : State) :
    exec .heatEpoch s = .next (((((s.xlt.extCache.map (·.1)).foldl State.coolExt s).xlt.prCache.filter fun c => decide (c.1 < 2 ^ 48)).foldl (fun (s : State) c => s.coolSector c.1)
      ((s.xlt.extCache.map (·.1)).foldl State.coolExt s)).turnEpoch) := by
  rw [List.foldl_map]
  rfl

/-- `t` is `s` with the Derailleur's own state, registers and counters changed. -/
def Retunes (s t : State) : Prop := { t with drl := s.drl, csr := s.csr, pmu := s.pmu } = s

theorem Retunes.trans {s t u : State} (h1 : Retunes s t) (h2 : Retunes t u) : Retunes s u := by
  have h := congrArg (fun x : State => { x with drl := s.drl, csr := s.csr, pmu := s.pmu }) h2
  exact Eq.trans h h1

theorem Retunes.xlt_eq {s t : State} (h : Retunes s t) : t.xlt = s.xlt := by
  have hx := congrArg State.xlt h
  exact hx

theorem Retunes.heats {s t : State} (h : Retunes s t) : Heats s t := by
  refine ⟨?_, fun e => ?_⟩
  · have hf := congrArg (fun x : State => { x with xlt := s.xlt }) h
    exact hf
  · rw [State.extRec_congr (congrArg Xlt.ext h.xlt_eq)]

theorem Offers.retunes {s t : State} (h : Offers s t) : Retunes s t := by
  have hf := congrArg (fun x : State => { x with drl := s.drl }) h
  exact hf

theorem State.applyOffsets_retunes (s : State) : Retunes s s.applyOffsets ∧ s.applyOffsets.drl = s.drl := ⟨rfl, rfl⟩

theorem State.planPark_retunes (s : State) : Retunes s s.planPark ∧ s.planPark.drl.epoch = s.drl.epoch := by
  unfold State.planPark
  extract_lets n most cands picked bits told released
  exact ⟨rfl, rfl⟩

theorem State.turnEpoch_retunes (s : State) : Retunes s s.turnEpoch ∧ s.turnEpoch.drl.epoch = s.drl.epoch + 1 := by
  unfold State.turnEpoch
  extract_lets advanced turned d o told again reset ready
  clear_value d o
  obtain ⟨hoffsets, hdrl⟩ := ready.applyOffsets_retunes
  obtain ⟨hpark, hepoch⟩ := ready.applyOffsets.planPark_retunes
  have hready : Retunes s ready ∧ ready.drl.epoch = s.drl.epoch + 1 := ⟨rfl, rfl⟩
  have hoffered := Offers.foldl (fun s e => s.offerCand_offers .toDirect e) again ready.applyOffsets.planPark
  refine ⟨((hready.1.trans hoffsets).trans hpark).trans hoffered.retunes, ?_⟩
  rw [hoffered.epoch_eq, hepoch, hdrl, hready.2]

/-- The clause of HEAT_EPOCH. -/
theorem State.heatEpoch_gives (s : State) :
    Gives .heatEpoch s fun t => t.drl.epoch = s.drl.epoch + 1 ∧ { t with xlt := s.xlt, drl := s.drl, csr := s.csr, pmu := s.pmu } = s ∧
      ((s.xlt.extCache.map (·.1)).Nodup → ∀ x ∈ s.xlt.extCache, t.extRec x.1 = { s.extRec x.1 with heat := (s.extRec x.1).heat / 2 }) ∧
      ∀ e, { t.extRec e with heat := (s.extRec e).heat } = s.extRec e := by
  refine ⟨_, s.exec_heatEpoch, ?_⟩
  have hexts := Heats.foldl State.coolExt_heats (s.xlt.extCache.map (·.1)) s
  have hdrl : ((s.xlt.extCache.map (·.1)).foldl State.coolExt s).drl = s.drl := List.foldlRecOn (motive := fun x : State => x.drl = s.drl) _ _ rfl fun _ h _ _ => h
  have hhalved (hn : (s.xlt.extCache.map (·.1)).Nodup) := State.extRec_coolExts hn s
  generalize (s.xlt.extCache.map (·.1)).foldl State.coolExt s = u at *
  have hpages := PagesCooled.foldl (fun (s : State) (c : Nat × (Fin 16 × List Nat)) => s.coolSector_cooled c.1) (u.xlt.prCache.filter fun c => decide (c.1 < 2 ^ 48)) u
  generalize (u.xlt.prCache.filter fun c => decide (c.1 < 2 ^ 48)).foldl (fun (s : State) c => s.coolSector c.1) u = v at *
  obtain ⟨hturn, hepoch⟩ := v.turnEpoch_retunes
  generalize v.turnEpoch = t at *
  have hall := (hexts.trans hpages.heats).trans hturn.heats
  refine ⟨by rw [hepoch, hpages.drl, hdrl], hall.frame, fun hn x hx => ?_, hall.ext⟩
  rw [State.extRec_congr ((congrArg Xlt.ext hturn.xlt_eq).trans hpages.ext), hhalved hn, if_pos (List.mem_map_of_mem hx)]

end Sys2Proof.Machine
end

section
/-! PROOFS. The cold sweep: visits of records, and the end of a lap, which frees the runs that no record names (R151, R152, R167, R287). -/

namespace Sys2Proof.Machine

/-! ## COLD_SWEEP_VISIT (R151, R377) -/

/-- Paying for a visit changes only Cadence's items and the counters. -/
theorem State.sweepPaid_frame {s u : State} (h : s.sweepPaid = some u) : { u with cad := s.cad, pmu := s.pmu } = s := by
  have hitem (k : Nat) (hk : s.takeItem k = some u) : { u with cad := s.cad, pmu := s.pmu } = s := by
    unfold State.takeItem at hk
    dsimp only at hk
    split at hk
    · exact absurd hk nofun
    · rw [← Option.some.inj hk]
      rfl
  unfold State.sweepPaid at h
  extract_lets first at h
  split at h
  · rw [← Option.some.inj h]
  · exact hitem 4 h

theorem State.sweepPaid_drl {s u : State} (h : s.sweepPaid = some u) : u.drl = s.drl := by
  have hd := congrArg State.drl (State.sweepPaid_frame h)
  exact hd

section
variable {s u : State} (hmore : s.drl.sweepExt < s.extents) (hcry : s.cry.st ≠ .error) (hpaid : s.sweepPaid = some u)
include hmore hcry hpaid

/-- A visit to an extent's own record: the sweep goes on to its pages where it has page records, and else to the next extent. -/
theorem State.exec_coldSweepVisit_ext (hpage : s.drl.sweepPage = none) :
    exec .coldSweepVisit s = .next (if ((u.visitExt s.drl.sweepExt).extView s.drl.sweepExt).1 = .mapped then
        { u.visitExt s.drl.sweepExt with drl := { (u.visitExt s.drl.sweepExt).drl with sweepPage := some 0 } }
      else { u.visitExt s.drl.sweepExt with drl := { (u.visitExt s.drl.sweepExt).drl with sweepExt := s.drl.sweepExt + 1 } }) := by
  have hdrl := State.sweepPaid_drl hpaid
  have hbusy : (decide (s.extents ≤ s.drl.sweepExt) || s.cry.st == .error) = false := by simpa using ⟨hmore, hcry⟩
  simp only [exec, execColdSweepVisit, hbusy, hpaid, hdrl, hpage, Bool.false_eq_true, if_false, beq_iff_eq]
  split <;> rfl

/-- A visit to a page of an extent that has no page records moves on by one record. -/
theorem State.exec_coldSweepVisit_page {i : Nat} (hpage : s.drl.sweepPage = some i) (hview : (s.extView s.drl.sweepExt).1 ≠ .mapped) :
    exec .coldSweepVisit s = .next (if i = 511 then { u with drl := { u.drl with sweepExt := s.drl.sweepExt + 1, sweepPage := none } }
      else { u with drl := { u.drl with sweepPage := some (i + 1) } }) := by
  have hdrl := State.sweepPaid_drl hpaid
  have hviewU : (u.extView s.drl.sweepExt).1 ≠ .mapped := by
    have h := congrArg (fun x : State => (x.extView s.drl.sweepExt).1) (State.sweepPaid_frame hpaid)
    exact fun hm => hview (Eq.trans (Eq.symm h) hm)
  have hbusy : (decide (s.extents ≤ s.drl.sweepExt) || s.cry.st == .error) = false := by simpa using ⟨hmore, hcry⟩
  simp only [exec, execColdSweepVisit, hbusy, hpaid, hdrl, hpage, hviewU, Bool.false_eq_true, if_false, beq_iff_eq]
  split <;> rfl

end

/-- A visit to the record of an UNTOUCHED extent notes the epoch. -/
theorem State.visitExt_untouched {s : State} {e : Nat} (h : (s.extRec e).mode = .untouched) :
    s.visitExt e = { s with xlt := { s.xlt with visitExt := s.xlt.visitExt.set 0 e s.drl.epoch } } := by
  have hrec (x : Tbl Nat) : ({ s with xlt := { s.xlt with visitExt := x } } : State).extRec e = s.extRec e := rfl
  simp only [State.visitExt, h, BEq.rfl, Bool.or_true, if_true, hrec]

/-- What a visit to the record of a MAPPED extent leaves: its MODE, all that is stored, the near cache, RTK and the sweep's place. -/
structure Visited (s : State) (e : Nat) (t : State) : Prop where
  mode : (t.extRec e).mode = (s.extRec e).mode
  frame : { t with xlt := s.xlt, cap := s.cap, drl := { t.drl with cands := s.drl.cands }, csr := s.csr, pmu := s.pmu } = s

theorem Visited.trans {s t u : State} {e : Nat} (h1 : Visited s e t) (h2 : Visited t e u) : Visited s e u := by
  refine ⟨h2.mode.trans h1.mode, ?_⟩
  have h := congrArg (fun x : State => { x with xlt := s.xlt, cap := s.cap, drl := { x.drl with cands := s.drl.cands }, csr := s.csr, pmu := s.pmu }) h2.frame
  exact Eq.trans h h1.frame

theorem Offers.visited {s t : State} (h : Offers s t) (e : Nat) : Visited s e t := by
  refine ⟨congrArg ExtRec.mode (State.extRec_congr (congrArg Xlt.ext h.xlt_eq) e), ?_⟩
  have hf := congrArg (fun x : State => { x with xlt := s.xlt, cap := s.cap }) h
  exact hf

theorem State.see_visited (s : State) (n e : Nat) : Visited s e (s.see n) := by
  unfold State.see
  split <;> exact ⟨rfl, rfl⟩

theorem State.visitExt_mapped {s : State} {e : Nat} (h : (s.extRec e).mode = .mapped) : Visited s e (s.visitExt e) := by
  unfold State.visitExt
  extract_lets cached r aged marks noted r' lost seen
  have haged : Visited s e aged := by
    simp only [aged]
    split
    · exact ⟨rfl, rfl⟩
    · refine ⟨?_, rfl⟩
      rw [State.extRec_setExt, if_pos rfl]
  have hnoted : Visited s e noted := haged.trans ⟨rfl, rfl⟩
  have hmode : r'.mode = .mapped := hnoted.mode.trans h
  rw [hmode]
  dsimp only
  exact hnoted.trans ((noted.see_visited _ e).trans ((State.offerCand_ite_offers seen _ .toDirect e).visited e))

/-- The clause of COLD_SWEEP_VISIT. -/
theorem State.coldSweepVisit_gives {s u : State} (hmore : s.drl.sweepExt < s.extents) (hcry : s.cry.st ≠ .error) (hpaid : s.sweepPaid = some u) :
    ((s.extView s.drl.sweepExt).1 ≠ .mapped → ∀ i, s.drl.sweepPage = some i → i ≠ 511 → exec .coldSweepVisit s = .next { u with drl := { u.drl with sweepPage := some (i + 1) } }) ∧
      ((s.extView s.drl.sweepExt).1 ≠ .mapped → s.drl.sweepPage = some 511 → exec .coldSweepVisit s = .next { u with drl := { u.drl with sweepExt := s.drl.sweepExt + 1, sweepPage := none } }) ∧
      ((s.extRec s.drl.sweepExt).mode = .untouched → s.drl.sweepPage = none → Gives .coldSweepVisit s fun t => t.drl = { u.drl with sweepExt := s.drl.sweepExt + 1 } ∧
        t.xlt.visitExt.get 0 s.drl.sweepExt = s.drl.epoch ∧ { t with drl := u.drl, xlt := { t.xlt with visitExt := u.xlt.visitExt } } = u) ∧
      ((s.extRec s.drl.sweepExt).mode = .mapped → s.drl.sweepPage = none → Gives .coldSweepVisit s fun t => t.drl.sweepPage = some 0 ∧ t.drl.sweepExt = s.drl.sweepExt ∧
        t.mem = s.mem ∧ t.bad = s.bad ∧ t.nc = s.nc ∧ t.rtk = s.rtk) := by
  have hframe := State.sweepPaid_frame hpaid
  obtain ⟨hmem, hbad, hnc, hrtk, hdrl, hxlt⟩ : u.mem = s.mem ∧ u.bad = s.bad ∧ u.nc = s.nc ∧ u.rtk = s.rtk ∧ u.drl = s.drl ∧ u.xlt = s.xlt := by
    have hp := congrArg (fun x : State => (x.mem, x.bad, x.nc, x.rtk, x.drl, x.xlt)) hframe
    simpa only [Prod.mk.injEq] using hp
  have hrec (e : Nat) : u.extRec e = s.extRec e := State.extRec_congr (congrArg Xlt.ext hxlt) e
  refine ⟨fun hview i hi hlast => ?_, fun hview hi => ?_, fun hmode hnone => ?_, fun hmode hnone => ?_⟩
  · rw [State.exec_coldSweepVisit_page hmore hcry hpaid hi hview, if_neg hlast]
  · rw [State.exec_coldSweepVisit_page hmore hcry hpaid hi hview, if_pos rfl]
  · have hexec := State.exec_coldSweepVisit_ext hmore hcry hpaid hnone
    rw [← hrec] at hmode
    have hview : (((u.visitExt s.drl.sweepExt)).extView s.drl.sweepExt).1 ≠ .mapped := by
      rw [State.visitExt_untouched hmode]
      have hm : ({ u with xlt := { u.xlt with visitExt := u.xlt.visitExt.set 0 s.drl.sweepExt u.drl.epoch } } : State).extRec s.drl.sweepExt = u.extRec s.drl.sweepExt := rfl
      simp [State.extView, hm, hmode]
    rw [if_neg hview, State.visitExt_untouched hmode] at hexec
    exact ⟨_, hexec, rfl, by rw [Tbl.get_set_self, hdrl], rfl⟩
  · have hexec := State.exec_coldSweepVisit_ext hmore hcry hpaid hnone
    rw [← hrec] at hmode
    have hvisit := State.visitExt_mapped hmode
    have hview : (((u.visitExt s.drl.sweepExt)).extView s.drl.sweepExt).1 = .mapped := by
      simp [State.extView, hvisit.mode, hmode]
    rw [if_pos hview] at hexec
    have hkept := congrArg (fun x : State => (x.drl.sweepExt, x.mem, x.bad, x.nc, x.rtk)) hvisit.frame
    simp only [Prod.mk.injEq] at hkept
    obtain ⟨kext, kmem, kbad, knc, krtk⟩ := hkept
    exact ⟨_, hexec, rfl, kext.trans (by rw [hdrl]), kmem.trans hmem, kbad.trans hbad, knc.trans hnc, krtk.trans hrtk⟩

/-! ## SWEEP_LAP_END (R152, R167) -/

/-- `t` is `s` with runs freed, all of them at frames of `ns`: what a host can read stays, and so does the clock. -/
structure Freed (ns : List Nat) (s t : State) : Prop where
  data : DataKept s t
  now : t.now = s.now
  run : ∀ n, n ∉ ns → t.cap.runs.look n = s.cap.runs.look n

theorem DataKept.trans {s t u : State} (h1 : DataKept s t) (h2 : DataKept t u) : DataKept s u := by
  obtain ⟨m1, b1, n1, d1, r1, x1⟩ := h1
  obtain ⟨m2, b2, n2, d2, r2, x2⟩ := h2
  exact ⟨m2.trans m1, b2.trans b1, n2.trans n1, d2.trans d1, r2.trans r1, x2.trans x1⟩

theorem Freed.refl (ns : List Nat) (s : State) : Freed ns s s := ⟨⟨rfl, rfl, rfl, rfl, rfl, rfl⟩, rfl, fun _ _ => rfl⟩

theorem Freed.trans {ms ns : List Nat} {s t u : State} (h1 : Freed ms s t) (h2 : Freed ns t u) : Freed (ms ++ ns) s u := by
  refine ⟨h1.data.trans h2.data, h2.now.trans h1.now, fun n hn => ?_⟩
  obtain ⟨hms, hns⟩ := not_or.1 (mt List.mem_append.2 hn)
  exact (h2.run n hns).trans (h1.run n hms)

/-- Freeing a run takes no other run away (R167). -/
theorem State.freeRun_freed (s : State) (k : Nat) : Freed [k] s (s.freeRun k) := by
  unfold State.freeRun
  split
  · exact .refl [k] s
  · refine ⟨⟨rfl, rfl, rfl, rfl, rfl, rfl⟩, rfl, fun n hn => ?_⟩
    simp only [State.reclaim, Tbl.look_del, if_neg (List.ne_of_not_mem_cons hn)]

/-- The runs that no record named in the lap, but for the destinations of copies. -/
def State.unseenRuns (s : State) : List (Nat × Run) :=
  s.cap.runs.filter fun r => !r.2.seen && !(s.drl.copies.map (·.dst) ++ s.drl.extCopies.flatMap fun c => c.dst * 16 :: c.recs.map (·.2.loc)).contains r.1

/-- A run seen in the lap, or that a copy is to fill, is not among them. -/
theorem State.not_mem_unseenRuns {s : State} {n : Nat} {r : Run}
    (hkeep : r.seen = true ∨ n ∈ s.drl.copies.map (·.dst) ∨ ∃ c ∈ s.drl.extCopies, n = c.dst * 16 ∨ ∃ q ∈ c.recs, n = q.2.loc)
    (huniq : ∀ x ∈ s.cap.runs, x.1 = n → x.2 = r) : n ∉ s.unseenRuns.map (·.1) := by
  intro hn
  obtain ⟨x, hx, rfl⟩ := List.mem_map.1 hn
  obtain ⟨hmem, hgone⟩ := List.mem_filter.1 hx
  simp only [Bool.and_eq_true, Bool.not_eq_true', List.contains_eq_mem, decide_eq_false_iff_not, List.mem_append, List.mem_flatMap, List.mem_cons, List.mem_map, not_or] at hgone
  obtain ⟨hseen, hcopy, hext⟩ := hgone
  rcases hkeep with h | h | ⟨c, hc, hdst⟩
  · rw [huniq x hmem rfl, h] at hseen
    exact absurd hseen nofun
  · exact hcopy (List.mem_map.1 h)
  · refine hext ⟨c, hc, hdst.imp id ?_⟩
    rintro ⟨q, hq, h⟩
    exact ⟨q, hq, h.symm⟩

/-- Free runs and count their frames. -/
def State.freeRuns (s : State) (rs : List (Nat × Run)) : State := rs.foldl (fun (s : State) r => (s.freeRun r.1).count 8 14 r.2.len) s

theorem State.freeRuns_freed (rs : List (Nat × Run)) (s : State) : Freed (rs.map (·.1)) s (s.freeRuns rs) := by
  induction rs generalizing s with
  | nil => exact .refl [] s
  | cons r rs ih =>
    have hcounted : Freed ([r.1] ++ []) s ((s.freeRun r.1).count 8 14 r.2.len) := (s.freeRun_freed r.1).trans ⟨⟨rfl, rfl, rfl, rfl, rfl, rfl⟩, rfl, fun _ _ => rfl⟩
    exact hcounted.trans (ih _)

theorem Tbl.look_mapVals {α : Type} (f : Nat → α → α) (t : Tbl α) (k : Nat) : (t.mapVals f).look k = (t.look k).map (f k) := by
  induction t with
  | nil => rfl
  | cons p t ih =>
    rw [Tbl.mapVals, List.map_cons, Tbl.look, Tbl.look]
    split
    · next h => rw [h]; rfl
    · exact ih

/-- A lap of `n` seconds ends: its duration is recorded, and the next one begins with nothing seen. -/
def State.nextSweep (s : State) (n : Nat) : State :=
  { s.setF Reg.DRL_SWEEP.LAST_LAP n with
    cap := { s.cap with runs := s.cap.runs.mapVals fun _ r => { r with seen := false } }
    drl := { s.drl with sweepExt := 0, sweepPage := none, lapStart := s.now, leave := [] } }

theorem State.look_runs_nextSweep (s : State) (n k : Nat) : (s.nextSweep n).cap.runs.look k = (s.cap.runs.look k).map fun r => { r with seen := false } :=
  Tbl.look_mapVals (fun _ (r : Run) => { r with seen := false }) s.cap.runs k

/-- SWEEP_LAP_END past the last extent. -/
theorem State.exec_sweepLapEnd {s : State} (h : s.extents ≤ s.drl.sweepExt) :
    exec .sweepLapEnd s = .next ((s.freeRuns s.unseenRuns).nextSweep
      (min (((s.freeRuns s.unseenRuns).now - (s.freeRuns s.unseenRuns).drl.lapStart) / 1000000000) 0xFFFF)) := by
  simp only [exec, execSweepLapEnd, if_neg (Nat.not_lt.2 h)]
  rfl

/-- The clause of SWEEP_LAP_END. -/
theorem State.sweepLapEnd_gives {s : State} (h : s.extents ≤ s.drl.sweepExt) :
    Gives .sweepLapEnd s fun t => t.drl.sweepExt = 0 ∧ t.drl.sweepPage = none ∧ t.drl.lapStart = s.now ∧ DataKept s t ∧
      (∀ x ∈ t.cap.runs, x.2.seen = false) ∧
      ∀ n r, s.cap.runs.look n = some r → (r.seen = true ∨ n ∈ s.drl.copies.map (·.dst) ∨ (∃ c ∈ s.drl.extCopies, n = c.dst * 16 ∨ ∃ q ∈ c.recs, n = q.2.loc)) → (∀ x ∈ s.cap.runs, x.1 = n → x.2 = r) →
        t.cap.runs.look n = some { r with seen := false } := by
  have hexec := State.exec_sweepLapEnd h
  have hfreed := State.freeRuns_freed s.unseenRuns s
  generalize s.freeRuns s.unseenRuns = v at *
  refine ⟨_, hexec, rfl, rfl, hfreed.now, hfreed.data, fun x hx => ?_, fun n r hr hkeep huniq => ?_⟩
  · obtain ⟨y, -, rfl⟩ := List.mem_map.1 hx
    rfl
  · have hrun : v.cap.runs.look n = some r := (hfreed.run n (State.not_mem_unseenRuns hkeep huniq)).trans hr
    rw [State.look_runs_nextSweep, hrun, Option.map_some]

/-- Settles O54: the frame of each operation of the Trimmer, of heat and of the sweep, put together command by command. -/
theorem trimmerAndSweep : Obligations.TrimmerAndSweep := by
  unfold Obligations.TrimmerAndSweep
  intro s
  exact ⟨fun sa c found => s.trimmerRead_gives sa c found rfl, s.trimmerLapEnd_gives, fun _ _ => State.heatEvent_gives, s.heatEpoch_gives,
    fun _ => State.coldSweepVisit_gives, State.sweepLapEnd_gives⟩

end Sys2Proof.Machine
end

section
/-! PROOFS. SET_POLICY: the capacity contract of a head, and register entries written under the lock (R10, R109, R347). -/

namespace Sys2Proof.Machine

/-! ## Commands that start (R337) -/

theorem Starts.cmdOf {s : State} {id op : Nat} {c : Cmd} (h : Starts s id op c) : s.cmdOf id = some c := by
  obtain ⟨hc, -, -⟩ := h
  exact hc

theorem Starts.opcode {s : State} {id op : Nat} {c : Cmd} (h : Starts s id op c) : dOp c.desc = op := by
  obtain ⟨-, -, hop⟩ := h
  exact hop

theorem Starts.startOp {s : State} {id op : Nat} {c : Cmd} (h : Starts s id op c) {ok : Cmd → Bool} (hok : ok c = true) (g : State → Cmd → State) :
    s.startOp id ok g = g s c := by
  obtain ⟨hc, hmay, -⟩ := h
  simp [State.startOp, hc, hmay, hok]

/-- A command that may start has not ended. -/
theorem Starts.not_ended {s : State} {id op : Nat} {c : Cmd} (h : Starts s id op c) : c.phase ≠ .ended := by
  obtain ⟨-, hmay, -⟩ := h
  intro hp
  simp [State.mayStart, hp] at hmay

/-- A state whose commands in progress are those of `s` ends the command as `s` does. -/
theorem Starts.ended {s t : State} {id op : Nat} {c : Cmd} (h : Starts s id op c) (ht : t.cmd = s.cmd) (status : BitVec 8) (result : Nat) :
    CmdEnded s (t.endCmd id status result) id status result := by
  have hc : t.cmdOf id = some c := by
    rw [State.cmdOf, ht]
    exact h.cmdOf
  obtain ⟨hend, hothers⟩ := t.endCmd_ended id status result c hc h.not_ended
  refine ⟨hend, hothers.trans ?_⟩
  rw [ht]

/-! ## The capacity contract (R109, R113) -/

/-- What the lapse of an offer leaves of its port. -/
theorem State.lapseOffer_port (s : State) (h g : Head) : (s.lapseOffer h).port g = if g = h then { s.port h with offer := none } else s.port g := by
  unfold State.lapseOffer
  split
  · rw [State.port_count]
    exact State.port_updPort s h g _
  · rename_i hnone
    split
    · rename_i hg
      subst hg
      have : (s.port g).offer = none := by simpa using hnone
      rw [← this]
    · rfl

theorem State.lapseOffer_frame (s : State) (h : Head) : { s.lapseOffer h with ports := s.ports, pmu := s.pmu } = s := by
  unfold State.lapseOffer
  split
  · exact congrArg (fun x : State => { x with ports := s.ports }) (State.count_frame (s.updPort h fun p => { p with offer := none }) 6 5 1 none)
  · rfl

/-- The contract of a head: its elastic maximum is `v`, and it accepts unless that is zero. -/
def State.contracted (s : State) (h : Head) (v : Nat) : State :=
  let t := s.updPort h fun p => { p with elasticMax := v, accepted := v != 0 }
  if v = 0 then t.lapseOffer h else t

theorem State.contracted_frame (s : State) (h : Head) (v : Nat) : { s.contracted h v with ports := s.ports, pmu := s.pmu } = s := by
  unfold State.contracted
  dsimp only
  split
  · exact congrArg (fun x : State => { x with ports := s.ports }) (State.lapseOffer_frame (s.updPort h fun p => { p with elasticMax := v, accepted := v != 0 }) h)
  · rfl

theorem State.contracted_port (s : State) (h : Head) (v : Nat) :
    ((s.contracted h v).port h).elasticMax = v ∧ ((s.contracted h v).port h).accepted = decide (v ≠ 0) ∧ ∀ g, g ≠ h → (s.contracted h v).port g = s.port g := by
  have hacc : (v != 0) = decide (v ≠ 0) := by by_cases hv : v = 0 <;> simp [hv]
  unfold State.contracted
  dsimp only
  split
  · refine ⟨by simp [State.lapseOffer_port], by simp [State.lapseOffer_port, hacc], fun g hg => ?_⟩
    rw [State.lapseOffer_port, if_neg hg, State.port_updPort_ne _ _ hg]
  · refine ⟨by simp, by simp [hacc], fun g hg => State.port_updPort_ne _ _ hg⟩

theorem exec_setPolicyCapacityContract {s : State} {id : Nat} {c : Cmd} (h : Starts s id 0x0F c) (hkind : dArg0 c.desc % 256 = 1) :
    exec (.setPolicyCapacityContract id) s = .next ((s.contracted c.head (dArg1 c.desc % 65536)).endCmd id 0 0) := by
  have hok : (isOp 0x0F c && dArg0 c.desc % 256 == 1) = true := by simp [isOp, h.opcode, hkind]
  refine congrArg Host.Outcome.next (?_ : State.startOp .. = _)
  rw [h.startOp hok]
  simp only [State.cmdOf_id h.cmdOf]
  rfl

/-! ## Register entries (R10, R347, R372) -/

/-- Domains that become stale change the domains alone. -/
theorem State.staleDomains_frame (s : State) (ds : List Nat) : { s.staleDomains ds with doms := s.doms } = s := by
  unfold State.staleDomains
  induction ds generalizing s with
  | nil => rfl
  | cons d ds ih =>
    refine (congrArg (fun x : State => { x with doms := s.doms }) (ih _)).trans ?_
    dsimp only
    split <;> rfl

/-- The word that a sole entry for DRL_CFG leaves: its writable bits as masked, the rest as it was. -/
def State.policyWord (s : State) (m v : Word) : Word :=
  s.word 0x240000 &&& ~~~drlCfg.rwl ||| (s.word 0x240000 &&& ~~~m ||| v &&& m) &&& drlCfg.rwl

/-- No rule but that of the access codes holds for DRL_CFG, so its entry is applied with the lock as if it were open. -/
theorem State.policyWrite_drlCfg (s : State) (m v : Word) : s.policyWrite (0x240000, m, v) = (s.setWord 0x240000 (s.policyWord m v), false) := by
  have hput (x : Word) : s.putReg 0x240000 x false = (s.putCodes 0x240000 drlCfg x false, false) := by
    simp [State.putReg, State.staleDomains, copyDomains, regAt_drlCfg, drlCfg]
  have hw1c : ((regAt 0x240000).map (·.w1c)).getD 0 = 0#32 := by rw [regAt_drlCfg]; rfl
  simp only [State.policyWrite, hput, hw1c, State.putCodes_rwl_open s _ _ (r := drlCfg) rfl rfl rfl, BitVec.not_zero, BitVec.and_allOnes, State.policyWord]

theorem State.policyWord_low (s : State) (m v : Word) : s.policyWord m v &&& 0xF = (s.word 0x240000 &&& ~~~m ||| v &&& m) &&& 0xF := by
  have hrwl : drlCfg.rwl = 0xF#32 := rfl
  rw [State.policyWord, hrwl]
  ext i hi
  simp only [BitVec.getElem_and, BitVec.getElem_or, BitVec.getElem_not]
  cases (15#32)[i] <;> simp

theorem Starts.policy2 {s : State} {id : Nat} {c : Cmd} (h : Starts s id 0x0F c) (hkind : dArg0 c.desc % 256 = 2) : dPolicy2 c.desc = true := by
  simp [dPolicy2, h.opcode, hkind]

theorem exec_setPolicyRegister_bad {s : State} {id : Nat} {c : Cmd} (h : Starts s id 0x0F c) (hkind : dArg0 c.desc % 256 = 2)
    (hbad : ∃ x ∈ policyEntries c.desc, x.2.1 ≠ 0 ∧ policyOffset x.1 = false) : exec (.setPolicyRegister id) s = .next (s.endCmd id 2 0) := by
  have hany : (policyEntries c.desc).any (fun x => x.2.1 != 0 && !policyOffset x.1) = true := by
    obtain ⟨x, hx, hm, ho⟩ := hbad
    exact List.any_eq_true.2 ⟨x, hx, by rw [bne_iff_ne.2 hm, ho]; rfl⟩
  refine congrArg Host.Outcome.next (?_ : State.startOp .. = _)
  rw [h.startOp (h.policy2 hkind)]
  simp only [hany, if_true, State.cmdOf_id h.cmdOf]

theorem policyOffset_drlCfg : policyOffset 0x240000 = true := by
  simp [policyOffset, regAt_drlCfg, prtReg, drlCfg]

theorem exec_setPolicyRegister_drlCfg {s : State} {id : Nat} {c : Cmd} (h : Starts s id 0x0F c) (hkind : dArg0 c.desc % 256 = 2) {m v : Word} {o1 o2 : Nat} {v1 v2 : Word}
    (hent : policyEntries c.desc = [(0x240000, m, v), (o1, 0, v1), (o2, 0, v2)]) (hm : m ≠ 0) :
    exec (.setPolicyRegister id) s = .next (((s.setWord 0x240000 (s.policyWord m v)).staleDomains (List.range 58)).endCmd id 0 0) := by
  refine congrArg Host.Outcome.next (?_ : State.startOp .. = _)
  rw [h.startOp (h.policy2 hkind)]
  have hm0 : m ≠ 0#32 := hm
  simp [hent, policyOffset_drlCfg, hm0, State.policyWrite_drlCfg, State.cmdOf_id h.cmdOf]

/-- Settles O26: each kind by what its command leaves beside the end of the command. -/
theorem policyCommands : Obligations.PolicyCommands := by
  intro s id c hs
  refine ⟨fun hkind => ?_, fun hkind hbad => ?_, fun m v o1 o2 v1 v2 hkind hent hm => ?_⟩
  · have hframe := s.contracted_frame c.head (dArg1 c.desc % 65536)
    have hcmd := congrArg State.cmd hframe
    obtain ⟨hmax, hacc, hothers⟩ := s.contracted_port c.head (dArg1 c.desc % 65536)
    refine ⟨_, exec_setPolicyCapacityContract hs hkind, hs.ended hcmd 0 0, hmax, hacc, hothers, ?_⟩
    exact (congrArg (fun x : State => { x with ports := s.ports, pmu := s.pmu, cmd := { x.cmd with cmds := s.cmd.cmds } })
      (State.endCmd_only (s.contracted c.head (dArg1 c.desc % 65536)) id 0 0)).trans (congrArg (fun x : State => { x with cmd := { x.cmd with cmds := s.cmd.cmds } }) hframe)
  · exact ⟨_, exec_setPolicyRegister_bad hs hkind hbad, hs.ended rfl 2 0, State.endCmd_only ..⟩
  · refine ⟨_, exec_setPolicyRegister_drlCfg hs hkind hent hm, ?_⟩
    have hframe := (s.setWord 0x240000 (s.policyWord m v)).staleDomains_frame (List.range 58)
    generalize (s.setWord 0x240000 (s.policyWord m v)).staleDomains (List.range 58) = t at hframe
    have hcmd := congrArg State.cmd hframe
    have hcsr := congrArg State.csr hframe
    have hword (o : Nat) : (t.endCmd id 0 0).word o = (s.setWord 0x240000 (s.policyWord m v)).word o := State.word_congr hcsr o
    refine ⟨hs.ended hcmd 0 0, ?_, fun off hoff => ?_, ?_⟩
    · rw [hword, State.word_setWord_self, State.policyWord_low]
    · rw [hword, State.word_setWord_ne s _ hoff]
    · exact congrArg (fun x : State => { x with csr := s.csr, doms := s.doms, cmd := { x.cmd with cmds := s.cmd.cmds } }) hframe

end Sys2Proof.Machine
end

section
/-! PROOFS. The flit of the credit-return timer, its pacing, and the timeout of a port that is starved of S2M credits (R119, R213, R214, R217, R390). -/

namespace Sys2Proof.Machine

/-! ## What is due, and what pacing allows (R119, R213, R390) -/

section
variable (s : State) (p : Head)

/-- Req credits due, as far as a flit's field holds them. -/
def State.reqDue : Nat := min ((s.port p).freedReq - (s.port p).sentReq).toNat fieldMax

/-- RwD credits due, as far as a flit's field holds them; none while the pool withholds them. -/
def State.rwdDue : Nat := if s.rwdHeld p then 0 else min ((s.port p).freedRwd - (s.port p).sentRwd).toNat fieldMax

/-- Req credits that the timer's flit carries. -/
def State.reqPaid : Nat := min (s.reqDue p) (s.paceRoom p)

/-- RwD credits that the timer's flit carries. -/
def State.rwdPaid : Nat := min (s.rwdDue p) (s.paceRoom p - s.reqPaid p)

/-- A flit's increments are within what pacing leaves of the microsecond. -/
theorem State.paid_le_paceRoom : s.reqPaid p + s.rwdPaid p ≤ s.paceRoom p := by
  unfold State.rwdPaid State.reqPaid
  omega

theorem State.reqPaid_le_fieldMax : s.reqPaid p ≤ fieldMax := (min_le_left ..).trans (min_le_right ..)

theorem State.rwdPaid_le_fieldMax : s.rwdPaid p ≤ fieldMax := by
  refine (min_le_left ..).trans ?_
  unfold State.rwdDue
  split
  · exact Nat.zero_le _
  · exact min_le_right ..

/-- At PACE 100 what is due is paid. -/
theorem State.paid_of_unpaced (hpace : 100 ≤ s.f Reg.CAD_PACE.PACE) (hlt : s.reqDue p + s.rwdDue p < 2 ^ 32) : s.reqPaid p = s.reqDue p ∧ s.rwdPaid p = s.rwdDue p := by
  have hroom : s.paceRoom p = 2 ^ 32 := if_pos hpace
  unfold State.rwdPaid State.reqPaid
  omega

theorem State.paceRoom_paced (hpace : s.f Reg.CAD_PACE.PACE < 100) :
    s.paceRoom p = (s.port p).linesPerUs * s.f Reg.CAD_PACE.PACE / 100 - (if (s.port p).paceUs = s.now / 1000 then (s.port p).paceUsed else 0) :=
  if_neg (Nat.not_le.2 hpace)

end

/-! ## The flit (R213, R214) -/

/-- A port that notes `n` increments in the present microsecond (R390). -/
def Port.paceNoted (q : Port) (us n : Nat) : Port := { q with paceUs := us, paceUsed := (if q.paceUs = us then q.paceUsed else 0) + n }

/-- The state after the timer's flit. -/
def State.creditsPaid (s : State) (p : Head) (req rwd : Nat) : State := (s.updPort p fun q => q.paceNoted (s.now / 1000) (req + rwd)).sendCredits p req rwd

theorem fieldParts_eq {k n : Nat} (hk : n ≤ k) (h : n ≤ fieldMax) : fieldParts k n = if n = 0 then [] else [n] := by
  cases k with
  | zero => simp [Nat.le_zero.1 hk, fieldParts]
  | succ k =>
    cases n with
    | zero => rfl
    | succ n =>
      have hnil : fieldParts k 0 = [] := by cases k <;> rfl
      rw [if_neg (Nat.succ_ne_zero n), fieldParts, min_eq_left h, Nat.sub_self, hnil]
      exact Nat.succ_ne_zero n

/-- Increments that one flit's fields hold go in one flit. -/
theorem flitParts_one {req rwd : Nat} (hreq : req ≤ fieldMax) (hrwd : rwd ≤ fieldMax) (hpos : 0 < req + rwd) : flitParts req rwd = [(req, rwd)] := by
  rw [flitParts, fieldParts_eq le_rfl hreq, fieldParts_eq le_rfl hrwd]
  by_cases h1 : req = 0
  · have h2 : rwd ≠ 0 := by omega
    simp [h1, h2]
  · by_cases h2 : rwd = 0 <;> simp [h1, h2]

section
variable (s : State) (p : Head) (req rwd : Nat)

theorem State.creditsPaid_frame : { s.creditsPaid p req rwd with ports := s.ports, out := s.out, pmu := s.pmu } = s :=
  congrArg (fun x : State => { x with ports := s.ports }) (State.sendCredits_frame (s.updPort p fun q => q.paceNoted (s.now / 1000) (req + rwd)) p req rwd)

theorem State.creditsPaid_port_self : (s.creditsPaid p req rwd).port p = ((s.port p).paceNoted (s.now / 1000) (req + rwd)).creditsSent req rwd := by
  rw [State.creditsPaid, State.sendCredits_port, if_pos rfl, State.port_updPort_self]

theorem State.creditsPaid_port_ne {h : Head} (hh : h ≠ p) : (s.creditsPaid p req rwd).port h = s.port h := by
  rw [State.creditsPaid, State.sendCredits_port, if_neg hh, State.port_updPort_ne _ _ hh]

variable {req rwd}

theorem State.creditsPaid_out (hreq : req ≤ fieldMax) (hrwd : rwd ≤ fieldMax) (hpos : 0 < req + rwd) :
    (s.creditsPaid p req rwd).out = s.out ++ [.flit p (s.port p).txSeq req rwd] := by
  rw [State.creditsPaid, State.sendCredits_out, flitParts_one hreq hrwd hpos, State.port_updPort_self]
  rfl

end

theorem exec_creditReturnTimer {s : State} {p : Head} (hact : (s.port p).active = true) (hl0 : (s.port p).ltssm = .l0) (hroom : (s.port p).txRoom = true) :
    exec (.creditReturnTimer p) s = .next (if s.reqPaid p + s.rwdPaid p = 0 then s else s.creditsPaid p (s.reqPaid p) (s.rwdPaid p)) := by
  have hrwd : (if s.rwdHeld p then 0 else min (min ((s.port p).freedRwd - (s.port p).sentRwd).toNat fieldMax) (s.paceRoom p - s.reqPaid p)) = s.rwdPaid p := by
    unfold State.rwdPaid State.rwdDue
    split
    · exact (Nat.zero_min _).symm
    · rfl
  have hexec : exec (.creditReturnTimer p) s = execCreditReturnTimer p s := rfl
  rw [hexec, execCreditReturnTimer]
  simp only [hact, hl0, hroom, Bool.not_true, bne_self_eq_false, Bool.or_self, Bool.false_eq_true, if_false]
  have hreq : min (min ((s.port p).freedReq - (s.port p).sentReq).toNat fieldMax) (s.paceRoom p) = s.reqPaid p := rfl
  rw [hreq, hrwd]
  split
  · rfl
  · simp only [Nat.add_assoc]
    rfl

/-! ## A port starved of S2M credits (R217) -/

theorem exec_s2mCreditWithholdTimeout {s : State} {p : Head} (hs : s.starved p = true) :
    exec (.s2mCreditWithholdTimeout p) s = .next (s.event (withOwner s [p]) .informational .creditsWithheld p.val) :=
  congrArg Host.Outcome.next (if_pos hs)

theorem length_withOwner_pos (s : State) (hs : List Head) : 0 < (withOwner s hs).length := Nat.succ_pos _

/-- Settles O42: the timer sends one flit of what is due as far as pacing allows, and the timeout leaves an event record alone. -/
theorem creditReturn : Obligations.CreditReturn := by
  intro s p
  refine ⟨fun hact hl0 hroom => ?_, fun hs => ?_⟩
  · have hexec := exec_creditReturnTimer hact hl0 hroom
    refine ⟨fun hpace hlt hpos => ?_, fun hpace => ?_⟩
    · change s.reqDue p + s.rwdDue p < 2 ^ 32 at hlt
      change 0 < s.reqDue p + s.rwdDue p at hpos
      obtain ⟨hreq, hrwd⟩ := s.paid_of_unpaced p hpace hlt
      have hport := s.creditsPaid_port_self p (s.reqPaid p) (s.rwdPaid p)
      have hout := s.creditsPaid_out p (s.reqPaid_le_fieldMax p) (s.rwdPaid_le_fieldMax p) (by omega)
      rw [if_neg (by omega), hreq, hrwd] at hexec
      rw [hreq, hrwd] at hport hout
      refine ⟨_, hexec, hout, ?_, ?_, ?_, ?_, fun h hh => s.creditsPaid_port_ne p _ _ hh, s.creditsPaid_frame p _ _⟩ <;> rw [hport] <;> rfl
    · refine ⟨_, hexec, ?_⟩
      rw [← s.paceRoom_paced p hpace]
      split
      · exact ⟨Nat.le_add_right .., fun h hh => rfl, rfl⟩
      · refine ⟨?_, fun h hh => s.creditsPaid_port_ne p _ _ hh, s.creditsPaid_frame p _ _⟩
        have hpaid := s.paid_le_paceRoom p
        have hreq : ((s.creditsPaid p (s.reqPaid p) (s.rwdPaid p)).port p).reqHost = (s.port p).reqHost + s.reqPaid p := by rw [State.creditsPaid_port_self]; rfl
        have hrwd : ((s.creditsPaid p (s.reqPaid p) (s.rwdPaid p)).port p).rwdHost = (s.port p).rwdHost + s.rwdPaid p := by rw [State.creditsPaid_port_self]; rfl
        omega
  · refine ⟨_, exec_s2mCreditWithholdTimeout hs, ?_⟩
    obtain ⟨hnoted, hcsr, -, -, hprefix, hlen⟩ := State.event_noted (withOwner s [p]) .informational .creditsWithheld p.val false none s
    have hmem := congrArg State.mem hnoted.1
    exact ⟨by have := length_withOwner_pos s [p]; omega, hprefix, hnoted.rtk_eq, hmem, hcsr⟩

end Sys2Proof.Machine
end

section
/-! PROOFS. Single bits of register fields after a bit has been set, and steps taken in turn for the members of a list (R9). -/

namespace Sys2Proof.Machine

theorem State.fbit_setBit_self (s : State) (x : Fld) {i : Nat} (b : Bool) (h : x.lo + i < 32) : (s.setBit x i b).fbit x i = b := by
  unfold State.fbit State.setBit
  rw [State.word_setF, if_pos rfl, getLsbD_putField _ _ _ _ _ h le_rfl h, if_pos ⟨le_rfl, le_rfl⟩, Nat.sub_self]
  cases b <;> rfl

theorem State.word_setBit_ne (s : State) (x : Fld) (i : Nat) (b : Bool) {o : Nat} (h : o ≠ x.off) : (s.setBit x i b).word o = s.word o :=
  State.word_setF_ne s _ _ h

theorem State.fbit_of_word {s t : State} {x : Fld} (h : t.word x.off = s.word x.off) (i : Nat) : t.fbit x i = s.fbit x i := by
  rw [State.fbit, State.fbit, h]

theorem State.fb_of_word {s t : State} {x : Fld} (h : t.word x.off = s.word x.off) : t.fb x = s.fb x := by
  rw [State.fb, State.fb, h]

theorem State.f_of_word {s t : State} {x : Fld} (h : t.word x.off = s.word x.off) : t.f x = s.f x := by
  rw [State.f, State.f, h]

end Sys2Proof.Machine
end

section
/-! PROOFS. The pressure contract: level changes, offers, release targets and breach (R107, R108, R111 to R114, R122, R155). -/

namespace Sys2Proof.Machine

/-! ## What a change of level may leave -/

/-- Only what records, the ports and the registers hold has changed, and not the level. -/
def LevelKept (s t : State) : Prop := Mends s t ∧ t.word 0x22008C = s.word 0x22008C

theorem LevelKept.refl (s : State) : LevelKept s s := ⟨.refl s, rfl⟩

theorem LevelKept.trans {s t u : State} (h1 : LevelKept s t) (h2 : LevelKept t u) : LevelKept s u := ⟨h1.1.trans h2.1, h2.2.trans h1.2⟩

theorem LevelKept.foldl {α : Type} {f : State → α → State} (hf : ∀ s a, LevelKept s (f s a)) (as : List α) (s : State) : LevelKept s (as.foldl f s) := by
  induction as generalizing s with
  | nil => exact .refl s
  | cons a as ih => exact (hf s a).trans (ih _)

theorem LevelKept.level {s t : State} (h : LevelKept s t) : t.level = s.level := State.f_of_word h.2

theorem Noted.levelKept {s t : State} (h : Noted s t) (hc : t.csr = s.csr) : LevelKept s t := ⟨h.mends, State.word_congr hc _⟩

/-- The state with other capacity figures. -/
def State.withCap (s : State) (c : Cap) : State := { s with cap := c }

theorem LevelKept.withCap {s t : State} (h : LevelKept s t) (c : Cap) : LevelKept (s.withCap c) (t.withCap c) := by
  obtain ⟨hm, hw⟩ := h
  have hf := congrArg (fun x : State => x.withCap c) hm
  exact ⟨hf, hw⟩

theorem State.notify_kept (s old : State) : LevelKept s (s.notify old) := by
  have hf := s.notify_frame old
  have hcsr := congrArg State.csr hf
  have hm := congrArg s.undoMend hf
  exact ⟨hm, State.word_congr hcsr _⟩

/-! ## Records of capacity (R108, R112, R114, R350) -/

theorem State.msix_port_ne (s : State) {h g : Head} (v : Nat) (hg : g ≠ h) : (s.msix h v).port g = s.port g := by
  unfold State.msix
  dsimp only
  split
  · exact State.port_updPort_ne _ _ hg
  · split <;> rfl

theorem State.event1_port_ne (s : State) {h g : Head} (l : EventLog) (c : Cause) (a : Nat) (b : Bool) (sl : Option (Fin 16)) (hg : g ≠ h) :
    (s.event1 h l c a b sl).port g = s.port g := by
  unfold State.event1
  dsimp only
  split
  · rfl
  · exact State.msix_port_ne { s with events := s.events ++ [⟨h, l, c, a, s.tb, s.nextHandle, b, sl⟩], nextHandle := s.nextHandle + 1 } _ hg

theorem State.capEvent_noted (s : State) (h : Head) (c : Cause) (x : Nat) :
    Noted s (s.capEvent h c x) ∧ (s.capEvent h c x).csr = s.csr ∧ (s.capEvent h c x).events.length = s.events.length + 1 := by
  obtain ⟨hnoted, hcsr, -, -, hevents⟩ := s.event1_noted h .dynamicCapacity c x false none
  obtain ⟨hcsr', -, hevents', -⟩ := State.msix_csr (s.event1 h .dynamicCapacity c x false none) h ((s.event1 h .dynamicCapacity c x false none).f (Reg.CMD_HEADh.CAP_VEC.nth h.val))
  refine ⟨hnoted.trans (State.msix_noted ..), hcsr'.trans hcsr, ?_⟩
  rw [State.capEvent, State.capVec, hevents', hevents, List.length_append, List.length_singleton]

theorem State.capEvent_port_ne (s : State) {h g : Head} (c : Cause) (x : Nat) (hg : g ≠ h) : (s.capEvent h c x).port g = s.port g :=
  (State.msix_port_ne _ _ hg).trans (s.event1_port_ne _ _ _ _ _ hg)

theorem State.capEvent_kept (s : State) (h : Head) (c : Cause) (x : Nat) : LevelKept s (s.capEvent h c x) := by
  obtain ⟨hnoted, hcsr, -⟩ := s.capEvent_noted h c x
  exact hnoted.levelKept hcsr

theorem State.lapseOffer_kept (s : State) (h : Head) : LevelKept s (s.lapseOffer h) := by
  have hf := s.lapseOffer_frame h
  have hcsr := congrArg State.csr hf
  have hm := congrArg s.undoMend hf
  exact ⟨hm, State.word_congr hcsr _⟩

/-! ## Release targets (R114) -/

/-- A head's target after it has been set anew: an unmet target of a running period does not fall. -/
def State.newTarget (s : State) (h : Head) : Nat :=
  if (s.port h).targetMet = false ∧ s.now < (s.port h).targetAt + 10000000000 then max (s.port h).target (s.releaseShare h) else s.releaseShare h

/-- A head's port after its target has been set anew. -/
def State.targetPort (s : State) (h : Head) : Port :=
  if !(s.port h).targetMet && decide (s.now < (s.port h).targetAt + 10000000000) then { s.port h with target := max (s.port h).target (s.releaseShare h) }
  else { s.port h with target := s.releaseShare h, targetAt := s.now, freedTo := 0 }

theorem State.targetPort_fields (s : State) (h : Head) : (s.targetPort h).target = s.newTarget h ∧ (s.targetPort h).accepted = (s.port h).accepted := by
  have hcond : (!(s.port h).targetMet && decide (s.now < (s.port h).targetAt + 10000000000)) = true ↔
      (s.port h).targetMet = false ∧ s.now < (s.port h).targetAt + 10000000000 := by simp
  unfold State.targetPort State.newTarget
  split <;> rename_i hc
  · rw [if_pos (hcond.1 hc)]
    exact ⟨rfl, rfl⟩
  · rw [if_neg (mt hcond.2 hc)]
    exact ⟨rfl, rfl⟩

theorem State.setTarget_eq (s : State) (h : Head) :
    s.setTarget h = (s.updPort h fun _ => s.targetPort h).capEvent h .releaseTarget (s.newTarget h) := by
  have hport : (s.updPort h fun _ => s.targetPort h) = (if !(s.port h).targetMet && decide (s.now < (s.port h).targetAt + 10000000000) then s.updPort h fun p => { p with target := max p.target (s.releaseShare h) }
      else s.updPort h fun p => { p with target := s.releaseShare h, targetAt := s.now, freedTo := 0 }) := by
    unfold State.targetPort
    split <;> rfl
  have htarget : ((s.updPort h fun _ => s.targetPort h).port h).target = s.newTarget h := by
    rw [State.port_updPort_self]
    exact (s.targetPort_fields h).1
  unfold State.setTarget
  extract_lets n p set
  have hset : set = s.updPort h fun _ => s.targetPort h := hport.symm
  rw [hset, htarget]

theorem State.setTarget_port_ne (s : State) {h g : Head} (hg : g ≠ h) : (s.setTarget h).port g = s.port g := by
  rw [State.setTarget_eq, State.capEvent_port_ne _ _ _ hg, State.port_updPort_ne _ _ hg]

theorem State.setTarget_port_self (s : State) (h : Head) : ((s.setTarget h).port h).target = s.newTarget h ∧ ((s.setTarget h).port h).accepted = (s.port h).accepted := by
  obtain ⟨hnoted, -⟩ := (s.updPort h fun _ => s.targetPort h).capEvent_noted h .releaseTarget (s.newTarget h)
  have htarget := congrArg Port.target (hnoted.2 h)
  have hacc := congrArg Port.accepted (hnoted.2 h)
  obtain ⟨ht, ha⟩ := s.targetPort_fields h
  rw [State.port_updPort_self] at htarget hacc
  rw [State.setTarget_eq]
  exact ⟨htarget.trans ht, hacc.trans ha⟩

/-- A target set on one head changes its port and what records leave. -/
theorem State.setTarget_mends (s : State) (h : Head) : Mends s (s.setTarget h) ∧ (s.setTarget h).csr = s.csr := by
  obtain ⟨hnoted, hcsr, -⟩ := (s.updPort h fun _ => s.targetPort h).capEvent_noted h .releaseTarget (s.newTarget h)
  have hupd : Mends s (s.updPort h fun _ => s.targetPort h) := rfl
  rw [State.setTarget_eq]
  exact ⟨hupd.trans hnoted.mends, hcsr⟩

/-- The share of a head depends on the records, the capacity, the region tables and on who has accepted, not on what else ports hold. -/
theorem State.releaseShare_congr {s t : State} (hm : Mends s t) (hcsr : t.csr = s.csr) (hacc : ∀ g, (t.port g).accepted = (s.port g).accepted) (h : Head) :
    t.releaseShare h = s.releaseShare h := by
  have hframes (g : Head) : t.elasticFrames g = s.elasticFrames g := by
    have hundo : (s.undoMend t).elasticFrames g = t.elasticFrames g := by
      unfold State.undoMend
      rw [← hcsr]
      rfl
    rw [← hundo, hm]
  have hparts := congrArg (fun x : State => (x.freeFrames, x.cap.usable, x.heads)) hm
  simp only [Prod.mk.injEq] at hparts
  obtain ⟨hfree, husable, hheads⟩ := hparts
  change t.freeFrames = _ at hfree
  change t.cap.usable = _ at husable
  change t.heads = _ at hheads
  unfold State.releaseShare
  simp only [hframes, hfree, husable, hheads, hacc, funext hframes]

/-- `t` is `s` with targets set: no share, no acceptance and no register has changed. -/
def Targeted (s t : State) : Prop := Mends s t ∧ t.csr = s.csr ∧ ∀ g, (t.port g).accepted = (s.port g).accepted

theorem State.setTarget_targeted (s : State) (h : Head) : Targeted s (s.setTarget h) := by
  obtain ⟨hm, hcsr⟩ := s.setTarget_mends h
  refine ⟨hm, hcsr, fun g => ?_⟩
  by_cases hg : g = h
  · rw [hg, (s.setTarget_port_self h).2]
  · rw [s.setTarget_port_ne hg]

theorem Targeted.newTarget {s t : State} (ht : Targeted s t) {h : Head} (hp : t.port h = s.port h) : t.newTarget h = s.newTarget h := by
  obtain ⟨hm, hcsr, hacc⟩ := ht
  have hnow := congrArg State.now hm
  change t.now = s.now at hnow
  unfold State.newTarget
  rw [hp, hnow, State.releaseShare_congr hm hcsr hacc h]

/-- Targets set on heads in turn: each head of the list has the target that the state before gives it, and no other port has changed. -/
theorem State.foldl_setTarget {hs : List Head} (hn : hs.Nodup) (s : State) :
    Targeted s (hs.foldl (fun s h => s.setTarget h) s) ∧ (∀ h ∈ hs, ((hs.foldl (fun s h => s.setTarget h) s).port h).target = s.newTarget h) ∧
    ∀ h, h ∉ hs → (hs.foldl (fun s h => s.setTarget h) s).port h = s.port h := by
  induction hs generalizing s with
  | nil => exact ⟨⟨.refl s, rfl, fun _ => rfl⟩, nofun, fun _ _ => rfl⟩
  | cons a hs ih =>
    obtain ⟨ha, hn⟩ := List.nodup_cons.1 hn
    obtain ⟨⟨hm, hcsr, hacc⟩, htarget, hothers⟩ := ih hn (s.setTarget a)
    have hone := s.setTarget_targeted a
    obtain ⟨hm1, hcsr1, hacc1⟩ := s.setTarget_targeted a
    rw [List.foldl_cons]
    refine ⟨⟨hm1.trans hm, hcsr.trans hcsr1, fun g => (hacc g).trans (hacc1 g)⟩, fun h hh => ?_, fun h hh => ?_⟩
    · rcases List.mem_cons.1 hh with rfl | hh
      · rw [hothers h ha]
        exact (s.setTarget_port_self h).1
      · have hne : h ≠ a := fun e => ha (e ▸ hh)
        rw [htarget h hh]
        exact hone.newTarget (s.setTarget_port_ne hne)
    · rw [hothers h (List.not_mem_of_not_mem_cons hh), s.setTarget_port_ne (List.ne_of_not_mem_cons hh)]

theorem State.setTargets_kept (s : State) : LevelKept s s.setTargets :=
  LevelKept.foldl (fun s h => ⟨(s.setTarget_mends h).1, State.word_congr (s.setTarget_mends h).2 _⟩) _ s

/-- RELEASE_TARGET at RED or worse (R114). -/
theorem State.releaseTarget_gives {s : State} (hlevel : 2 ≤ s.level) : Gives .releaseTarget s fun t =>
    (∀ h ∈ s.heads, (s.port h).accepted = true → (t.port h).target = s.newTarget h) ∧ (∀ h, (s.port h).accepted = false → t.port h = s.port h) ∧
    DataKept s t ∧ t.cap = s.cap ∧ t.csr = s.csr := by
  refine ⟨s.setTargets, ?_, ?_⟩
  · have hexec : exec .releaseTarget s = execReleaseTarget s := rfl
    rw [hexec, execReleaseTarget, if_neg (Nat.not_lt.2 hlevel)]
  · obtain ⟨⟨hm, hcsr, -⟩, htarget, hothers⟩ := State.foldl_setTarget (s.heads_nodup.filter fun h => (s.port h).accepted) s
    obtain ⟨hdata, hcap, -⟩ := hm.kept
    exact ⟨fun h hh hacc => htarget h (List.mem_filter.2 ⟨hh, hacc⟩), fun h hacc => hothers h fun hh => by simp [hacc] at hh, hdata, hcap, hcsr⟩

/-! ## Changes of level (R107, R108) -/

/-- The capacity figures as a level change leaves them (R107, R122). -/
def State.levelCap (s : State) (v : Nat) : Cap := { s.cap with fall := 0, floorAt := if v = 3 then some s.now else none }

theorem State.applyOffsets_kept (s : State) : LevelKept s s.applyOffsets := by
  refine ⟨rfl, ?_⟩
  unfold State.applyOffsets
  extract_lets o down
  rw [State.word_setF_ne _ _ _ (by decide), State.word_setF_ne _ _ _ (by decide), State.word_setF_ne _ _ _ (by decide)]

/-- A change of level writes it, begins the count anew, and otherwise leaves records, ports and thresholds alone. -/
theorem State.setLevel_kept (s : State) {v : Nat} (hv : v ≠ s.level) : LevelKept ((s.setF Reg.XLT_CAP_STATUS.LEVEL v).withCap (s.levelCap v)) (s.setLevel v) := by
  unfold State.setLevel
  extract_lets o noted told recorded figures counted offsets lapsed
  rw [if_neg hv]
  have hrecorded : LevelKept (s.setF Reg.XLT_CAP_STATUS.LEVEL v) recorded :=
    ((State.notify_kept _ _).trans (LevelKept.foldl (fun s h => s.capEvent_kept h _ _) _ noted)).trans ⟨(State.pannier_noted ..).mends, State.pannier_word (by decide) ..⟩
  have hcounted : counted = recorded.withCap (s.levelCap v) := by
    obtain ⟨-, hcap, -⟩ := hrecorded.1.kept
    have hnow := congrArg State.now hrecorded.1
    change recorded.cap = s.cap at hcap
    change recorded.now = s.now at hnow
    unfold State.withCap State.levelCap
    rw [← hcap, ← hnow]
  have hlapsed : LevelKept ((s.setF Reg.XLT_CAP_STATUS.LEVEL v).withCap (s.levelCap v)) lapsed := by
    have hoffsets : LevelKept ((s.setF Reg.XLT_CAP_STATUS.LEVEL v).withCap (s.levelCap v)) offsets := by
      refine (hrecorded.withCap (s.levelCap v)).trans ?_
      rw [← hcounted]
      exact counted.applyOffsets_kept
    simp only [lapsed]
    split
    · exact hoffsets.trans (LevelKept.foldl (fun s h => s.lapseOffer_kept h) _ _)
    · exact hoffsets
  split
  · exact hlapsed.trans lapsed.setTargets_kept
  · exact hlapsed

theorem State.setLevel_gives (s : State) {v : Nat} (hv : v ≠ s.level) (hlt : v < 4) : (s.setLevel v).level = v ∧ (s.setLevel v).cap.fall = 0 ∧ DataKept s (s.setLevel v) := by
  have hkept := s.setLevel_kept hv
  obtain ⟨hdata, hcap, -⟩ := hkept.1.kept
  refine ⟨hkept.level.trans ?_, by rw [hcap]; rfl, hdata⟩
  exact (State.f_setF_self s Reg.XLT_CAP_STATUS.LEVEL v (by decide) (by decide)).trans (Nat.mod_eq_of_lt hlt)

/-! ## PRESSURE_MEASURE (R107) -/

/-- What the report of capacity leaves as it was: everything but registers, and the level. -/
theorem State.capReport_kept (s : State) : { s.capReport with csr := s.csr } = s ∧ s.capReport.level = s.level := by
  refine ⟨rfl, ?_⟩
  unfold State.capReport State.level
  rw [State.f_setF_ne _ _ _ _ (by decide) (by decide) (by decide) (by decide) (.inl (by decide)), State.f_setF_ne _ _ _ _ (by decide) (by decide) (by decide) (by decide) (.inr (.inl (by decide))),
    State.f_setF_ne _ _ _ _ (by decide) (by decide) (by decide) (by decide) (.inr (.inl (by decide)))]

theorem State.rawLevel_lt (s : State) : s.rawLevel < 4 := by
  unfold State.rawLevel
  extract_lets f u
  split
  · decide
  · split
    · decide
    · split <;> decide

section
variable {s : State} (hready : s.fb Reg.XLT_STATUS.READY = true)
include hready

/-- A measure, by what the free frames call for against the level. -/
theorem exec_pressureMeasure : exec .pressureMeasure s = .next (
    if s.level < s.rawLevel then s.capReport.setLevel s.rawLevel
    else if s.level = 0 then s.capReport
    else if s.aboveTop s.level then
      if 10 ≤ s.cap.fall + 1 then s.capReport.setLevel (s.level - 1) else s.capReport.withCap { s.cap with fall := s.cap.fall + 1 }
    else s.capReport.withCap { s.cap with fall := 0 }) := by
  obtain ⟨-, hlevel⟩ := s.capReport_kept
  have hexec : exec .pressureMeasure s = execPressureMeasure s := rfl
  have hraw : s.capReport.rawLevel = s.rawLevel := rfl
  have habove : s.capReport.aboveTop s.level = s.aboveTop s.level := rfl
  have hfall : s.capReport.cap = s.cap := rfl
  rw [hexec, execPressureMeasure]
  simp only [hready, Bool.not_true, Bool.false_eq_true, if_false, hlevel, hraw, habove, hfall, State.withCap]
  split
  · rfl
  · split
    · rfl
    · split
      · split <;> rfl
      · rfl

theorem State.pressureMeasure_rises (hlt : s.level < s.rawLevel) : Gives .pressureMeasure s fun t => t.level = s.rawLevel ∧ t.cap.fall = 0 ∧ DataKept s t := by
  obtain ⟨-, hlevel⟩ := s.capReport_kept
  refine ⟨_, exec_pressureMeasure hready, ?_⟩
  rw [if_pos hlt]
  exact s.capReport.setLevel_gives (by omega) s.rawLevel_lt

variable (hle : s.rawLevel ≤ s.level) (hne : s.level ≠ 0)
include hle hne

theorem State.pressureMeasure_falls (habove : s.aboveTop s.level = true) (htenth : 9 ≤ s.cap.fall) :
    Gives .pressureMeasure s fun t => t.level = s.level - 1 ∧ t.cap.fall = 0 ∧ DataKept s t := by
  obtain ⟨-, hlevel⟩ := s.capReport_kept
  have hlt : s.level < 4 := Nat.mod_lt _ (by decide)
  refine ⟨_, exec_pressureMeasure hready, ?_⟩
  rw [if_neg (Nat.not_lt.2 hle), if_neg hne, if_pos habove, if_pos (by omega)]
  exact s.capReport.setLevel_gives (by omega) (by omega)

theorem State.pressureMeasure_counts (habove : s.aboveTop s.level = true) (hearly : s.cap.fall < 9) : Gives .pressureMeasure s fun t =>
    t.level = s.level ∧ t.cap = { s.cap with fall := s.cap.fall + 1 } ∧ { t with cap := s.cap, csr := s.csr } = s := by
  obtain ⟨hframe, hlevel⟩ := s.capReport_kept
  refine ⟨_, exec_pressureMeasure hready, ?_⟩
  rw [if_neg (Nat.not_lt.2 hle), if_neg hne, if_pos habove, if_neg (by omega)]
  exact ⟨hlevel, rfl, congrArg (fun x : State => x.withCap s.cap) hframe⟩

theorem State.pressureMeasure_restarts (hbelow : s.aboveTop s.level = false) : Gives .pressureMeasure s fun t =>
    t.level = s.level ∧ t.cap = { s.cap with fall := 0 } ∧ { t with cap := s.cap, csr := s.csr } = s := by
  obtain ⟨hframe, hlevel⟩ := s.capReport_kept
  refine ⟨_, exec_pressureMeasure hready, ?_⟩
  rw [if_neg (Nat.not_lt.2 hle), if_neg hne, if_neg (by simp [hbelow])]
  exact ⟨hlevel, rfl, congrArg (fun x : State => x.withCap s.cap) hframe⟩

end

/-! ## Offers (R111 to R113) -/

theorem State.offerLapse_gives (s : State) (h : Head) : Gives (.offerLapse h) s fun t =>
    t.port h = { s.port h with offer := none } ∧ (∀ g, g ≠ h → t.port g = s.port g) ∧ { t with ports := s.ports, pmu := s.pmu } = s :=
  ⟨s.lapseOffer h, rfl, by rw [State.lapseOffer_port, if_pos rfl], fun g hg => by rw [State.lapseOffer_port, if_neg hg], s.lapseOffer_frame h⟩

/-- The state with an offer made to a head. -/
def State.offered (s : State) (h : Head) (o : Offer) : State := ((s.updPort h fun p => { p with offer := some o }).count 6 4).capEvent h .offer o.size

theorem State.offered_gives (s : State) (h : Head) (o : Offer) :
    ((s.offered h o).port h).offer = some o ∧ (∀ g, g ≠ h → (s.offered h o).port g = s.port g) ∧ (s.offered h o).csr = s.csr ∧
    s.events.length < (s.offered h o).events.length ∧ DataKept s (s.offered h o) ∧ (s.offered h o).cap = s.cap := by
  obtain ⟨hnoted, hcsr, hevents⟩ := ((s.updPort h fun p => { p with offer := some o }).count 6 4).capEvent_noted h .offer o.size
  have hoffer := congrArg Port.offer (hnoted.2 h)
  obtain ⟨hdata, hcap, -⟩ := hnoted.mends.kept
  refine ⟨hoffer.trans (by rw [State.port_count, State.port_updPort_self]), fun g hg => ?_, hcsr, Nat.lt_of_lt_of_eq (Nat.lt_succ_self _) hevents.symm, hdata, hcap⟩
  rw [State.offered, State.capEvent_port_ne _ _ _ hg, State.port_count, State.port_updPort_ne _ _ hg]

theorem exec_elasticOffer {s : State} {h : Head} {e : Fin 9} {d b size : Nat} (hready : s.fb Reg.XLT_STATUS.READY = true) (hgreen : s.level = 0)
    (hen : s.fb Reg.XLT_CAP_CFG.ELASTIC_EN = true) (hleast : leastHead s.elasticHeld (s.heads.filter s.offerTo) = some h)
    (hsize : size = min (s.offerable / (s.heads.filter s.accepting).length) ((s.port h).elasticMax - s.elasticHeld h / 32768)) (hpos : size ≠ 0)
    (he : s.freeEntry h = some e) (hd : lowestFit s.dpaTaken (size * 32768) s.extents = some d) (hb : lowestFit (s.hdpaTaken h) (size * 32768) (2 ^ 25) = some b) :
    exec .elasticOffer s = .next (s.offered h ⟨e, b, d, size * 32768, s.now⟩) := by
  have hexec : exec .elasticOffer s = execElasticOffer s := rfl
  rw [hexec, execElasticOffer]
  simp only [hready, hgreen, hen, hleast, ← hsize, hpos, he, hd, hb, Bool.not_true, bne_self_eq_false, Bool.or_self, Bool.false_eq_true, if_false]
  rfl

/-! ## Breach (R122) -/

/-- A head marked in breach, with the event record of it. -/
def State.breachTold (s : State) (h : Head) : State :=
  let marked := (s.setBit Reg.XLT_CAP_STATUS.BREACH_HEADS h.val true).count 6 11
  marked.event (withOwner marked [h]) .warning .breach h.val

theorem State.breachTold_noted (s : State) (h : Head) : Noted s (s.breachTold h) ∧ (s.breachTold h).fbit Reg.XLT_CAP_STATUS.BREACH_HEADS h.val = true := by
  have hmarked : Noted s ((s.setBit Reg.XLT_CAP_STATUS.BREACH_HEADS h.val true).count 6 11) :=
    Noted.trans (t := s.setBit Reg.XLT_CAP_STATUS.BREACH_HEADS h.val true) ⟨rfl, fun _ => rfl⟩ (State.count_noted ..)
  have hlo : Reg.XLT_CAP_STATUS.BREACH_HEADS.lo = 16 := rfl
  have hbit : ((s.setBit Reg.XLT_CAP_STATUS.BREACH_HEADS h.val true).count 6 11).fbit Reg.XLT_CAP_STATUS.BREACH_HEADS h.val = true :=
    (State.fbit_of_word (State.word_count ..) h.val).trans (State.fbit_setBit_self s Reg.XLT_CAP_STATUS.BREACH_HEADS true (by omega))
  unfold State.breachTold
  generalize (s.setBit Reg.XLT_CAP_STATUS.BREACH_HEADS h.val true).count 6 11 = marked at *
  obtain ⟨htold, hcsr, -⟩ := State.event_noted (withOwner marked [h]) .warning .breach h.val false none marked
  exact ⟨hmarked.trans htold, (State.fbit_congr hcsr _ _).trans hbit⟩

theorem exec_breach {s : State} {h : Head} (hunmet : (s.port h).targetMet = false) (hclear : s.fbit Reg.XLT_CAP_STATUS.BREACH_HEADS h.val = false) :
    exec (.breach h) s = .next ((s.breachTold h).pannier 48 0xFF 3 .breach 1 0 0 0x22008C true) := by
  have hexec : exec (.breach h) s = execBreach h s := rfl
  rw [hexec, execBreach]
  simp only [hunmet, hclear, Bool.or_self, Bool.false_eq_true, if_false]
  rfl

theorem State.breach_gives {s : State} {h : Head} (hunmet : (s.port h).targetMet = false) (hclear : s.fbit Reg.XLT_CAP_STATUS.BREACH_HEADS h.val = false) :
    Gives (.breach h) s fun t => t.fbit Reg.XLT_CAP_STATUS.BREACH_HEADS h.val = true ∧ Noted s t := by
  obtain ⟨hnoted, hbit⟩ := s.breachTold_noted h
  refine ⟨_, exec_breach hunmet hclear, ?_, hnoted.trans (State.pannier_noted ..)⟩
  exact (State.fbit_of_word (State.pannier_word (by decide) ..) h.val).trans hbit

/-- Settles O55: measures by the level that they call for, offers and their lapse, targets head by head, and the mark of a breach. -/
theorem pressureContract : Obligations.PressureContract := by
  intro s
  refine ⟨fun hready => ⟨State.pressureMeasure_rises hready, State.pressureMeasure_falls hready, State.pressureMeasure_counts hready, State.pressureMeasure_restarts hready⟩,
    fun h _ _ => s.offerLapse_gives h, fun h e d b size hready hgreen hen hleast hsize hpos he hd hb => ?_, State.releaseTarget_gives, fun h => State.breach_gives⟩
  exact ⟨_, exec_elasticOffer hready hgreen hen hleast hsize hpos he hd hb, s.offered_gives h _⟩

end Sys2Proof.Machine
end

section
/-! PROOFS. Dynamic capacity and Execute Descriptor over a mailbox (R112, R113, R115, R349, R353, R354). -/

namespace Sys2Proof.Machine

/-! ## A served mailbox command (R353) -/

/-- `t` is `s` with events counted. -/
def Counted (s t : State) : Prop := { t with pmu := s.pmu } = s

theorem State.count_counted (s : State) (g i n : Nat) (u : Option Nat) : Counted s (s.count g i n u) := s.count_frame g i n u

/-- A served mailbox command runs at once on a state that differs in counters alone. -/
theorem MailboxServes.runs {s : State} {h : Head} (hs : MailboxServes s h) (i : Instr) : ∃ t, Counted s t ∧ ∀ g, s.mailbox h i g = g t :=
  ⟨_, s.count_counted 13 35 1 (some h.val), fun g => State.mailbox_eq hs i g⟩

theorem MailboxServes.up {s : State} {h : Head} (hs : MailboxServes s h) : (s.port h).up = true := by
  obtain ⟨-, -, hup, -⟩ := hs
  exact hup

section
variable {s t : State} (ht : Counted s t)
include ht

theorem Counted.ports : t.ports = s.ports := by
  have h := congrArg State.ports ht
  exact h

theorem Counted.csr : t.csr = s.csr := by
  have h := congrArg State.csr ht
  exact h

theorem Counted.out : t.out = s.out := by
  have h := congrArg State.out ht
  exact h

theorem Counted.cmd : t.cmd = s.cmd := by
  have h := congrArg State.cmd ht
  exact h

theorem Counted.port (h : Head) : t.port h = s.port h := State.port_congr ht.ports h

/-- A reply over a link that is up is one message (R223). -/
theorem Counted.reply {h : Head} (hup : (s.port h).up = true) (r : Reply) :
    (t.mbxReply h r).out = s.out ++ [.mailbox h r] ∧ { t.mbxReply h r with out := s.out, pmu := s.pmu } = s := by
  rw [State.mbxReply, ht.port, if_pos hup]
  exact ⟨congrArg (· ++ [Msg.mailbox h r]) ht.out, congrArg (fun x : State => { x with out := s.out }) ht⟩

end

/-! ## Region entries (R67, R173) -/

/-- The value of bits `hi` to `lo` of a word. -/
def wordField (w : Word) (hi lo : Nat) : Nat := (w >>> lo).toNat % 2 ^ (hi - lo + 1)

/-- The entry that four words of a region table spell. -/
def regionOfWords (h : Head) (e : Fin 9) (hbase dbase size ctl : Word) : Region :=
  ⟨h, e, wordField hbase 24 0, wordField dbase 24 0, wordField size 24 0, wordField ctl 25 16, ctl.getLsbD 4, wordField ctl 3 2, ctl.getLsbD 1, ctl.getLsbD 0⟩

theorem State.region_eq (s : State) (h : Head) (e : Fin 9) :
    s.region h e = regionOfWords h e (s.word (rgnOff h e)) (s.word (rgnOff h e + 4)) (s.word (rgnOff h e + 8)) (s.word (rgnOff h e + 12)) := by
  have hoff (k : Nat) : 0x100800 + k + 0x10000 * h.val + 0x10 * e.val = rgnOff h e + k := by
    unfold rgnOff
    omega
  rw [← hoff 4, ← hoff 8, ← hoff 12]
  rfl

theorem wordField_ofNat {n : Nat} (h : n < 2 ^ 25) : wordField (BitVec.ofNat 32 n) 24 0 = n := by
  rw [wordField, BitVec.toNat_ushiftRight, BitVec.toNat_ofNat, Nat.shiftRight_zero]
  omega

/-- The fields of the CTL word of an accepted offer: KEY, ORIGIN 1, CLASS elastic, HDM-H, VALID. -/
theorem ctlWord_accepted {key : Nat} (h : key < 1024) :
    wordField (ctlWord key 1 false true true) 25 16 = key ∧ (ctlWord key 1 false true true).getLsbD 4 = true ∧ wordField (ctlWord key 1 false true true) 3 2 = 1 ∧
    (ctlWord key 1 false true true).getLsbD 1 = false ∧ (ctlWord key 1 false true true).getLsbD 0 = true := by
  have hword : (ctlWord key 1 false true true).toNat = key * 65536 + 21 := by
    rw [ctlWord, BitVec.toNat_ofNat]
    simp only [Bool.toNat_false, Bool.toNat_true]
    omega
  have hbit (i : Nat) : (ctlWord key 1 false true true).getLsbD i = decide ((key * 65536 + 21) / 2 ^ i % 2 = 1) := by
    rw [BitVec.getLsbD, hword, Nat.testBit_eq_decide_div_mod_eq]
  have hfield (hi lo : Nat) : wordField (ctlWord key 1 false true true) hi lo = (key * 65536 + 21) / 2 ^ lo % 2 ^ (hi - lo + 1) := by
    rw [wordField, BitVec.toNat_ushiftRight, hword, Nat.shiftRight_eq_div_pow]
  rw [hbit, hbit, hbit, hfield, hfield]
  refine ⟨by omega, decide_eq_true (by omega), by omega, decide_eq_false (by omega), decide_eq_true (by omega)⟩

/-- Words of different entries stand at different offsets. -/
theorem rgnOff_ne {h n : Head} {e e' : Fin 9} (hne : (n, e') ≠ (h, e)) {i j : Nat} (hi : i < 16) (hj : j < 16) : rgnOff n e' + i ≠ rgnOff h e + j := by
  intro heq
  unfold rgnOff at heq
  have hn : n.val = h.val := by omega
  have he : e'.val = e.val := by omega
  exact hne (Prod.ext (Fin.ext hn) (Fin.ext he))

/-- The four words of a region entry written. -/
def State.writeEntry (s : State) (h : Head) (e : Fin 9) (hbase dbase size ctl : Word) : State :=
  (((s.setWord (rgnOff h e) hbase).setWord (rgnOff h e + 4) dbase).setWord (rgnOff h e + 8) size).setWord (rgnOff h e + 12) ctl

section
variable (s : State) (h : Head) (e : Fin 9) (hbase dbase size ctl : Word)

theorem State.region_writeEntry_self : (s.writeEntry h e hbase dbase size ctl).region h e = regionOfWords h e hbase dbase size ctl := by
  have h3 : (s.writeEntry h e hbase dbase size ctl).word (rgnOff h e + 12) = ctl := State.word_setWord_self ..
  have h2 : (s.writeEntry h e hbase dbase size ctl).word (rgnOff h e + 8) = size := by
    rw [State.writeEntry, State.word_setWord_ne _ _ (by omega), State.word_setWord_self]
  have h1 : (s.writeEntry h e hbase dbase size ctl).word (rgnOff h e + 4) = dbase := by
    rw [State.writeEntry, State.word_setWord_ne _ _ (by omega), State.word_setWord_ne _ _ (by omega), State.word_setWord_self]
  have h0 : (s.writeEntry h e hbase dbase size ctl).word (rgnOff h e) = hbase := by
    rw [State.writeEntry, State.word_setWord_ne _ _ (by omega), State.word_setWord_ne _ _ (by omega), State.word_setWord_ne _ _ (by omega), State.word_setWord_self]
  rw [State.region_eq, h0, h1, h2, h3]

theorem State.region_writeEntry_ne {n : Head} {e' : Fin 9} (hne : (n, e') ≠ (h, e)) : (s.writeEntry h e hbase dbase size ctl).region n e' = s.region n e' := by
  have hword {i : Nat} (hi : i < 16) : (s.writeEntry h e hbase dbase size ctl).word (rgnOff n e' + i) = s.word (rgnOff n e' + i) := by
    have hfirst : rgnOff n e' + i ≠ rgnOff h e := rgnOff_ne hne hi (j := 0) (by decide)
    rw [State.writeEntry, State.word_setWord_ne _ _ (rgnOff_ne hne hi (by decide)), State.word_setWord_ne _ _ (rgnOff_ne hne hi (by decide)),
      State.word_setWord_ne _ _ (rgnOff_ne hne hi (by decide)), State.word_setWord_ne _ _ hfirst]
  rw [State.region_eq, State.region_eq, hword (i := 4) (by decide), hword (i := 8) (by decide), hword (i := 12) (by decide)]
  exact congrArg (fun w => regionOfWords n e' w _ _ _) (hword (i := 0) (by decide))

theorem State.writeEntry_frame : { s.writeEntry h e hbase dbase size ctl with csr := s.csr } = s := by
  have hone (x : State) (o : Nat) (w : Word) : { x.setWord o w with csr := s.csr } = { x with csr := s.csr } := rfl
  exact (((hone _ _ ctl).trans (hone _ _ size)).trans (hone _ _ dbase)).trans (hone s _ hbase)

end

/-! ## Responses to an offer (R112, R113) -/

theorem State.acceptOffer_eq (s : State) (h : Head) (o : Offer) :
    s.acceptOffer h o = (s.updPort h fun p => { p with offer := none }).writeEntry h o.e (BitVec.ofNat 32 o.hbase) (BitVec.ofNat 32 o.dbase) (BitVec.ofNat 32 o.size)
      (ctlWord (s.region h 0).key 1 false true true) := rfl

/-- An offer accepted whole: its entry is valid as HDM-H, elastic, over the offered ranges, and no other entry has changed. -/
theorem State.acceptOffer_regions (s : State) (h : Head) {o : Offer} (hb : o.hbase < 2 ^ 25) (hd : o.dbase < 2 ^ 25) (hz : o.size < 2 ^ 25) :
    (s.acceptOffer h o).region h o.e = ⟨h, o.e, o.hbase, o.dbase, o.size, (s.region h 0).key, true, 1, false, true⟩ ∧
    ∀ n e, (n, e) ≠ (h, o.e) → (s.acceptOffer h o).region n e = s.region n e := by
  have hkey : (s.region h 0).key < 1024 := Nat.mod_lt _ (by decide : 0 < 1024)
  obtain ⟨hk, horigin, hcls, hkind, hvalid⟩ := ctlWord_accepted hkey
  rw [State.acceptOffer_eq]
  refine ⟨?_, fun n e hne => State.region_writeEntry_ne _ _ _ _ _ _ _ hne⟩
  rw [State.region_writeEntry_self, regionOfWords, hk, horigin, hcls, hkind, hvalid, wordField_ofNat hb, wordField_ofNat hd, wordField_ofNat hz]

/-- An accepted offer is pending no more. -/
theorem State.acceptOffer_port (s : State) (h : Head) (o : Offer) (g : Head) :
    (s.acceptOffer h o).port g = if g = h then { s.port h with offer := none } else s.port g := by
  rw [State.acceptOffer_eq, ← State.port_updPort s h g fun p => { p with offer := none }]
  generalize (s.updPort h fun p => { p with offer := none }) = u, ctlWord (s.region h 0).key 1 false true true = ctl
  have hports := congrArg State.ports (u.writeEntry_frame h o.e (BitVec.ofNat 32 o.hbase) (BitVec.ofNat 32 o.dbase) (BitVec.ofNat 32 o.size) ctl)
  exact State.port_congr hports g

/-- Accepting an offer changes its entry's words and its port. -/
theorem State.acceptOffer_frame (s : State) (h : Head) (o : Offer) : { s.acceptOffer h o with csr := s.csr, ports := s.ports } = s := by
  rw [State.acceptOffer_eq]
  generalize ctlWord (s.region h 0).key 1 false true true = ctl
  exact congrArg (fun x : State => { x with ports := s.ports }) (State.writeEntry_frame (s.updPort h fun p => { p with offer := none }) h o.e (BitVec.ofNat 32 o.hbase)
    (BitVec.ofNat 32 o.dbase) (BitVec.ofNat 32 o.size) ctl)

/-- What a response to an offer does on a served mailbox. -/
def State.answerOffer (s : State) (h : Head) (a : OfferAnswer) : State :=
  match (s.port h).offer with
  | none => s.mbxReply h (.refused "INVALID_INPUT")
  | some o =>
    match a with
    | .whole => if s.offerFits h o then (s.acceptOffer h o).mbxReply h .ok else (s.lapseOffer h).mbxReply h (.refused "INVALID_INPUT")
    | .refuse => (s.lapseOffer h).mbxReply h .ok
    | .partly => (s.lapseOffer h).mbxReply h (.refused "INVALID_INPUT")

theorem MailboxServes.addResponse {s : State} {h : Head} (hs : MailboxServes s h) (a : OfferAnswer) :
    ∃ t, Counted s t ∧ exec (.addDynamicCapacityResponse h a) s = .next (t.answerOffer h a) := by
  obtain ⟨t, ht, hrun⟩ := hs.runs (.addDynamicCapacityResponse h a)
  exact ⟨t, ht, congrArg Host.Outcome.next (hrun fun s => s.answerOffer h a)⟩

/-- A reply after a change that keeps the link up and the messages. -/
theorem State.mbxReply_up {s : State} {h : Head} (hup : (s.port h).up = true) (r : Reply) : s.mbxReply h r = s.send (.mailbox h r) := if_pos hup

section
variable {s t : State} (ht : Counted s t) {h : Head} (hup : (s.port h).up = true) {o : Offer}
include ht hup

theorem Counted.acceptReply (hb : o.hbase < 2 ^ 25) (hd : o.dbase < 2 ^ 25) (hz : o.size < 2 ^ 25) :
    ((t.acceptOffer h o).mbxReply h .ok).region h o.e = ⟨h, o.e, o.hbase, o.dbase, o.size, (s.region h 0).key, true, 1, false, true⟩ ∧
    (((t.acceptOffer h o).mbxReply h .ok).port h).offer = none ∧ (∀ n e, (n, e) ≠ (h, o.e) → ((t.acceptOffer h o).mbxReply h .ok).region n e = s.region n e) ∧
    ((t.acceptOffer h o).mbxReply h .ok).out = s.out ++ [.mailbox h .ok] ∧
    { (t.acceptOffer h o).mbxReply h .ok with csr := s.csr, ports := s.ports, out := s.out, pmu := s.pmu } = s := by
  have hport : (t.acceptOffer h o).port h = { s.port h with offer := none } := by rw [State.acceptOffer_port, if_pos rfl, ht.port]
  have hregion (n : Head) (e : Fin 9) : t.region n e = s.region n e := by
    have hr := congrArg (fun x : State => x.region n e) ht
    exact hr
  obtain ⟨hself, hothers⟩ := t.acceptOffer_regions h hb hd hz
  have hframe := t.acceptOffer_frame h o
  generalize t.acceptOffer h o = u at *
  have hout := congrArg State.out hframe
  rw [State.mbxReply_up (by rw [hport]; exact hup)]
  refine ⟨?_, congrArg Port.offer hport, fun n e hne => ?_, congrArg (· ++ [Msg.mailbox h .ok]) (hout.trans ht.out), ?_⟩
  · rw [← hregion]
    exact hself
  · rw [← hregion]
    exact hothers n e hne
  · exact (congrArg (fun x : State => { x with csr := s.csr, ports := s.ports, out := s.out, pmu := s.pmu }) hframe).trans
      (congrArg (fun x : State => { x with csr := s.csr, ports := s.ports, out := s.out }) ht)

theorem Counted.lapseReply (r : Reply) : ((t.lapseOffer h).mbxReply h r).port h = { s.port h with offer := none } ∧
    ((t.lapseOffer h).mbxReply h r).csr = s.csr ∧ ((t.lapseOffer h).mbxReply h r).out = s.out ++ [.mailbox h r] ∧
    { (t.lapseOffer h).mbxReply h r with ports := s.ports, out := s.out, pmu := s.pmu } = s := by
  have hport : (t.lapseOffer h).port h = { s.port h with offer := none } := by rw [State.lapseOffer_port, if_pos rfl, ht.port]
  have hframe := t.lapseOffer_frame h
  have hcsr := congrArg State.csr hframe
  have hout := congrArg State.out hframe
  rw [State.mbxReply_up (by rw [hport]; exact hup)]
  refine ⟨hport, hcsr.trans ht.csr, congrArg (· ++ [Msg.mailbox h r]) (hout.trans ht.out), ?_⟩
  exact (congrArg (fun x : State => { x with ports := s.ports, out := s.out, pmu := s.pmu }) hframe).trans (congrArg (fun x : State => { x with ports := s.ports, out := s.out }) ht)

end

theorem State.addResponse_gives {s : State} {h : Head} (hs : MailboxServes s h) {o : Offer} (ho : (s.port h).offer = some o) :
    (s.offerFits h o = true → o.hbase < 2 ^ 25 → o.dbase < 2 ^ 25 → o.size < 2 ^ 25 → o.e ≠ 0 → Gives (.addDynamicCapacityResponse h .whole) s fun t =>
      t.region h o.e = ⟨h, o.e, o.hbase, o.dbase, o.size, (s.region h 0).key, true, 1, false, true⟩ ∧ (t.port h).offer = none ∧
      (∀ n e, (n, e) ≠ (h, o.e) → t.region n e = s.region n e) ∧ t.out = s.out ++ [.mailbox h .ok] ∧ { t with csr := s.csr, ports := s.ports, out := s.out, pmu := s.pmu } = s) ∧
    (Gives (.addDynamicCapacityResponse h .refuse) s fun t => (t.port h).offer = none ∧ t.csr = s.csr ∧ t.out = s.out ++ [.mailbox h .ok] ∧
      { t with ports := s.ports, out := s.out, pmu := s.pmu } = s) ∧
    (Gives (.addDynamicCapacityResponse h .partly) s fun t => (t.port h).offer = none ∧ t.csr = s.csr ∧ t.out = s.out ++ [.mailbox h (.refused "INVALID_INPUT")] ∧
      { t with ports := s.ports, out := s.out, pmu := s.pmu } = s) := by
  have hpending {t : State} (ht : Counted s t) : (t.port h).offer = some o := by rw [ht.port, ho]
  have hlapses {t : State} (ht : Counted s t) (r : Reply) : (((t.lapseOffer h).mbxReply h r).port h).offer = none ∧ ((t.lapseOffer h).mbxReply h r).csr = s.csr ∧
      ((t.lapseOffer h).mbxReply h r).out = s.out ++ [.mailbox h r] ∧ { (t.lapseOffer h).mbxReply h r with ports := s.ports, out := s.out, pmu := s.pmu } = s := by
    obtain ⟨hport, hrest⟩ := ht.lapseReply hs.up r
    exact ⟨congrArg Port.offer hport, hrest⟩
  refine ⟨fun hfits hb hd hz _ => ?_, ?_, ?_⟩
  · obtain ⟨t, ht, hexec⟩ := hs.addResponse .whole
    have hfits' : t.offerFits h o = true := by
      have hf := congrArg (fun x : State => x.offerFits h o) ht
      exact hf.trans hfits
    refine ⟨_, hexec, ?_⟩
    simp only [State.answerOffer, hpending ht, hfits', if_true]
    exact ht.acceptReply hs.up hb hd hz
  · obtain ⟨t, ht, hexec⟩ := hs.addResponse .refuse
    refine ⟨_, hexec, ?_⟩
    simp only [State.answerOffer, hpending ht]
    exact hlapses ht .ok
  · obtain ⟨t, ht, hexec⟩ := hs.addResponse .partly
    refine ⟨_, hexec, ?_⟩
    simp only [State.answerOffer, hpending ht]
    exact hlapses ht (.refused "INVALID_INPUT")

theorem State.addResponse_none {s : State} {h : Head} (hs : MailboxServes s h) (a : OfferAnswer) (ho : (s.port h).offer = none) :
    Gives (.addDynamicCapacityResponse h a) s fun t => t.out = s.out ++ [.mailbox h (.refused "INVALID_INPUT")] ∧ { t with out := s.out, pmu := s.pmu } = s := by
  obtain ⟨t, ht, hexec⟩ := hs.addResponse a
  refine ⟨_, hexec, ?_⟩
  have hnone : (t.port h).offer = none := by rw [ht.port, ho]
  simp only [State.answerOffer, hnone]
  exact ht.reply hs.up _

/-! ## Release (R115) -/

/-- The command by which one range of a release is committed. -/
def State.releaseCmd (s : State) (h : Head) (x : BitVec 46 × BitVec 46) : Cmd :=
  { s.newCmd none h (releaseDesc x.1.toNat x.2.toNat) 0 false with phase := .running, status := 0 }

/-- One internal command for each range of a list. -/
theorem State.foldl_releaseCmd (h : Head) (rs : List (BitVec 46 × BitVec 46)) (s : State) :
    (rs.foldl (fun s x => s.addCmd (s.releaseCmd h x)) s).cmd.cmds.length = s.cmd.cmds.length + rs.length ∧
    s.cmd.cmds <+: (rs.foldl (fun s x => s.addCmd (s.releaseCmd h x)) s).cmd.cmds ∧ { rs.foldl (fun s x => s.addCmd (s.releaseCmd h x)) s with cmd := s.cmd } = s := by
  induction rs generalizing s with
  | nil => exact ⟨rfl, List.prefix_rfl, rfl⟩
  | cons x rs ih =>
    obtain ⟨hlen, hpre, hframe⟩ := ih (s.addCmd (s.releaseCmd h x))
    have hadd : (s.addCmd (s.releaseCmd h x)).cmd.cmds = s.cmd.cmds ++ [s.releaseCmd h x] := rfl
    rw [hadd] at hlen hpre
    rw [List.foldl_cons]
    refine ⟨?_, (List.prefix_append ..).trans hpre, congrArg (fun x : State => { x with cmd := s.cmd }) hframe⟩
    rw [hlen, List.length_append, List.length_singleton, List.length_cons]
    omega

/-- A background operation begun over a link that is up. -/
theorem Counted.beginBackground {s t : State} (ht : Counted s t) {h : Head} (hup : (s.port h).up = true) (op : Nat) :
    ((t.beginBackground h op).port h).bg = some ⟨true, op, 0⟩ ∧ (t.beginBackground h op).cmd = s.cmd ∧ (t.beginBackground h op).out = s.out ++ [.mailbox h .started] ∧
    { t.beginBackground h op with ports := s.ports, out := s.out, pmu := s.pmu } = s := by
  have hport : (t.updPort h fun p => { p with bg := some ⟨true, op, 0⟩ }).port h = { s.port h with bg := some ⟨true, op, 0⟩ } := by
    rw [State.port_updPort_self, ht.port]
  rw [State.beginBackground, State.mbxReply_up (by rw [hport]; exact hup)]
  exact ⟨congrArg Port.bg hport, ht.cmd, congrArg (· ++ [Msg.mailbox h .started]) ht.out, congrArg (fun x : State => { x with ports := s.ports, out := s.out }) ht⟩

/-- What a release does on a served mailbox. -/
def State.release (s : State) (h : Head) (rs : List (BitVec 46 × BitVec 46)) : State :=
  if s.bgBusy h then s.mbxReply h (.refused "BUSY")
  else if rs.isEmpty || !rs.all (s.wholeExtent h) || distinct rs != rs then s.mbxReply h (.refused "INVALID_INPUT")
  else rs.foldl (fun s x => s.addCmd (s.releaseCmd h x)) (s.beginBackground h 0x4803)

section
variable {s : State} {h : Head} (hs : MailboxServes s h) (rs : List (BitVec 46 × BitVec 46))
include hs

/-- A release runs on a state that differs in counters, in which the same extents are whole and the same operation runs. -/
theorem MailboxServes.release : ∃ t, Counted s t ∧ exec (.releaseDynamicCapacity h rs) s = .next (t.release h rs) ∧ t.bgBusy h = s.bgBusy h ∧
    ∀ x, t.wholeExtent h x = s.wholeExtent h x := by
  obtain ⟨t, ht, hrun⟩ := hs.runs (.releaseDynamicCapacity h rs)
  refine ⟨t, ht, congrArg Host.Outcome.next (hrun fun s => s.release h rs), ?_, fun x => ?_⟩
  · rw [State.bgBusy, State.bgBusy, ht.port]
  · have hw := congrArg (fun y : State => y.wholeExtent h x) ht
    exact hw

theorem State.release_whole (hidle : s.bgBusy h = false) (hne : rs ≠ []) (hwhole : ∀ x ∈ rs, s.wholeExtent h x = true) (hdistinct : distinct rs = rs) :
    Gives (.releaseDynamicCapacity h rs) s fun t => (t.port h).bg = some ⟨true, 0x4803, 0⟩ ∧ t.cmd.cmds.length = s.cmd.cmds.length + rs.length ∧
      s.cmd.cmds <+: t.cmd.cmds ∧ t.out = s.out ++ [.mailbox h .started] ∧ { t with cmd := s.cmd, ports := s.ports, out := s.out, pmu := s.pmu } = s := by
  obtain ⟨t, ht, hexec, hbusy, hext⟩ := hs.release rs
  have hlist : (rs.isEmpty || !rs.all (t.wholeExtent h) || distinct rs != rs) = false := by
    have hall : rs.all (t.wholeExtent h) = true := List.all_eq_true.2 fun x hx => (hext x).trans (hwhole x hx)
    simp [hne, hall, hdistinct]
  refine ⟨_, hexec, ?_⟩
  rw [State.release, hbusy, hidle, hlist, if_neg Bool.false_ne_true, if_neg Bool.false_ne_true]
  obtain ⟨hbg, hcmd, hout, hbegun⟩ := ht.beginBackground hs.up 0x4803
  obtain ⟨hlen, hpre, hframe⟩ := State.foldl_releaseCmd h rs (t.beginBackground h 0x4803)
  have hports := congrArg State.ports hframe
  have hout' := congrArg State.out hframe
  rw [hcmd] at hlen hpre
  refine ⟨(congrArg Port.bg (State.port_congr hports h)).trans hbg, hlen, hpre, hout'.trans hout, ?_⟩
  exact (congrArg (fun x : State => { x with cmd := s.cmd, ports := s.ports, out := s.out, pmu := s.pmu }) hframe).trans (congrArg (fun x : State => { x with cmd := s.cmd }) hbegun)

theorem State.release_invalid (hidle : s.bgBusy h = false) (hbad : rs = [] ∨ ∃ x ∈ rs, s.wholeExtent h x = false) :
    Gives (.releaseDynamicCapacity h rs) s fun t => t.out = s.out ++ [.mailbox h (.refused "INVALID_INPUT")] ∧ { t with out := s.out, pmu := s.pmu } = s := by
  obtain ⟨t, ht, hexec, hbusy, hext⟩ := hs.release rs
  have hlist : (rs.isEmpty || !rs.all (t.wholeExtent h) || distinct rs != rs) = true := by
    rcases hbad with rfl | ⟨x, hx, hpart⟩
    · rfl
    · have hall : rs.all (t.wholeExtent h) = false := List.all_eq_false.2 ⟨x, hx, by simp [hext, hpart]⟩
      simp [hall]
  refine ⟨_, hexec, ?_⟩
  rw [State.release, hbusy, hidle, hlist, if_neg Bool.false_ne_true, if_pos rfl]
  exact ht.reply hs.up _

theorem State.release_busy (hrun : s.bgBusy h = true) :
    Gives (.releaseDynamicCapacity h rs) s fun t => t.out = s.out ++ [.mailbox h (.refused "BUSY")] ∧ { t with out := s.out, pmu := s.pmu } = s := by
  obtain ⟨t, ht, hexec, hbusy, -⟩ := hs.release rs
  refine ⟨_, hexec, ?_⟩
  rw [State.release, hbusy, hrun, if_pos rfl]
  exact ht.reply hs.up _

end

/-! ## Execute Descriptor (R349, R354) -/

/-- The command that a mailbox makes of a descriptor. -/
def State.mbxCmd (s : State) (h : Head) (d : LineData) : Cmd := s.newCmd none h d 0 false

/-- It has no ring, and it has ended with the status of the check that it fails, or waits to start. -/
theorem State.mbxCmd_fields (s : State) (h : Head) (d : LineData) : (s.mbxCmd h d).desc = d ∧ (s.mbxCmd h d).sq = none ∧ (s.mbxCmd h d).head = h ∧
    (∀ st, s.fetchFails h d true = some st → (s.mbxCmd h d).phase = .ended ∧ (s.mbxCmd h d).status = st) ∧
    (s.fetchFails h d true = none → (s.mbxCmd h d).phase = .fetched) := by
  have hphase : (s.mbxCmd h d).phase = if (s.fetchFails h d true).isSome then .ended else .fetched := rfl
  have hstatus : (s.mbxCmd h d).status = (s.fetchFails h d true).getD 0 := rfl
  refine ⟨rfl, rfl, rfl, fun st hst => ?_, fun hst => ?_⟩
  · rw [hphase, hstatus, hst]
    exact ⟨rfl, rfl⟩
  · rw [hphase, hst]
    rfl

/-- What a descriptor does on a served mailbox. -/
def State.execDesc (s : State) (h : Head) (d : LineData) : State :=
  if dSteps d && (s.mbxCmd h d).phase == .fetched then
    if s.bgBusy h then s.mbxReply h (.refused "BUSY") else (s.beginBackground h 0xC000).addCmd (s.mbxCmd h d)
  else s.addCmd (s.mbxCmd h d)

section
variable {s : State} {h : Head} (hs : MailboxServes s h) (d : LineData)
include hs

theorem MailboxServes.execDesc : ∃ t, Counted s t ∧ exec (.executeDescriptor h d) s = .next (t.execDesc h d) ∧ t.bgBusy h = s.bgBusy h ∧ t.mbxCmd h d = s.mbxCmd h d := by
  obtain ⟨t, ht, hrun⟩ := hs.runs (.executeDescriptor h d)
  refine ⟨t, ht, congrArg Host.Outcome.next (hrun fun s => s.execDesc h d), ?_, ?_⟩
  · rw [State.bgBusy, State.bgBusy, ht.port]
  · have hc := congrArg (fun y : State => y.mbxCmd h d) ht
    exact hc

theorem State.executeDescriptor_short (hshort : dSteps d = false ∨ (s.fetchFails h d true).isSome = true) : Gives (.executeDescriptor h d) s fun t =>
    ∃ c, t.cmd = { s.cmd with cmds := s.cmd.cmds ++ [c], nextCmd := s.cmd.nextCmd + 1 } ∧ c.desc = d ∧ c.sq = none ∧ c.head = h ∧
      (∀ st, s.fetchFails h d true = some st → c.phase = .ended ∧ c.status = st) ∧ (s.fetchFails h d true = none → c.phase = .fetched) ∧ { t with cmd := s.cmd, pmu := s.pmu } = s := by
  obtain ⟨t, ht, hexec, -, hcmd⟩ := hs.execDesc d
  obtain ⟨hdesc, hsq, hhead, hended, hfetched⟩ := s.mbxCmd_fields h d
  have hcond : (dSteps d && (s.mbxCmd h d).phase == .fetched) = false := by
    rcases hshort with hd | hf
    · simp [hd]
    · obtain ⟨st, hst⟩ := Option.isSome_iff_exists.1 hf
      simp [(hended st hst).1]
  refine ⟨_, hexec, s.mbxCmd h d, ?_⟩
  rw [State.execDesc, hcmd, hcond, if_neg Bool.false_ne_true]
  refine ⟨?_, hdesc, hsq, hhead, hended, hfetched, congrArg (fun x : State => { x with cmd := s.cmd }) ht⟩
  rw [← ht.cmd]
  rfl

section
variable (hsteps : dSteps d = true) (hpass : s.fetchFails h d true = none)
include hsteps hpass

omit hs in
theorem State.mbxCmd_steps : (dSteps d && (s.mbxCmd h d).phase == .fetched) = true := by
  obtain ⟨-, -, -, -, hfetched⟩ := s.mbxCmd_fields h d
  simp [hsteps, hfetched hpass]

omit hs hsteps hpass in
/-- A command added to a state that differs from `s` in ports, messages and counters. -/
theorem State.addCmd_framed {t : State} (hkept : t.cmd = s.cmd) (hframe : { t with ports := s.ports, out := s.out, pmu := s.pmu } = s) (c : Cmd) :
    (t.addCmd c).cmd = { s.cmd with cmds := s.cmd.cmds ++ [c], nextCmd := s.cmd.nextCmd + 1 } ∧ (t.addCmd c).port h = t.port h ∧ (t.addCmd c).out = t.out ∧
    { t.addCmd c with cmd := s.cmd, ports := s.ports, out := s.out, pmu := s.pmu } = s :=
  ⟨hkept ▸ rfl, rfl, rfl, congrArg (fun x : State => { x with cmd := s.cmd }) hframe⟩

theorem State.executeDescriptor_background (hidle : s.bgBusy h = false) : Gives (.executeDescriptor h d) s fun t =>
    (∃ c, t.cmd = { s.cmd with cmds := s.cmd.cmds ++ [c], nextCmd := s.cmd.nextCmd + 1 } ∧ c.desc = d ∧ c.sq = none ∧ c.head = h ∧ c.phase = .fetched) ∧
    (t.port h).bg = some ⟨true, 0xC000, 0⟩ ∧ t.out = s.out ++ [.mailbox h .started] ∧ { t with cmd := s.cmd, ports := s.ports, out := s.out, pmu := s.pmu } = s := by
  obtain ⟨t, ht, hexec, hbusy, hcmd⟩ := hs.execDesc d
  obtain ⟨hdesc, hsq, hhead, -, hfetched⟩ := s.mbxCmd_fields h d
  obtain ⟨hbg, hkept, hout, hframe⟩ := ht.beginBackground hs.up 0xC000
  refine ⟨_, hexec, ?_⟩
  rw [State.execDesc, hcmd, State.mbxCmd_steps d hsteps hpass, if_pos rfl, hbusy, hidle, if_neg Bool.false_ne_true]
  obtain ⟨hadd, hport, hmsgs, hrest⟩ := State.addCmd_framed (h := h) hkept hframe (s.mbxCmd h d)
  exact ⟨⟨s.mbxCmd h d, hadd, hdesc, hsq, hhead, hfetched hpass⟩, (congrArg Port.bg hport).trans hbg, hmsgs.trans hout, hrest⟩

theorem State.executeDescriptor_busy (hrun : s.bgBusy h = true) : Gives (.executeDescriptor h d) s fun t =>
    t.out = s.out ++ [.mailbox h (.refused "BUSY")] ∧ { t with out := s.out, pmu := s.pmu } = s := by
  obtain ⟨t, ht, hexec, hbusy, hcmd⟩ := hs.execDesc d
  refine ⟨_, hexec, ?_⟩
  rw [State.execDesc, hcmd, State.mbxCmd_steps d hsteps hpass, if_pos rfl, hbusy, hrun, if_pos rfl]
  exact ht.reply hs.up _

end

end

/-- Settles O30: each command runs on the state with itself counted, by the offer that is pending, the list that is released, or the descriptor's checks. -/
theorem mailboxDynamicCapacity : Obligations.MailboxDynamicCapacity := by
  refine ⟨fun s h hs => ⟨fun o ho => State.addResponse_gives hs ho, fun a ho => State.addResponse_none hs a ho, fun rs => ?_⟩, fun s h d hs => ?_⟩
  · exact ⟨State.release_whole hs rs, State.release_invalid hs rs, State.release_busy hs rs⟩
  · exact ⟨State.executeDescriptor_short hs d, State.executeDescriptor_background hs d, State.executeDescriptor_busy hs d⟩

end Sys2Proof.Machine
end

section
/-! PROOFS. Rails that stay away, lost clocks, and memory ready (R102, R104, R208, R305, R431, R461, R464). -/

namespace Sys2Proof.Machine

/-! ## The Pannier's flash (R422) -/

/-- The records that stand in the Pannier's flash. -/
def State.flash (s : State) : Tbl PanSlot × Tbl PanSlot := (s.pan.ring, s.pan.pinned)

theorem State.panStart_flash (s : State) : s.panStart.flash = s.flash := by
  unfold State.panStart
  split
  · rfl
  · split
    · rfl
    · dsimp only
      split <;> split <;> rfl

theorem State.panPut_flash (s : State) (r : PanRec) : (s.panPut r).flash = s.flash := State.panStart_flash _

theorem State.dropReport_flash (s : State) : s.dropReport.flash = s.flash := by
  unfold State.dropReport
  split
  · exact State.panPut_flash _ _
  · rfl

/-- A record that enters the queue is not yet in flash. -/
theorem State.panEnter_flash (s : State) (r : PanRec) : (s.panEnter r).flash = s.flash := by
  have hdropped : (s.panDrop r).dropReport.flash = s.flash := State.dropReport_flash _
  unfold State.panEnter
  split
  · rfl
  · dsimp only
    split
    · split
      · exact s.panPut_flash r
      · exact hdropped
    · split
      · exact hdropped
      · exact State.panPut_flash _ r

theorem State.railNotGood_gives {s : State} (r : Rail) (hkick : s.aon.kick = true) (hpg : s.hsw.pg = true) (hrails : s.aon.rails = false) :
    Gives (.railNotGoodTimeout r) s fun t => t.pan.ring = s.pan.ring ∧ t.pan.pinned = s.pan.pinned ∧ { t with pan := s.pan, csr := s.csr, pmu := s.pmu } = s := by
  have hexec : exec (.railNotGoodTimeout r) s = execRailNotGoodTimeout r s := rfl
  have hgo : (!s.aon.kick || !s.hsw.pg || s.aon.rails) = false := by rw [hkick, hpg, hrails]; rfl
  have hflash := s.panEnter_flash (s.panRec 0 0 0 (Config.panEvent .railNotGood) 2 0 0 0x750000 false ([BitVec.ofNat 8 (railNo r)] ++ leBytes 4 0))
  obtain ⟨hring, hpinned⟩ := Prod.mk.inj hflash
  rw [execRailNotGoodTimeout, hgo, if_neg Bool.false_ne_true] at hexec
  exact ⟨_, hexec, hring, hpinned, s.panEnter_frame _⟩

/-! ## Clocks (R464) -/

theorem State.xtalStarted_gives {s : State} (hkick : s.aon.kick = true) : exec .xtalStarted s = .next { s with aon := { s.aon with xtal := true } } := by
  have hexec : exec .xtalStarted s = execXtalStarted s := rfl
  rw [hexec, execXtalStarted, hkick]
  rfl

/-- The state with XTAL lost. -/
def State.xtalLost (s : State) : State := { s with aon := { s.aon with xtal := false } }

/-- An event record on the owner head, where the main domains run. -/
def State.ownerTold (s : State) (c : Cause) : State := if s.mainRuns then s.event [s.owner] .warning c 0 else s

theorem State.ownerTold_noted (s : State) (c : Cause) : Noted s (s.ownerTold c) := by
  unfold State.ownerTold
  split
  · exact (State.event_noted ..).1
  · exact .refl s

theorem State.xtalLoss_exec {s : State} (hkick : s.aon.kick = true) (hx : s.aon.xtal = true) :
    exec .xtalLoss s = .next ((s.xtalLost.ownerTold .xtalLoss).pannier 0 0 0 .xtalLoss 1 0 0 0x750000 (s.xtalLost.ownerTold .xtalLoss).mainRuns) := by
  have hexec : exec .xtalLoss s = execXtalLoss s := rfl
  have hgo : (!s.aon.kick || !s.aon.xtal) = false := by rw [hkick, hx]; rfl
  rw [hexec, execXtalLoss, hgo, if_neg Bool.false_ne_true]
  rfl

theorem State.xtalLoss_gives {s : State} (hkick : s.aon.kick = true) (hx : s.aon.xtal = true) :
    Gives .xtalLoss s fun t => t.aon.xtal = false ∧ Noted { s with aon := { s.aon with xtal := false } } t := by
  have hnoted : Noted s.xtalLost _ := (s.xtalLost.ownerTold_noted .xtalLoss).trans (State.pannier_noted _ 0 0 0 .xtalLoss 1 0 0 0x750000 (s.xtalLost.ownerTold .xtalLoss).mainRuns)
  have haon := congrArg State.aon hnoted.1
  exact ⟨_, State.xtalLoss_exec hkick hx, congrArg Aon.xtal haon, hnoted⟩

/-! ## Every channel lost (R280, R464) -/

/-- What follows in the channels from a channel's entry into FAILED. -/
structure FailedAlone (s t : State) (c : Chan) : Prop where
  failed : (t.chan c).st = .failed
  others : ∀ d, d ≠ c → t.chan d = s.chan d

theorem State.failChan_failed (s : State) (c : Chan) (cause : FailCause) : FailedAlone s (s.failChan c cause) c := by
  unfold State.failChan
  split
  · rename_i h
    exact ⟨eq_of_beq h, fun d _ => rfl⟩
  · extract_lets failed bit told reported off noted
    have hreported : Noted bit reported := (State.event_noted bit.heads .failure .channelFailed c.val false none bit).1.trans (State.pannier_noted ..)
    have hkept := congrArg State.chans hreported.1
    have hchans : noted.chans = failed.chans := hkept
    have hfailed : FailedAlone s noted c := by
      refine ⟨?_, fun d hd => ?_⟩
      · rw [State.chan_congr hchans, State.chan_updChan_self]
      · rw [State.chan_congr hchans, State.chan_updChan, if_neg hd]
    split
    · exact ⟨hfailed.failed, hfailed.others⟩
    · exact hfailed

/-- A channel once FAILED stays so while others fail. -/
theorem FailedAlone.stays {s t : State} {c d : Chan} (h : FailedAlone s t c) (hd : (s.chan d).st = .failed) : (t.chan d).st = .failed := by
  by_cases hdc : d = c
  · rw [hdc]
    exact h.failed
  · rw [h.others d hdc]
    exact hd

theorem State.foldl_failChan (cause : FailCause) (cs : List Chan) (s : State) :
    (∀ d, d ∈ cs ∨ (s.chan d).st = .failed → ((cs.foldl (fun s c => s.failChan c cause) s).chan d).st = .failed) ∧
    (∀ d, d ∉ cs → (cs.foldl (fun s c => s.failChan c cause) s).chan d = s.chan d) ∧ Mends s (cs.foldl (fun s c => s.failChan c cause) s) := by
  induction cs generalizing s with
  | nil => exact ⟨fun d hd => hd.resolve_left List.not_mem_nil, fun d _ => rfl, .refl s⟩
  | cons c cs ih =>
    obtain ⟨hfailed, hothers, hmends⟩ := ih (s.failChan c cause)
    have hc := s.failChan_failed c cause
    refine ⟨fun d hd => hfailed d ?_, fun d hd => ?_, (s.failChan_mends c cause).trans hmends⟩
    · rcases hd with hd | hd
      · rcases List.mem_cons.1 hd with rfl | hd
        · exact .inr hc.failed
        · exact .inl hd
      · exact .inr (hc.stays hd)
    · have hne : d ≠ c := fun h => hd (h ▸ List.mem_cons_self ..)
      have hnot : d ∉ cs := fun h => hd (List.mem_cons_of_mem _ h)
      exact (hothers d hnot).trans (hc.others d hne)

theorem State.dramRefclkLoss_gives {s : State} (hrun : s.mainRuns = true) : Gives .dramRefclkLoss s fun t =>
    (∀ c ∈ s.cap.chans, (t.chan c).st = .failed) ∧ (∀ c, c ∉ s.cap.chans → t.chan c = s.chan c) ∧ DataKept s t := by
  have hexec : exec .dramRefclkLoss s = execDramRefclkLoss s := rfl
  rw [execDramRefclkLoss, hrun] at hexec
  obtain ⟨hfailed, hothers, hmends⟩ := s.foldl_failChan .refclk s.cap.chans
  exact ⟨_, hexec, fun c hc => hfailed c (.inl hc), hothers, hmends.kept.1⟩

/-! ## The keys of a start (R305) -/

/-- A draw from the DRBG changes its state and the free values. -/
theorem State.draw_kept (s : State) : s.draw.2.cry.slots = s.cry.slots ∧ { s.draw.2 with cry := s.cry, free := s.free } = s := ⟨rfl, rfl⟩

/-- A reseed changes the DRBG's state, the free values and a count. -/
theorem State.reseed_kept (s : State) : s.reseed.cry.slots = s.cry.slots ∧ { s.reseed with cry := s.cry, free := s.free, pmu := s.pmu } = s := by
  unfold State.reseed
  generalize hu : State.takeFree { s with cry := { s.cry with drbgReqs := 0, drbgAt := s.now, drbgState := Config.drbg s.free } } = u
  have hframe := u.count_frame 12 20 1 none
  have hslots : u.cry.slots = s.cry.slots := by rw [← hu]; rfl
  have hdrbg : { u with cry := s.cry, free := s.free } = s := by rw [← hu]; rfl
  have hcry := congrArg State.cry hframe
  refine ⟨(congrArg Cry.slots hcry).trans hslots, ?_⟩
  exact (congrArg (fun x : State => { x with cry := s.cry, free := s.free, pmu := s.pmu }) hframe).trans (congrArg (fun x : State => { x with pmu := s.pmu }) hdrbg)

/-- `t` is `s` with values drawn from the DRBG, and other slots. -/
def Keyed (s t : State) : Prop := { t with cry := s.cry, free := s.free, pmu := s.pmu } = s

theorem Keyed.trans {s t u : State} (h1 : Keyed s t) (h2 : Keyed t u) : Keyed s u := by
  have h := congrArg (fun x : State => { x with cry := s.cry, free := s.free, pmu := s.pmu }) h2
  exact Eq.trans h h1

theorem State.draw_keyed (s : State) : Keyed s s.draw.2 := rfl

theorem State.setSlot_keyed (s : State) (k : Nat) (x : KeySlot) : Keyed s (s.setSlot k x) := rfl

theorem State.keySlot_setSlot (s : State) (k j : Nat) (x : KeySlot) : (s.setSlot k x).keySlot j = if j = k then x else s.keySlot j :=
  Tbl.get_set KeySlot.empty s.cry.slots k j x

/-- A slot generated into is ACTIVE, and the others stay (R299). -/
theorem State.generateInto_gives (s : State) (k : Nat) : ((s.generateInto k).keySlot k).st = .active ∧ ((s.generateInto k).keySlot k).imported = false ∧
    (∀ j, j ≠ k → (s.generateInto k).keySlot j = s.keySlot j) ∧ Keyed s (s.generateInto k) := by
  have heq : s.generateInto k = s.reseed.draw.2.draw.2.setSlot k ⟨.active, false, s.reseed.draw.1, s.reseed.draw.2.draw.1⟩ := rfl
  have hslots : s.reseed.draw.2.draw.2.cry.slots = s.cry.slots := ((State.draw_kept _).1.trans (State.draw_kept _).1).trans s.reseed_kept.1
  have hkeyed : Keyed s s.reseed.draw.2.draw.2 := (Keyed.trans s.reseed_kept.2 (State.draw_keyed _)).trans (State.draw_keyed _)
  rw [heq]
  generalize s.reseed.draw.2.draw.2 = u, s.reseed.draw.1 = a, s.reseed.draw.2.draw.1 = b at *
  have hslot (j : Nat) : (u.setSlot k ⟨.active, false, a, b⟩).keySlot j = if j = k then ⟨.active, false, a, b⟩ else u.keySlot j := u.keySlot_setSlot ..
  refine ⟨by rw [hslot, if_pos rfl], by rw [hslot, if_pos rfl], fun j hj => ?_, hkeyed.trans (u.setSlot_keyed _ _)⟩
  rw [hslot, if_neg hj, State.keySlot, State.keySlot, hslots]

/-- Every key slot EMPTY, then slot 0 generated. -/
def State.firstSlot (s : State) : State := State.generateInto { s with cry := { s.cry with slots := [] } } 0

theorem State.makeKeys_eq (s : State) : s.makeKeys = { s.firstSlot.reseed.draw.2 with cry := { s.firstSlot.reseed.draw.2.cry with metaKey := some s.firstSlot.reseed.draw.1 } } := rfl

theorem State.firstSlot_gives (s : State) : (s.firstSlot.keySlot 0).st = .active ∧ (s.firstSlot.keySlot 0).imported = false ∧ (∀ k, k ≠ 0 → s.firstSlot.keySlot k = KeySlot.empty) ∧
    Keyed s s.firstSlot := by
  obtain ⟨hactive, himported, hothers, hkeyed⟩ := State.generateInto_gives { s with cry := { s.cry with slots := [] } } 0
  exact ⟨hactive, himported, hothers, Keyed.trans (t := { s with cry := { s.cry with slots := [] } }) rfl hkeyed⟩

theorem State.makeKeys_gives (s : State) : (s.makeKeys.keySlot 0).st = .active ∧ (s.makeKeys.keySlot 0).imported = false ∧ (∀ k, k ≠ 0 → s.makeKeys.keySlot k = KeySlot.empty) ∧
    s.makeKeys.cry.metaKey.isSome = true ∧ Keyed s s.makeKeys := by
  obtain ⟨hactive, himported, hothers, hkeyed⟩ := s.firstSlot_gives
  rw [s.makeKeys_eq]
  generalize s.firstSlot = g at *
  have hslots : g.reseed.draw.2.cry.slots = g.cry.slots := (State.draw_kept _).1.trans g.reseed_kept.1
  have hdrawn : Keyed g g.reseed.draw.2 := Keyed.trans g.reseed_kept.2 (State.draw_keyed _)
  generalize g.reseed.draw.2 = u, g.reseed.draw.1 = k at *
  have hslot (j : Nat) : ({ u with cry := { u.cry with metaKey := some k } } : State).keySlot j = g.keySlot j := by
    rw [State.keySlot, State.keySlot]
    exact congrArg (fun x => Tbl.get KeySlot.empty x j) hslots
  refine ⟨by rw [hslot]; exact hactive, by rw [hslot]; exact himported, fun j hj => by rw [hslot]; exact hothers j hj, rfl, ?_⟩
  exact (hkeyed.trans hdrawn).trans rfl

/-! ## Memory ready (R102, R104, R208, R431) -/

theorem State.makeCapacity_gives (s : State) : s.makeCapacity.cap.usable = 4096 * firmUnitsOf s.lean s.cap.rawMib s.cap.dirMib s.w ∧
    { s.makeCapacity with cap := s.cap, csr := s.csr } = s := ⟨Nat.mul_comm _ _, rfl⟩

/-- The static region of the `i`-th head, of `share` units. -/
def State.giveRegion (share : Nat) (s : State) (i : Nat) : State :=
  match s.heads[i]? with
  | none => s
  | some h => s.writeEntry h 0 0 (BitVec.ofNat 32 (i * share)) (BitVec.ofNat 32 share) (ctlWord 0 0 false false true)

/-- The equal share of the firm capacity, in units of 2 MiB. -/
def State.headShare (s : State) : Nat := if s.heads.length = 0 then 0 else s.f Reg.XLT_CAP_FIRM.FIRM_2M * 2 / s.heads.length / 256 * 128

theorem State.defaultRegions_eq (s : State) : s.defaultRegions = if s.headShare = 0 then s else (List.range s.heads.length).foldl (State.giveRegion s.headShare) s := rfl

theorem State.giveRegion_frame (share : Nat) (s : State) (i : Nat) : { s.giveRegion share i with csr := s.csr } = s := by
  cases hi : s.heads[i]? with
  | none => rw [State.giveRegion, hi]
  | some h =>
    rw [State.giveRegion, hi]
    exact s.writeEntry_frame h 0 _ _ _ _

/-- The static regions are words of the region tables. -/
theorem State.defaultRegions_frame (s : State) : { s.defaultRegions with csr := s.csr } = s := by
  have hfold (share : Nat) (is : List Nat) (s : State) : { is.foldl (State.giveRegion share) s with csr := s.csr } = s := by
    induction is generalizing s with
    | nil => rfl
    | cons i is ih => exact (congrArg (fun x : State => { x with csr := s.csr }) (ih (s.giveRegion share i))).trans (s.giveRegion_frame share i)
  rw [State.defaultRegions_eq]
  split
  · rfl
  · exact hfold _ _ s

/-- Memory_Active set on a head whose link is up (R208). -/
def State.advertise (s : State) (h : Head) : State := if (s.port h).up then s.updPort h fun p => { p with memActive := true } else s

theorem State.advertise_port (s : State) (h g : Head) : (s.advertise h).port g = if g = h ∧ (s.port h).up = true then { s.port h with memActive := true } else s.port g := by
  unfold State.advertise
  by_cases hup : (s.port h).up = true
  · simp [hup, State.port_updPort]
  · simp [hup]

theorem State.advertise_frame (s : State) (h : Head) : { s.advertise h with ports := s.ports } = s := by
  unfold State.advertise
  split <;> rfl

/-- Memory_Active set on every head of a list whose link is up. -/
theorem State.foldl_advertise (hs : List Head) (s : State) :
    (∀ h, (s.port h).up = true → h ∈ hs ∨ (s.port h).memActive = true → ((hs.foldl State.advertise s).port h).memActive = true) ∧
    (∀ h, (s.port h).up = false → (hs.foldl State.advertise s).port h = s.port h) ∧ { hs.foldl State.advertise s with ports := s.ports } = s := by
  induction hs generalizing s with
  | nil => exact ⟨fun h _ hm => hm.resolve_left List.not_mem_nil, fun h _ => rfl, rfl⟩
  | cons g hs ih =>
    obtain ⟨hactive, hdown, hframe⟩ := ih (s.advertise g)
    have hup (h : Head) : ((s.advertise g).port h).up = (s.port h).up := by
      rw [State.advertise_port]
      split
      · rename_i hg
        rw [hg.1]
      · rfl
    refine ⟨fun h hh hm => hactive h (by rw [hup]; exact hh) ?_, fun h hh => ?_, ?_⟩
    · rw [State.advertise_port]
      rcases hm with hm | hm
      · rcases List.mem_cons.1 hm with rfl | hm
        · exact .inr (by rw [if_pos ⟨rfl, hh⟩])
        · exact .inl hm
      · right
        split
        · rfl
        · exact hm
    · rw [List.foldl_cons, hdown h (by rw [hup]; exact hh), State.advertise_port, if_neg]
      rintro ⟨rfl, hg⟩
      rw [hh] at hg
      exact Bool.false_ne_true hg
    · exact (congrArg (fun x : State => { x with ports := s.ports }) hframe).trans (s.advertise_frame g)

/-- READY is no field of the capacity report. -/
theorem State.capReport_ready (s : State) : s.capReport.fb Reg.XLT_STATUS.READY = s.fb Reg.XLT_STATUS.READY := by
  unfold State.capReport
  rw [State.fb_setF _ _ _ _ (by decide) (by decide) (by decide), if_neg (by decide), State.fb_setF _ _ _ _ (by decide) (by decide) (by decide), if_neg (by decide),
    State.fb_setF _ _ _ _ (by decide) (by decide) (by decide), if_neg (by decide)]

/-- The state at the ready point, before memory is advertised. -/
def State.readied (s : State) : State :=
  (State.flag { s with aon := { s.aon with boot := .ready }, drl := { s.drl with lapStart := s.now }, trm := { s.trm with lapStart := s.now } } Reg.XLT_STATUS.READY).capReport

theorem State.readied_gives (s : State) : s.readied.aon.boot = .ready ∧ s.readied.fb Reg.XLT_STATUS.READY = true ∧
    { s.readied with aon := s.aon, drl := s.drl, trm := s.trm, csr := s.csr } = s := by
  unfold State.readied
  generalize hu : State.flag { s with aon := { s.aon with boot := .ready }, drl := { s.drl with lapStart := s.now }, trm := { s.trm with lapStart := s.now } } Reg.XLT_STATUS.READY = u
  have hready : u.fb Reg.XLT_STATUS.READY = true := by rw [← hu]; exact State.fb_flag_self _ _ (by decide) (by decide)
  have hboot : u.aon.boot = .ready := by rw [← hu]; rfl
  have hrest : { u with aon := s.aon, drl := s.drl, trm := s.trm, csr := s.csr } = s := by rw [← hu]; rfl
  obtain ⟨hreport, -⟩ := u.capReport_kept
  have haon := congrArg State.aon hreport
  refine ⟨(congrArg Aon.boot haon).trans hboot, u.capReport_ready.trans hready, ?_⟩
  exact (congrArg (fun x : State => { x with aon := s.aon, drl := s.drl, trm := s.trm, csr := s.csr }) hreport).trans hrest

theorem State.readied_heads (s : State) : s.readied.heads = s.heads := by
  unfold State.readied
  generalize hu : State.flag { s with aon := { s.aon with boot := .ready }, drl := { s.drl with lapStart := s.now }, trm := { s.trm with lapStart := s.now } } Reg.XLT_STATUS.READY = u
  have hheads : u.heads = s.heads := by rw [← hu]; rfl
  obtain ⟨hreport, -⟩ := u.capReport_kept
  have h := congrArg State.heads hreport
  exact Eq.trans h hheads

/-- The state in which memory is ready. -/
def State.ready (s : State) : State := s.readied.heads.foldl State.advertise s.readied

theorem State.memoryReady_exec {s : State} (hrun : s.mainRuns = true) (hboot : s.aon.boot = .trained) (hcry : s.cry.st = .operational)
    (hsettled : ∀ c ∈ s.cap.chans, s.chanSettled c = true) : exec .memoryReady s = .next s.makeKeys.makeCapacity.defaultRegions.ready := by
  have hexec : exec .memoryReady s = execMemoryReady s := rfl
  have hall : s.cap.chans.all s.chanSettled = true := List.all_eq_true.2 hsettled
  rw [hexec, execMemoryReady, hrun, hboot, hcry, hall]
  rfl

/-- What the ready point adds to the keys and the capacity. -/
theorem State.ready_gives (s : State) : s.ready.aon.boot = .ready ∧ s.ready.fb Reg.XLT_STATUS.READY = true ∧
    (∀ h ∈ s.heads, (s.port h).up = true → (s.ready.port h).memActive = true) ∧ (∀ h, (s.port h).up = false → s.ready.port h = s.port h) ∧
    { s.ready with aon := s.aon, drl := s.drl, trm := s.trm, csr := s.csr, ports := s.ports } = s := by
  obtain ⟨hboot, hready, hframe⟩ := s.readied_gives
  obtain ⟨hactive, hdown, hports⟩ := s.readied.foldl_advertise s.readied.heads
  have haon := congrArg State.aon hports
  have hcsr := congrArg State.csr hports
  have hport (h : Head) : s.readied.port h = s.port h := State.port_congr (congrArg State.ports hframe) h
  have hheads := s.readied_heads
  unfold State.ready
  generalize s.readied = r at *
  refine ⟨(congrArg Aon.boot haon).trans hboot, (State.fb_congr hcsr _).trans hready, fun h hh hup => hactive h (by rw [hport]; exact hup) (.inl (by rw [hheads]; exact hh)),
    fun h hup => (hdown h (by rw [hport]; exact hup)).trans (hport h), ?_⟩
  exact (congrArg (fun x : State => { x with aon := s.aon, drl := s.drl, trm := s.trm, csr := s.csr, ports := s.ports }) hports).trans
    (congrArg (fun x : State => { x with ports := s.ports }) hframe)

/-- The keys, the capacity and the static regions change nothing else. -/
theorem State.made_gives (s : State) : (∀ k, s.makeKeys.makeCapacity.defaultRegions.keySlot k = s.makeKeys.keySlot k) ∧
    s.makeKeys.makeCapacity.defaultRegions.cry.metaKey = s.makeKeys.cry.metaKey ∧
    s.makeKeys.makeCapacity.defaultRegions.cap.usable = 4096 * firmUnitsOf s.lean s.cap.rawMib s.cap.dirMib s.w ∧
    { s.makeKeys.makeCapacity.defaultRegions with cry := s.cry, free := s.free, pmu := s.pmu, cap := s.cap, csr := s.csr } = s := by
  obtain ⟨-, -, -, -, hkeyed⟩ := s.makeKeys_gives
  obtain ⟨husable, hcap⟩ := s.makeKeys.makeCapacity_gives
  have hregions := s.makeKeys.makeCapacity.defaultRegions_frame
  have hunits : firmUnitsOf s.makeKeys.lean s.makeKeys.cap.rawMib s.makeKeys.cap.dirMib s.makeKeys.w = firmUnitsOf s.lean s.cap.rawMib s.cap.dirMib s.w := by
    have h := congrArg (fun x : State => firmUnitsOf x.lean x.cap.rawMib x.cap.dirMib x.w) hkeyed
    exact h
  have hcry := congrArg State.cry hregions
  have hcapc := congrArg State.cry hcap
  have hcapr := congrArg State.cap hregions
  generalize s.makeKeys.makeCapacity.defaultRegions = r at *
  generalize s.makeKeys.makeCapacity = u at *
  generalize s.makeKeys = m at *
  have hcry' : r.cry = m.cry := hcry.trans hcapc
  refine ⟨fun k => by rw [State.keySlot, State.keySlot, hcry'], congrArg Cry.metaKey hcry', ?_, ?_⟩
  · rw [hcapr, ← hunits]
    exact husable
  · exact ((congrArg (fun x : State => { x with cry := s.cry, free := s.free, pmu := s.pmu, cap := s.cap, csr := s.csr }) hregions).trans
      (congrArg (fun x : State => { x with cry := s.cry, free := s.free, pmu := s.pmu, cap := s.cap, csr := s.csr }) hcap)).trans
      (congrArg (fun x : State => { x with cap := s.cap, csr := s.csr }) hkeyed)

theorem State.memoryReady_gives {s : State} (hrun : s.mainRuns = true) (hboot : s.aon.boot = .trained) (hcry : s.cry.st = .operational)
    (hsettled : ∀ c ∈ s.cap.chans, s.chanSettled c = true) : Gives .memoryReady s fun t =>
      t.aon.boot = .ready ∧ t.fb Reg.XLT_STATUS.READY = true ∧ (t.keySlot 0).st = .active ∧ (t.keySlot 0).imported = false ∧ (∀ k, k ≠ 0 → t.keySlot k = KeySlot.empty) ∧
      t.cry.metaKey.isSome = true ∧ t.cap.usable = 4096 * firmUnitsOf s.lean s.cap.rawMib s.cap.dirMib s.w ∧
      (∀ h ∈ s.heads, (s.port h).up = true → (t.port h).memActive = true) ∧ (∀ h, (s.port h).up = false → t.port h = s.port h) ∧ DataKept s t := by
  obtain ⟨hactive, himported, hothers, hmeta, -⟩ := s.makeKeys_gives
  obtain ⟨hslots, hmeta', husable, hmade⟩ := s.made_gives
  refine ⟨_, State.memoryReady_exec hrun hboot hcry hsettled, ?_⟩
  generalize s.makeKeys.makeCapacity.defaultRegions = m at *
  obtain ⟨hready, hflag, hmem, hdown, hframe⟩ := m.ready_gives
  have hport (h : Head) : m.port h = s.port h := State.port_congr (congrArg State.ports hmade) h
  have hheads : m.heads = s.heads := by
    have hh := congrArg State.heads hmade
    exact hh
  have hcry' := congrArg State.cry hframe
  have hslot (k : Nat) : m.ready.keySlot k = s.makeKeys.keySlot k := by
    rw [← hslots, State.keySlot, State.keySlot]
    exact congrArg (fun x : Cry => x.slots.get KeySlot.empty k) hcry'
  have hcap := congrArg State.cap hframe
  have hdata := congrArg (fun x : State => (x.mem, x.bad, x.nc, x.dir, x.rtk, x.xlt)) hframe
  have hdata' := congrArg (fun x : State => (x.mem, x.bad, x.nc, x.dir, x.rtk, x.xlt)) hmade
  have hall := hdata.trans hdata'
  simp only [Prod.mk.injEq] at hall
  refine ⟨hready, hflag, by rw [hslot]; exact hactive, by rw [hslot]; exact himported, fun k hk => by rw [hslot]; exact hothers k hk, ?_, (congrArg Cap.usable hcap).trans husable, ?_, ?_, hall⟩
  · rw [congrArg Cry.metaKey hcry', hmeta']
    exact hmeta
  · exact fun h hh hup => hmem h (by rw [hheads]; exact hh) (by rw [hport]; exact hup)
  · exact fun h hup => (hdown h (by rw [hport]; exact hup)).trans (hport h)

/-- Settles O50: a lost rail or crystal is recorded, a lost reference clock fails each channel in turn, and the ready point makes the keys, the capacity and the regions. -/
theorem railsClocksAndMemoryReady : Obligations.RailsClocksAndMemoryReady := fun _ =>
  ⟨fun r => State.railNotGood_gives r, State.xtalStarted_gives, State.xtalLoss_gives, State.dramRefclkLoss_gives, State.memoryReady_gives⟩

end Sys2Proof.Machine
end

section
/-! PROOFS. Training of the channels (R102, R234, R237, R238, R281, R282, R317). -/

namespace Sys2Proof.Machine

/-! ## The set of channels (R234, R237) -/

/-- The largest set whose channels satisfy `ok` is the largest for a stricter test that its channels pass. -/
theorem chanSet_stricter {ok bad : Chan → Bool} {cs : List Chan} (h : chanSet ok = some cs) (hgood : ∀ c ∈ cs, bad c = false) :
    chanSet (fun c => ok c && !bad c) = some cs := by
  obtain ⟨hall, before, after, hsplit, hfail⟩ := List.find?_eq_some_iff_append.1 h
  refine List.find?_eq_some_iff_append.2 ⟨?_, before, after, hsplit, fun xs hxs => ?_⟩
  · rw [List.all_eq_true] at hall ⊢
    intro c hc
    rw [hall c hc, hgood c hc]
    rfl
  · have hxs' : (!xs.all ok) = true := hfail xs hxs
    rw [Bool.not_eq_true', List.all_eq_false] at hxs' ⊢
    obtain ⟨c, hc, hok⟩ := hxs'
    exact ⟨c, hc, fun hboth => hok (Bool.and_eq_true_iff.1 hboth).1⟩

/-- No set is usable: memory never becomes ready, and the records say so (R234). -/
theorem State.noSet_gives (s : State) : s.noSet.aon.boot = .noMemory ∧ s.noSet.cap = s.cap ∧ s.noSet.chans = s.chans ∧ DataKept s s.noSet := by
  have hnoted := (State.event_noted [s.owner] .fatal .noChannelSet 0 false none s).1.trans (State.pannier_noted _ 1 0xFF 6 .noChannelSet 3 0 0 0x400004 true)
  obtain ⟨hdata, hcap, -⟩ := hnoted.mends.kept
  have hchans := congrArg State.chans hnoted.1
  exact ⟨rfl, hcap, hchans, hdata⟩

/-! ## What training changes -/

/-- `t` is `s` with training done: no stored byte, no capacity and no engine has changed. -/
structure Trains (s t : State) : Prop where
  mends : Mends s t
  engines : t.word Reg.XTS_STATUS.ENGINE_OOS.off = s.word Reg.XTS_STATUS.ENGINE_OOS.off

theorem Trains.refl (s : State) : Trains s s := ⟨.refl s, rfl⟩

theorem Trains.trans {s t u : State} (h1 : Trains s t) (h2 : Trains t u) : Trains s u := ⟨h1.mends.trans h2.mends, h2.engines.trans h1.engines⟩

theorem Trains.foldl {α : Type} {f : State → α → State} (hf : ∀ s a, Trains s (f s a)) (as : List α) (s : State) : Trains s (as.foldl f s) := by
  induction as generalizing s with
  | nil => exact .refl s
  | cons a as ih => exact (hf s a).trans (ih _)

/-- Which channels have an engine is told by XTS_STATUS (R316). -/
theorem State.hasEngine_of_word {s t : State} (h : t.word Reg.XTS_STATUS.ENGINE_OOS.off = s.word Reg.XTS_STATUS.ENGINE_OOS.off) (c : Nat) : t.hasEngine c = s.hasEngine c := by
  rw [State.hasEngine, State.hasEngine, State.fbit_of_word h, State.fb_of_word (x := Reg.XTS_STATUS.SPARE_ACTIVE) h, State.f_of_word (x := Reg.XTS_STATUS.SPARE_CH) h]

/-- A field of a register below XTS_STATUS. -/
theorem State.setF_trains (s : State) {x : Fld} (v : Nat) (h : x.off < Reg.XTS_STATUS.ENGINE_OOS.off) : Trains s (s.setF x v) :=
  ⟨rfl, State.word_setF_ne s x v (Nat.ne_of_gt h)⟩

/-- The registers of the channels lie below XTS_STATUS. -/
theorem nth_off_lt {x : Fld} (c : Chan) (hs : x.s1 = 0x20000) (h : x.off < 0x420000) : (x.nth c.val).off < Reg.XTS_STATUS.ENGINE_OOS.off := by
  have hoff : (x.nth c.val).off = x.off + x.s1 * c.val := rfl
  have hxts : Reg.XTS_STATUS.ENGINE_OOS.off = 0x600000 := rfl
  rw [hoff, hs, hxts]
  omega

theorem State.setBit_trains (s : State) {x : Fld} (i : Nat) (b : Bool) (h : x.off < Reg.XTS_STATUS.ENGINE_OOS.off) : Trains s (s.setBit x i b) :=
  ⟨rfl, State.word_setBit_ne s x i b (Nat.ne_of_gt h)⟩

theorem State.updChan_trains (s : State) (c : Chan) (g : Channel → Channel) : Trains s (s.updChan c g) := ⟨rfl, rfl⟩

theorem State.reportPop_trains (s : State) (c : Chan) (p : ChanPop) (m : Bool) (rate : Nat) : Trains s (s.reportPop c p m rate) := by
  unfold State.reportPop
  extract_lets f any kind stack rated fallback
  have hf (s : State) (x : Fld) (v : Nat) (hs : x.s1 = 0x20000) (h : x.off < 0x420000) : Trains s (f s x v) := s.setF_trains v (nth_off_lt c hs h)
  have hkind : Trains s kind := ((hf _ _ _ rfl (by decide)).trans (hf _ _ _ rfl (by decide))).trans (hf _ _ _ rfl (by decide))
  have hstack : Trains kind stack := ((hf _ _ _ rfl (by decide)).trans (hf _ _ _ rfl (by decide))).trans (hf _ _ _ rfl (by decide))
  exact (((hkind.trans hstack).trans (hf _ _ _ rfl (by decide))).trans (hf rated _ _ rfl (by decide))).trans (fallback.updChan_trains c _)

theorem State.setAside_trains (s : State) (c : Chan) : Trains s (s.setAside c) := by
  unfold State.setAside
  extract_lets off told
  obtain ⟨hnoted, hcsr, -⟩ := State.event_noted [off.owner] .warning .channelSetAside c.val false none off
  exact (s.updChan_trains c _).trans ⟨hnoted.mends.trans (State.pannier_noted ..).mends, (State.pannier_word (by decide) ..).trans (State.word_congr hcsr _)⟩

/-! ## Training of a channel (R238, R258, R266) -/

/-- A channel that is being trained, with `n` fresh ranks. -/
def Channel.InTraining (x : Channel) (n : Nat) : Prop := x.retraining = true ∧ x.ranks = freshRanks n

/-- A step that trains, and takes no channel out of training. -/
structure TrainsOn (n : Nat) (s t : State) : Prop extends Trains s t where
  stays : ∀ c, (s.chan c).InTraining n → (t.chan c).InTraining n

theorem TrainsOn.refl (n : Nat) (s : State) : TrainsOn n s s := ⟨.refl s, fun _ h => h⟩

theorem TrainsOn.trans {n : Nat} {s t u : State} (h1 : TrainsOn n s t) (h2 : TrainsOn n t u) : TrainsOn n s u :=
  ⟨h1.toTrains.trans h2.toTrains, fun c h => h2.stays c (h1.stays c h)⟩

theorem TrainsOn.foldl {α : Type} {n : Nat} {f : State → α → State} (hf : ∀ s a, TrainsOn n s (f s a)) (as : List α) (s : State) : TrainsOn n s (as.foldl f s) := by
  induction as generalizing s with
  | nil => exact .refl n s
  | cons a as ih => exact (hf s a).trans (ih _)

section
variable (n : Nat) (s : State) (c : Chan)

/-- A change of a channel that leaves its training as it is. -/
theorem State.updChan_trainsOn {g : Channel → Channel} (hg : ∀ x : Channel, x.InTraining n → (g x).InTraining n) : TrainsOn n s (s.updChan c g) := by
  refine ⟨s.updChan_trains c g, fun d h => ?_⟩
  rw [State.chan_updChan]
  split
  · rename_i hd
    subst hd
    exact hg _ h
  · exact h

/-- A mark of the repair list applied again (R266). -/
def State.applyMark (r : Repair) : State :=
  (s.updChan c fun x => { x with marks := if x.marks.contains (r.d.rank, r.d.subB, r.d.dev) then x.marks else x.marks ++ [(r.d.rank, r.d.subB, r.d.dev)] }).setBit
    (if r.d.subB then Reg.DRCn_MARK.MARK_B.nth c.val else Reg.DRCn_MARK.MARK_A.nth c.val) r.d.rank.val true

theorem State.applyMark_trainsOn (r : Repair) : TrainsOn n s (s.applyMark c r) := by
  unfold State.applyMark
  refine (s.updChan_trainsOn n c ?_).trans ⟨State.setBit_trains _ _ _ ?_, fun _ h => h⟩
  · exact fun x h => h
  · split
    · exact nth_off_lt c rfl (by decide)
    · exact nth_off_lt c rfl (by decide)

theorem State.applyMarks_trainsOn : TrainsOn n s (s.applyMarks c) := TrainsOn.foldl (f := fun s r => s.applyMark c r) (fun s r => s.applyMark_trainsOn n c r) _ s

theorem State.hardRepair_trainsOn : TrainsOn n s (s.hardRepair c) :=
  ⟨⟨Mends.trans (t := { s with repairs := hardRepairs c s.repairs [] }) rfl (State.count_mends ..), State.word_count ..⟩, fun _ h => h⟩

/-- Steps 7 and 8 on a channel: hard repairs where they are enabled, fresh ranks, and its marks again. -/
def State.trainChan (hard : Bool) (rate : Nat) : State :=
  ((if hard then s.hardRepair c else s).updChan c fun x => { x with rate := rate, ranks := freshRanks n, retraining := true }).applyMarks c

theorem State.trainChan_trains (hard : Bool) (rate : Nat) : TrainsOn n s (s.trainChan n c hard rate) ∧ ((s.trainChan n c hard rate).chan c).InTraining n := by
  unfold State.trainChan
  generalize hu : (if hard then s.hardRepair c else s) = u
  have hrepaired : TrainsOn n s u := by
    rw [← hu]
    split
    · exact s.hardRepair_trainsOn n c
    · exact .refl n s
  have hfresh : TrainsOn n u _ := u.updChan_trainsOn n c (g := fun x => { x with rate := rate, ranks := freshRanks n, retraining := true }) fun x _ => ⟨rfl, rfl⟩
  have hmarks := State.applyMarks_trainsOn n (u.updChan c fun x => { x with rate := rate, ranks := freshRanks n, retraining := true }) c
  refine ⟨(hrepaired.trans hfresh).trans hmarks, hmarks.stays c ?_⟩
  rw [State.chan_updChan_self]
  exact ⟨rfl, rfl⟩

end

/-- Every channel of a list is trained. -/
theorem State.foldl_trainChan (n : Nat) (hard : Bool) (rate : Nat) (cs : List Chan) (s : State) :
    TrainsOn n s (cs.foldl (fun s c => s.trainChan n c hard rate) s) ∧ ∀ c ∈ cs, ((cs.foldl (fun s c => s.trainChan n c hard rate) s).chan c).InTraining n := by
  induction cs generalizing s with
  | nil => exact ⟨.refl n s, fun c hc => absurd hc List.not_mem_nil⟩
  | cons c cs ih =>
    obtain ⟨hstep, hself⟩ := s.trainChan_trains n c hard rate
    obtain ⟨hrest, hall⟩ := ih (s.trainChan n c hard rate)
    refine ⟨hstep.trans hrest, fun d hd => ?_⟩
    rcases List.mem_cons.1 hd with rfl | hd
    · exact hrest.stays d hself
    · exact hall d hd

/-! ## CHANNEL_TRAINING (R232 to R237) -/

/-- What discovery reports of the channels, of which `cs` are in use at `rate`. -/
def State.discover (s : State) (pops : List ChanPop) (r : RefConf) (cs : List Chan) (rate : Nat) : State :=
  chans16.foldl (fun s c => match pops[c.val]? with
    | some p => s.reportPop c p ((pops[c.val]?).any (popPopulated · r)) (if cs.contains c then rate else 0)
    | none => s) s

theorem State.discover_trains (s : State) (pops : List ChanPop) (r : RefConf) (cs : List Chan) (rate : Nat) : Trains s (s.discover pops r cs rate) := by
  refine Trains.foldl (fun s c => ?_) _ s
  split
  · exact s.reportPop_trains ..
  · exact .refl s

/-- Populated channels beside the set are set aside. -/
def State.setOthersAside (s : State) (cs : List Chan) : State :=
  (chans16.filter fun c => !cs.contains c && (s.chan c).pop.isSome).foldl (fun s c => s.setAside c) s

theorem State.setOthersAside_trains (s : State) (cs : List Chan) : Trains s (s.setOthersAside cs) := Trains.foldl (fun s c => s.setAside_trains c) _ s

/-- The rate of a set of channels (R233). -/
def State.setRate (s : State) (pops : List ChanPop) (r : RefConf) (cs : List Chan) : Nat :=
  let spd := cs.foldl (fun m c => min m (((pops[c.val]?).bind (·.spdMax)).elim 6 (·.val))) 6
  min (fitSpeed r.kind (s.f Reg.DRC_GLB_CFG.SPEED_MAX)) (if r.kind == .mrdimm then spd else min spd 4)

/-- The set in use and its geometry, with the repair list moved along with its DIMMs. -/
def State.useSet (s : State) (pops : List ChanPop) (r : RefConf) (cs : List Chan) : State :=
  let s := ((s.discover pops r cs (s.setRate pops r cs)).setOthersAside cs).setGeometry cs r
  { s with repairs := s.repairs.filterMap (relocate pops) }

/-- The set in use is recorded with the capacity of its DIMMs (R102, R234). -/
theorem State.setGeometry_gives (s : State) (cs : List Chan) (r : RefConf) : (s.setGeometry cs r).cap.chans = cs ∧
    (s.setGeometry cs r).cap.rawMib = cs.length * r.dimms * r.sizeGib * 1024 ∧ (s.setGeometry cs r).cap.rankSets = r.rankSets ∧ DataKept s (s.setGeometry cs r) ∧
    (s.setGeometry cs r).word Reg.XTS_STATUS.ENGINE_OOS.off = s.word Reg.XTS_STATUS.ENGINE_OOS.off :=
  ⟨rfl, rfl, rfl, ⟨rfl, rfl, rfl, rfl, rfl, rfl⟩, State.word_setF_ne s _ _ (by decide)⟩

theorem State.useSet_gives (s : State) (pops : List ChanPop) (r : RefConf) (cs : List Chan) : (s.useSet pops r cs).cap.chans = cs ∧
    (s.useSet pops r cs).cap.rawMib = cs.length * r.dimms * r.sizeGib * 1024 ∧ (s.useSet pops r cs).cap.rankSets = r.rankSets ∧ DataKept s (s.useSet pops r cs) ∧
    (s.useSet pops r cs).word Reg.XTS_STATUS.ENGINE_OOS.off = s.word Reg.XTS_STATUS.ENGINE_OOS.off := by
  unfold State.useSet
  extract_lets found
  have hfound := (s.discover_trains pops r cs (s.setRate pops r cs)).trans (State.setOthersAside_trains _ cs)
  obtain ⟨hchans, hraw, hsets, hdata, hword⟩ := State.setGeometry_gives ((s.discover pops r cs (s.setRate pops r cs)).setOthersAside cs) cs r
  exact ⟨hchans, hraw, hsets, hfound.mends.kept.1.trans hdata, hword.trans hfound.engines⟩

/-- Every channel of the set trained. -/
def State.trainSet (s : State) (r : RefConf) (cs : List Chan) (rate : Nat) : State :=
  cs.foldl (fun u c => u.trainChan r.rankSets c (s.fb Reg.DRC_GLB_CFG.PPR_HARD_EN) rate) s

theorem State.trainSet_gives (s : State) (r : RefConf) (cs : List Chan) (rate : Nat) : TrainsOn r.rankSets s (s.trainSet r cs rate) ∧
    ∀ c ∈ cs, ((s.trainSet r cs rate).chan c).InTraining r.rankSets := State.foldl_trainChan ..

/-- Channels without an engine fail (R317). -/
def State.failEngineless (s : State) (cs : List Chan) : State := (cs.filter fun c => !s.hasEngine c.val).foldl (fun s c => s.failChan c .engine) s

theorem State.failEngineless_none {s : State} {cs : List Chan} (h : ∀ c ∈ cs, s.hasEngine c.val = true) : s.failEngineless cs = s := by
  have hnone : (cs.filter fun c => !s.hasEngine c.val) = [] := List.filter_eq_nil_iff.2 fun c hc => by rw [h c hc]; exact Bool.false_ne_true
  rw [State.failEngineless, hnone, List.foldl_nil]

section
variable {s : State} {pops : List ChanPop} (hboot : s.aon.boot = .firmware) (hreset : s.aon.inReset = false) (hlen : pops.length = 16)
include hboot hreset hlen

omit hboot hreset hlen in
theorem exec_channelTraining (pops : List ChanPop) (s : State) : exec (.channelTraining pops) s = execChannelTraining pops s := rfl

theorem State.channelTraining_noMemory (href : refConf pops = none) : Gives (.channelTraining pops) s fun t =>
    t.aon.boot = .noMemory ∧ t.cap = s.cap ∧ t.chans = s.chans ∧ DataKept s t := by
  refine ⟨s.noSet, ?_, s.noSet_gives⟩
  rw [exec_channelTraining, execChannelTraining, hboot, hreset, hlen, href]
  rfl

variable {r : RefConf} {cs : List Chan} (href : refConf pops = some r) (hset : chanSet (fun c => (pops[c.val]?).any (popPopulated · r)) = some cs)
  (hgood : ∀ c ∈ cs, (pops[c.val]?).any popFails = false)
include href hset hgood

/-- With no channel that fails, training goes straight through its steps. -/
theorem State.channelTraining_exec : ∃ t : State, t = ((s.useSet pops r cs).trainSet r cs (s.setRate pops r cs)).failEngineless cs ∧
    exec (.channelTraining pops) s = .next { t with aon := { t.aon with boot := .trained } } := by
  have hpass : (cs.filter fun c => (pops[c.val]?).any popFails) = [] := List.filter_eq_nil_iff.2 fun c hc => by rw [hgood c hc]; exact Bool.false_ne_true
  have hlean : (if s.lean then chanSet (fun c => (pops[c.val]?).any (popPopulated · r) && !(pops[c.val]?).any popFails) else some cs) = some cs := by
    split
    · exact chanSet_stricter hset hgood
    · rfl
  refine ⟨_, rfl, ?_⟩
  rw [exec_channelTraining, execChannelTraining, hboot, hreset, hlen, href]
  simp only [hset, hpass, List.foldl_nil, hlean]
  rfl

theorem State.channelTraining_trained (hengine : ∀ c ∈ cs, s.hasEngine c.val = true) : Gives (.channelTraining pops) s fun t =>
    t.aon.boot = .trained ∧ t.cap.chans = cs ∧ t.cap.rawMib = cs.length * r.dimms * r.sizeGib * 1024 ∧ t.cap.rankSets = r.rankSets ∧
    (∀ c ∈ cs, (t.chan c).retraining = true ∧ (t.chan c).ranks = freshRanks r.rankSets) ∧ DataKept s t := by
  obtain ⟨t, ht, hexec⟩ := State.channelTraining_exec hboot hreset hlen href hset hgood
  obtain ⟨hchans, hraw, hsets, hdata, hword⟩ := s.useSet_gives pops r cs
  obtain ⟨htrain, hfresh⟩ := (s.useSet pops r cs).trainSet_gives r cs (s.setRate pops r cs)
  have hengines (c : Chan) (hc : c ∈ cs) : ((s.useSet pops r cs).trainSet r cs (s.setRate pops r cs)).hasEngine c.val = true := by
    rw [State.hasEngine_of_word (htrain.engines.trans hword)]
    exact hengine c hc
  rw [State.failEngineless_none hengines] at ht
  obtain ⟨hkept, hcap, -⟩ := htrain.mends.kept
  rw [← ht] at hkept hcap
  refine ⟨_, hexec, rfl, (congrArg Cap.chans hcap).trans hchans, (congrArg Cap.rawMib hcap).trans hraw, (congrArg Cap.rankSets hcap).trans hsets, fun c hc => ?_, hdata.trans hkept⟩
  rw [ht]
  exact hfresh c hc

end

/-! ## CHANNEL_TRAINED (R238, R281, R282) -/

/-- A channel in service after training; one that returns begins resynchronization. -/
def Channel.returned (x : Channel) (n now : Nat) : Channel :=
  { x with
    retraining := false, trained := true, st := .active, resync := x.st == .failed, cursor := 0, resyncing := [], failCause := none
    ranks := freshRanks n, bursts := [], alerts := [], recentred := none
    returns := if x.st == .failed then x.returns ++ [now] else x.returns }

/-- The channel in service and its domain ON. -/
def State.inService (s : State) (c : Chan) : State :=
  ((s.updChan c fun _ => (s.chan c).returned s.cap.rankSets s.now).updDom (12 + c.val) fun d => { d with st := .on }).setBit Reg.DRC_GLB_STATUS.FAILED c.val false

/-- The channel's bit of RESYNC, where it returns from FAILED. -/
def State.beginResync (s : State) (c : Chan) (back : Bool) : State := if back then s.setBit Reg.TRM_RESYNC.RESYNC c.val true else s

theorem State.channelTrained_exec {s : State} {c : Chan} (hre : (s.chan c).retraining = true) (hc : c ∈ s.cap.chans) :
    exec (.channelTrained c) s = .next ((s.inService c).beginResync c ((s.chan c).st == .failed)) := by
  have hexec : exec (.channelTrained c) s = execChannelTrained c s := rfl
  have hgo : (!(s.chan c).retraining || decide (c ∉ s.cap.chans)) = false := by simp [hre, hc]
  rw [hexec, execChannelTrained, hgo, if_neg Bool.false_ne_true]
  rfl

theorem State.inService_gives (s : State) (c : Chan) : (s.inService c).chan c = (s.chan c).returned s.cap.rankSets s.now ∧ (∀ d, d ≠ c → (s.inService c).chan d = s.chan d) ∧
    (s.inService c).domOn (12 + c.val) = true ∧ (s.inService c).fbit Reg.DRC_GLB_STATUS.FAILED c.val = false ∧
    { s.inService c with chans := s.chans, doms := s.doms, csr := s.csr } = s := by
  have hlt : Reg.DRC_GLB_STATUS.FAILED.lo + c.val < 32 := by
    have hlo : Reg.DRC_GLB_STATUS.FAILED.lo = 0 := rfl
    omega
  unfold State.inService
  have hself := s.chan_updChan_self c fun _ => (s.chan c).returned s.cap.rankSets s.now
  have hothers (d : Chan) (hd : d ≠ c) : (s.updChan c fun _ => (s.chan c).returned s.cap.rankSets s.now).chan d = s.chan d := by rw [State.chan_updChan, if_neg hd]
  have hframe : { s.updChan c fun _ => (s.chan c).returned s.cap.rankSets s.now with chans := s.chans } = s := rfl
  generalize (s.updChan c fun _ => (s.chan c).returned s.cap.rankSets s.now) = u at *
  have hdom := u.dom_updDom_self (12 + c.val) fun d => { d with st := .on }
  exact ⟨hself, hothers, beq_iff_eq.2 (congrArg Domain.st hdom), State.fbit_setBit_self _ _ _ hlt, congrArg (fun x : State => { x with doms := s.doms, csr := s.csr }) hframe⟩

theorem State.setBit_frame (s : State) (x : Fld) (i : Nat) (b : Bool) : { s.setBit x i b with csr := s.csr } = s := rfl

/-- RESYNC is a register of its own. -/
theorem State.beginResync_gives (s : State) (c : Chan) (back : Bool) : (s.beginResync c back).fbit Reg.DRC_GLB_STATUS.FAILED c.val = s.fbit Reg.DRC_GLB_STATUS.FAILED c.val ∧
    (back = true → (s.beginResync c back).fbit Reg.TRM_RESYNC.RESYNC c.val = true) ∧ { s.beginResync c back with csr := s.csr } = s := by
  have hlt : Reg.TRM_RESYNC.RESYNC.lo + c.val < 32 := by
    have hlo : Reg.TRM_RESYNC.RESYNC.lo = 16 := rfl
    omega
  unfold State.beginResync
  cases back
  · exact ⟨rfl, fun h => absurd h Bool.false_ne_true, rfl⟩
  · rw [if_pos rfl]
    exact ⟨State.fbit_of_word (State.word_setBit_ne _ _ _ _ (by decide)) _, fun _ => State.fbit_setBit_self _ _ _ hlt, s.setBit_frame ..⟩

theorem State.channelTrained_gives {s : State} {c : Chan} (hre : (s.chan c).retraining = true) (hc : c ∈ s.cap.chans) : Gives (.channelTrained c) s fun t =>
    (t.chan c).st = .active ∧ (t.chan c).trained = true ∧ (t.chan c).retraining = false ∧ (t.chan c).ranks = freshRanks s.cap.rankSets ∧
    (t.chan c).resync = ((s.chan c).st == .failed) ∧ t.domOn (12 + c.val) = true ∧ t.fbit Reg.DRC_GLB_STATUS.FAILED c.val = false ∧
    ((s.chan c).st = .failed → t.fbit Reg.TRM_RESYNC.RESYNC c.val = true) ∧ (∀ d, d ≠ c → t.chan d = s.chan d) ∧ { t with chans := s.chans, doms := s.doms, csr := s.csr } = s := by
  obtain ⟨hself, hothers, hon, hfailed, hframe⟩ := s.inService_gives c
  obtain ⟨hbit, hresync, hcsr⟩ := (s.inService c).beginResync_gives c ((s.chan c).st == .failed)
  refine ⟨_, State.channelTrained_exec hre hc, ?_⟩
  generalize (s.inService c).beginResync c ((s.chan c).st == .failed) = t at *
  generalize s.inService c = u at *
  have hchans := congrArg State.chans hcsr
  have hdoms := congrArg (fun x : State => x.domOn (12 + c.val)) hcsr
  have hchan (d : Chan) : t.chan d = u.chan d := State.chan_congr hchans d
  have hrest : { t with chans := s.chans, doms := s.doms, csr := s.csr } = s :=
    (congrArg (fun x : State => { x with chans := s.chans, doms := s.doms, csr := s.csr }) hcsr).trans hframe
  have hback (h : (s.chan c).st = .failed) : t.fbit Reg.TRM_RESYNC.RESYNC c.val = true := hresync (beq_iff_eq.2 h)
  have hon' : t.domOn (12 + c.val) = true := Eq.trans hdoms hon
  rw [hchan, hself]
  exact ⟨rfl, rfl, rfl, rfl, rfl, hon', hbit.trans hfailed, hback, fun d hd => (hchan d).trans (hothers d hd), hrest⟩

/-- Settles O51: with no channel that fails and an engine for each, training takes the set through its steps in turn; a channel that reports is put into service. -/
theorem channelTraining : Obligations.ChannelTraining := fun _ =>
  ⟨fun _ hboot hreset hlen => ⟨State.channelTraining_noMemory hboot hreset hlen, fun _ _ href hset hgood =>
    State.channelTraining_trained hboot hreset hlen href hset (fun c hc => (hgood c hc).1) fun c hc => (hgood c hc).2⟩, fun _ => State.channelTrained_gives⟩

end Sys2Proof.Machine
end

section
/-! PROOFS. What goes on inside the device while a head's link is down: the ends of entries (R55, R177, R186, R217, R223, R228, R230, R353). -/

namespace Sys2Proof.Machine

/-! ## A link that is down -/

/-- The host has granted the port no S2M credit. -/
def Port.Creditless (q : Port) : Prop := q.ndr = 0 ∧ q.drs = 0 ∧ q.bisnp = 0

/-- `q'` with what may change at a port whose link is down put back as it is in `q`: credits freed, what waits at the port, interrupts and records. -/
def Port.undoDown (q q' : Port) : Port :=
  { q' with freedReq := q.freedReq, freedRwd := q.freedRwd, acks := q.acks, ready := q.ready, loopWait := q.loopWait, mbxHeld := q.mbxHeld
            msixPend := q.msixPend, lastEvt := q.lastEvt }

/-- What no work on behalf of a request changes: stored memory, TB, the module, the hot-swap block and the repair list. -/
def State.anchor (s : State) : List Host.Cell × BitVec 64 × Cry × Hsw × List Repair := (s.mem, s.tb, s.cry, s.hsw, s.repairs)

/-- Every entry of head `p` is synthetic (R223). -/
def State.AllSynthetic (s : State) (p : Head) : Prop := ∀ r ∈ s.rtk, r.head = p → r.synthetic = true

/-- From `s` to `t` work has gone on inside the device: with no credit granted, port `p` has sent nothing. -/
structure PortKept (p : Head) (s t : State) : Prop where
  anchor : t.anchor = s.anchor
  port : (s.port p).Creditless → (s.port p).undoDown (t.port p) = s.port p

/-- The same, and entries of head `p` that were synthetic all are so still. -/
structure DownKept (p : Head) (s t : State) : Prop extends PortKept p s t where
  entries : s.AllSynthetic p → t.AllSynthetic p

section
variable {p : Head}

theorem PortKept.refl (s : State) : PortKept p s s := ⟨rfl, fun _ => rfl⟩

theorem PortKept.trans {s t u : State} (h1 : PortKept p s t) (h2 : PortKept p t u) : PortKept p s u := by
  refine ⟨h2.anchor.trans h1.anchor, fun hc => ?_⟩
  have hback := h1.port hc
  have hcredit : (t.port p).Creditless := by
    have hndr := congrArg Port.ndr hback
    have hdrs := congrArg Port.drs hback
    have hbisnp := congrArg Port.bisnp hback
    obtain ⟨h1, h2, h3⟩ := hc
    exact ⟨Eq.trans hndr h1, Eq.trans hdrs h2, Eq.trans hbisnp h3⟩
  have hfront := congrArg (s.port p).undoDown (h2.port hcredit)
  exact Eq.trans hfront hback

theorem PortKept.foldl {α : Type} {f : State → α → State} (hf : ∀ s a, PortKept p s (f s a)) (as : List α) (s : State) : PortKept p s (as.foldl f s) := by
  induction as generalizing s with
  | nil => exact .refl s
  | cons a as ih => exact (hf s a).trans (ih _)

theorem DownKept.refl (s : State) : DownKept p s s := ⟨.refl s, id⟩

theorem DownKept.trans {s t u : State} (h1 : DownKept p s t) (h2 : DownKept p t u) : DownKept p s u := ⟨h1.toPortKept.trans h2.toPortKept, fun h => h2.entries (h1.entries h)⟩

theorem DownKept.foldl {α : Type} {f : State → α → State} (hf : ∀ s a, DownKept p s (f s a)) (as : List α) (s : State) : DownKept p s (as.foldl f s) := by
  induction as generalizing s with
  | nil => exact .refl s
  | cons a as ih => exact (hf s a).trans (ih _)

/-- A change that leaves RTK leaves its entries synthetic. -/
theorem PortKept.downKept {s t : State} (h : PortKept p s t) (hrtk : t.rtk = s.rtk) : DownKept p s t := ⟨h, fun hs => by rwa [State.AllSynthetic, hrtk]⟩

/-- Work that reaches neither the ports nor RTK. -/
theorem DownKept.apart {s t : State} (hanchor : t.anchor = s.anchor) (hports : t.ports = s.ports) (hrtk : t.rtk = s.rtk) : DownKept p s t :=
  PortKept.downKept ⟨hanchor, fun _ => by rw [State.port_congr hports]; rfl⟩ hrtk

/-- Work whose frame is `s`, which spares the ports and RTK. -/
theorem DownKept.frame {s t u : State} (h : u = s) (hu : u.anchor = t.anchor ∧ u.ports = t.ports ∧ u.rtk = t.rtk) : DownKept p s t := by
  obtain ⟨hanchor, hports, hrtk⟩ := hu
  subst h
  exact .apart hanchor.symm hports.symm hrtk.symm

theorem Noted.downKept {s t : State} (h : Noted s t) : DownKept p s t := by
  obtain ⟨hframe, hports⟩ := h
  have hanchor := congrArg State.anchor hframe
  have hrtk := congrArg State.rtk hframe
  refine PortKept.downKept ⟨hanchor, fun _ => ?_⟩ hrtk
  have hport := congrArg (s.port p).undoDown (hports p)
  exact hport

theorem IssuedOnly.downKept {s t : State} (h : IssuedOnly s t) : DownKept p s t := .frame h ⟨rfl, rfl, rfl⟩

theorem HitOnly.downKept {s t : State} (h : HitOnly s t) : DownKept p s t := .frame h ⟨rfl, rfl, rfl⟩

theorem OnlyBells.downKept {s t : State} (h : OnlyBells s t) : DownKept p s t := .frame h ⟨rfl, rfl, rfl⟩

theorem OnlyDrains.downKept {s t : State} (h : OnlyDrains s t) : DownKept p s t := .frame h.2 ⟨rfl, rfl, rfl⟩

/-- A change of a port that a link down allows. -/
theorem State.updPort_downKept (s : State) (h : Head) {g : Port → Port} (hg : ∀ q : Port, q.undoDown (g q) = q) : DownKept p s (s.updPort h g) := by
  refine PortKept.downKept ⟨rfl, fun _ => ?_⟩ rfl
  rw [State.port_updPort]
  split
  · next hp =>
    subst hp
    exact hg _
  · rfl

theorem State.count_downKept (s : State) (g i n : Nat) (u : Option Nat) : DownKept p s (s.count g i n u) := (s.count_noted g i n u).downKept

theorem State.flag_downKept (s : State) (x : Fld) : DownKept p s (s.flag x) := (s.flag_noted x).downKept

theorem State.event_downKept (s : State) (hs : List Head) (l : EventLog) (c : Cause) (a : Nat) (b : Bool) (sl : Option (Fin 16)) : DownKept p s (s.event hs l c a b sl) := by
  obtain ⟨hnoted, -⟩ := State.event_noted hs l c a b sl s
  exact hnoted.downKept

/-- Changes of entries that keep their heads, and which of them are synthetic (R223). -/
theorem State.updEntries_downKept (s : State) (f : RtkEntry → Bool) {g : RtkEntry → RtkEntry} (hg : ∀ r ∈ s.rtk, (g r).head = r.head ∧ (g r).synthetic = r.synthetic) :
    DownKept p s { s with rtk := updWhere f g s.rtk } := by
  refine ⟨⟨rfl, fun _ => rfl⟩, fun hs x hx hp => ?_⟩
  obtain ⟨r, hr, rfl⟩ := List.mem_map.1 hx
  cases hf : f r <;> simp only [hf, if_true, Bool.false_eq_true, if_false] at hp ⊢
  · exact hs r hr hp
  · obtain ⟨hhead, hsyn⟩ := hg r hr
    rw [hsyn]
    exact hs r hr (hhead ▸ hp)

theorem State.updEntry_downKept (s : State) (id : Nat) {g : RtkEntry → RtkEntry} (hg : ∀ r : RtkEntry, (g r).head = r.head ∧ (g r).synthetic = r.synthetic) :
    DownKept p s (s.updEntry id g) := s.updEntries_downKept _ fun r _ => hg r

theorem State.setPhase_downKept (s : State) (id : Nat) (x : Phase) : DownKept p s (s.setPhase id x) := s.updEntry_downKept id fun _ => ⟨rfl, rfl⟩

/-- Entries that leave RTK. -/
theorem State.filterRtk_downKept (s : State) (f : RtkEntry → Bool) : DownKept p s { s with rtk := s.rtk.filter f } :=
  ⟨⟨rfl, fun _ => rfl⟩, fun hs r hr => hs r (List.mem_of_mem_filter hr)⟩

/-! ## Messages go against credits (R182, R217) -/

/-- `t` is `s` with messages sent at port `h`: other ports and RTK are as they were. -/
structure SentAt (h : Head) (s t : State) : Prop where
  anchor : t.anchor = s.anchor
  others : ∀ k, k ≠ h → t.port k = s.port k
  rtk : t.rtk = s.rtk

theorem SentAt.trans {h : Head} {s t u : State} (h1 : SentAt h s t) (h2 : SentAt h t u) : SentAt h s u :=
  ⟨h2.anchor.trans h1.anchor, fun k hk => (h2.others k hk).trans (h1.others k hk), h2.rtk.trans h1.rtk⟩

theorem SentAt.refl (h : Head) (s : State) : SentAt h s s := ⟨rfl, fun _ _ => rfl, rfl⟩

theorem SentAt.updPort (s : State) (h : Head) (g : Port → Port) : SentAt h s (s.updPort h g) := ⟨rfl, fun k hk => by rw [State.port_updPort, if_neg hk], rfl⟩

theorem SentAt.count (s : State) (h : Head) (g i n : Nat) (u : Option Nat) : SentAt h s (s.count g i n u) := ⟨rfl, fun _ _ => rfl, rfl⟩

theorem SentAt.emit (s : State) (h : Head) (m : Msg) : SentAt h s (s.emit h m) :=
  ((SentAt.updPort s h fun q => q.pushFlit 0 0 (some m)).trans (u := (s.updPort h fun q => q.pushFlit 0 0 (some m)).send m) ⟨rfl, fun _ _ => rfl, rfl⟩).trans
    (SentAt.count _ h 0 (9 * h.val + 1) 1 (some h.val))

/-- What goes out against a credit goes out at no port that has none. -/
theorem SentAt.downKept {h : Head} {s t : State} (hsent : SentAt h s t) (hcredit : ¬ (s.port h).Creditless) : DownKept p s t := by
  refine PortKept.downKept ⟨hsent.anchor, fun hc => ?_⟩ hsent.rtk
  have hne : p ≠ h := fun heq => hcredit (heq ▸ hc)
  rw [hsent.others p hne]
  rfl

theorem State.sendResponse_sentAt (s : State) (r : RtkEntry) : SentAt r.head s (s.sendResponse r) := by
  have hdata (t : State) (dl : BitVec 2) : SentAt r.head t (t.sendData r dl) := by
    unfold State.sendData
    split
    · exact (((SentAt.emit ..).trans (SentAt.count ..)).trans (SentAt.count ..)).trans (SentAt.count ..)
    · exact .refl _ t
  have hcmp (t : State) (dl : BitVec 2) : SentAt r.head t (t.sendCmp r dl) := by
    unfold State.sendCmp
    split
    · exact SentAt.emit ..
    · exact .refl _ t
  have hcount (t : State) : SentAt r.head t (t.countAnswer r) := by
    unfold State.countAnswer
    dsimp only
    split <;> split
    · exact (SentAt.count ..).trans (SentAt.count ..)
    · exact SentAt.count ..
    · exact SentAt.count ..
    · exact .refl _ t
  rw [State.sendResponse_eq]
  exact (((SentAt.updPort s r.head _).trans (hdata _ _)).trans (hcmp _ _)).trans (hcount _)

/-- A response that needs neither data nor an NDR sends nothing (R177). -/
theorem State.sendResponse_downKept {s : State} {r : RtkEntry} (hmay : s.maySend r = true) : DownKept p s (s.sendResponse r) := by
  by_cases hc : (s.port r.head).Creditless
  · obtain ⟨hndr, hdrs, -⟩ := hc
    have hneeds : r.needs.1 = false ∧ r.needs.2 = false := by
      simp only [State.maySend, hndr, hdrs, Bool.and_eq_true, Bool.not_eq_true', beq_self_eq_true, Bool.and_true] at hmay
      exact ⟨hmay.1.2, hmay.2⟩
    obtain ⟨hdata, hndr⟩ := hneeds
    have hspend : DownKept p s (s.spendAnswer r) := by
      refine s.updPort_downKept r.head fun q => ?_
      rw [hdata, hndr]
      rfl
    rw [State.sendResponse_eq]
    simp only [State.sendData, State.sendCmp, State.countAnswer, hdata, hndr, Bool.false_and, Bool.false_eq_true, if_false]
    split
    · exact hspend.trans (State.count_downKept ..)
    · exact hspend
  · exact (s.sendResponse_sentAt r).downKept hc

/-! ## The end of an entry (R55, R186, R230, R353) -/

theorem State.freeCredit_downKept (s : State) (h : Head) (c : CreditChan) : DownKept p s (s.freeCredit h c) :=
  s.updPort_downKept h fun _ => by cases c <;> rfl

theorem State.ackConflict_downKept (s : State) (h : Head) (tag : BitVec 16) : DownKept p s (s.ackConflict h tag) := by
  unfold State.ackConflict
  split
  · exact s.updPort_downKept h fun _ => rfl
  · next hgo =>
    have hcredit : ¬ (s.port h).Creditless := fun hc => hgo (by simp [hc.1])
    exact ((((SentAt.updPort ..).trans (SentAt.emit ..)).trans (SentAt.count ..)).trans (SentAt.updPort ..)).downKept hcredit

theorem State.mbxReply_downKept (s : State) (h : Head) (r : Reply) : DownKept p s (s.mbxReply h r) := by
  unfold State.mbxReply
  split
  · exact .apart rfl rfl rfl
  · exact s.updPort_downKept h fun _ => rfl

theorem State.waitCredit_downKept (s : State) (r : RtkEntry) : DownKept p s (s.waitCredit r) :=
  (s.updEntry_downKept r.id (g := fun r => { r with phase := .respond }) fun _ => ⟨rfl, rfl⟩).trans
    (State.updPort_downKept _ r.head (g := fun q => if q.ready.contains r.id then q else { q with ready := q.ready ++ [r.id] }) fun q => by split <;> rfl)

theorem State.dropEntry_downKept (s : State) (r : RtkEntry) : DownKept p s (s.dropEntry r) := by
  have hready : DownKept p s (if (s.port r.head).ready.isEmpty then s else s.updPort r.head fun q => { q with ready := q.ready.filter (· != r.id) }) := by
    split
    · exact .refl s
    · exact s.updPort_downKept r.head fun _ => rfl
  exact (hready.trans (State.filterRtk_downKept _ _)).trans (State.freeCredit_downKept ..)

/-- An entry put in place of one with its number. -/
theorem State.putEntry_portKept (s : State) (id : Nat) (x : RtkEntry) : PortKept p s (s.updEntry id fun _ => x) := ⟨rfl, fun _ => rfl⟩

theorem State.putEntry_downKept (s : State) (id : Nat) {x : RtkEntry} (hx : x.head = p → x.synthetic = true) : DownKept p s (s.updEntry id fun _ => x) := by
  refine ⟨s.putEntry_portKept id x, fun hs y hy hp => ?_⟩
  obtain ⟨r, hr, rfl⟩ := List.mem_map.1 hy
  cases hid : r.id == id <;> simp only [hid, if_true, Bool.false_eq_true, if_false] at hp ⊢
  · exact hs r hr hp
  · exact hx hp

/-- What the port loop makes of a request: an entry of head `p` is put back as synthetic only if it was so (R230). -/
theorem State.loopEntry_kept (s : State) (r : RtkEntry) : PortKept p s (s.loopEntry r) ∧ ((r.head = p → r.synthetic = true) → DownKept p s (s.loopEntry r)) := by
  have hdone (t : State) (x : RtkEntry) (hhead : x.head = r.head) (hsyn : x.synthetic = r.synthetic) (ht : DownKept p s t) :
      PortKept p s (if x.synthetic then t.dropEntry x else if t.maySend x then (t.sendResponse x).dropEntry x else (t.updEntry r.id fun _ => x).waitCredit x) ∧
      ((r.head = p → r.synthetic = true) → DownKept p s (if x.synthetic then t.dropEntry x else if t.maySend x then (t.sendResponse x).dropEntry x else (t.updEntry r.id fun _ => x).waitCredit x)) := by
    split
    · have hk := ht.trans (t.dropEntry_downKept x)
      exact ⟨hk.toPortKept, fun _ => hk⟩
    · split
      · next hmay =>
        have hk := (ht.trans (State.sendResponse_downKept hmay)).trans (State.dropEntry_downKept _ x)
        exact ⟨hk.toPortKept, fun _ => hk⟩
      · refine ⟨(ht.toPortKept.trans (t.putEntry_portKept r.id x)).trans (State.waitCredit_downKept _ x).toPortKept, fun hr => ?_⟩
        refine (ht.trans (t.putEntry_downKept r.id ?_)).trans (State.waitCredit_downKept _ x)
        rw [hhead, hsyn]
        exact hr
  unfold State.loopEntry
  refine hdone _ _ rfl rfl ?_
  split
  · exact (s.flag_downKept _).trans (State.portViolation_noted _ r.head 4 .hdmMiss).1.downKept
  · split
    · exact s.count_downKept ..
    · exact .refl s

theorem State.foldl_loopEntry (rs : List RtkEntry) (hr : ∀ r ∈ rs, r.head = p → r.synthetic = true) (s : State) : DownKept p s (rs.foldl (fun s r => s.loopEntry r) s) := by
  induction rs generalizing s with
  | nil => exact .refl s
  | cons r rs ih =>
    obtain ⟨-, hentry⟩ := s.loopEntry_kept (p := p) r
    exact (hentry (hr r (List.mem_cons_self ..))).trans (ih (fun x hx => hr x (List.mem_cons_of_mem _ hx)) _)

theorem State.loopStart_downKept (s : State) (h : Head) : DownKept p s (s.loopStart h) := by
  unfold State.loopStart
  split
  · exact .refl s
  · have hstart : DownKept p s ((s.updPort h fun q => { q with loopWait := false }).flag (Reg.PRTn_TEST_STATUS.ACTIVE.nth h.val)) :=
      (s.updPort_downKept h (g := fun q => { q with loopWait := false }) fun _ => rfl).trans (State.flag_downKept ..)
    refine ⟨hstart.toPortKept.trans (PortKept.foldl (fun s r => (s.loopEntry_kept r).1) _ _), fun hs => ?_⟩
    exact (hstart.trans (State.foldl_loopEntry _ (fun r hr => hs r (List.mem_of_mem_filter hr)) _)).entries hs

theorem State.closeEntry_downKept (s : State) (r : RtkEntry) : DownKept p s (s.closeEntry r) := by
  have hdone (t : State) (ht : DownKept p s t) : DownKept p s ((r.conflicts.foldl (fun s x => s.ackConflict r.head x) t).loopStart r.head) :=
    (ht.trans (DownKept.foldl (fun s x => s.ackConflict_downKept r.head x) _ _)).trans (State.loopStart_downKept ..)
  unfold State.closeEntry
  refine hdone _ ?_
  split
  · exact (s.dropEntry_downKept r).trans (State.mbxReply_downKept ..)
  · exact s.dropEntry_downKept r

theorem State.respond_downKept (s : State) (id : Nat) : DownKept p s (s.respond id) := by
  unfold State.respond
  split
  · exact .refl s
  · split
    · exact s.closeEntry_downKept _
    · split
      · next hmay => exact (State.sendResponse_downKept hmay).trans (State.closeEntry_downKept ..)
      · exact s.waitCredit_downKept _

theorem State.answer_downKept (s : State) (id : Nat) (v : LineVal) : DownKept p s (s.answer id v) := by
  have hreply (t : State) (x : LineVal) : DownKept p t (t.reply id x) := (t.updEntry_downKept id (g := fun r => { r with kept := some x }) fun _ => ⟨rfl, rfl⟩).trans (State.respond_downKept ..)
  unfold State.answer
  split
  · exact DownKept.trans (t := s.takeFree) (.apart rfl rfl rfl) (hreply s.takeFree _)
  · exact hreply s v

end

end Sys2Proof.Machine
end

section
/-! PROOFS. What goes on inside the device while a head's link is down: the near cache, translation, the directory and the service of entries (R37 to R47, R93, R177 to R189). -/

namespace Sys2Proof.Machine

section
variable {p : Head}

/-! ## Translation (R93) -/

/-- `t` is `s` with records looked up: caches of XLT, and counters. -/
def Looks (s t : State) : Prop := { t with xlt := s.xlt, pmu := s.pmu } = s

theorem Looks.refl (s : State) : Looks s s := rfl

theorem Looks.trans {s t u : State} (h1 : Looks s t) (h2 : Looks t u) : Looks s u := by
  have h := congrArg (fun x : State => { x with xlt := s.xlt, pmu := s.pmu }) h2
  exact Eq.trans h h1

theorem Looks.downKept {s t : State} (h : Looks s t) : DownKept p s t := .frame h ⟨rfl, rfl, rfl⟩

theorem State.countXlt_looks (s : State) (e k n : Nat) : Looks s (s.countXlt e k n) := rfl

theorem State.startRead_looks (s : State) (k : MapKey) (e : Nat) : Looks s (s.startRead k e) := by
  unfold State.startRead
  split
  · exact .refl s
  · exact Looks.trans (t := { s with xlt := { s.xlt with reads := s.xlt.reads ++ [k] } }) rfl (State.countXlt_looks ..)

theorem State.touchExt_looks (s : State) (e way : Nat) : Looks s (s.touchExt e way) := rfl

theorem State.touchSec_looks (s : State) (sec way : Nat) : Looks s (s.touchSec sec way) := rfl

theorem State.lookExt_looks (s : State) (e : Nat) : Looks s (s.lookExt e).2 := by
  unfold State.lookExt
  split
  · exact (s.countXlt_looks e 0 1).trans (State.touchExt_looks ..)
  · exact (s.countXlt_looks e 1 1).trans (State.startRead_looks ..)

theorem State.lookSec_looks (s : State) (sec : Nat) : Looks s (s.lookSec sec).2 := by
  unfold State.lookSec
  split
  · exact (s.countXlt_looks (sectorExt sec) 2 1).trans (State.touchSec_looks ..)
  · extract_lets missed next
    have hmissed : Looks s missed := (s.countXlt_looks _ 3 1).trans (State.startRead_looks ..)
    split
    · exact (hmissed.trans (State.startRead_looks ..)).trans (State.countXlt_looks ..)
    · exact hmissed

theorem State.xlatePage_looks (s : State) (l : Nat) : Looks s (s.xlatePage l).2 := by
  unfold State.xlatePage
  extract_lets k
  have hpage := s.lookSec_looks (pageSector k)
  generalize s.lookSec (pageSector k) = x at hpage ⊢
  obtain ⟨hit, u⟩ := x
  dsimp only at hpage ⊢
  split
  · exact hpage
  · split
    · have hshare := u.lookSec_looks (shareSector (u.standing k).loc)
      generalize u.lookSec (shareSector (u.standing k).loc) = x at hshare ⊢
      obtain ⟨hit, v⟩ := x
      dsimp only at hshare ⊢
      split <;> exact hpage.trans hshare
    · exact hpage

theorem State.xlate_looks (s : State) (l : Nat) : Looks s (s.xlate l).2 := by
  unfold State.xlate
  dsimp only
  split
  · exact .refl s
  · split
    · exact .refl s
    · have hext := s.lookExt_looks (extOf l)
      generalize s.lookExt (extOf l) = x at hext ⊢
      obtain ⟨hit, u⟩ := x
      dsimp only at hext ⊢
      split
      · exact hext
      · split
        · exact hext
        · exact hext
        · exact hext.trans (u.xlatePage_looks l)
        · split <;> exact hext

/-! ## Ways and fills (R43 to R47) -/

/-- `t` is `s` with work of the near cache done: its lines, fills and buffers, the first writes noted, channels and domains that it woke, work counted. -/
def Caches (s t : State) : Prop :=
  { t with nc := s.nc, xlt := s.xlt, cdc := s.cdc, cad := s.cad, chans := s.chans, doms := s.doms, pmu := s.pmu, cmd := s.cmd } = s

theorem Caches.refl (s : State) : Caches s s := rfl

theorem Caches.trans {s t u : State} (h1 : Caches s t) (h2 : Caches t u) : Caches s u := by
  have h := congrArg (fun x : State => { x with nc := s.nc, xlt := s.xlt, cdc := s.cdc, cad := s.cad, chans := s.chans, doms := s.doms, pmu := s.pmu, cmd := s.cmd }) h2
  exact Eq.trans h h1

theorem Caches.downKept {s t : State} (h : Caches s t) : DownKept p s t := .frame h ⟨rfl, rfl, rfl⟩

theorem Looks.caches {s t : State} (h : Looks s t) : Caches s t := by
  have hc := congrArg (fun x : State => { x with nc := s.nc, cdc := s.cdc, cad := s.cad, chans := s.chans, doms := s.doms, cmd := s.cmd }) h
  exact hc

theorem IssuedOnly.caches {s t : State} (h : IssuedOnly s t) : Caches s t := by
  have hc := congrArg (fun x : State => { x with nc := s.nc, xlt := s.xlt, cdc := s.cdc, cad := s.cad, cmd := s.cmd }) h
  exact hc

theorem HitOnly.caches {s t : State} (h : HitOnly s t) : Caches s t := by
  have hc := congrArg (fun x : State => { x with nc := s.nc, xlt := s.xlt, cdc := s.cdc, cad := s.cad, chans := s.chans, doms := s.doms, cmd := s.cmd }) h
  exact hc

theorem OnlyBells.caches {s t : State} (h : OnlyBells s t) : Caches s t := by
  have hc := congrArg (fun x : State => { x with nc := s.nc, xlt := s.xlt, cdc := s.cdc, cad := s.cad, chans := s.chans, doms := s.doms, pmu := s.pmu, cmd := s.cmd }) h
  exact hc

theorem OnlyDrains.caches {s t : State} (h : OnlyDrains s t) : Caches s t := by
  have hc := congrArg (fun x : State => { x with nc := s.nc, xlt := s.xlt, cdc := s.cdc, cad := s.cad, doms := s.doms, pmu := s.pmu, cmd := s.cmd }) h.2
  exact hc

theorem State.count_caches (s : State) (g i n : Nat) (u : Option Nat) : Caches s (s.count g i n u) := rfl

theorem State.setNc_caches (s : State) (l : Nat) (n : NcLine) : Caches s (s.setNc l n) := rfl

theorem State.touchNc_caches (s : State) (l : Nat) (w : Fin 16) : Caches s (s.touchNc l w) := rfl

theorem State.touch_caches (s : State) (l : Nat) : Caches s (s.touch l) := by
  unfold State.touch
  split <;> rfl

theorem State.makePool_caches (s : State) (l : Nat) : Caches s (s.makePool l) := by
  unfold State.makePool
  split
  · rfl
  · split <;> rfl

theorem State.endFill_caches (s : State) (l : Nat) : Caches s (s.endFill l) := rfl

theorem State.freezeReaders_caches (s : State) (l id : Nat) : Caches s (s.freezeReaders l id) := by
  unfold State.freezeReaders
  split <;> rfl

theorem State.resolveFill_caches (s : State) (l : Nat) (v : LineVal) : Caches s (s.resolveFill l v) := by
  unfold State.resolveFill
  split
  · rfl
  · exact s.setNc_caches ..

/-- The state that the asking for a way leaves. -/
def WayRes.state : WayRes → State
  | .got _ s => s
  | .busy s => s
  | .full s => s

theorem State.takeWay_caches (s : State) (l fuel : Nat) : Caches s (s.takeWay l fuel).state := by
  induction fuel generalizing s with
  | zero => exact s.count_caches 3 65 1 none
  | succ fuel ih =>
    unfold State.takeWay
    dsimp only
    split
    · exact .refl s
    · split
      · exact s.count_caches 3 65 1 none
      · next v n _ =>
        split
        · rfl
        · split
          · exact (s.makePool_caches v).trans (ih _)
          · split
            · exact s.count_caches 3 64 1 none
            · exact Caches.trans (t := s.delNc v) rfl (Caches.trans (State.count_caches _ 3 (4 * (slice l).val + 2) 1 none) rfl)

theorem State.takeWay_of {s : State} {l fuel : Nat} {r : WayRes} (h : s.takeWay l fuel = r) : Caches s r.state := h ▸ s.takeWay_caches l fuel

theorem State.wakeRead_caches (s : State) (l : Nat) (second : Bool) : Caches s (s.wakeRead l second) := (s.wakeRead_issued l second).caches

theorem State.addFill_caches (s : State) (l : Nat) (v : Option LineVal) (host : Bool) : Caches s (s.addFill l v host) := by
  unfold State.addFill
  extract_lets second reads places woken issued _ coded _ added
  have hwoken : Caches s woken := by
    simp only [woken]
    split
    · exact s.wakeRead_caches l second
    · exact .refl s
  have hissued : IssuedOnly woken issued := by
    refine IssuedOnly.foldl (fun s p => ?_) places woken
    split
    · exact s.rebuildReads_issued l _ _
    · exact s.chanIssue_issued _ _ _
  have hcoded : Caches issued coded := by
    simp only [coded]
    split <;> rfl
  have hadded : Caches s added := ((hwoken.trans hissued.caches).trans hcoded).trans rfl
  split
  · refine hadded.trans (OnlyDrains.foldl (fun s p => ?_) places added).caches
    cases s.slotChan p.1.slot with
    | none => exact .refl s
    | some c => exact s.noteDrain_only c
  · exact hadded

theorem State.openFill_caches (s : State) (l : Nat) (host : Bool) : Caches s (s.openFill l host) := by
  unfold State.openFill
  split
  · exact s.resolveFill_caches l _
  · have hx := (s.xlate_looks l).caches
    generalize s.xlate l = r at hx ⊢
    obtain ⟨x, u⟩ := r
    dsimp only at hx ⊢
    split
    · exact hx.trans (u.resolveFill_caches ..)
    · exact hx.trans (u.resolveFill_caches ..)
    · split
      · exact hx.trans (u.resolveFill_caches ..)
      · exact hx.trans (u.addFill_caches ..)
    · exact hx.trans (u.addFill_caches ..)

/-- The state that a landing leaves. -/
def LandRes.state : LandRes → State
  | .landed s => s
  | .wait _ s => s

theorem State.doorbell_caches (s : State) (l : Nat) : Caches s (s.doorbell l) := (s.doorbell_bells l).caches

theorem State.land_caches (s : State) (l : Nat) (d : LineData) (m : Mask) (poison : Bool) : Caches s (s.land l d m poison).state := by
  have htouch := s.touch_caches l
  unfold State.land
  dsimp only
  generalize s.touch l = u at htouch ⊢
  split
  · exact htouch
  · split
    · next n _ =>
      have hhit : Caches u (((u.setNc l (n.written d m poison)).touchNc l n.way).ncHit l) := ((u.setNc_caches ..).trans (State.touchNc_caches ..)).trans (State.ncHit_hit ..).caches
      refine (htouch.trans hhit).trans ?_
      refine Caches.trans ?_ (State.doorbell_caches ..)
      split
      · exact State.endFill_caches ..
      · exact .refl _
    · split
      · next v hv =>
        have hbusy : Caches s v := htouch.trans (State.takeWay_of hv)
        exact hbusy
      · next v hv =>
        have hfull : Caches s v := htouch.trans (State.takeWay_of hv)
        exact hfull
      · next w v hv =>
        have hgot : Caches s v := htouch.trans (State.takeWay_of hv)
        have hheld : Caches s ((v.setNc l ⟨w, d, m, true, poison, m != fullMask, none⟩).touchNc l w) := (hgot.trans (State.setNc_caches ..)).trans (State.touchNc_caches ..)
        refine hheld.trans (Caches.trans ?_ (State.doorbell_caches ..))
        split
        · exact .refl _
        · exact State.openFill_caches ..

/-! ## The directory and its snoops (R177 to R189) -/

/-- A change of the directory alone. -/
def Directs (s t : State) : Prop := { t with dir := s.dir } = s

theorem Directs.downKept {s t : State} (h : Directs s t) : DownKept p s t := .frame h ⟨rfl, rfl, rfl⟩

theorem State.setDir_directs (s : State) (l : Nat) (x : BitVec 8) (st : DirState) : Directs s (s.setDir l x st) := by
  unfold State.setDir
  split <;> rfl

theorem State.clearPres_directs (s : State) (l : Nat) (h : Head) : Directs s (s.clearPres l h) := by
  unfold State.clearPres
  split
  · rfl
  · split
    · exact s.setDir_directs ..
    · rfl

theorem State.setBusy_directs (s : State) (l : Nat) (b : Bool) : Directs s (s.setBusy l b) := by
  unfold State.setBusy
  split <;> rfl

theorem State.unbusy_directs (s : State) (l : Nat) : Directs s (s.unbusy l) := by
  unfold State.unbusy
  split <;> rfl

theorem State.touchDir_directs (s : State) (l : Nat) (w : Fin 16) : Directs s (s.touchDir l w) := rfl

theorem State.settleDir_downKept (s : State) (r : RtkEntry) : DownKept p s (s.settleDir r) := by
  have hgrant (t : State) (g : Grant) (ht : Directs s t) : DownKept p s (t.updEntry r.id fun r => { r with grant := g, coherent := true }) :=
    ht.downKept.trans (t.updEntry_downKept r.id fun _ => ⟨rfl, rfl⟩)
  unfold State.settleDir
  extract_lets l b held grant
  split
  · split
    · exact hgrant _ _ (s.setDir_directs ..)
    · exact hgrant _ _ (s.setDir_directs ..)
    · exact hgrant _ _ rfl
  · split
    · exact hgrant _ _ rfl
    · split
      · exact hgrant _ _ (s.setDir_directs ..)
      · exact hgrant _ _ (s.setDir_directs ..)
  · split
    · exact hgrant _ _ (s.setDir_directs ..)
    · exact hgrant _ _ (s.clearPres_directs ..)
  · split
    · exact hgrant _ _ (s.setDir_directs ..)
    · exact hgrant _ _ (s.clearPres_directs ..)
  · exact hgrant _ _ (s.clearPres_directs ..)
  · exact hgrant _ _ rfl

/-- A snoop goes against a BISnp credit (R182). -/
theorem State.trySend_downKept (s : State) (q : Snoop) : DownKept p s (s.trySend q) := by
  unfold State.trySend
  split
  · exact .refl s
  · next hgo =>
    have hcredit : ¬ (s.port q.host).Creditless := fun hc => hgo (by simp [hc.2.2])
    have hmark : SentAt q.host s { s with dir := { s.dir with snoops := updWhere (·.id == q.id) (fun x => { x with sent := true }) s.dir.snoops } } := ⟨rfl, fun _ _ => rfl, rfl⟩
    exact (((((hmark.trans (SentAt.updPort ..)).trans (SentAt.emit ..)).trans (SentAt.count ..)).trans (SentAt.count ..)).trans (SentAt.count ..)).downKept hcredit

theorem State.snoop_downKept (s : State) (h : Head) (op : SnoopOp) (l : Nat) (c : SnoopCause) (place : Nat) : DownKept p s (s.snoop h op l c place) := by
  unfold State.snoop
  extract_lets q _ slotted
  have hslotted : Directs s slotted := rfl
  exact (hslotted.downKept.trans (DownKept.foldl (fun s j => (s.setBusy_directs j true).downKept) _ _)).trans (State.trySend_downKept ..)

theorem State.rebuildDir_downKept (s : State) (l : Nat) : DownKept p s (s.rebuildDir l) := by
  unfold State.rebuildDir
  split
  · exact .refl s
  · split
    · exact .refl s
    · extract_lets hs _ entered waiter
      split
      · exact .refl s
      · have hentered : Directs s entered := rfl
        exact hentered.downKept.trans (DownKept.foldl (fun s h => s.snoop_downKept h _ _ _ _) _ _)

theorem State.violation_downKept (s : State) (h : Head) (l : Nat) : DownKept p s (s.violation h l) := (s.violation_slips h l).noted.downKept

/-! ## The access (R37, R42, R43, R118) -/

theorem State.bufferPage_caches (s : State) (k : Nat) (gen : BitVec 16) : Caches s (s.bufferPage k gen) := rfl

/-- A line that the page buffer gives. -/
theorem State.buffered_caches (s : State) (l k : Nat) (n : NcLine) (gen : BitVec 16) : Caches s ((((s.setNc l n).bufferPage k gen).count 7 12).heat l) :=
  (((s.setNc_caches l n).trans (State.bufferPage_caches _ k gen)).trans (State.count_caches _ 7 12 1 none)).trans (State.heat_hit _ l).caches

theorem State.startFill_downKept (s : State) (id l : Nat) : DownKept p s (s.startFill id l) := by
  unfold State.startFill
  split
  · next v hv =>
    have hbusy : Caches s v := State.takeWay_of hv
    exact hbusy.downKept.trans (State.setPhase_downKept ..)
  · next v hv =>
    have hfull : Caches s v := State.takeWay_of hv
    exact hfull.downKept.trans (State.setPhase_downKept ..)
  · next w v hv =>
    have hgot : Caches s (v.touchNc l w) := Caches.trans (State.takeWay_of hv : Caches s v) (State.touchNc_caches ..)
    dsimp only
    generalize v.touchNc l w = u at hgot ⊢
    split
    · exact (hgot.trans (u.buffered_caches ..)).downKept.trans (State.answer_downKept ..)
    · exact (hgot.trans ((u.setNc_caches ..).trans (State.addFill_caches ..))).downKept.trans (State.setPhase_downKept ..)

theorem State.ncMiss_caches (s : State) (l : Nat) : Caches s (s.ncMiss l) := s.count_caches ..

theorem State.accessRead_downKept (s : State) (r : RtkEntry) : DownKept p s (s.accessRead r) := by
  unfold State.accessRead
  extract_lets l id
  split
  · exact s.answer_downKept ..
  · split
    · exact s.answer_downKept ..
    · split
      · next n _ =>
        have hhit : Caches s ((s.touchNc l n.way).ncHit l) := (s.touchNc_caches ..).trans (State.ncHit_hit ..).caches
        split
        · exact s.setPhase_downKept ..
        · exact hhit.downKept.trans (State.answer_downKept ..)
      · split
        · exact (s.ncHit_hit l).downKept.trans (State.answer_downKept ..)
        · have hmiss : Caches s (if r.phase.counted then s else s.ncMiss l) := by
            split
            · exact .refl s
            · exact s.ncMiss_caches l
          generalize (if r.phase.counted then s else s.ncMiss l) = u at hmiss ⊢
          have hx := hmiss.trans (u.xlate_looks l).caches
          generalize u.xlate l = y at hx ⊢
          obtain ⟨x, v⟩ := y
          have hx : Caches s v := hx
          dsimp only
          split
          · exact hx.downKept.trans (State.answer_downKept ..)
          · exact hx.downKept.trans (State.answer_downKept ..)
          · exact hx.downKept.trans (State.setPhase_downKept ..)
          · split
            · exact hx.downKept.trans (State.answer_downKept ..)
            · exact hx.downKept.trans (State.startFill_downKept ..)

theorem State.land_of {s : State} {l : Nat} {d : LineData} {m : Mask} {poison : Bool} {r : LandRes} (h : s.land l d m poison = r) : Caches s r.state := h ▸ s.land_caches l d m poison

theorem State.accessWrite_downKept (s : State) (r : RtkEntry) : DownKept p s (s.accessWrite r) := by
  unfold State.accessWrite
  extract_lets l id counted
  have hcounted : Caches s counted := by
    simp only [counted]
    split
    · exact .refl s
    · exact s.ncMiss_caches l
  have hfrozen : Caches s (if r.crossing then counted.freezeReaders l id else counted) := by
    split
    · exact hcounted.trans (counted.freezeReaders_caches ..)
    · exact hcounted
  split
  · exact (s.touch_caches l).downKept.trans (State.respond_downKept ..)
  · split
    · exact s.setPhase_downKept ..
    · split
      · next v hv =>
        have hwait : Caches s v := hfrozen.trans (State.land_of hv)
        exact hwait.downKept.trans (State.setPhase_downKept ..)
      · next v hv =>
        have hlanded : Caches s v := hfrozen.trans (State.land_of hv)
        extract_lets cleared
        have hcleared : DownKept p s cleared := by
          simp only [cleared]
          split
          · exact hlanded.downKept.trans (v.updEntries_downKept _ fun _ _ => ⟨rfl, rfl⟩)
          · exact hlanded.downKept
        split
        · exact (hcleared.trans (cleared.makePool_caches l).downKept).trans (State.setPhase_downKept ..)
        · exact hcleared.trans (State.respond_downKept ..)

theorem State.access_downKept (s : State) (id : Nat) : DownKept p s (s.access id) := by
  unfold State.access
  split
  · exact .refl s
  · split
    · exact s.closeEntry_downKept _
    · exact s.respond_downKept _
    · exact s.respond_downKept _
    · exact s.respond_downKept _
    · exact s.accessWrite_downKept _
    · exact s.accessRead_downKept _

theorem State.keepData_downKept (s : State) (r : RtkEntry) : DownKept p s (s.keepData r) := by
  unfold State.keepData
  split
  · split
    · exact s.updEntry_downKept r.id fun _ => ⟨rfl, rfl⟩
    · exact .refl s
  · exact .refl s

/-! ## Coherence and service (R46, R76, R182, R188, R356) -/

/-- A request that breaks the rules of coherence is let through (R199). -/
theorem State.letThrough_downKept (s : State) (h : Head) (l id : Nat) :
    DownKept p s (((s.violation h l).updEntry id fun r => { r with coherent := true }).access id) :=
  ((s.violation_downKept h l).trans (State.updEntry_downKept _ id (g := fun r => { r with coherent := true }) fun _ => ⟨rfl, rfl⟩)).trans (State.access_downKept ..)

theorem State.settled_downKept (s : State) (r : RtkEntry) (id : Nat) : DownKept p s ((s.settleDir r).access id) := (s.settleDir_downKept r).trans (State.access_downKept ..)

theorem State.requestSnoops_downKept (s : State) (qs : List (Head × SnoopOp)) (l id : Nat) :
    DownKept p s (qs.foldl (fun s q => s.snoop q.1 q.2 l (.request id) id) s) := by
  have hsnoop (s : State) (q : Head × SnoopOp) : DownKept p s (s.snoop q.1 q.2 l (.request id) id) := s.snoop_downKept ..
  exact DownKept.foldl hsnoop qs s

theorem State.cohere_downKept (s : State) (id : Nat) : DownKept p s (s.cohere id) := by
  unfold State.cohere
  split
  · exact .refl s
  · next r _ =>
    extract_lets l rebuilt _ qs
    have hrebuilt : DownKept p s rebuilt := s.rebuildDir_downKept l
    refine hrebuilt.trans ?_
    generalize rebuilt = u
    split
    · exact u.setPhase_downKept ..
    · refine iteInduction (motive := DownKept p u) (fun _ => u.letThrough_downKept ..) fun _ => ?_
      refine iteInduction (motive := DownKept p u) (fun _ => u.letThrough_downKept ..) fun _ => ?_
      split
      · split
        · exact u.settled_downKept ..
        · split
          · next w _ =>
            extract_lets entered
            have hentered : Directs u entered := rfl
            exact (hentered.downKept.trans (entered.touchDir_directs l w).downKept).trans (State.settled_downKept ..)
          · split
            · exact u.setPhase_downKept ..
            · next v _ =>
              extract_lets hs em counted
              have hcounted : DownKept p u counted := (u.setBusy_directs v true).downKept.trans (State.count_downKept ..)
              split
              · exact u.setPhase_downKept ..
              · exact (hcounted.trans (DownKept.foldl (fun s h => s.snoop_downKept h _ _ _ _) _ _)).trans (State.setPhase_downKept ..)
      · next d _ =>
        split
        · exact (u.touchDir_directs l d.way).downKept.trans (State.settled_downKept ..)
        · split
          · exact u.setPhase_downKept ..
          · exact (((u.touchDir_directs l d.way).downKept.trans (State.keepData_downKept ..)).trans (State.requestSnoops_downKept ..)).trans (State.setPhase_downKept ..)

theorem State.latchWake_issued (s : State) (d : Nat) (src : WakeSource) : IssuedOnly s (s.latchWake d src) := by
  unfold State.latchWake
  split <;> rfl

theorem State.serve_downKept (s : State) (id : Nat) : DownKept p s (s.serve id) := by
  unfold State.serve
  split
  · exact .refl s
  · split
    · exact s.setPhase_downKept ..
    · extract_lets off
      split
      · exact (IssuedOnly.foldl (fun s d => s.latchWake_issued d _) off s).downKept.trans (State.setPhase_downKept ..)
      · split
        · exact s.setPhase_downKept ..
        · split
          · exact s.cohere_downKept id
          · exact s.access_downKept id

end

end Sys2Proof.Machine
end

section
/-! PROOFS. What takes a link down: the fence of its head, synthetic completions, and port resets (R110, R193 to R197, R222 to R224, R227, R296, R311). -/

namespace Sys2Proof.Machine

/-! ## Snoops settled, and the fence (R193 to R197) -/

section
variable {p : Head}

theorem State.resumeCause_downKept (s : State) (c : SnoopCause) (l : Nat) : DownKept p s (s.resumeCause c l) := by
  unfold State.resumeCause
  split
  · exact .refl s
  · split
    · split
      · split
        · exact ((s.settleDir_downKept _).trans (State.setPhase_downKept ..)).trans (State.serve_downKept ..)
        · exact .refl s
      · exact .refl s
    · extract_lets _ evicted
      have hevicted : Directs s evicted := rfl
      split
      · split
        · exact (hevicted.downKept.trans (State.setPhase_downKept ..)).trans (State.serve_downKept ..)
        · exact hevicted.downKept
      · exact hevicted.downKept
    · exact .refl s

theorem State.closeSnoop_downKept (s : State) (q : Snoop) : DownKept p s (s.closeSnoop q) := by
  unfold State.closeSnoop
  extract_lets _ freed resumed
  have hfreed : Directs s freed := rfl
  refine (hfreed.downKept.trans (freed.resumeCause_downKept q.cause q.line)).trans (DownKept.foldl (fun s j => ?_) _ _)
  split
  · exact .refl s
  · exact (s.unbusy_directs j).downKept

theorem State.poisonLine_downKept (s : State) (l : Nat) : DownKept p s (s.poisonLine l) := by
  unfold State.poisonLine
  extract_lets _ cleared
  have htouched : DownKept p s (s.touch l) := (s.touch_caches l).downKept
  have hkept := s.updEntries_downKept (p := p) (fun r => r.line == l && r.isOpen && r.kept.isSome) (g := fun r => { r with kept := none }) fun _ _ => ⟨rfl, rfl⟩
  have hcleared : DownKept p s cleared := ⟨⟨htouched.anchor, htouched.port⟩, hkept.entries⟩
  have hbuffered (v : State) (r : WayRes) (hr : cleared.takeWay l 17 = r) (hv : v = r.state) :
      DownKept p s { v with nc := { v.nc with wbb := v.nc.wbb ++ [⟨l, 0, fullMask, true, false, false, none⟩] } } := by
    have hway : Caches cleared v := hv ▸ State.takeWay_of hr
    exact (hcleared.trans hway.downKept).trans (.apart rfl rfl rfl)
  split
  · exact hcleared.trans (((State.freezeReaders_caches ..).trans (State.setNc_caches ..)).trans (State.endFill_caches ..)).downKept
  · split
    · next w v hv =>
      have hgot : Caches cleared v := State.takeWay_of hv
      exact hcleared.trans ((hgot.trans (State.setNc_caches ..)).trans (State.touchNc_caches ..)).downKept
    · next v hv => exact hbuffered v _ hv rfl
    · next v hv => exact hbuffered v _ hv rfl

theorem State.mediaEvent_downKept (s : State) (l : Nat) (c : Cause) (scrub : Bool) : DownKept p s (s.mediaEvent l c scrub) := by
  unfold State.mediaEvent
  extract_lets hs listed
  have hlisted : DownKept p s listed := .apart rfl rfl rfl
  exact hlisted.trans (State.event_downKept ..)

theorem State.settleLine_downKept (s : State) (h : Head) (l : Nat) (crossed : Bool) : DownKept p s (s.settleLine h l crossed).2 := by
  unfold State.settleLine
  split
  · exact ((s.poisonLine_downKept l).trans (State.clearPres_directs _ l h).downKept).trans (State.mediaEvent_downKept ..)
  · exact (s.clearPres_directs l h).downKept

/-- Work that counts as it goes, done for the members of a list in turn. -/
theorem DownKept.foldl_counted {α : Type} {f : State → α → Nat × State} (hf : ∀ s a, DownKept p s (f s a).2) (as : List α) (n : Nat) (s : State) :
    DownKept p s (as.foldl (fun (x : Nat × State) a => (x.1 + (f x.2 a).1, (f x.2 a).2)) (n, s)).2 := by
  induction as generalizing n s with
  | nil => exact .refl s
  | cons a as ih => exact (hf s a).trans (ih _ _)

theorem State.settleSnoop_downKept (s : State) (q : Snoop) : DownKept p s (s.settleSnoop q).2 :=
  DownKept.foldl_counted (f := fun s l => s.settleLine q.host l (q.crossed.contains l)) (fun s _ => s.settleLine_downKept ..) q.lines 0 s

theorem State.purge_downKept (s : State) (h : Head) : DownKept p s (s.purge h).2 :=
  DownKept.foldl_counted (f := fun s l => s.settleLine h l false) (fun s _ => s.settleLine_downKept ..) _ 0 s

theorem State.settleAll_downKept (s : State) (h : Head) : DownKept p s (s.settleAll h).2 :=
  (DownKept.foldl_counted (f := fun s q => s.settleSnoop q) (fun s q => s.settleSnoop_downKept q) _ 0 s).trans (DownKept.foldl (fun s q => s.closeSnoop_downKept q) _ _)

theorem State.setF_downKept (s : State) (x : Fld) (v : Nat) : DownKept p s (s.setF x v) := .apart rfl rfl rfl

theorem State.fence_downKept (s : State) (h : Head) (linkDown : Bool) (n : Nat) : DownKept p s (s.fence h linkDown n) := by
  unfold State.fence
  split
  · exact s.settleAll_downKept h
  · extract_lets fenced
    have hfenced : DownKept p s fenced := DownKept.trans (t := s.setBit Reg.DIR_STATUS.FENCED h.val true) (.apart rfl rfl rfl) (State.count_downKept ..)
    have hpurged := hfenced.trans (fenced.purge_downKept h)
    generalize fenced.purge h = x at hpurged ⊢
    obtain ⟨n1, u⟩ := x
    have hsettled := hpurged.trans (u.settleAll_downKept h)
    dsimp only
    generalize u.settleAll h = x at hsettled ⊢
    obtain ⟨n2, v⟩ := x
    dsimp only
    have hlogged := hsettled.trans ((((State.flag_downKept v Reg.DIR_TMO_LOG.VALID).trans (State.setF_downKept _ Reg.DIR_TMO_LOG.LINKDOWN (if linkDown then 1 else 0))).trans
      (State.setF_downKept _ Reg.DIR_TMO_LOG.HEAD h.val)).trans (State.setF_downKept _ Reg.DIR_TMO_LOG.EM_LINES (min (n + n1 + n2) (2 ^ 24 - 1))))
    exact (hlogged.trans (State.event_downKept ..)).trans (State.pannier_noted ..).downKept

end

/-! ## Synthetic completions (R223) -/

/-- Every entry of the head is synthetic, and nothing has gone out at a port without credits. -/
theorem State.synthesize_kept (s : State) (h : Head) : PortKept h s (s.synthesize h) ∧ (s.synthesize h).AllSynthetic h := by
  unfold State.synthesize
  extract_lets mine closed
  have hclosed : PortKept h s closed := by
    refine PortKept.foldl (fun s r => ?_) mine s
    split
    · exact (s.closeEntry_downKept _).toPortKept
    · exact .refl s
  refine ⟨hclosed.trans ⟨rfl, fun _ => rfl⟩, fun x hx hh => ?_⟩
  obtain ⟨r, -, rfl⟩ := List.mem_map.1 hx
  cases hr : r.head == h <;> simp only [hr, if_true, Bool.false_eq_true, if_false] at hh ⊢
  exact absurd (beq_iff_eq.2 hh) (by simp [hr])

/-! ## Link down (R222 to R224, R296, R311) -/

/-- A port whose link is lost: its credits, its sequences and its IDE keys are gone. -/
def Port.Lost (q : Port) : Prop :=
  q.up = false ∧ q.active = false ∧ q.reqHost = 0 ∧ q.rwdHost = 0 ∧ q.replay = [] ∧ q.rxSeq = 0 ∧ q.ioTx = .clear ∧ q.ioRx = .clear ∧ q.cmTx = .clear ∧ q.cmRx = .clear

/-- What a link down leaves of the rest of the device. -/
structure Severed (s : State) (p : Head) (t : State) : Prop where
  sessions : ∀ x ∈ t.cry.sessions, x.via ≠ .head p
  entries : t.AllSynthetic p
  mem : t.mem = s.mem
  tb : t.tb = s.tb
  slots : t.cry.slots = s.cry.slots
  hsw : t.hsw = s.hsw
  repairs : t.repairs = s.repairs

theorem linkLost_iff {s : State} {p : Head} {t : State} : LinkLost s p t ↔ (t.port p).Lost ∧ Severed s p t := by
  constructor
  · rintro ⟨hup, hactive, hreq, hrwd, hreplay, hrx, hioTx, hioRx, hcmTx, hcmRx, hsessions, hentries, hmem, htb, hslots, hhsw, hrepairs⟩
    exact ⟨⟨hup, hactive, hreq, hrwd, hreplay, hrx, hioTx, hioRx, hcmTx, hcmRx⟩, ⟨hsessions, hentries, hmem, htb, hslots, hhsw, hrepairs⟩⟩
  · rintro ⟨⟨hup, hactive, hreq, hrwd, hreplay, hrx, hioTx, hioRx, hcmTx, hcmRx⟩, ⟨hsessions, hentries, hmem, htb, hslots, hhsw, hrepairs⟩⟩
    exact ⟨hup, hactive, hreq, hrwd, hreplay, hrx, hioTx, hioRx, hcmTx, hcmRx, hsessions, hentries, hmem, htb, hslots, hhsw, hrepairs⟩

/-- A change of the port that keeps it lost. -/
theorem LinkLost.updPort {s : State} {p : Head} {t : State} (h : LinkLost s p t) {g : Port → Port} (hg : ∀ q : Port, q.Lost → (g q).Lost) : LinkLost s p (t.updPort p g) := by
  obtain ⟨hport, hrest⟩ := linkLost_iff.1 h
  refine linkLost_iff.2 ⟨?_, ⟨hrest.sessions, hrest.entries, hrest.mem, hrest.tb, hrest.slots, hrest.hsw, hrest.repairs⟩⟩
  rw [State.port_updPort_self]
  exact hg _ hport

/-- A change of a port before the link went down. -/
theorem LinkLost.of_updPort {s : State} {p h : Head} {g : Port → Port} {t : State} (hlost : LinkLost (s.updPort h g) p t) : LinkLost s p t := hlost

/-- The port as the end of its link and of its IDE streams leaves it. -/
def Port.severed (q : Port) : Port := { q.down with ioTx := .clear, ioRx := .clear, cmTx := .clear, cmRx := .clear, gcm := none, ideHeld := [], ideFlits := 0, goDue := [] }

theorem State.ideClear_port (s : State) (h : Head) :
    (s.ideClear h).port h = { s.port h with ioTx := .clear, ioRx := .clear, cmTx := .clear, cmRx := .clear, gcm := none, ideHeld := [], ideFlits := 0, goDue := [] } :=
  State.port_updPort_self ..

theorem State.updPort_frame (s : State) (h : Head) (g : Port → Port) : { s.updPort h g with ports := s.ports } = s := by
  unfold State.updPort
  rfl

theorem State.ideClear_frame (s : State) (h : Head) : { s.ideClear h with ports := s.ports } = s := s.updPort_frame h _

theorem State.endSessions_frame (s : State) (v : Via) : { s.endSessions v with cry := s.cry } = s := rfl

theorem State.endSessions_cry (s : State) (v : Via) : (s.endSessions v).cry = { s.cry with sessions := s.cry.sessions.filter (·.via != v) } := rfl

theorem State.endSessions_sessions (s : State) (v : Via) : ∀ x ∈ (s.endSessions v).cry.sessions, x.via ≠ v := by
  intro x hx
  have hvia := (List.mem_filter.1 hx).2
  simpa using hvia

/-- The link of a head cut, before its entries end. -/
def State.cut (s : State) (h : Head) : State := ((s.updPort h Port.down).ideClear h).endSessions (.head h)

theorem State.cut_gives (s : State) (h : Head) : (s.cut h).port h = (s.port h).severed ∧ (∀ x ∈ (s.cut h).cry.sessions, x.via ≠ .head h) ∧ (s.cut h).cry.slots = s.cry.slots ∧
    (s.cut h).mem = s.mem ∧ (s.cut h).tb = s.tb ∧ (s.cut h).hsw = s.hsw ∧ (s.cut h).repairs = s.repairs := by
  have hport : ((s.updPort h Port.down).ideClear h).port h = (s.port h).severed := by
    rw [State.ideClear_port, State.port_updPort_self]
    rfl
  have hframe : { (s.updPort h Port.down).ideClear h with ports := s.ports } = s :=
    (congrArg (fun x : State => { x with ports := s.ports }) (State.ideClear_frame _ h)).trans (s.updPort_frame h Port.down)
  unfold State.cut
  generalize (s.updPort h Port.down).ideClear h = u at hport hframe ⊢
  have hsame := congrArg (fun x : State => (x.cry, x.mem, x.tb, x.hsw, x.repairs)) hframe
  simp only [Prod.mk.injEq] at hsame
  obtain ⟨hcry, hmem, htb, hhsw, hrepairs⟩ := hsame
  have hslots : (u.endSessions (.head h)).cry.slots = u.cry.slots := rfl
  exact ⟨hport, u.endSessions_sessions _, hslots.trans (congrArg Cry.slots hcry), hmem, htb, hhsw, hrepairs⟩

/-- What follows the cut: entries end, snoops expire, records are written (R197, R222, R223). -/
def State.afterCut (s : State) (h : Head) (perst : Bool) : State :=
  let s := s.synthesize h
  let s := if s.dir.snoops.any (·.host == h) then s.fence h true 0 else s
  let s := if perst then s else s.flag (Reg.PRTn_LINK_ERR.SURPRISE_DOWN.nth h.val)
  let s := s.event [s.owner] .warning .linkDown h.val
  s.pannier (4 + h.val) 1 1 .linkDown 1 0 0 (0x100008 + 0x10000 * h.val) true

theorem State.linkDown_eq {s : State} {h : Head} (hup : (s.port h).up = true) (perst : Bool) : s.linkDown h perst = (s.cut h).afterCut h perst := by
  rw [State.linkDown, hup]
  rfl

theorem State.afterCut_kept (s : State) (h : Head) (perst : Bool) : PortKept h s (s.afterCut h perst) ∧ (s.afterCut h perst).AllSynthetic h := by
  obtain ⟨hkept, hall⟩ := s.synthesize_kept h
  unfold State.afterCut
  extract_lets ended expired flagged told
  have hexpired : DownKept h ended expired := by
    simp only [expired]
    split
    · exact ended.fence_downKept ..
    · exact .refl ended
  have hflagged : DownKept h expired flagged := by
    simp only [flagged]
    split
    · exact .refl expired
    · exact expired.flag_downKept _
  have hrest := ((hexpired.trans hflagged).trans (State.event_downKept ..)).trans (State.pannier_noted told (4 + h.val) 1 1 .linkDown 1 0 0 (0x100008 + 0x10000 * h.val) true).downKept
  exact ⟨hkept.trans hrest.toPortKept, hrest.entries hall⟩

theorem Port.severed_undone {q q' : Port} (h : q.severed.undoDown q' = q.severed) : q'.Lost ∧ q'.perst = q.perst := by
  have hup := congrArg Port.up h
  have hactive := congrArg Port.active h
  have hreq := congrArg Port.reqHost h
  have hrwd := congrArg Port.rwdHost h
  have hreplay := congrArg Port.replay h
  have hrx := congrArg Port.rxSeq h
  have hioTx := congrArg Port.ioTx h
  have hioRx := congrArg Port.ioRx h
  have hcmTx := congrArg Port.cmTx h
  have hcmRx := congrArg Port.cmRx h
  have hperst := congrArg Port.perst h
  exact ⟨⟨hup, hactive, hreq, hrwd, hreplay, hrx, hioTx, hioRx, hcmTx, hcmRx⟩, hperst⟩

/-- A link that goes down is lost (R222 to R224). -/
theorem State.linkDown_lost {s : State} {h : Head} (hup : (s.port h).up = true) (perst : Bool) :
    LinkLost s h (s.linkDown h perst) ∧ ((s.linkDown h perst).port h).perst = (s.port h).perst := by
  obtain ⟨hport, hsessions, hslots, hmem, htb, hhsw, hrepairs⟩ := s.cut_gives h
  obtain ⟨hkept, hall⟩ := (s.cut h).afterCut_kept h perst
  rw [State.linkDown_eq hup]
  generalize (s.cut h).afterCut h perst = t at *
  generalize s.cut h = u at *
  have hback := hkept.port (by rw [hport]; exact ⟨rfl, rfl, rfl⟩)
  rw [hport] at hback
  obtain ⟨hlost, hperst⟩ := Port.severed_undone hback
  have hanchor := hkept.anchor
  simp only [State.anchor, Prod.mk.injEq] at hanchor
  obtain ⟨amem, atb, acry, ahsw, arepairs⟩ := hanchor
  refine ⟨linkLost_iff.2 ⟨hlost, ?_⟩, hperst⟩
  exact ⟨acry ▸ hsessions, hall, amem.trans hmem, atb.trans htb, (congrArg Cry.slots acry).trans hslots, ahsw.trans hhsw, arepairs.trans hrepairs⟩

/-! ## Port resets (R110, R224, R352, R452) -/

/-- The port as a port reset leaves it. -/
def Port.hotReset (q : Port) : Port :=
  { q with offer := none, accepted := false, elasticMax := 0, ioTx := .clear, ioRx := .clear, cmTx := .clear, cmRx := .clear, gcm := none, ideHeld := [], ideFlits := 0, goDue := []
           resetSeen := true, hdm := [], cxlRegs := [], msixWords := [], biEnable := false, ideContain := false, ideAgg := 1, eqFailed := false, goodLanes := BitVec.allOnes 16
           rasOverflow := false, rasIde := false, rasMalformed := false, aerPoisoned := false, aerUnsupported := false
           msixMask := BitVec.allOnes 128, msixPend := 0, evtPolicy := ⟨none, none, none, none, none⟩, alertCfg := 0, mbxHeld := none }

theorem State.clearAcceptance_gives (s : State) (h : Head) : (s.clearAcceptance h).port h = { s.port h with offer := none, accepted := false, elasticMax := 0 } ∧
    { s.clearAcceptance h with ports := s.ports, pmu := s.pmu } = s := by
  unfold State.clearAcceptance
  refine ⟨?_, congrArg (fun x : State => { x with ports := s.ports }) (s.lapseOffer_frame h)⟩
  rw [State.port_updPort_self, State.lapseOffer_port, if_pos rfl]

theorem State.resetRings_frame (s : State) (h : Head) : { s.resetRings h with csr := s.csr, cmd := s.cmd } = s := rfl

theorem State.portResetState_port (s : State) (h : Head) : (s.portResetState h).port h = (s.port h).hotReset := by
  obtain ⟨hport, -⟩ := s.clearAcceptance_gives h
  have hrings := congrArg State.ports ((s.clearAcceptance h).resetRings_frame h)
  have hcleared : (((s.clearAcceptance h).resetRings h).endSessions (.head h)).port h = (s.clearAcceptance h).port h := State.port_congr hrings h
  unfold State.portResetState
  dsimp only
  rw [State.port_updPort_self, State.ideClear, State.port_updPort_self, hcleared, hport]
  rfl

theorem State.portResetState_frame (s : State) (h : Head) : (s.portResetState h).cry = { s.cry with sessions := s.cry.sessions.filter (·.via != .head h) } ∧
    { s.portResetState h with ports := s.ports, pmu := s.pmu, csr := s.csr, cmd := s.cmd, cry := s.cry } = s := by
  obtain ⟨-, hcleared⟩ := s.clearAcceptance_gives h
  unfold State.portResetState
  dsimp only
  generalize s.clearAcceptance h = v at hcleared ⊢
  have hrings := v.resetRings_frame h
  generalize v.resetRings h = u at hrings ⊢
  have hended := u.endSessions_frame (.head h)
  have hsessions := u.endSessions_cry (.head h)
  generalize u.endSessions (.head h) = w at hended hsessions ⊢
  have hide := w.ideClear_frame h
  generalize w.ideClear h = x at hide ⊢
  have hvcry := congrArg State.cry hcleared
  have hucry := congrArg State.cry hrings
  have hxcry := congrArg State.cry hide
  have hcry : u.cry = s.cry := Eq.trans hucry hvcry
  rw [hcry] at hsessions
  refine ⟨Eq.trans hxcry hsessions, ?_⟩
  have hrest : { w with pmu := s.pmu, csr := s.csr, cmd := s.cmd, cry := s.cry } = { v with pmu := s.pmu, csr := s.csr, cmd := s.cmd, cry := s.cry } :=
    (congrArg (fun x : State => { x with pmu := s.pmu, csr := s.csr, cmd := s.cmd, cry := s.cry }) hended).trans
      (congrArg (fun x : State => { x with pmu := s.pmu, csr := s.csr, cmd := s.cmd, cry := s.cry }) hrings)
  exact ((congrArg (fun x : State => { x with ports := s.ports, pmu := s.pmu, csr := s.csr, cmd := s.cmd, cry := s.cry }) hide).trans
    (congrArg (fun x : State => { x with ports := s.ports }) hrest)).trans (congrArg (fun x : State => { x with csr := s.csr, cmd := s.cmd, cry := s.cry }) hcleared)

theorem Port.Lost.hotReset {q : Port} (h : q.Lost) : q.hotReset.Lost := by
  obtain ⟨hup, hactive, hreq, hrwd, hreplay, hrx, -⟩ := h
  exact ⟨hup, hactive, hreq, hrwd, hreplay, hrx, rfl, rfl, rfl, rfl⟩

/-- A port reset leaves a lost link lost. -/
theorem LinkLost.portResetState {s : State} {p : Head} {t : State} (h : LinkLost s p t) : LinkLost s p (t.portResetState p) := by
  obtain ⟨hport, hrest⟩ := linkLost_iff.1 h
  obtain ⟨hcry, hframe⟩ := t.portResetState_frame p
  have hsame := congrArg (fun x : State => (x.rtk, x.mem, x.tb, x.hsw, x.repairs)) hframe
  simp only [Prod.mk.injEq] at hsame
  obtain ⟨hrtk, hmem, htb, hhsw, hrepairs⟩ := hsame
  refine linkLost_iff.2 ⟨by rw [State.portResetState_port]; exact hport.hotReset, ?_⟩
  refine ⟨fun x hx => ?_, by rw [State.AllSynthetic, hrtk]; exact hrest.entries, hmem.trans hrest.mem, htb.trans hrest.tb, ?_, hhsw.trans hrest.hsw, hrepairs.trans hrest.repairs⟩
  · rw [hcry] at hx
    exact hrest.sessions x (List.mem_of_mem_filter hx)
  · rw [hcry]
    exact hrest.slots

/-- What a port reset clears of its head (R110, R224). -/
def PortCleared (p : Head) (t : State) : Prop :=
  (t.port p).hdm = [] ∧ (t.port p).cxlRegs = [] ∧ (t.port p).biEnable = false ∧ (t.port p).accepted = false ∧ (t.port p).offer = none ∧
  (t.port p).evtPolicy = ⟨none, none, none, none, none⟩ ∧ (t.port p).resetSeen = true

theorem State.portResetState_cleared (s : State) (p : Head) : PortCleared p (s.portResetState p) := by
  rw [PortCleared, State.portResetState_port]
  exact ⟨rfl, rfl, rfl, rfl, rfl, rfl, rfl⟩

/-! ## The events (R204, R222, R224, R464) -/

/-- PORTn_PERST_n is asserted. -/
def State.assertPerst (s : State) (p : Head) : State := s.updPort p fun q => { q with perst := true, waiting := none }

section
variable {s : State} {p : Head} (hup : (s.port p).up = true)
include hup

theorem State.linkDown_gives : Gives (.linkDown p) s (LinkLost s p) := ⟨_, rfl, (State.linkDown_lost hup false).1⟩

theorem State.viral_gives : Gives (.viral p) s (LinkLost s p) := ⟨_, rfl, (State.linkDown_lost hup false).1⟩

theorem State.refclkLoss_gives : Gives (.refclkLoss p) s (LinkLost s p) := by
  have hup' : ((s.updPort p fun q => { q with refclk := false }).port p).up = true := by
    rw [State.port_updPort_self]
    exact hup
  exact ⟨_, rfl, (State.linkDown_lost hup' false).1.of_updPort⟩

theorem State.recoveryTimeout_gives (hrec : (s.port p).ltssm = .recovery) : Gives (.recoveryTimeout p) s (LinkLost s p) := by
  have hexec : exec (.recoveryTimeout p) s = .next (if (s.port p).ltssm == .recovery then s.linkDown p false else s) := rfl
  simp only [hrec, beq_self_eq_true, if_true] at hexec
  exact ⟨_, hexec, (State.linkDown_lost hup false).1⟩

theorem State.hotReset_gives : Gives (.portReset p true) s fun t => LinkLost s p t ∧ PortCleared p t := by
  have hexec : exec (.portReset p true) s = .next (if (s.port p).up then (s.linkDown p false).portResetState p else s) := rfl
  rw [hup, if_pos rfl] at hexec
  exact ⟨_, hexec, (State.linkDown_lost hup false).1.portResetState, State.portResetState_cleared ..⟩

omit hup in
theorem State.perst_exec (hrun : s.mainRuns = true) (hp : p ∈ s.heads) :
    exec (.portReset p false) s = .next ((((s.assertPerst p).linkDown p true).portResetState p).updPort p fun q => { q with ltssm := .detect }) := by
  have hexec : exec (.portReset p false) s = execPortReset p false s := rfl
  have hgo : (!(s.assertPerst p).mainRuns || decide (p ∉ (s.assertPerst p).heads)) = false := by
    have hrun' : (s.assertPerst p).mainRuns = true := hrun
    have hp' : p ∈ (s.assertPerst p).heads := hp
    simp [hrun', hp']
  rw [hexec, execPortReset, if_neg Bool.false_ne_true, ← State.assertPerst]
  dsimp only
  rw [hgo, if_neg Bool.false_ne_true]

/-- With its pins the reset is seen at a presented head while the main domains run (R224). -/
theorem State.perst_gives (hrun : s.mainRuns = true) (hp : p ∈ s.heads) : Gives (.portReset p false) s fun t => LinkLost s p t ∧ PortCleared p t ∧ (t.port p).perst = true := by
  have hport : (s.assertPerst p).port p = { s.port p with perst := true, waiting := none } := State.port_updPort_self ..
  obtain ⟨hlost, hperst⟩ := State.linkDown_lost (s := s.assertPerst p) (h := p) (by rw [hport]; exact hup) true
  have hbefore : LinkLost s p ((s.assertPerst p).linkDown p true) :=
    LinkLost.of_updPort (g := fun q => { q with perst := true, waiting := none }) hlost
  refine ⟨_, State.perst_exec hrun hp, ?_⟩
  rw [hport] at hperst
  generalize (s.assertPerst p).linkDown p true = t at *
  obtain ⟨hhdm, hcxl, hbi, haccepted, hoffer, hpolicy, hseen⟩ := t.portResetState_cleared p
  have hreset : ((t.portResetState p).port p).perst = true := by
    rw [State.portResetState_port]
    exact hperst
  refine ⟨LinkLost.updPort hbefore.portResetState fun q hq => hq, ?_, ?_⟩
  · rw [PortCleared, State.port_updPort_self]
    dsimp only
    exact ⟨hhdm, hcxl, hbi, haccepted, hoffer, hpolicy, hseen⟩
  · rw [State.port_updPort_self]
    exact hreset

/-- With no lane left the link goes down (R204). -/
theorem State.lanesLost_gives (hlanes : (s.port p).goodLanes ≠ 0) : Gives (.laneFailure p 0) s (LinkLost s p) := by
  have hzero (tandem : Bool) : linkWidth tandem 0 = 0 := by cases tandem <;> decide
  have hnone : (s.port p).goodLanes &&& 0 = 0 := BitVec.and_zero
  have hup' : ((s.updPort p fun q => { q with goodLanes := (s.port p).goodLanes &&& 0 }).port p).up = true := by
    rw [State.port_updPort_self]
    exact hup
  have hexec : exec (.laneFailure p 0) s = execLaneFailure p 0 s := rfl
  have hgo : (!(s.port p).up || (0 : BitVec 16) == (s.port p).goodLanes) = false := by
    rw [hup, beq_false_of_ne hlanes.symm]
    rfl
  rw [execLaneFailure] at hexec
  simp only [hnone, hgo, hzero, Nat.min_zero, if_true, Bool.false_eq_true, if_false] at hexec
  rw [hnone] at hup'
  exact ⟨_, hexec, LinkLost.updPort (State.linkDown_lost hup' false).1.of_updPort fun q hq => hq⟩

theorem State.linkLosses_give : ∀ i ∈ [Instr.linkDown p, .viral p, .refclkLoss p, .portReset p true, .laneFailure p 0],
    (i = .laneFailure p 0 → (s.port p).goodLanes ≠ 0) → Gives i s (LinkLost s p) := by
  intro i hi hlanes
  simp only [List.mem_cons, List.not_mem_nil, or_false] at hi
  obtain ⟨t, ht, hreset, -⟩ := State.hotReset_gives hup
  rcases hi with rfl | rfl | rfl | rfl | rfl
  · exact State.linkDown_gives hup
  · exact State.viral_gives hup
  · exact State.refclkLoss_gives hup
  · exact ⟨t, ht, hreset⟩
  · exact State.lanesLost_gives hup (hlanes rfl)

theorem State.portReset_clears (hot : Bool) (hwhen : hot = true ∨ (s.mainRuns = true ∧ p ∈ s.heads)) : Gives (.portReset p hot) s fun t =>
    (t.port p).hdm = [] ∧ (t.port p).cxlRegs = [] ∧ (t.port p).biEnable = false ∧ (t.port p).accepted = false ∧ (t.port p).offer = none ∧
    (t.port p).evtPolicy = ⟨none, none, none, none, none⟩ ∧ (t.port p).resetSeen = true ∧ (hot = false → (t.port p).perst = true) := by
  cases hot
  · obtain ⟨hrun, hp⟩ := hwhen.resolve_left Bool.false_ne_true
    obtain ⟨t, ht, -, ⟨hhdm, hcxl, hbi, haccepted, hoffer, hpolicy, hseen⟩, hperst⟩ := State.perst_gives hup hrun hp
    exact ⟨t, ht, hhdm, hcxl, hbi, haccepted, hoffer, hpolicy, hseen, fun _ => hperst⟩
  · obtain ⟨t, ht, -, hhdm, hcxl, hbi, haccepted, hoffer, hpolicy, hseen⟩ := State.hotReset_gives hup
    exact ⟨t, ht, hhdm, hcxl, hbi, haccepted, hoffer, hpolicy, hseen, fun h => absurd h.symm Bool.false_ne_true⟩

end

/-- Settles O39: with no credit left at the port, all that the device does for the head's entries and snoops after the cut leaves the port as the cut left it. -/
theorem linkDownEvents : Obligations.LinkDownEvents := by
  intro s p hup
  refine ⟨State.linkLosses_give hup, State.recoveryTimeout_gives hup, fun hrun hp => ?_, State.portReset_clears hup⟩
  obtain ⟨t, ht, hlost, -⟩ := State.perst_gives hup hrun hp
  exact ⟨t, ht, hlost⟩

end Sys2Proof.Machine
end

section
/-! PROOFS. Dictionary training, admission and reload (R139 to R145): what the end of a round, an admission and a reload change. -/

namespace Sys2Proof.Machine

/-! ## Slots -/

theorem State.dict_setDict (s : State) (d j : Nat) (x : Dict) : (s.setDict d x).dict j = if j = d then x else s.dict j := Tbl.get_set ..

@[simp] theorem State.dict_setDict_self (s : State) (d : Nat) (x : Dict) : (s.setDict d x).dict d = x := by simp [State.dict_setDict]

theorem State.dict_setDict_ne (s : State) {d j : Nat} (x : Dict) (h : j ≠ d) : (s.setDict d x).dict j = s.dict j := by simp [State.dict_setDict, h]

theorem State.dict_freeDict (s : State) (d j : Nat) : (s.freeDict d).dict j = if j = d then Dict.free else s.dict j := by
  unfold State.dict State.freeDict Tbl.get
  rw [Tbl.look_del]
  split <;> rfl

theorem State.dict_congr {s t : State} (h : t.cdc.dicts = s.cdc.dicts) (j : Nat) : t.dict j = s.dict j := congrArg (Tbl.get Dict.free · j) h

/-! ## The end of a training round -/

/-- What a training round may change: the codecs' own state, counters, and the command that asked for the round (R140, R346). -/
def RoundOnly (s t : State) : Prop := { t with cdc := s.cdc, pmu := s.pmu, cmd := { t.cmd with cmds := s.cmd.cmds } } = s

theorem RoundOnly.trans {s t u : State} (h1 : RoundOnly s t) (h2 : RoundOnly t u) : RoundOnly s u :=
  Eq.trans (congrArg (fun x : State => { x with cdc := s.cdc, pmu := s.pmu, cmd := { x.cmd with cmds := s.cmd.cmds } }) h2) h1

/-- The end of a round leaves the slots, puts the round back to idle, and ends its command if it has one. -/
theorem State.endRound_gives (s : State) (status : BitVec 8) (result : Nat) :
    RoundOnly s (s.endRound status result) ∧ (s.endRound status result).cdc = { s.cdc with train := ⟨.idle, 0, [], 0, 0, 0, none⟩ } := by
  unfold State.endRound
  cases s.cdc.train.cmd with
  | none => exact ⟨rfl, rfl⟩
  | some id => exact ⟨rfl, rfl⟩

theorem State.discardCandidate_gives (s : State) :
    s.discardCandidate.cdc.dicts = s.cdc.dicts ∧ s.discardCandidate.cdc.train.st = .idle ∧ RoundOnly s s.discardCandidate := by
  obtain ⟨honly, hcdc⟩ := s.endRound_gives 0 0
  exact ⟨congrArg (·.dicts) hcdc, congrArg (·.train.st) hcdc, honly⟩

/-- The candidate of the round stands in slot `d` (R141). -/
def State.filledSlot (s : State) (d : Nat) : State := s.setDict d ⟨.active, s.cdc.train.key, s.cdc.train.size, s.cdc.train.signature, 0, false, false⟩

/-- The slot that a candidate takes is written with the round's key, size and signature, and then the round ends (R141). -/
theorem State.admitCandidate_gives {s : State} {i : Nat} (habort : s.cdc.train.cmd.any s.aborted = false)
    (hfree : (List.range 15).find? (fun i => (s.dict (i + 1)).state == .free) = some i) :
    s.admitCandidate.dict (i + 1) = ⟨.active, s.cdc.train.key, s.cdc.train.size, s.cdc.train.signature, 0, false, false⟩ ∧
    (∀ j, j ≠ i + 1 → s.admitCandidate.dict j = s.dict j) ∧ s.admitCandidate.cdc.train.st = .idle ∧ RoundOnly s s.admitCandidate := by
  have hadmit : s.admitCandidate = ((s.filledSlot (i + 1)).endRound 0 (1 + 16 * (i + 1))).count 7 13 := by
    simp only [State.admitCandidate, habort, Bool.false_eq_true, if_false, hfree, State.filledSlot]
  obtain ⟨honly, hcdc⟩ := (s.filledSlot (i + 1)).endRound_gives 0 (1 + 16 * (i + 1))
  have hdict (j : Nat) : s.admitCandidate.dict j = (s.filledSlot (i + 1)).dict j := by
    rw [hadmit]
    exact State.dict_congr (congrArg (·.dicts) hcdc) j
  refine ⟨(hdict _).trans (s.dict_setDict_self ..), fun j hj => (hdict j).trans (s.dict_setDict_ne _ hj), ?_, ?_⟩
  · rw [hadmit]
    exact congrArg (·.train.st) hcdc
  · rw [hadmit]
    exact RoundOnly.trans (t := s.filledSlot (i + 1)) rfl honly

/-! ## A candidate -/

/-- The round while DEEP validates its candidate: `ps` are the sample pages that were not committed anew (R140). -/
def State.validating (s : State) (ps : List (Nat × BitVec 16)) (g : BitVec 64) (n : Nat) : State :=
  { s with cdc := { s.cdc with train := { s.cdc.train with st := .validating, pages := ps, signature := g, size := n } } }

/-- A candidate is validated after sampling has ended, and placed or discarded by its gain alone. -/
theorem exec_candidateBuilt {s : State} (hst : s.cdc.train.st = .sampling ∨ s.cdc.train.st = .building) (hrun : s.mgt.st = .running)
    (g : BitVec 64) (size : Fin 32769) (cand best plain : Nat) :
    ∃ ps, exec (.candidateBuilt g size cand best plain) s =
      if s.candidateGood cand best plain then .next (s.validating ps g size.val).placeCandidate else .next (s.validating ps g size.val).discardCandidate := by
  have hexec : exec (.candidateBuilt g size cand best plain) s = execCandidateBuilt g size cand best plain s := rfl
  rw [hexec]
  unfold execCandidateBuilt State.endSampling
  rcases hst with h | h
  · refine ⟨s.cdc.train.pages.filter fun q => (s.pageRec q.1).gen == q.2 && s.effRec q.1 == s.pageRec q.1, ?_⟩
    simp only [h, hrun, bne_self_eq_false, Bool.false_and, Bool.or_self, Bool.false_eq_true, if_false]
    rfl
  · refine ⟨s.cdc.train.pages, ?_⟩
    simp only [h, hrun, bne_self_eq_false, Bool.and_false, Bool.or_self, Bool.false_eq_true, if_false]
    rfl

/-- With a slot FREE a good candidate does not wait (R141). -/
theorem State.placeCandidate_of_free {s : State} {i : Nat} (hfree : (List.range 15).find? (fun i => (s.dict (i + 1)).state == .free) = some i) :
    s.placeCandidate = s.admitCandidate :=
  if_pos (List.any_eq_true.2 ⟨i, List.mem_of_find?_eq_some hfree, List.find?_some hfree⟩)

section
variable {s : State} {g : BitVec 64} {size : Fin 32769} {cand best plain : Nat}
  (hst : s.cdc.train.st = .sampling ∨ s.cdc.train.st = .building) (hrun : s.mgt.st = .running)
include hst hrun

theorem candidateBuilt_admits (hgood : s.candidateGood cand best plain = true) (habort : s.cdc.train.cmd.any s.aborted = false) {i : Nat}
    (hfree : (List.range 15).find? (fun i => (s.dict (i + 1)).state == .free) = some i) :
    Gives (.candidateBuilt g size cand best plain) s fun t => t.dict (i + 1) = ⟨.active, s.cdc.train.key, size.val, g, 0, false, false⟩ ∧
      (∀ j, j ≠ i + 1 → t.dict j = s.dict j) ∧ t.cdc.train.st = .idle ∧ RoundOnly s t := by
  obtain ⟨ps, hexec⟩ := exec_candidateBuilt hst hrun g size cand best plain
  have hfree' : (List.range 15).find? (fun i => ((s.validating ps g size.val).dict (i + 1)).state == .free) = some i := hfree
  rw [if_pos hgood, State.placeCandidate_of_free hfree'] at hexec
  obtain ⟨hdict, hothers, hidle, honly⟩ := State.admitCandidate_gives (s := s.validating ps g size.val) habort hfree'
  exact ⟨_, hexec, hdict, hothers, hidle, RoundOnly.trans (t := s.validating ps g size.val) rfl honly⟩

theorem candidateBuilt_discards (hbad : s.candidateGood cand best plain = false) :
    Gives (.candidateBuilt g size cand best plain) s fun t => t.cdc.dicts = s.cdc.dicts ∧ t.cdc.train.st = .idle ∧ RoundOnly s t := by
  obtain ⟨ps, hexec⟩ := exec_candidateBuilt hst hrun g size cand best plain
  rw [hbad, if_neg Bool.false_ne_true] at hexec
  obtain ⟨hdicts, hidle, honly⟩ := (s.validating ps g size.val).discardCandidate_gives
  exact ⟨_, hexec, hdicts, hidle, RoundOnly.trans (t := s.validating ps g size.val) rfl honly⟩

end

theorem exec_candidateWaitTimeout {s : State} (hwait : s.cdc.train.st = .waiting) : exec .candidateWaitTimeout s = .next s.discardCandidate :=
  if_pos (beq_iff_eq.2 hwait)

theorem exec_trainingRound {s : State} {k : Nat} {ps : List (Nat × BitVec 16)} {cmd : Option Nat} (hen : s.fb Reg.CDC_CFG.TRAIN_EN = true) (hhold : s.cdc.hold = false)
    (hidle : s.cdc.train.st = .idle) (hrun : s.mgt.st = .running) (hsample : s.roundSample = some (k, ps, cmd)) :
    exec .trainingRound s = .next { s with cdc := { s.cdc with asked := none, train := ⟨.sampling, k, ps, 0, 0, s.now, cmd⟩ } } := by
  have hexec : exec .trainingRound s = execTrainingRound s := rfl
  have hmay : (!s.fb Reg.CDC_CFG.TRAIN_EN || s.cdc.hold || s.cdc.train.st != .idle || s.mgt.st != .running) = false := by simp [hen, hhold, hidle, hrun]
  rw [hexec, execTrainingRound, if_neg (Bool.eq_false_iff.1 hmay), hsample]

/-! ## The reload of a dictionary -/

/-- Nothing waits for dictionary `d`: no request, and no open fill (R145). -/
def NoneAwaits (d : Nat) (s : State) : Prop := (∀ r ∈ s.rtk, r.phase ≠ .dict d) ∧ ∀ f ∈ s.nc.fills, f.value ≠ none

/-- What waits for a dictionary goes on: its requests, then the open fills of its pages (R145). -/
def State.resumeDict (s : State) (d : Nat) : State :=
  let s := ((s.rtk.filter fun r => r.phase == .dict d).map (·.id)).foldl (fun s id => s.serve id) s
  ((s.nc.fills.filter fun f => f.value.isNone && (s.storageRec (pageKey f.line)).dict == d).map (·.line)).foldl (fun s l => s.reopenFill l) s

theorem State.resumeDict_of_noneAwaits {s : State} {d : Nat} (h : NoneAwaits d s) : s.resumeDict d = s := by
  obtain ⟨hrtk, hfills⟩ := h
  have hids : s.rtk.filter (fun r => r.phase == .dict d) = [] := by simpa using hrtk
  have hlines : s.nc.fills.filter (fun f => f.value.isNone && (s.storageRec (pageKey f.line)).dict == d) = [] := by
    simp only [List.filter_eq_nil_iff, Bool.and_eq_true, Option.isNone_iff_eq_none]
    exact fun f hf hnone => hfills f hf hnone.1
  simp only [State.resumeDict, hids, List.map_nil, List.foldl_nil, hlines]

/-- The loss of a dictionary is told to the owner and recorded (R145). -/
def State.dictLossTold (s : State) (d : Nat) : State := (s.event [s.owner] .failure .dictLost d).pannier 56 0xFF 4 .dictLost 2 0 0 0x230044 true

theorem State.dictLossTold_noted (s : State) (d : Nat) : Noted s (s.dictLossTold d) := (State.event_noted ..).1.trans (State.pannier_noted ..)

theorem Noted.cdc_eq {s t : State} (h : Noted s t) : t.cdc = s.cdc := by
  have hcdc := congrArg State.cdc h.1
  exact hcdc

theorem Noted.fills_eq {s t : State} (h : Noted s t) : t.nc.fills = s.nc.fills := by
  have hfills := congrArg (·.nc.fills) h.1
  exact hfills

theorem Noted.withCdc {s t : State} (h : Noted s t) (c : Cdc) : Noted { s with cdc := c } { t with cdc := c } := by
  obtain ⟨hframe, hports⟩ := h
  have hrest := congrArg (fun x : State => { x with cdc := c }) hframe
  exact ⟨hrest, hports⟩

theorem NoneAwaits.noted {d : Nat} {s t : State} (h : NoneAwaits d s) (hn : Noted s t) : NoneAwaits d t := by
  rw [NoneAwaits, hn.rtk_eq, hn.fills_eq]
  exact h

/-- A slot whose reload ended with no good copy. -/
def Dict.asLost (x : Dict) : Dict := { x with reloading := false, lost := true, state := .retiring }

/-- A slot whose two copies are lost, told as such. -/
def State.dictLost (s : State) (d : Nat) : State := (s.setDict d (s.dict d).asLost).dictLossTold d

theorem State.dictLost_noted (s : State) (d : Nat) : Noted (s.setDict d (s.dict d).asLost) (s.dictLost d) := State.dictLossTold_noted ..

theorem State.dict_dictLost (s : State) (d j : Nat) : (s.dictLost d).dict j = if j = d then (s.dict d).asLost else s.dict j :=
  (State.dict_congr (congrArg (·.dicts) (s.dictLost_noted d).cdc_eq) j).trans (s.dict_setDict ..)

theorem NoneAwaits.dictLost {s : State} {d : Nat} (h : NoneAwaits d s) : NoneAwaits d (s.dictLost d) :=
  NoneAwaits.noted (s := s.setDict d (s.dict d).asLost) h (s.dictLost_noted d)

/-- With both copies lost the slot is RETIRING, and at once FREE where no record names it (R144, R145). -/
theorem exec_dictReloadDone_lost {s : State} {d : DictId} (hload : (s.dict d.val).reloading = true) : exec (.dictReloadDone d true) s =
    .next ((if (s.dict d.val).refs == 0 then ((s.dictLost d.val).freeDict d.val).offerSlot else s.dictLost d.val).resumeDict d.val) := by
  have hexec : exec (.dictReloadDone d true) s = execDictReloadDone d true s := rfl
  rw [hexec]
  simp only [execDictReloadDone, hload, Bool.or_true, Bool.not_true, Bool.false_eq_true, if_false, if_true, Bool.true_and]
  rfl

section
variable {s : State} {d : DictId} (hload : (s.dict d.val).reloading = true) (hnone : NoneAwaits d.val s)
include hload hnone

theorem exec_dictReloadDone_good : exec (.dictReloadDone d false) s = .next (s.setDict d.val { s.dict d.val with reloading := false }) := by
  have hexec : exec (.dictReloadDone d false) s =
      if !(s.dict d.val).reloading then .next s
      else .next ((s.setDict d.val { s.dict d.val with reloading := false, lost := (s.dict d.val).lost || false }).resumeDict d.val) := rfl
  have hidle : NoneAwaits d.val (s.setDict d.val { s.dict d.val with reloading := false }) := hnone
  rw [hexec, hload, Bool.or_false, State.resumeDict_of_noneAwaits hidle, if_neg (by simp)]

theorem exec_dictReloadDone_named (hrefs : (s.dict d.val).refs ≠ 0) : exec (.dictReloadDone d true) s = .next (s.dictLost d.val) := by
  rw [exec_dictReloadDone_lost hload, if_neg (by simpa using hrefs), State.resumeDict_of_noneAwaits hnone.dictLost]

theorem exec_dictReloadDone_unnamed (hrefs : (s.dict d.val).refs = 0) (hwait : s.cdc.train.st ≠ .waiting) :
    exec (.dictReloadDone d true) s = .next ((s.dictLost d.val).freeDict d.val) := by
  have hst : ((s.dictLost d.val).freeDict d.val).cdc.train.st = s.cdc.train.st := congrArg (·.train.st) (s.dictLost_noted d.val).cdc_eq
  have hoffer : ((s.dictLost d.val).freeDict d.val).offerSlot = (s.dictLost d.val).freeDict d.val := if_neg (by simpa [hst] using hwait)
  have hidle : NoneAwaits d.val ((s.dictLost d.val).freeDict d.val) := hnone.dictLost
  rw [exec_dictReloadDone_lost hload, if_pos (by simpa using hrefs), hoffer, State.resumeDict_of_noneAwaits hidle]

end

/-- Settles O56: a round's work stays within the codecs' own state, and a reload that nothing awaits resumes nothing. -/
theorem dictionaryTraining : Obligations.DictionaryTraining := by
  intro s
  refine ⟨fun k ps cmd hen hhold hidle hrun hsample => exec_trainingRound hen hhold hidle hrun hsample, fun g size cand best plain hst hrun => ⟨?_, ?_⟩,
    fun hwait => ⟨_, exec_candidateWaitTimeout hwait, s.discardCandidate_gives⟩, fun d hload hrtk hfills => ⟨?good, ?named, ?unnamed⟩⟩
  · exact fun hgood habort i hfree => candidateBuilt_admits hst hrun hgood habort hfree
  · exact fun hbad => candidateBuilt_discards hst hrun hbad
  case good =>
    exact ⟨_, exec_dictReloadDone_good hload ⟨hrtk, hfills⟩, s.dict_setDict_self .., fun j hj => s.dict_setDict_ne _ hj, rfl⟩
  case named =>
    intro hrefs
    have hnoted := (s.dictLost_noted d.val).withCdc (s.dictLost d.val).cdc
    exact ⟨_, exec_dictReloadDone_named hload ⟨hrtk, hfills⟩ hrefs, by simp [State.dict_dictLost, Dict.asLost], fun j hj => by simp [State.dict_dictLost, hj], hnoted⟩
  case unnamed =>
    intro hrefs hwait
    have hnoted := (s.dictLost_noted d.val).withCdc ((s.dictLost d.val).freeDict d.val).cdc
    exact ⟨_, exec_dictReloadDone_unnamed hload ⟨hrtk, hfills⟩ hrefs hwait, by simp [State.dict_freeDict], fun j hj => by simp [State.dict_freeDict, State.dict_dictLost, hj], hnoted⟩

end Sys2Proof.Machine
end

section
/-! PROOFS. HINT_RANGE, QUERY_RANGE and SNAPSHOT_COUNTERS: the HEAT that a hint gives, and the commands that write their output to a buffer (R165, R345, R346, R420). -/

namespace Sys2Proof.Machine

/-- A command that Clandahar sequences goes on at once while Clandahar runs (R368). -/
theorem State.byMgt_eq {s : State} (h : s.mgtUp = true) (g : State → State) : s.byMgt g = g s := if_pos h

/-! ## HEAT of hinted records (R165) -/

/-- A candidate that is offered sets no register but DRL_STATUS (R151, R172). -/
theorem State.offerCand_word (s : State) (w : Work) (x : Nat) {o : Nat} (ho : o ≠ Reg.DRL_STATUS.QUEUE_DROP.off) : (s.offerCand w x).word o = s.word o := by
  unfold State.offerCand
  split
  · rfl
  · split
    · exact State.word_setF_ne s Reg.DRL_STATUS.QUEUE_DROP 1 ho
    · rfl

/-- The HEAT of an extent record as a hint gives it. -/
def State.heatedExt (s : State) (c : Cmd) (e : Nat) : State := s.setExt e { s.extRec e with heat := hintHeat c s.dirUp s.dirDown }

/-- A hint of an extent record sets its HEAT, and may offer it as a candidate. -/
theorem State.hintExt_cases (s : State) (c : Cmd) (e : Nat) : s.hintExt c e = s.heatedExt c e ∨ ∃ w, s.hintExt c e = (s.heatedExt c e).offerCand w e := by
  have hoffer (b : Bool) (w : Work) : (if b then (s.heatedExt c e).offerCand w e else s.heatedExt c e) = s.heatedExt c e ∨
      ∃ w', (if b then (s.heatedExt c e).offerCand w e else s.heatedExt c e) = (s.heatedExt c e).offerCand w' e := by
    cases b
    · exact .inl rfl
    · exact .inr ⟨w, rfl⟩
  unfold State.hintExt
  extract_lets t r
  split
  · exact hoffer _ _
  · exact hoffer _ _
  · exact .inl rfl

theorem State.hintExt_offers (s : State) (c : Cmd) (e : Nat) : Offers (s.heatedExt c e) (s.hintExt c e) := by
  rcases s.hintExt_cases c e with h | ⟨w, h⟩
  · exact h ▸ .refl _
  · exact h ▸ State.offerCand_offers ..

/-- The thresholds of extents stay while records are hinted. -/
theorem State.hintExt_word (s : State) (c : Cmd) (e : Nat) {o : Nat} (ho : o ≠ Reg.DRL_STATUS.QUEUE_DROP.off) : (s.hintExt c e).word o = s.word o := by
  rcases s.hintExt_cases c e with h | ⟨w, h⟩
  · exact h ▸ rfl
  · exact h ▸ (s.heatedExt c e).offerCand_word w e ho

theorem State.hintHeat_hintExt (s : State) (c : Cmd) (e : Nat) : hintHeat c (s.hintExt c e).dirUp (s.hintExt c e).dirDown = hintHeat c s.dirUp s.dirDown := by
  have hword := s.hintExt_word c e (o := 0x240008) (by decide)
  have hup : (s.hintExt c e).dirUp = s.dirUp := congrArg (fun w : Word => (w >>> 8).toNat % 2 ^ 8) hword
  have hdown : (s.hintExt c e).dirDown = s.dirDown := congrArg (fun w : Word => (w >>> 0).toNat % 2 ^ 8) hword
  rw [hup, hdown]

theorem State.hintExt_heats (s : State) (c : Cmd) (e : Nat) : Heats s (s.hintExt c e) := (s.setExt_heats e _).trans (s.hintExt_offers c e).heats

theorem State.extRec_hintExt (s : State) (c : Cmd) (e k : Nat) :
    (s.hintExt c e).extRec k = if k = e then { s.extRec k with heat := hintHeat c s.dirUp s.dirDown } else s.extRec k := by
  rw [State.extRec_congr (congrArg Xlt.ext (s.hintExt_offers c e).xlt_eq), State.heatedExt, State.extRec_setExt]
  split
  · next h => rw [h]
  · rfl

/-- Every hinted extent record has the HEAT of the thresholds as they stood, whatever order they are hinted in. -/
theorem State.extRec_hintExts (c : Cmd) (es : List Nat) (s : State) (k : Nat) :
    (es.foldl (fun s e => s.hintExt c e) s).extRec k = if k ∈ es then { s.extRec k with heat := hintHeat c s.dirUp s.dirDown } else s.extRec k := by
  induction es generalizing s with
  | nil => rw [if_neg List.not_mem_nil, List.foldl_nil]
  | cons e es ih =>
    rw [List.foldl_cons, ih, s.hintHeat_hintExt, s.extRec_hintExt]
    by_cases he : k = e <;> by_cases hes : k ∈ es <;> simp [he, hes]

/-- A hint of a page record changes the HEAT of that record, and may offer it as a candidate. -/
theorem State.hintPage_offers (s : State) (c : Cmd) (p : Nat) :
    Offers (s.setPage p { s.pageRec p with heat := hintHeat c s.openUp s.openDownNow }) (s.hintPage c p) := by
  unfold State.hintPage
  dsimp only
  split
  · split
    · exact State.offerCand_offers ..
    · exact State.offerCand_ite_offers ..
  · split
    · exact State.offerCand_offers ..
    · exact State.offerCand_ite_offers ..
  · exact .refl _

theorem State.hintPage_heats (s : State) (c : Cmd) (p : Nat) : Heats s (s.hintPage c p) := (s.setPage_heats p _).trans (s.hintPage_offers c p).heats

theorem State.extRec_hintPages (c : Cmd) (ps : List Nat) (s : State) (k : Nat) : (ps.foldl (fun s p => s.hintPage c p) s).extRec k = s.extRec k := by
  induction ps generalizing s with
  | nil => rfl
  | cons p ps ih =>
    rw [List.foldl_cons, ih, State.extRec_congr (congrArg Xlt.ext (s.hintPage_offers c p).xlt_eq)]
    rfl

/-! ## HINT_RANGE (R165) -/

/-- The extents of a hint whose records have a HEAT (R77, R165). -/
def State.hintExts (s : State) (c : Cmd) : List Nat :=
  (rangeExts c.base (dLen c.desc / 4096)).filter fun e => (s.extRec e).mode != .untouched && (s.extRec e).mode != .poisoned

/-- The pages of a hint that have records. -/
def State.hintPages (s : State) (c : Cmd) : List Nat :=
  ((s.hintExts c).filter fun e => (s.extView e).1 == .mapped).flatMap (pagesIn c.base (dLen c.desc / 4096))

/-- The records of a hint's range, hinted. -/
def State.hinted (s : State) (c : Cmd) : State := (s.hintPages c).foldl (fun s p => s.hintPage c p) ((s.hintExts c).foldl (fun s e => s.hintExt c e) s)

theorem State.hint_eq (s : State) (c : Cmd) : s.hint c = (s.hinted c).endCmd c.id 0 ((s.hintExts c).length + (s.hintPages c).length) := rfl

theorem State.hinted_heats (s : State) (c : Cmd) : Heats s (s.hinted c) :=
  (Heats.foldl (fun s e => s.hintExt_heats c e) _ s).trans (Heats.foldl (fun s p => s.hintPage_heats c p) _ _)

theorem State.extRec_hinted (s : State) (c : Cmd) (e : Nat) :
    (s.hinted c).extRec e = if e ∈ s.hintExts c then { s.extRec e with heat := hintHeat c s.dirUp s.dirDown } else s.extRec e := by
  rw [State.hinted, State.extRec_hintPages, State.extRec_hintExts]

theorem State.hintExts_eq_nil {s : State} (c : Cmd) (h : ∀ e, (s.extRec e).mode = .untouched) : s.hintExts c = [] := by
  simp [State.hintExts, h]

/-- A hint of untouched memory finds no record. -/
theorem State.hint_untouched {s : State} (c : Cmd) (h : ∀ e, (s.extRec e).mode = .untouched) : s.hint c = s.endCmd c.id 0 0 := by
  have hes := State.hintExts_eq_nil c h
  have hps : s.hintPages c = [] := by simp [State.hintPages, hes]
  rw [State.hint_eq, State.hinted, hes, hps]
  rfl

theorem exec_hintRange {s : State} {id : Nat} {c : Cmd} (h : Starts s id 5 c) (hmgt : s.mgtUp = true) : exec (.hintRange id) s = .next (s.hint c) := by
  refine congrArg Host.Outcome.next (?_ : State.startOp .. = _)
  rw [h.startOp (by simp [isOp, h.opcode]), State.byMgt_eq hmgt]

theorem hintRange_untouched {s : State} {id : Nat} {c : Cmd} (h : Starts s id 5 c) (hmgt : s.mgtUp = true) (hfree : ∀ e, (s.extRec e).mode = .untouched) :
    Gives (.hintRange id) s fun t => CmdEnded s t id 0 0 ∧ OnlyCmds s t := by
  refine ⟨_, exec_hintRange h hmgt, ?_⟩
  rw [State.hint_untouched c hfree, State.cmdOf_id h.cmdOf]
  exact ⟨h.ended rfl 0 0, s.endCmd_only id 0 0⟩

/-- HINT_RANGE over any range: it ends with SUCCESS, and changes HEAT alone (R165). -/
theorem hintRange_gives {s : State} {id : Nat} {c : Cmd} (h : Starts s id 5 c) (hmgt : s.mgtUp = true) : Gives (.hintRange id) s fun t =>
    (t.cmdOf id).map (fun c => (c.phase, c.status)) = some (.ended, 0) ∧ OtherCmds s t id ∧ t.mem = s.mem ∧ t.bad = s.bad ∧ t.nc = s.nc ∧ t.rtk = s.rtk ∧
    ∀ e ∈ rangeExts c.base (dLen c.desc / 4096), (s.extRec e).mode ≠ .untouched → (s.extRec e).mode ≠ .poisoned →
      t.extRec e = { s.extRec e with heat := hintHeat c s.dirUp s.dirDown } := by
  have hkept := congrArg (fun x : State => (x.cmd, x.mem, x.bad, x.nc, x.rtk)) (s.hinted_heats c).frame
  simp only [Prod.mk.injEq] at hkept
  obtain ⟨hcmd, hmem, hbad, hnc, hrtk⟩ := hkept
  obtain ⟨hended, hothers⟩ := h.ended hcmd 0 ((s.hintExts c).length + (s.hintPages c).length)
  refine ⟨_, exec_hintRange h hmgt, ?_⟩
  rw [State.hint_eq, State.cmdOf_id h.cmdOf]
  refine ⟨?_, hothers, hmem, hbad, hnc, hrtk, fun e he huntouched hpoisoned => ?_⟩
  · have hstatus := congrArg (Option.map fun x : CmdPhase × BitVec 8 × BitVec 64 => (x.1, x.2.1)) hended
    rwa [Option.map_map] at hstatus
  · have hin : e ∈ s.hintExts c := List.mem_filter.2 ⟨he, by simp [huntouched, hpoisoned]⟩
    exact (s.extRec_hinted c e).trans (if_pos hin)

/-! ## Output written to a buffer (R345, R346) -/

/-- A command whose every line of output has landed ends with the bytes written. -/
theorem State.output_landed {s u : State} {c : Cmd} {r : Region} {bs : List Byte} (hrange : s.rangeIn c.head (dAddr2 c.desc) (dLen2 c.desc) = some r)
    (hland : s.cmdWrites (linesOf (r.dpa (dAddr2 c.desc) / 64) bs (bs.length / 64 + 1)) = .landed u) : s.output c bs = u.endCmd c.id 0 bs.length := by
  simp only [State.output, hrange, hland]

theorem exec_queryRange {s u : State} {id : Nat} {c : Cmd} {r : Region} (h : Starts s id 9 c) (hmgt : s.mgtUp = true)
    (hrange : s.rangeIn c.head (dAddr2 c.desc) (dLen2 c.desc) = some r)
    (hland : s.cmdWrites (linesOf (r.dpa (dAddr2 c.desc) / 64) (s.queryBytes c) ((s.queryBytes c).length / 64 + 1)) = .landed u) :
    exec (.queryRange id) s = .next (u.endCmd id 0 (s.queryBytes c).length) := by
  refine congrArg Host.Outcome.next (?_ : State.startOp .. = _)
  rw [h.startOp (by simp [isOp, h.opcode]), State.byMgt_eq hmgt, State.output_landed hrange hland, State.cmdOf_id h.cmdOf]

/-- The output of SNAPSHOT_COUNTERS (R420): its header, then the groups that the head may read. -/
def State.snapBytes (s : State) (c : Cmd) : List Byte :=
  leBytes 8 s.tb.toNat ++ leBytes 2 ((s.snapGroups c).map fun g => 2 ^ g).sum ++ [0, 0] ++ leBytes 4 (76 * (s.snapGroups c).length) ++ List.replicate 48 0 ++
    (s.snapGroups c).flatMap s.snapGroup

theorem length_flatMap_const {α β : Type} {f : α → List β} {n : Nat} (hf : ∀ a, (f a).length = n) (as : List α) : (as.flatMap f).length = n * as.length := by
  simp [List.length_flatMap, hf, Nat.mul_comm]

/-- A group is 72 always-running counters and 4 general ones, of 8 bytes each (R413, R420). -/
theorem State.snapGroup_length (s : State) (g : Nat) : (s.snapGroup g).length = 608 := by
  have hbytes (w : BitVec 64) : (leBytes 8 w.toNat).length = 8 := leBytes_length 8 _
  rw [State.snapGroup, List.length_append, length_flatMap_const hbytes, length_flatMap_const hbytes]
  simp

theorem State.snapBytes_length (s : State) (c : Cmd) : (s.snapBytes c).length = 64 + 608 * (s.snapGroups c).length := by
  simp only [State.snapBytes, List.length_append, leBytes_length, List.length_replicate, length_flatMap_const s.snapGroup_length, List.length_cons, List.length_nil]

theorem State.snapshot_eq (s : State) (c : Cmd) :
    s.snapshot c = if dLen2 c.desc < 64 + 608 * (s.snapGroups c).length then s.endCmd c.id 9 0 else s.output c (s.snapBytes c) := by
  simp only [State.snapshot, State.snapBytes, List.append_assoc]

theorem exec_snapshotCounters {s : State} {id : Nat} {c : Cmd} (h : Starts s id 0x0D c) : exec (.snapshotCounters id) s = .next (s.snapshot c) := by
  refine congrArg Host.Outcome.next (?_ : State.startOp .. = _)
  rw [h.startOp (by simp [isOp, h.opcode])]

/-- A buffer that is too short takes nothing (R420). -/
theorem snapshotCounters_short {s : State} {id : Nat} {c : Cmd} (h : Starts s id 0x0D c) (hshort : dLen2 c.desc < 64 + 608 * (s.snapGroups c).length) :
    Gives (.snapshotCounters id) s fun t => CmdEnded s t id 9 0 ∧ OnlyCmds s t := by
  refine ⟨_, exec_snapshotCounters h, ?_⟩
  rw [State.snapshot_eq, if_pos hshort, State.cmdOf_id h.cmdOf]
  exact ⟨h.ended rfl 9 0, s.endCmd_only id 9 0⟩

theorem exec_snapshotCounters_landed {s u : State} {id : Nat} {c : Cmd} {r : Region} (h : Starts s id 0x0D c) (hroom : 64 + 608 * (s.snapGroups c).length ≤ dLen2 c.desc)
    (hrange : s.rangeIn c.head (dAddr2 c.desc) (dLen2 c.desc) = some r)
    (hland : s.cmdWrites (linesOf (r.dpa (dAddr2 c.desc) / 64) (s.snapBytes c) ((s.snapBytes c).length / 64 + 1)) = .landed u) :
    exec (.snapshotCounters id) s = .next (u.endCmd id 0 (s.snapBytes c).length) := by
  rw [exec_snapshotCounters h, State.snapshot_eq, if_neg (Nat.not_lt.2 hroom), State.output_landed hrange hland, State.cmdOf_id h.cmdOf]

/-- Settles O27: HINT_RANGE changes HEAT alone, and a command with output ends where its last line has landed. -/
theorem commandsWithOutput : Obligations.CommandsWithOutput := by
  intro s id c op hs
  refine ⟨?untouched, ?hint, fun r u hrange => ⟨?query, ?snapshot⟩, ?short⟩
  case untouched =>
    rintro rfl hmgt hfree
    exact hintRange_untouched hs hmgt hfree
  case hint =>
    rintro rfl hmgt
    exact hintRange_gives hs hmgt
  case query =>
    rintro rfl hmgt hland
    exact exec_queryRange hs hmgt hrange hland
  case snapshot =>
    rintro rfl hroom
    exact ⟨s.snapBytes_length c, fun hland => exec_snapshotCounters_landed hs hroom hrange hland⟩
  case short =>
    rintro rfl hshort
    exact snapshotCounters_short hs hshort

end Sys2Proof.Machine
end

section
/-! PROOFS. What giving up a stored form may change, and what storing a page anew may change (R85 to R90, R106, R141 to R144, R167). -/

namespace Sys2Proof.Machine

/-! ## Storage that is given up (R106, R143, R167) -/

/-- `t` with what giving up storage may change put back as it is in `s`: frames, slots and stripes, lost-line entries, dictionaries with a round that waits for one and
its command, share records, and counters. -/
def State.undoRelease (s t : State) : State :=
  { t with cap := s.cap, trm := s.trm, drl := { t.drl with stripes := s.drl.stripes }, cdc := s.cdc, pmu := s.pmu, cmd := { t.cmd with cmds := s.cmd.cmds }
           xlt := { t.xlt with share := s.xlt.share } }

/-- Storage has been given up, and nothing else has changed. -/
def Releases (s t : State) : Prop := s.undoRelease t = s

theorem Releases.refl (s : State) : Releases s s := rfl

theorem Releases.trans {s t u : State} (h1 : Releases s t) (h2 : Releases t u) : Releases s u := by
  have h := congrArg s.undoRelease h2
  exact Eq.trans h h1

theorem Releases.foldl {α : Type} {f : State → α → State} (hf : ∀ s a, Releases s (f s a)) (as : List α) (s : State) : Releases s (as.foldl f s) :=
  List.foldlRecOn as f (motive := Releases s) (.refl s) fun t ht a _ => ht.trans (hf t a)

/-- Data, extent records and page records stay, and so do the copies and the registers. -/
theorem Releases.kept {s t : State} (h : Releases s t) :
    t.mem = s.mem ∧ t.bad = s.bad ∧ t.nc = s.nc ∧ t.dir = s.dir ∧ t.rtk = s.rtk ∧ t.csr = s.csr ∧ { t.xlt with share := s.xlt.share } = s.xlt ∧ { t.drl with stripes := s.drl.stripes } = s.drl := by
  have hp := congrArg (fun x : State => (x.mem, x.bad, x.nc, x.dir, x.rtk, x.csr, x.xlt, x.drl)) h
  simp only [Prod.mk.injEq] at hp
  exact hp

theorem RoundOnly.releases {s t : State} (h : RoundOnly s t) : Releases s t := by
  have hf := congrArg s.undoRelease h
  exact hf

theorem State.freeRun_releases (s : State) (n : Nat) : Releases s (s.freeRun n) := by
  unfold State.freeRun
  split <;> rfl

theorem State.count_releases (s : State) (g i n : Nat) (u : Option Nat) : Releases s (s.count g i n u) := rfl

theorem State.setDict_releases (s : State) (d : Nat) (x : Dict) : Releases s (s.setDict d x) := rfl

theorem State.freeDict_releases (s : State) (d : Nat) : Releases s (s.freeDict d) := rfl

theorem State.setShare_releases (s : State) (i : Nat) (x : ShareRec) : Releases s (s.setShare i x) := rfl

theorem State.admitCandidate_releases (s : State) : Releases s s.admitCandidate := by
  have hend (t : State) (r i : Nat) : Releases t ((t.endRound 0 r).count 7 i) := (t.endRound_gives 0 r).1.releases.trans (State.count_releases ..)
  unfold State.admitCandidate
  split
  · exact hend s 0 14
  · split
    · exact .refl s
    · exact (s.setDict_releases ..).trans (hend _ _ 13)

theorem State.dictDec_releases (s : State) (d : Nat) : Releases s (s.dictDec d) := by
  unfold State.dictDec
  split
  · exact .refl s
  · extract_lets x named freed
    have hnamed : Releases s named := s.setDict_releases ..
    have hfreed : Releases s freed := hnamed.trans (named.freeDict_releases d)
    split
    · split
      · exact hfreed.trans freed.admitCandidate_releases
      · exact hfreed
    · exact hnamed

theorem State.dictInc_releases (s : State) (d : Nat) : Releases s (s.dictInc d) := by
  unfold State.dictInc
  split <;> rfl

theorem State.releaseForm_releases (s : State) (r : PageRec) : Releases s (s.releaseForm r) := by
  unfold State.releaseForm
  split
  · exact s.freeRun_releases _
  · exact s.freeRun_releases _
  · exact (s.freeRun_releases _).trans (State.dictDec_releases _ _)
  · exact .refl s

theorem State.shareDec_releases (s : State) (i : Nat) : Releases s (s.shareDec i) := by
  unfold State.shareDec
  extract_lets x
  split
  · exact (s.releaseForm_releases _).trans (State.setShare_releases ..)
  · exact s.setShare_releases ..

theorem State.releasePage_releases (s : State) (p : Nat) : Releases s (s.releasePage p) := by
  unfold State.releasePage
  extract_lets r
  split
  · exact s.shareDec_releases _
  · exact s.releaseForm_releases _

theorem State.freeRecs_releases (s : State) (rs : Tbl PageRec) : Releases s (s.freeRecs rs) := Releases.foldl (fun s _ => s.releaseForm_releases _) rs s

/-- An extent copy that is closed leaves the table, and gives up its destination (R162). -/
theorem State.closeExtCopy_releases (s : State) (e : Nat) :
    Releases { s with drl := { s.drl with extCopies := s.drl.extCopies.filter (·.ext != e) } } (s.closeExtCopy e) := by
  unfold State.closeExtCopy
  extract_lets table closed
  have hclosed : Releases s closed := by
    refine Releases.foldl (fun t c => ?_) _ s
    have hrecs := t.freeRecs_releases c.recs
    dsimp only
    split
    · exact hrecs.trans rfl
    · exact hrecs.trans (State.freeRun_releases ..)
    · split
      · exact hrecs.trans rfl
      · exact hrecs.trans (State.freeRun_releases ..)
  clear_value closed
  have h := congrArg (fun x : State => { x with drl := { x.drl with extCopies := x.drl.extCopies.filter (·.ext != e) } }) hclosed
  exact h

/-! ## A page stored anew (R89) -/

/-- `t` with what storing pages anew may change put back as it is in `s`: what giving up storage may change, stored bytes, page records and their caches, and what
commands issued to the DIMMs change. -/
def State.undoRestore (s t : State) : State :=
  { s.undoRelease t with mem := s.mem, bad := s.bad, chans := s.chans, doms := s.doms
                         xlt := { t.xlt with share := s.xlt.share, page := s.xlt.page, shadow := s.xlt.shadow, prCache := s.xlt.prCache, zeroing := s.xlt.zeroing } }

/-- Pages have been stored anew, and nothing else has changed. -/
def Restores (s t : State) : Prop := s.undoRestore t = s

theorem Restores.trans {s t u : State} (h1 : Restores s t) (h2 : Restores t u) : Restores s u := by
  have h := congrArg s.undoRestore h2
  exact Eq.trans h h1

theorem Releases.restores {s t : State} (h : Releases s t) : Restores s t := by
  have hf := congrArg s.undoRestore h
  exact hf

theorem IssuedOnly.restores {s t : State} (h : IssuedOnly s t) : Restores s t := by
  have hf := congrArg s.undoRestore h
  exact hf

/-- Extent records, the near cache, the directory, RTK and the copies stay. -/
theorem Restores.kept {s t : State} (h : Restores s t) :
    t.xlt.ext = s.xlt.ext ∧ t.nc = s.nc ∧ t.dir = s.dir ∧ t.rtk = s.rtk ∧ t.drl.copies = s.drl.copies ∧ t.drl.extCopies = s.drl.extCopies := by
  have hp := congrArg (fun x : State => (x.xlt.ext, x.nc, x.dir, x.rtk, x.drl.copies, x.drl.extCopies)) h
  simp only [Prod.mk.injEq] at hp
  exact hp

/-- Stored bytes and poison have changed, and nothing else. -/
def StoresOnly (s t : State) : Prop := { t with mem := s.mem, bad := s.bad } = s

theorem StoresOnly.restores {s t : State} (h : StoresOnly s t) : Restores s t := by
  have hf := congrArg s.undoRestore h
  exact hf

theorem StoresOnly.xlt_eq {s t : State} (h : StoresOnly s t) : t.xlt = s.xlt := by
  have hx := congrArg State.xlt h
  exact hx

theorem StoresOnly.storeLine {s t : State} (h : StoresOnly s t) (l : Nat) (v : LineVal) (m : Mask) : StoresOnly s (t.storeLine l v m) := h

/-- The lines of a page that are put into storage. -/
theorem State.putLines_stores (s : State) (p : Nat) (ls : List LineVal) : StoresOnly s (s.putLines p ls) := by
  refine List.foldlRecOn (List.range 64) _ (motive := StoresOnly s) rfl fun t ht i _ => ?_
  dsimp only
  split
  · exact ht
  · exact ht.storeLine _ _ _

/-- The state in which a page's new record is written: what the old one named is given up, and the new one's dictionary is counted (R89, R143). -/
def State.unstored (s : State) (p : Nat) (n : PageRec) : State :=
  if n.state == .deep then (s.releasePage p).dictInc n.dict else s.releasePage p

theorem State.unstored_releases (s : State) (p : Nat) (n : PageRec) : Releases s (s.unstored p n) := by
  unfold State.unstored
  split
  · exact (s.releasePage_releases p).trans (State.dictInc_releases _ _)
  · exact s.releasePage_releases p

/-- The record that a commit of `n` gives page `p` (R89). -/
def State.committedRec (s : State) (p : Nat) (n : PageRec) : PageRec := { n with heat := (s.pageRec p).heat, gen := nextGen (s.effRec p) n, dsc := false }

/-- The record of page `p` is written, and no record stands behind it (R84). -/
def State.recorded (s : State) (p : Nat) (r : PageRec) : State := { s with xlt := { s.xlt with shadow := s.xlt.shadow.del p } }.setPage p r

theorem State.recorded_restores (s : State) (p : Nat) (r : PageRec) : Restores s (s.recorded p r) := by
  unfold State.recorded State.setPage
  rfl

theorem State.pageRec_recorded (s : State) (p k : Nat) (r : PageRec) : (s.recorded p r).pageRec k = if k = p then r else s.pageRec k := Tbl.get_set ..

theorem State.replacePage_eq (s : State) (p : Nat) (n : PageRec) : s.replacePage p n = (s.unstored p n).recorded p (s.committedRec p n) := by
  simp only [State.replacePage, State.unstored, State.recorded, State.committedRec]

theorem State.replacePage_restores (s : State) (p : Nat) (n : PageRec) : Restores s (s.replacePage p n) :=
  (s.unstored_releases p n).restores.trans (State.recorded_restores ..)

/-- A commit writes the record of its page, and of no other. -/
theorem State.pageRec_replacePage (s : State) (p k : Nat) (n : PageRec) : (s.replacePage p n).pageRec k = if k = p then s.committedRec p n else s.pageRec k := by
  obtain ⟨-, -, -, -, -, -, hxlt, -⟩ := (s.unstored_releases p n).kept
  have hpage := congrArg Xlt.page hxlt
  rw [State.replacePage_eq, State.pageRec_recorded, State.pageRec_congr (t := s.unstored p n) hpage]

theorem State.effRec_congr {s t : State} (h : t.xlt = s.xlt) (p : Nat) : t.effRec p = s.effRec p := by
  rw [State.effRec, State.effRec, State.standing, State.standing, State.pageRec_congr (congrArg Xlt.page h), h]

/-- The pages of an extent and the block of their records are given up (R162). -/
theorem State.dropPages_restores (s : State) (e loc : Nat) : Restores s (s.dropPages e loc) := by
  have hpages := Releases.foldl (fun s p => s.releasePage_releases p) (s.extPages e) s
  unfold State.dropPages
  extract_lets dropped freed
  have hfreed : Releases s freed := hpages.trans (dropped.freeRun_releases (loc * 16))
  clear_value freed
  exact hfreed.restores.trans rfl

end Sys2Proof.Machine
end

section
/-! PROOFS. The ends of page copies and of held attempts (R84, R90, R160, R161). -/

namespace Sys2Proof.Machine

/-- The first element that satisfies `p`, after a change of such elements that leaves them so. -/
theorem find?_updWhere {α : Type} {p : α → Bool} {g : α → α} (hg : ∀ x, p x = true → p (g x) = true) (l : List α) : (updWhere p g l).find? p = (l.find? p).map g := by
  induction l with
  | nil => rfl
  | cons x l ih =>
    rw [updWhere] at ih ⊢
    cases hx : p x with
    | false => simp [hx, ih]
    | true => simp [hx, hg x hx]

/-! ## BUSY pages (R84) -/

/-- The record of page `p` once it is not BUSY. -/
def State.unbusyRec (s : State) (p : Nat) : PageRec :=
  if (s.pageRec p).state = .busy then { s.xlt.shadow.get PageRec.zero p with heat := (s.pageRec p).heat, dsc := (s.pageRec p).dsc } else s.pageRec p

theorem State.unbusyPage_of_ne {s : State} {p : Nat} (h : (s.pageRec p).state ≠ .busy) : s.unbusyPage p = s := if_neg (mt beq_iff_eq.1 h)

theorem State.pageRec_unbusyPage (s : State) (p k : Nat) : (s.unbusyPage p).pageRec k = if k = p then s.unbusyRec p else s.pageRec k := by
  by_cases hbusy : (s.pageRec p).state = .busy
  · rw [State.unbusyPage, if_pos (beq_iff_eq.2 hbusy), State.unbusyRec, if_pos hbusy]
    exact s.pageRec_setPage p k _
  · rw [State.unbusyPage_of_ne hbusy, State.unbusyRec, if_neg hbusy]
    split
    · next h => rw [h]
    · rfl

theorem State.unbusyPage_frame (s : State) (p : Nat) :
    { s.unbusyPage p with xlt := { (s.unbusyPage p).xlt with page := s.xlt.page, shadow := s.xlt.shadow } } = s := by
  unfold State.unbusyPage
  split <;> rfl

/-! ## Copies that are discarded (R90, R160) -/

theorem PageCopy.id_of_find {s : State} {id : Nat} {c : PageCopy} (h : s.drl.copies.find? (·.id == id) = some c) : c.id = id := by
  simpa using List.find?_some h

/-- The copy has left the table, and its destination is given up. -/
def State.unplaced (s : State) (c : PageCopy) : State := (s.closeCopy c).freeDst c

theorem State.unplaced_releases (s : State) (c : PageCopy) : Releases (s.closeCopy c) (s.unplaced c) := by
  unfold State.unplaced State.freeDst
  split
  · exact .refl _
  · exact State.freeRun_releases _ _

theorem State.unplaced_data (s : State) (c : PageCopy) : DataKept s (s.unplaced c) := by
  unfold State.unplaced State.freeDst
  split
  · exact ⟨rfl, rfl, rfl, rfl, rfl, rfl⟩
  · exact (State.freeRun_freed (s.closeCopy c) c.dst).data

theorem PageCopy.not_mem_closeCopy (s : State) (c : PageCopy) : ∀ x ∈ (s.closeCopy c).drl.copies, x.id ≠ c.id := by
  intro x hx
  obtain ⟨-, hid⟩ := List.mem_filter.1 hx
  simpa using hid

theorem State.unplaced_copies (s : State) (c : PageCopy) : (s.unplaced c).drl.copies = (s.closeCopy c).drl.copies := by
  obtain ⟨-, -, -, -, -, -, -, hdrl⟩ := (s.unplaced_releases c).kept
  exact congrArg (·.copies) hdrl

theorem State.discardCopy_eq {s : State} {c : PageCopy} (hshare : c.share = false) : s.discardCopy c = (s.unplaced c).unbusyPage c.page := by
  rw [State.discardCopy, hshare]
  rfl

/-- A discarded copy leaves a page that is not BUSY as it is. -/
theorem State.discardCopy_idle {s : State} {c : PageCopy} (hshare : c.share = false) (hbusy : (s.pageRec c.page).state ≠ .busy) : s.discardCopy c = s.unplaced c := by
  obtain ⟨-, -, -, -, -, hxlt⟩ := s.unplaced_data c
  rw [State.discardCopy_eq hshare, State.unbusyPage_of_ne (by rwa [State.pageRec_congr (congrArg Xlt.page hxlt)])]

/-! ## Copies that read their source again (R160) -/

/-- A page copy as it reads its source again from what is stored in `s`. -/
def PageCopy.again (s : State) (c x : PageCopy) : PageCopy :=
  { x with snap := Memory.slice s.mem (4096 * c.page) 4096, snapPoison := poisonBits (s.pageLines c.page), raw := none }

/-- A source read again changes the copy's own entry, and what commands issued to the DIMMs change. -/
theorem State.recopy_gives {s : State} {c : PageCopy} (hfind : s.drl.copies.find? (·.id == c.id) = some c) {g : PageCopy → PageCopy} (hg : ∀ x, (g x).id = x.id) :
    (s.recopy c g).drl.copies.find? (·.id == c.id) = some (g (c.again s c)) ∧ (s.recopy c g).xlt = s.xlt ∧
    { s.recopy c g with drl := s.drl, pmu := s.pmu, chans := s.chans, doms := s.doms } = s := by
  have hissued : IssuedOnly { s with drl := { s.drl with copies := updWhere (·.id == c.id) (fun x => g (c.again s x)) s.drl.copies } } (s.recopy c g) := State.enginePage_issued _ _ _
  generalize s.recopy c g = v at hissued ⊢
  obtain ⟨-, -, -, -, -, hxlt, hdrl, -⟩ := hissued.kept
  refine ⟨?_, hxlt, ?_⟩
  · have hself (x : PageCopy) (hx : (x.id == c.id) = true) : ((g (c.again s x)).id == c.id) = true := by rwa [hg]
    rw [hdrl, find?_updWhere hself, hfind]
    rfl
  · have h := congrArg (fun x : State => { x with drl := s.drl }) hissued
    exact h

/-! ## PAGE_COPY_END (R160) -/

/-- Nothing holds up the end of a copy whose stripes are written, outside the error state. -/
theorem PageCopy.not_waits {s : State} {c : PageCopy} (hcry : s.cry.st ≠ .error) (hwritten : ∀ t ∈ s.drl.stripes, t.id ∈ c.stripes → t.written = true) :
    ¬ ((∃ t ∈ s.drl.stripes, t.id ∈ c.stripes ∧ t.written = false) ∨ s.cry.st = .error) := by
  rintro (⟨t, ht, hid, hopen⟩ | h)
  · rw [hwritten t ht hid] at hopen
    exact absurd hopen nofun
  · exact hcry h

section
variable {s : State} {id : Nat} {c : PageCopy} {run : CodecRun} (hcry : s.cry.st ≠ .error) (hfind : s.drl.copies.find? (·.id == id) = some c)
  (hwritten : ∀ t ∈ s.drl.stripes, t.id ∈ c.stripes → t.written = true) (hshare : c.share = false) (hmeets : s.copyMeets c.page run = some s)
include hcry hfind hwritten hshare hmeets

/-- A copy whose page has been committed anew is discarded. -/
theorem exec_pageCopyEnd_stale (hgen : (s.effRec c.page).gen ≠ c.gen) : exec (.pageCopyEnd id run false) s = .next (s.discardCopy c) := by
  have hexec : exec (.pageCopyEnd id run false) s = execPageCopyEnd id run false s := rfl
  simp [hexec, execPageCopyEnd, hfind, PageCopy.not_waits hcry hwritten, hshare, hmeets, hgen]

/-- A copy whose page is as it was read commits. -/
theorem exec_pageCopyEnd_same (hgen : (s.effRec c.page).gen = c.gen) (hmode : (s.extRec (c.page / 512)).mode = .mapped) (hdsc : (s.pageRec c.page).dsc = false) :
    exec (.pageCopyEnd id run false) s = .next (s.finishCopy c run.bad) := by
  have hexec : exec (.pageCopyEnd id run false) s = execPageCopyEnd id run false s := rfl
  simp [hexec, execPageCopyEnd, hfind, PageCopy.not_waits hcry hwritten, hshare, hmeets, hgen, hmode, hdsc]

/-- A copy whose page was written meanwhile reads it again, in at most three repeats. -/
theorem exec_pageCopyEnd_written (hgen : (s.effRec c.page).gen = c.gen) (hmode : (s.extRec (c.page / 512)).mode = .mapped) (hbusy : (s.pageRec c.page).state ≠ .busy)
    (hdsc : (s.pageRec c.page).dsc = true) (hrep : c.repeats < 3) : exec (.pageCopyEnd id run false) s =
      .next (((s.setPage c.page { s.pageRec c.page with dsc := false }).recopy c fun c => { c with repeats := c.repeats + 1 }).count 8 9) := by
  have hexec : exec (.pageCopyEnd id run false) s = execPageCopyEnd id run false s := rfl
  simp [hexec, execPageCopyEnd, hfind, PageCopy.not_waits hcry hwritten, hshare, hmeets, hgen, hmode, hbusy, hdsc, hrep]

theorem pageCopyEnd_stale (hgen : (s.effRec c.page).gen ≠ c.gen) (hbusy : (s.pageRec c.page).state ≠ .busy) :
    Gives (.pageCopyEnd id run false) s fun t => (∀ x ∈ t.drl.copies, x.id ≠ c.id) ∧ DataKept s t := by
  refine ⟨s.unplaced c, ?_, ?_, s.unplaced_data c⟩
  · rw [exec_pageCopyEnd_stale hcry hfind hwritten hshare hmeets hgen, State.discardCopy_idle hshare hbusy]
  · rw [State.unplaced_copies]
    exact PageCopy.not_mem_closeCopy s c

/-- A page written while it was copied is read again (R160). -/
theorem pageCopyEnd_repeats (hgen : (s.effRec c.page).gen = c.gen) (hmode : (s.extRec (c.page / 512)).mode = .mapped) (hbusy : (s.pageRec c.page).state ≠ .busy)
    (hdsc : (s.pageRec c.page).dsc = true) (hrep : c.repeats < 3) :
    Gives (.pageCopyEnd id run false) s fun t =>
      t.pageRec c.page = { s.pageRec c.page with dsc := false } ∧ (∀ p, p ≠ c.page → t.pageRec p = s.pageRec p) ∧ (t.drl.copies.find? (·.id == id)).map (·.repeats) = some (c.repeats + 1) ∧
      { t with drl := s.drl, xlt := { t.xlt with page := s.xlt.page }, pmu := s.pmu, chans := s.chans, doms := s.doms } = s := by
  have hexec := exec_pageCopyEnd_written hcry hfind hwritten hshare hmeets hgen hmode hbusy hdsc hrep
  have hid := PageCopy.id_of_find hfind
  subst hid
  have hnow := State.recopy_gives (s := s.setPage c.page { s.pageRec c.page with dsc := false }) hfind (g := fun x => { x with repeats := x.repeats + 1 }) fun _ => rfl
  generalize (s.setPage c.page { s.pageRec c.page with dsc := false }).recopy c (fun x => { x with repeats := x.repeats + 1 }) = v at hexec hnow
  obtain ⟨hentry, hxlt, hframe⟩ := hnow
  have hrec (p : Nat) : (v.count 8 9).pageRec p = if p = c.page then { s.pageRec c.page with dsc := false } else s.pageRec p :=
    (State.pageRec_congr (congrArg Xlt.page hxlt) p).trans (s.pageRec_setPage ..)
  refine ⟨_, hexec, (hrec _).trans (if_pos rfl), fun p hp => (hrec p).trans (if_neg hp), ?_, ?_⟩
  · exact congrArg (Option.map PageCopy.repeats) hentry
  · have h := congrArg (fun x : State => { x with xlt := { x.xlt with page := s.xlt.page } }) hframe
    exact h

end

/-! ## A copy that commits OPEN (R127, R160) -/

/-- A copy to OPEN that has its page slot commits there while the mirror allowance has room for it. -/
theorem State.finishCopy_toOpen {s : State} {c : PageCopy} (b : Option VerifyBad) (hshare : c.share = false) (hkind : c.kind = .toOpen) (hlen : c.dstLen = 8)
    (hslot : s.ownSlot c = true) (hroom : s.roomFor true = true) : s.finishCopy c b = s.commitCopy c .open := by
  simp [State.finishCopy, State.copyBlame, hkind, State.blame, hslot, hshare, State.copyForm, State.pageSrc, hroom, Form.frames, hlen]

/-- The state in which the lines of a copy to OPEN have been written to its page slot. -/
def State.copied (s : State) (c : PageCopy) : State := ((s.closeCopy c).enginePage (Form.open.asRec c.dst 0) true).putLines c.page c.lines

theorem State.copied_restores (s : State) (c : PageCopy) : Restores (s.closeCopy c) (s.copied c) :=
  (State.enginePage_issued _ _ _).restores.trans (State.putLines_stores _ _ _).restores

theorem State.copied_xlt (s : State) (c : PageCopy) : (s.copied c).xlt = s.xlt := by
  obtain ⟨-, -, -, -, -, hxlt, -⟩ := ((s.closeCopy c).enginePage_issued (Form.open.asRec c.dst 0) true).kept
  exact (State.putLines_stores _ c.page c.lines).xlt_eq.trans hxlt

/-- The record of a page stored OPEN at the destination of its copy. -/
def State.openedRec (s : State) (c : PageCopy) : PageRec := { PageRec.zero with state := .open, loc := c.dst, pin := (s.effRec c.page).pin }

theorem State.commitCopy_open {s : State} {c : PageCopy} (hkind : c.kind = .toOpen) : s.commitCopy c .open = ((s.copied c).replacePage c.page (s.openedRec c)).count 8 2 := by
  obtain ⟨-, -, -, -, -, hxlt, -⟩ := ((s.closeCopy c).enginePage_issued (Form.open.asRec c.dst 0) true).kept
  have heff : ((s.closeCopy c).enginePage (Form.open.asRec c.dst 0) true).effRec c.page = s.effRec c.page := State.effRec_congr hxlt c.page
  have hrec : Form.open.asRec c.dst (s.effRec c.page).pin = s.openedRec c := rfl
  have hcompact : (CopyKind.toOpen == .compact) = false := rfl
  have hdeep : (CopyKind.toOpen == .deepToPacked) = false := rfl
  simp only [State.commitCopy, State.commitForm, State.countForm, State.countFreed, Form.held, hkind, heff, hrec, hcompact, hdeep, Bool.false_and, Bool.and_false, Bool.false_eq_true, if_false]
  rfl

theorem pageCopyEnd_opens {s : State} {id : Nat} {c : PageCopy} {run : CodecRun} (hcry : s.cry.st ≠ .error) (hfind : s.drl.copies.find? (·.id == id) = some c)
    (hwritten : ∀ t ∈ s.drl.stripes, t.id ∈ c.stripes → t.written = true) (hshare : c.share = false) (hmeets : s.copyMeets c.page run = some s)
    (hgen : (s.effRec c.page).gen = c.gen) (hmode : (s.extRec (c.page / 512)).mode = .mapped) (hdsc : (s.pageRec c.page).dsc = false) (hkind : c.kind = .toOpen)
    (hlen : c.dstLen = 8) (hslot : s.ownSlot c = true) (hroom : s.roomFor true = true) :
    Gives (.pageCopyEnd id run false) s fun t => t.pageRec c.page = { PageRec.zero with
        state := .open, loc := c.dst, pin := (s.effRec c.page).pin, heat := (s.pageRec c.page).heat, gen := (t.pageRec c.page).gen } ∧
      (∀ p, p ≠ c.page → t.pageRec p = s.pageRec p) ∧ (∀ x ∈ t.drl.copies, x.id ≠ c.id) ∧ t.xlt.ext = s.xlt.ext ∧ t.nc = s.nc ∧ t.dir = s.dir ∧ t.rtk = s.rtk := by
  have hexec := exec_pageCopyEnd_same hcry hfind hwritten hshare hmeets hgen hmode hdsc
  rw [State.finishCopy_toOpen run.bad hshare hkind hlen hslot hroom, State.commitCopy_open hkind] at hexec
  have hcopied := s.copied_restores c
  have hxlt := s.copied_xlt c
  generalize s.copied c = u at hexec hcopied hxlt
  obtain ⟨hext, hnc, hdir, hrtk, hcopies, -⟩ := (hcopied.trans (u.replacePage_restores c.page (s.openedRec c))).kept
  have hrec (p : Nat) := u.pageRec_replacePage c.page p (s.openedRec c)
  have hold (p : Nat) : u.pageRec p = s.pageRec p := State.pageRec_congr (congrArg Xlt.page hxlt) p
  generalize u.replacePage c.page (s.openedRec c) = v at *
  refine ⟨_, hexec, ?_, fun p hp => ((hrec p).trans (if_neg hp)).trans (hold p), ?_, hext, hnc, hdir, hrtk⟩
  · have hpage : (v.count 8 2).pageRec c.page = u.committedRec c.page (s.openedRec c) := (hrec c.page).trans (if_pos rfl)
    rw [hpage, State.openedRec, State.committedRec, hold]
    generalize nextGen _ _ = g
    rfl
  · intro x hx
    refine PageCopy.not_mem_closeCopy s c x ?_
    rw [← hcopies]
    exact hx

/-! ## HELD_ATTEMPT_TIMEOUT (R161) -/

/-- `s`, in which a held attempt has been discarded, with its page left alone. -/
def State.leftAlone (s : State) (p : Nat) : State :=
  let u := (s.flag Reg.DRL_STATUS.ABANDON).count 8 11
  { u with drl := { u.drl with leave := u.drl.leave ++ [p] } }

theorem exec_heldAttemptTimeout {s : State} {id : Nat} {c : PageCopy} (hfind : s.drl.copies.find? (·.id == id) = some c) (hheld : c.held.isSome = true) :
    exec (.heldAttemptTimeout id) s = .next ((s.discardCopy c).leftAlone c.page) := by
  have hexec : exec (.heldAttemptTimeout id) s = execHeldAttemptTimeout id s := rfl
  have hnone : c.held.isNone = false := by rw [← Option.not_isSome, hheld]; rfl
  simp only [hexec, execHeldAttemptTimeout, hfind, hnone, Bool.false_eq_true, if_false, State.leftAlone]

/-- A discarded copy leaves the table, its page is not BUSY, and no data and no other record has changed. -/
theorem State.discardCopy_gives {s : State} {c : PageCopy} (hshare : c.share = false) :
    (∀ x ∈ (s.discardCopy c).drl.copies, x.id ≠ c.id) ∧ (∀ p, (s.discardCopy c).pageRec p = if p = c.page then s.unbusyRec c.page else s.pageRec p) ∧
    (s.discardCopy c).xlt.ext = s.xlt.ext ∧ (s.discardCopy c).mem = s.mem ∧ (s.discardCopy c).bad = s.bad ∧ (s.discardCopy c).nc = s.nc ∧ (s.discardCopy c).dir = s.dir ∧
    (s.discardCopy c).rtk = s.rtk := by
  obtain ⟨hmem, hbad, hnc, hdir, hrtk, hxlt⟩ := s.unplaced_data c
  have hframe := congrArg (fun x : State => (x.xlt.ext, x.mem, x.bad, x.nc, x.dir, x.rtk, x.drl.copies)) ((s.unplaced c).unbusyPage_frame c.page)
  simp only [Prod.mk.injEq] at hframe
  obtain ⟨fext, fmem, fbad, fnc, fdir, frtk, fcopies⟩ := hframe
  rw [State.discardCopy_eq hshare]
  refine ⟨?_, fun p => ?_, fext.trans (congrArg Xlt.ext hxlt), fmem.trans hmem, fbad.trans hbad, fnc.trans hnc, fdir.trans hdir, frtk.trans hrtk⟩
  · rw [fcopies, State.unplaced_copies]
    exact PageCopy.not_mem_closeCopy s c
  · have hpage (k : Nat) : (s.unplaced c).pageRec k = s.pageRec k := State.pageRec_congr (congrArg Xlt.page hxlt) k
    rw [State.pageRec_unbusyPage, State.unbusyRec, State.unbusyRec, hpage, hpage, hxlt]

theorem heldAttemptTimeout_gives {s : State} {id : Nat} {c : PageCopy} (hfind : s.drl.copies.find? (·.id == id) = some c) (hshare : c.share = false) (hheld : c.held.isSome = true) :
    Gives (.heldAttemptTimeout id) s fun t =>
      (∀ x ∈ t.drl.copies, x.id ≠ c.id) ∧ c.page ∈ t.drl.leave ∧ t.fb Reg.DRL_STATUS.ABANDON = true ∧ t.pageRec c.page = s.unbusyRec c.page ∧
      (∀ p, p ≠ c.page → t.pageRec p = s.pageRec p) ∧ t.xlt.ext = s.xlt.ext ∧ t.mem = s.mem ∧ t.bad = s.bad ∧ t.nc = s.nc ∧ t.dir = s.dir ∧ t.rtk = s.rtk := by
  have hexec := exec_heldAttemptTimeout hfind hheld
  have hdiscard := State.discardCopy_gives (s := s) hshare
  generalize s.discardCopy c = v at hexec hdiscard
  obtain ⟨hgone, hrec, hkept⟩ := hdiscard
  exact ⟨_, hexec, hgone, List.mem_append_right _ (List.mem_singleton_self _), v.fb_flag_self Reg.DRL_STATUS.ABANDON (by decide) (by decide),
    (hrec _).trans (if_pos rfl), fun p hp => (hrec p).trans (if_neg hp), hkept⟩

end Sys2Proof.Machine
end

section
/-! PROOFS. The ends of rounds of extent copies, and stripes that are closed (R78, R162, R163, R166). -/

namespace Sys2Proof.Machine

theorem ExtCopy.ext_of_find {s : State} {e : Nat} {c : ExtCopy} (h : s.drl.extCopies.find? (·.ext == e) = some c) : c.ext = e := by
  simpa using List.find?_some h

/-! ## A promotion that commits (R78) -/

/-- A promotion of a mapped extent gives up its pages and names its slot; no other extent record changes. -/
theorem State.commitDirect_gives {s : State} {c : ExtCopy} (hsrc : c.srcMode = .mapped) (key : Nat) :
    (∀ j, (s.commitDirect c key).extRec j = if j = c.ext then { s.extRec c.ext with mode := .direct, loc := c.dst, key := key } else s.extRec j) ∧
    (s.commitDirect c key).drl.extCopies = s.drl.extCopies.filter (·.ext != c.ext) ∧ (s.commitDirect c key).nc = s.nc ∧ (s.commitDirect c key).rtk = s.rtk := by
  obtain ⟨hext, hnc, -, hrtk, -, hcopies⟩ := (s.dropPages_restores c.ext c.srcLoc).kept
  have hmapped : (c.srcMode == .mapped) = true := beq_iff_eq.2 hsrc
  simp only [State.commitDirect, hmapped, if_true]
  refine ⟨fun j => ?_, congrArg (List.filter fun x : ExtCopy => x.ext != c.ext) hcopies, hnc, hrtk⟩
  refine ((s.dropPages c.ext c.srcLoc).extRec_setExt c.ext j _).trans (if_congr Iff.rfl rfl ?_)
  exact State.extRec_congr hext j

/-- A promotion whose pin allows it, and that no command has asked for, commits (R163). -/
theorem State.commitExt_promote {s : State} {c : ExtCopy} (hkind : c.kind = .promote) (hcmd : c.cmd = none) (hpin : (s.extRec c.ext).pin ≠ 2) :
    s.commitExt c = (s.commitDirect c (s.extRec c.ext).key).count 8 0 := by
  have hforbids : s.pinForbids c = false := by simpa [State.pinForbids, hkind, hcmd] using hpin
  simp [State.commitExt, hcmd, hforbids, hkind]

/-! ## Pages copied again (R162) -/

/-- An extent copy as it begins to copy its marked pages again from what is stored in `s`. -/
def ExtCopy.again (s : State) (c x : ExtCopy) : ExtCopy := { x with mask := 0, snap := Memory.slice s.mem (2097152 * c.ext) 2097152, snapPoison := s.extPoison c.ext, recs := c.recs }

/-- A copy that makes no page records reads its marked pages again and writes them to its slot. -/
theorem State.againExt_issued {s : State} {c : ExtCopy} (hmaps : c.kind.mapsTo c.srcMode = false) (close : Bool) (g : ExtCopy → ExtCopy) :
    IssuedOnly { s with drl := { s.drl with extCopies := updWhere (·.ext == c.ext) (fun x => g (c.again s x)) s.drl.extCopies } } (s.againExt c close g) := by
  simp only [State.againExt, hmaps, Bool.false_eq_true, if_false]
  generalize hv : s.copyPages _ (markedList c.mask) = v
  have hcopied : IssuedOnly s v := hv ▸ s.copyPages_issued _ _
  have h := congrArg (fun x : State => { x with drl := { x.drl with extCopies := updWhere (·.ext == c.ext) (fun y => g (c.again s y)) x.drl.extCopies } }) hcopied
  exact h

/-- Pages copied again change the copy's own entry, and what commands issued to the DIMMs change. -/
theorem State.againExt_gives {s : State} {c : ExtCopy} (hmaps : c.kind.mapsTo c.srcMode = false) (hfind : s.drl.extCopies.find? (·.ext == c.ext) = some c) (close : Bool)
    {g : ExtCopy → ExtCopy} (hg : ∀ x, (g x).ext = x.ext) :
    (s.againExt c close g).drl.extCopies.find? (·.ext == c.ext) = some (g (c.again s c)) ∧
    { s.againExt c close g with drl := s.drl, pmu := s.pmu, chans := s.chans, doms := s.doms } = s := by
  have hissued := State.againExt_issued (s := s) hmaps close g
  generalize s.againExt c close g = v at hissued ⊢
  obtain ⟨-, -, -, -, -, -, hdrl, -⟩ := hissued.kept
  refine ⟨?_, ?_⟩
  · have hself (x : ExtCopy) (hx : (x.ext == c.ext) = true) : ((g (c.again s x)).ext == c.ext) = true := by rwa [hg]
    rw [hdrl, find?_updWhere hself, hfind]
    rfl
  · have h := congrArg (fun x : State => { x with drl := s.drl }) hissued
    exact h

/-! ## A copy that is abandoned (R162) -/

/-- The record gets its source back, and no data changes. -/
theorem State.abandonExt_gives (s : State) (c : ExtCopy) :
    (∀ j, (s.abandonExt c).extRec j = if j = c.ext then { s.extRec c.ext with mode := c.srcMode, loc := c.srcLoc } else s.extRec j) ∧
    (s.abandonExt c).drl.extCopies = s.drl.extCopies.filter (·.ext != c.ext) ∧ (s.abandonExt c).fb Reg.DRL_STATUS.ABANDON = true ∧
    (s.abandonExt c).mem = s.mem ∧ (s.abandonExt c).bad = s.bad ∧ (s.abandonExt c).nc = s.nc := by
  obtain ⟨hmem, hbad, hnc, -, -, -, hxlt, hdrl⟩ := (s.closeExtCopy_releases c.ext).kept
  unfold State.abandonExt
  generalize s.closeExtCopy c.ext = v at *
  have hrestored (j : Nat) := v.extRec_setExt c.ext j { s.extRec c.ext with mode := c.srcMode, loc := c.srcLoc }
  refine ⟨fun j => (hrestored j).trans (if_congr Iff.rfl rfl ?_), congrArg (·.extCopies) hdrl, ?_, hmem, hbad, hnc⟩
  · have hext := congrArg Xlt.ext hxlt
    exact State.extRec_congr (t := v) hext j
  · exact State.fb_flag_self _ Reg.DRL_STATUS.ABANDON (by decide) (by decide)

/-! ## EXTENT_COPY_ROUND_END (R162) -/

theorem ExtCopy.not_mem_filter (l : List ExtCopy) (e : Nat) : ∀ x ∈ l.filter (·.ext != e), x.ext ≠ e := by
  intro x hx
  obtain ⟨-, hext⟩ := List.mem_filter.1 hx
  simpa using hext

section
variable {s : State} {e : BitVec 25} {c : ExtCopy} {page : Fin 512} {run : CodecRun} (hcry : s.cry.st ≠ .error) (hfind : s.drl.extCopies.find? (·.ext == e.toNat) = some c)
  (hleft : c.left = 0) (hmeets : s.roundMeets c page.val run = some s)
include hcry hfind hleft hmeets

theorem exec_extentCopyRoundEnd : exec (.extentCopyRoundEnd e page run false) s = .next (s.endRoundExt c) := by
  have hexec : exec (.extentCopyRoundEnd e page run false) s = execExtentCopyRoundEnd e page run false s := rfl
  simp [hexec, execExtentCopyRoundEnd, hfind, hleft, hcry, hmeets]

theorem extentCopyRoundEnd_promotes (hcmd : c.cmd = none) (hmask : c.mask = 0) (hkind : c.kind = .promote) (hsrc : c.srcMode = .mapped) (hrecs : s.recsWritten c = true)
    (hpin : (s.extRec e.toNat).pin ≠ 2) : Gives (.extentCopyRoundEnd e page run false) s fun t =>
      (t.extRec e.toNat).mode = .direct ∧ (t.extRec e.toNat).loc = c.dst ∧ (∀ j, j ≠ e.toNat → t.extRec j = s.extRec j) ∧ (∀ x ∈ t.drl.extCopies, x.ext ≠ e.toNat) ∧
      t.nc = s.nc ∧ t.rtk = s.rtk := by
  have hexec := exec_extentCopyRoundEnd hcry hfind hleft hmeets
  have hext := ExtCopy.ext_of_find hfind
  rw [← hext] at hpin ⊢
  rw [State.endRoundExt, if_pos hmask, if_pos hrecs, State.commitExt_promote hkind hcmd hpin] at hexec
  obtain ⟨hrec, hcopies, hnc, hrtk⟩ := State.commitDirect_gives (s := s) hsrc (s.extRec c.ext).key
  generalize s.commitDirect c (s.extRec c.ext).key = v at *
  have hown := (hrec c.ext).trans (if_pos rfl)
  refine ⟨_, hexec, congrArg ExtRec.mode hown, congrArg ExtRec.loc hown, fun j hj => (hrec j).trans (if_neg hj), ?_, hnc, hrtk⟩
  rw [State.count_drl, hcopies]
  exact ExtCopy.not_mem_filter _ _

theorem extentCopyRoundEnd_repeats (hcmd : c.cmd = none) (hmask : c.mask ≠ 0) (hrounds : c.rounds < 3) (hmaps : c.kind.mapsTo c.srcMode = false) :
    Gives (.extentCopyRoundEnd e page run false) s fun t =>
      (t.drl.extCopies.find? (·.ext == e.toNat)).map (fun x => (x.mask, x.rounds, x.left)) = some (0, c.rounds + 1, markedPages c.mask) ∧
      { t with drl := s.drl, pmu := s.pmu, chans := s.chans, doms := s.doms } = s := by
  have hexec := exec_extentCopyRoundEnd hcry hfind hleft hmeets
  have hext := ExtCopy.ext_of_find hfind
  rw [← hext] at hfind ⊢
  rw [State.endRoundExt, if_neg hmask, if_pos hrounds] at hexec
  obtain ⟨hnow, hframe⟩ := State.againExt_gives hmaps hfind false (g := fun x => { x with rounds := x.rounds + 1, left := if c.cmd.isSome then 0 else markedPages c.mask }) fun _ => rfl
  refine ⟨_, hexec, ?_, hframe⟩
  rw [hnow]
  simp [hcmd, ExtCopy.again]

theorem extentCopyRoundEnd_holds (hmask : c.mask ≠ 0) (hrounds : 3 ≤ c.rounds) (hfew : markedPages c.mask ≤ 8) (hmaps : c.kind.mapsTo c.srcMode = false) :
    Gives (.extentCopyRoundEnd e page run false) s fun t =>
      (t.drl.extCopies.find? (·.ext == e.toNat)).map (fun x => (x.mask, x.paused)) = some (0, some s.now) ∧ { t with drl := s.drl, pmu := s.pmu, chans := s.chans, doms := s.doms } = s := by
  have hexec := exec_extentCopyRoundEnd hcry hfind hleft hmeets
  have hext := ExtCopy.ext_of_find hfind
  rw [← hext] at hfind ⊢
  rw [State.endRoundExt, if_neg hmask, if_neg (Nat.not_lt.2 hrounds), if_pos hfew] at hexec
  obtain ⟨hnow, hframe⟩ := State.againExt_gives hmaps hfind true (g := fun x => { x with paused := some s.now }) fun _ => rfl
  refine ⟨_, hexec, ?_, hframe⟩
  rw [hnow]
  simp [ExtCopy.again]

theorem extentCopyRoundEnd_abandons (hmask : c.mask ≠ 0) (hrounds : 3 ≤ c.rounds) (hmany : 8 < markedPages c.mask) :
    Gives (.extentCopyRoundEnd e page run false) s fun t =>
      t.extRec e.toNat = { s.extRec e.toNat with mode := c.srcMode, loc := c.srcLoc } ∧ (∀ j, j ≠ e.toNat → t.extRec j = s.extRec j) ∧ (∀ x ∈ t.drl.extCopies, x.ext ≠ e.toNat) ∧
      t.fb Reg.DRL_STATUS.ABANDON = true ∧ t.mem = s.mem ∧ t.bad = s.bad ∧ t.nc = s.nc := by
  have hexec := exec_extentCopyRoundEnd hcry hfind hleft hmeets
  have hext := ExtCopy.ext_of_find hfind
  rw [← hext]
  rw [State.endRoundExt, if_neg hmask, if_neg (Nat.not_lt.2 hrounds), if_neg (Nat.not_le.2 hmany)] at hexec
  obtain ⟨hrec, hcopies, hflag, hdata⟩ := s.abandonExt_gives c
  refine ⟨_, hexec, (hrec _).trans (if_pos rfl), fun j hj => (hrec j).trans (if_neg hj), ?_, hflag, hdata⟩
  rw [hcopies]
  exact ExtCopy.not_mem_filter _ _

end

/-! ## STRIPE_CLOSE_TIMEOUT (R166) -/

/-- A stripe that is closed is written, and takes no run away. -/
theorem State.closeStripe_gives (s : State) (q : Nat) : (∀ y ∈ (s.closeStripe q).drl.stripes, y.pos = q → y.written = true) ∧
    (s.closeStripe q).cap.runs = s.cap.runs ∧ { s.closeStripe q with drl := s.drl, cap := s.cap } = s := by
  refine ⟨fun y hy hpos => ?_, rfl, rfl⟩
  obtain ⟨z, -, rfl⟩ := List.mem_map.1 hy
  by_cases hz : z.pos = q
  · simp [hz]
  · simp [hz] at hpos

theorem exec_stripeCloseTimeout {s : State} {id : Nat} {x : Stripe} (hfind : s.drl.stripes.find? (·.id == id) = some x) (hopen : x.written = false) :
    exec (.stripeCloseTimeout id) s = .next (s.closeStripe x.pos) := by
  have hexec : exec (.stripeCloseTimeout id) s = execStripeCloseTimeout id s := rfl
  simp [hexec, execStripeCloseTimeout, hfind, hopen]

/-- Settles O57: each end of a copy by what it gives up, commits or copies again. -/
theorem copiesAndStripes : Obligations.CopiesAndStripes := by
  intro s hcry
  refine ⟨fun id c run hfind hwritten hshare hmeets => ⟨?stale, ?repeats, ?opens⟩, fun id c => heldAttemptTimeout_gives,
    fun e c page run hfind hleft hcmd hmeets => ⟨?promotes, ?rounds, ?holds, ?abandons⟩, fun id x hfind hopen => ⟨_, exec_stripeCloseTimeout hfind hopen, s.closeStripe_gives x.pos⟩⟩
  case stale => exact pageCopyEnd_stale hcry hfind hwritten hshare hmeets
  case repeats => exact pageCopyEnd_repeats hcry hfind hwritten hshare hmeets
  case opens => exact pageCopyEnd_opens hcry hfind hwritten hshare hmeets
  case promotes => exact extentCopyRoundEnd_promotes hcry hfind hleft hmeets hcmd
  case rounds => exact extentCopyRoundEnd_repeats hcry hfind hleft hmeets hcmd
  case holds => exact extentCopyRoundEnd_holds hcry hfind hleft hmeets
  case abandons => exact extentCopyRoundEnd_abandons hcry hfind hleft hmeets

end Sys2Proof.Machine
end

section
/-! PROOFS. The training of a port: what waits, what stays in Detect, and the link that comes up (R196, R203 to R207, R216, R361, R432, R465). -/

namespace Sys2Proof.Machine

/-! ## A bring-up that begins (R206, R432, R437, R465) -/

/-- Port `p` alone has changed. -/
structure PortOnly (s : State) (p : Head) (t : State) : Prop where
  frame : { t with ports := s.ports } = s
  others : ∀ g, g ≠ p → t.port g = s.port g

theorem PortOnly.trans {s t u : State} {p : Head} (h1 : PortOnly s p t) (h2 : PortOnly t p u) : PortOnly s p u := by
  have h := congrArg (fun x : State => { x with ports := s.ports }) h2.frame
  exact ⟨Eq.trans h h1.frame, fun g hg => (h2.others g hg).trans (h1.others g hg)⟩

theorem PortOnly.updPort (s : State) (p : Head) (g : Port → Port) : PortOnly s p (s.updPort p g) := ⟨s.updPort_frame p g, fun _ hk => s.port_updPort_ne g hk⟩

/-- `t` is `s` with a bring-up of port `p` noted: its host's capabilities, REFCLK, PERST_n and the hold of Detect. -/
structure Begun (s : State) (p : Head) (t : State) : Prop extends PortOnly s p t where
  port : { t.port p with perst := (s.port p).perst, cap := (s.port p).cap, refclk := (s.port p).refclk, held := (s.port p).held } = s.port p

theorem Begun.trans {s t u : State} {p : Head} (h1 : Begun s p t) (h2 : Begun t p u) : Begun s p u := by
  have h := congrArg (fun q : Port => { q with perst := (s.port p).perst, cap := (s.port p).cap, refclk := (s.port p).refclk, held := (s.port p).held }) h2.port
  exact ⟨h1.toPortOnly.trans h2.toPortOnly, Eq.trans h h1.port⟩

theorem Begun.updPort (s : State) (p : Head) {g : Port → Port}
    (hg : { g (s.port p) with perst := (s.port p).perst, cap := (s.port p).cap, refclk := (s.port p).refclk, held := (s.port p).held } = s.port p) : Begun s p (s.updPort p g) :=
  ⟨.updPort s p g, by rw [State.port_updPort_self]; exact hg⟩

/-- The state as a bring-up has noted the host's capabilities and REFCLK. -/
def State.asked (s : State) (p : Head) (c : LinkCap) : State := s.updPort p fun q => { q with cap := some c, refclk := c.refclk }

theorem State.asked_begun (s : State) (p : Head) (c : LinkCap) : Begun s p (s.asked p c) := Begun.updPort s p rfl

/-- What a bring-up does, by what stands before it (R206, R361, R432, R465). -/
theorem State.bringUp_eq (s : State) (p : Head) (c : LinkCap) :
    s.bringUp p c =
      if s.portsHeld || (s.port p).up then s.asked p c
      else if !s.mainRuns || !c.refclk then (s.asked p c).updPort p fun q => { q with waiting := some c, held := false }
      else if decide (p ∉ s.heads) then s.asked p c
      else if !s.domOn (4 + p.val) then ((s.asked p c).updPort p fun q => { q with waiting := none }).latchWake (4 + p.val) .perst
      else ((s.asked p c).updPort p fun q => { q with held := false }).train p c := by
  have hup : ((s.asked p c).port p).up = (s.port p).up := by rw [State.asked, State.port_updPort_self]
  rw [← hup]
  rfl

section
variable {s : State} {p : Head} {c : LinkCap} (hheld : s.portsHeld = false) (hup : (s.port p).up = false)
include hheld hup

/-- Before the main domains run, and without REFCLK, a bring-up waits (R206, R432, R465). -/
theorem State.bringUp_waits (hwait : s.mainRuns = false ∨ c.refclk = false) :
    s.bringUp p c = (s.asked p c).updPort p fun q => { q with waiting := some c, held := false } := by
  have hnot : (!s.mainRuns || !c.refclk) = true := by
    rcases hwait with h | h <;> simp [h]
  simp only [State.bringUp_eq, hheld, hup, hnot, Bool.or_self, Bool.false_eq_true, if_false, if_true]

variable (hrun : s.mainRuns = true) (href : c.refclk = true) (hp : p ∈ s.heads)
include hrun href hp

/-- A bring-up of a port whose domain is not ON latches the domain's wake (R361, R368). -/
theorem State.bringUp_wakes (hoff : s.domOn (4 + p.val) = false) :
    s.bringUp p c = ((s.asked p c).updPort p fun q => { q with waiting := none }).latchWake (4 + p.val) .perst := by
  simp [State.bringUp_eq, hheld, hup, hrun, href, hp, hoff]

/-- With its domain ON a port trains (R206). -/
theorem State.bringUp_trains (hon : s.domOn (4 + p.val) = true) : ∃ t, Begun s p t ∧ s.bringUp p c = t.train p c :=
  ⟨(s.asked p c).updPort p fun q => { q with held := false }, (s.asked_begun p c).trans (Begun.updPort _ p rfl), by simp [State.bringUp_eq, hheld, hup, hrun, href, hp, hon]⟩

end

/-! ## A port that trains (R203 to R207, R216) -/

/-- The rate that both sides allow (R204, R205). -/
def State.wantedRate (s : State) (p : Head) (c : LinkCap) : Nat := min (if (s.port p).eqFailed then min 4 (s.maxRate p) else s.maxRate p) c.hostRate.val

/-- The rate that a link reaches: 32 GT/s where equalization at 64 GT/s fails (R205). -/
def trainedRate (want : Nat) (c : LinkCap) : Nat := if (want == 5 && c.eq64Fails) = true then 4 else want

/-- The port as training leaves it with a link in L0. -/
def Port.trained (q : Port) (c : LinkCap) (want w : Nat) (loflit sris : Bool) : Port :=
  { q with ltssm := .l0, up := true, resetSeen := false, eqFailed := q.eqFailed || (want == 5 && c.eq64Fails), io := ⟨0, 0, 0, 0⟩
           mem := c.cxlMem && decide (2 ≤ trainedRate want c), rate := trainedRate want c, width := w, txWidth := w, rxWidth := w
           flit256 := trainedRate want c == 5, loflit := loflit, sris := sris, l0pHost := c.l0p, l0pAfter := 0 }

/-- The domain of a port is ON, and the fence that a port reset came after has ended (R196). -/
def State.fenceEnded (s : State) (p : Head) : State :=
  let s := s.updDom (4 + p.val) fun d => { d with st := .on }
  if (s.port p).resetSeen then s.setBit Reg.DIR_STATUS.FENCED p.val false else s

/-- A link that has found its rate and width comes up, and its credits are advertised (R203 to R207, R216). -/
def State.linked (s : State) (p : Head) (c : LinkCap) (want w : Nat) : State :=
  let s := s.fenceEnded p
  (s.updPort p fun q => q.trained c want w (trainedRate want c == 5 && c.loflit && s.fb (Reg.PRTn_LINK_CFG.LOFLIT_EN.nth p.val))
    (s.f (Reg.PRTn_LINK_CFG.CLK_MODE.nth p.val) == 1)).advertiseIo p

/-- The port as its lanes have been tried. -/
def State.lanesTried (s : State) (p : Head) (c : LinkCap) (lanes : BitVec 16) : State :=
  s.updPort p fun q => { q with receiver := c.receiver, waiting := none, goodLanes := if linkWidth (s.tandem p) lanes == 0 then q.goodLanes else lanes }

/-- With no receiver a port stays in Detect (R204). -/
theorem State.train_detects (s : State) (p : Head) {c : LinkCap} (hrecv : c.receiver = false) :
    s.train p c = (s.lanesTried p c (c.goodLanes &&& (s.port p).goodLanes)).updPort p fun q => { q with ltssm := .detect } := by
  unfold State.train
  exact if_pos (by simp [hrecv])

/-- With a receiver, a usable width and no loop, a port's link comes up; a fall to 32 GT/s is recorded first (R203 to R207). -/
theorem State.train_links {s : State} {p : Head} {c : LinkCap} (hrecv : c.receiver = true) (hloop : s.loopDown p = false)
    (hw : linkWidth (s.tandem p) (c.goodLanes &&& (s.port p).goodLanes) ≠ 0) :
    ∃ u, Noted (s.lanesTried p c (c.goodLanes &&& (s.port p).goodLanes)) u ∧
      ((s.wantedRate p c ≠ 5 ∨ c.eq64Fails = false) → u = s.lanesTried p c (c.goodLanes &&& (s.port p).goodLanes)) ∧
      s.train p c = u.linked p c (s.wantedRate p c) (linkWidth (s.tandem p) (c.goodLanes &&& (s.port p).goodLanes)) := by
  generalize hl : c.goodLanes &&& (s.port p).goodLanes = lanes at hw ⊢
  have hwant : (s.lanesTried p c lanes).wantedRate p c = s.wantedRate p c := by
    have heq : ((s.lanesTried p c lanes).port p).eqFailed = (s.port p).eqFailed := by rw [State.lanesTried, State.port_updPort_self]
    rw [State.wantedRate, heq]
    rfl
  have hgo : ¬ (!c.receiver || linkWidth (s.tandem p) lanes == 0 || (s.lanesTried p c lanes).loopDown p) = true := by
    have hloop' : (s.lanesTried p c lanes).loopDown p = false := hloop
    simp [hrecv, hw, hloop']
  refine ⟨if (s.wantedRate p c == 5 && c.eq64Fails) = true then
      ((s.lanesTried p c lanes).flag (Reg.PRTn_LINK_ERR.DEGRADED.nth p.val)).event (withOwner (s.lanesTried p c lanes) [p]) .warning .linkNarrowed p.val
    else s.lanesTried p c lanes, ?_, fun h => if_neg ?_, ?_⟩
  · split
    · exact (State.flag_noted _ _).trans (State.event_noted ..).1
    · exact .refl _
  · rcases h with h | h <;> simp [h]
  · rw [← hwant]
    unfold State.train
    rw [hl]
    exact if_neg hgo

section
variable (s : State) (p : Head) (c : LinkCap) (want w : Nat)

theorem State.fenceEnded_frame : { s.fenceEnded p with doms := s.doms, csr := s.csr } = s := by
  unfold State.fenceEnded
  dsimp only
  split <;> rfl

theorem State.fenceEnded_csr (h : (s.port p).resetSeen = false) : (s.fenceEnded p).csr = s.csr := by
  rw [State.fenceEnded, State.port_updDom, h]
  rfl

/-- A port reset's fence ends (R196). -/
theorem State.fenceEnded_fenced (h : (s.port p).resetSeen = true) : (s.fenceEnded p).fenced p = false := by
  rw [State.fenceEnded, State.port_updDom, h]
  exact State.fbit_setBit_self _ Reg.DIR_STATUS.FENCED false ((Nat.add_lt_add_left p.isLt 16).trans (by decide))

/-- A link that comes up: its port, its advertised credits, and nothing else but its domain and the fence (R196, R216). -/
theorem State.linked_gives :
    (∃ loflit sris, (s.linked p c want w).port p = (s.port p).trained c want w loflit sris) ∧ (∀ g, g ≠ p → (s.linked p c want w).port g = s.port g) ∧
      (s.linked p c want w).out = s.out ++ [.ioCredits p 64 1024 32 32] ∧ (s.linked p c want w).csr = (s.fenceEnded p).csr ∧
      { s.linked p c want w with ports := s.ports, doms := s.doms, out := s.out, csr := s.csr } = s := by
  have hframe := s.fenceEnded_frame p
  obtain ⟨hports, hout⟩ : (s.fenceEnded p).ports = s.ports ∧ (s.fenceEnded p).out = s.out := by
    have hp := congrArg (fun x : State => (x.ports, x.out)) hframe
    simpa only [Prod.mk.injEq] using hp
  obtain ⟨loflit, sris, hlinked⟩ : ∃ loflit sris, s.linked p c want w = ((s.fenceEnded p).updPort p fun q => q.trained c want w loflit sris).advertiseIo p := ⟨_, _, rfl⟩
  rw [hlinked]
  generalize s.fenceEnded p = u at *
  refine ⟨⟨loflit, sris, ?_⟩, fun g hg => ?_, ?_, rfl, ?_⟩
  · rw [State.advertiseIo, State.port_send, State.port_updPort_self, State.port_congr hports]
  · rw [State.advertiseIo, State.port_send, State.port_updPort_ne _ _ hg, State.port_congr hports]
  · rw [State.advertiseIo, State.port_updPort_self]
    exact congrArg (· ++ [Msg.ioCredits p 64 1024 32 32]) hout
  · exact congrArg (fun x : State => { x with ports := s.ports, out := s.out }) hframe

end

/-- Of `t`, port `p` has trained: its link is in L0 at the rate and width that both sides and its lanes allow. -/
structure LinkTrained (s : State) (p : Head) (c : LinkCap) (t : State) : Prop where
  port : ∃ (q : Port) (loflit sris : Bool), t.port p = q.trained c (s.wantedRate p c) (linkWidth (s.tandem p) (c.goodLanes &&& (s.port p).goodLanes)) loflit sris ∧
    q.active = (s.port p).active ∧ q.goodLanes = c.goodLanes &&& (s.port p).goodLanes
  fence : (s.port p).resetSeen = true → t.fenced p = false
  kept : t.mem = s.mem ∧ t.rtk = s.rtk
  clean : s.wantedRate p c ≠ 5 ∨ c.eq64Fails = false → t.out = s.out ++ [.ioCredits p 64 1024 32 32] ∧ (∀ g, g ≠ p → t.port g = s.port g) ∧
    ((s.port p).resetSeen = false → t.csr = s.csr) ∧ { t with ports := s.ports, doms := s.doms, out := s.out, csr := s.csr } = s

/-- A bring-up of a port with a receiver, a usable width and no loop brings its link up (R203 to R207). -/
theorem Begun.links {s b : State} {p : Head} {c : LinkCap} (hb : Begun s p b) (hrecv : c.receiver = true) (hloop : s.loopDown p = false)
    (hw : linkWidth (s.tandem p) (c.goodLanes &&& (s.port p).goodLanes) ≠ 0) : LinkTrained s p c (b.train p c) := by
  obtain ⟨⟨bframe, bothers⟩, bport⟩ := hb
  obtain ⟨hlanes, heq, hactive, hreset⟩ : (b.port p).goodLanes = (s.port p).goodLanes ∧ (b.port p).eqFailed = (s.port p).eqFailed ∧ (b.port p).active = (s.port p).active ∧
      (b.port p).resetSeen = (s.port p).resetSeen := by
    have hp := congrArg (fun q : Port => (q.goodLanes, q.eqFailed, q.active, q.resetSeen)) bport
    simpa only [Prod.mk.injEq] using hp
  obtain ⟨htandem, hmax, hdown, bmem, brtk⟩ : b.tandem p = s.tandem p ∧ b.maxRate p = s.maxRate p ∧ b.loopDown p = s.loopDown p ∧ b.mem = s.mem ∧ b.rtk = s.rtk := by
    have hp := congrArg (fun x : State => (x.tandem p, x.maxRate p, x.loopDown p, x.mem, x.rtk)) bframe
    simp only [Prod.mk.injEq] at hp
    exact hp
  have hwant : b.wantedRate p c = s.wantedRate p c := by rw [State.wantedRate, State.wantedRate, heq, hmax]
  obtain ⟨u, hnoted, hclean, htrain⟩ := State.train_links (s := b) hrecv (hdown.trans hloop) (by rwa [hlanes, htandem])
  rw [hlanes, htandem, hwant] at htrain
  rw [hlanes] at hnoted hclean
  rw [hwant] at hclean
  obtain ⟨⟨loflit, sris, lport⟩, lothers, lout, lcsr, lframe⟩ := u.linked_gives p c (s.wantedRate p c) (linkWidth (s.tandem p) (c.goodLanes &&& (s.port p).goodLanes))
  rw [htrain]
  have tport : (b.lanesTried p c (c.goodLanes &&& (s.port p).goodLanes)).port p =
      { b.port p with receiver := c.receiver, waiting := none, goodLanes := c.goodLanes &&& (s.port p).goodLanes } := by
    rw [State.lanesTried, State.port_updPort_self, htandem, if_neg (by simpa using hw)]
  obtain ⟨uactive, ureset, ulanes⟩ : (u.port p).active = (s.port p).active ∧ (u.port p).resetSeen = (s.port p).resetSeen ∧
      (u.port p).goodLanes = c.goodLanes &&& (s.port p).goodLanes := by
    have hp := congrArg (fun q : Port => (q.active, q.resetSeen, q.goodLanes)) (hnoted.2 p)
    rw [tport, hactive, hreset] at hp
    simpa only [Prod.mk.injEq] using hp
  obtain ⟨umem, urtk⟩ : u.mem = b.mem ∧ u.rtk = b.rtk := by
    have hp := congrArg (fun x : State => (x.mem, x.rtk)) hnoted.1
    simp only [Prod.mk.injEq] at hp
    exact hp
  refine ⟨⟨u.port p, loflit, sris, lport, uactive, ulanes⟩, fun hr => ?_, ?_, fun h => ?_⟩
  · rw [State.fenced, State.fbit_congr lcsr]
    exact u.fenceEnded_fenced p (ureset.trans hr)
  · have hp := congrArg (fun x : State => (x.mem, x.rtk)) lframe
    simpa only [Prod.mk.injEq, umem, urtk, bmem, brtk] using hp
  · have hu := hclean h
    have uframe : { u with ports := s.ports } = s := by
      rw [hu]
      exact bframe
    obtain ⟨ucsr, uout⟩ : u.csr = s.csr ∧ u.out = s.out := by
      have hp := congrArg (fun x : State => (x.csr, x.out)) uframe
      simpa only [Prod.mk.injEq] using hp
    refine ⟨by rw [lout, uout], fun g hg => ?_, fun hr => ?_, ?_⟩
    · rw [lothers g hg, hu]
      exact (b.port_updPort_ne _ hg).trans (bothers g hg)
    · rw [lcsr, u.fenceEnded_csr p (ureset.trans hr), ucsr]
    · have h1 := congrArg (fun x : State => { x with ports := s.ports, doms := s.doms, out := s.out, csr := s.csr }) lframe
      have h2 := congrArg (fun x : State => { x with doms := s.doms, out := s.out, csr := s.csr }) uframe
      exact h1.trans h2

/-! ## PORT_BRING_UP and REFCLK_RETURN -/

/-- A wake source of a domain that is not ON is latched once (R368). -/
theorem State.latchWake_gives {s : State} {d : Nat} (hoff : s.domOn d = false) (src : WakeSource) :
    ((s.latchWake d src).dom d).latch = (s.dom d).latch ++ (if (s.dom d).latch.any (·.1 == src) then [] else [(src, s.tb)]) ∧
      (∀ j, j ≠ d → (s.latchWake d src).dom j = s.dom j) ∧ { s.latchWake d src with doms := s.doms } = s := by
  have hst : ((s.dom d).st == .on) = false := hoff
  unfold State.latchWake
  rw [hst, Bool.false_or]
  cases hany : (s.dom d).latch.any (·.1 == src) with
  | true => exact ⟨(List.append_nil _).symm, fun _ _ => rfl, rfl⟩
  | false => exact ⟨by simp, fun j hj => by simp [State.dom_updDom, hj], rfl⟩

/-- A bring-up that begins with a change of the port's inputs trains it where nothing holds it back. -/
theorem State.updPort_bringUp_trains {s : State} {p : Head} {c : LinkCap} {g : Port → Port}
    (hg : { g (s.port p) with perst := (s.port p).perst, cap := (s.port p).cap, refclk := (s.port p).refclk, held := (s.port p).held } = s.port p)
    (hp : p ∈ s.heads) (hheld : s.portsHeld = false) (hup : (s.port p).up = false) (hrun : s.mainRuns = true) (href : c.refclk = true) (hon : s.domOn (4 + p.val) = true) :
    ∃ b, Begun s p b ∧ (s.updPort p g).bringUp p c = b.train p c := by
  have hdown : ((s.updPort p g).port p).up = false := by
    rw [State.port_updPort_self, ← hup]
    have h := congrArg Port.up hg
    exact h
  obtain ⟨b, hb, htrain⟩ := State.bringUp_trains (s := s.updPort p g) (p := p) (c := c) hheld hdown hrun href hp hon
  exact ⟨b, (Begun.updPort s p hg).trans hb, htrain⟩

section
variable {s : State} {p : Head} {c : LinkCap} (hp : p ∈ s.heads) (hheld : s.portsHeld = false) (hup : (s.port p).up = false)
include hp hheld hup

/-- The clause of a link that comes up. -/
theorem portBringUp_links (hrun : s.mainRuns = true) (href : c.refclk = true) (hon : s.domOn (4 + p.val) = true) (hrecv : c.receiver = true) (hloop : s.loopDown p = false)
    (hw : linkWidth (s.tandem p) (c.goodLanes &&& (s.port p).goodLanes) ≠ 0) : Gives (.portBringUp p c) s (LinkTrained s p c) := by
  obtain ⟨b, hb, htrain⟩ := State.updPort_bringUp_trains (g := fun q => { q with perst := false }) rfl hp hheld hup hrun href hon
  exact ⟨_, congrArg Host.Outcome.next htrain, hb.links hrecv hloop hw⟩

/-- The clause of a port with no receiver. -/
theorem portBringUp_detects (hrun : s.mainRuns = true) (href : c.refclk = true) (hon : s.domOn (4 + p.val) = true) (hrecv : c.receiver = false) :
    Gives (.portBringUp p c) s fun t => (t.port p).ltssm = .detect ∧ (t.port p).up = false ∧ (∀ g, g ≠ p → t.port g = s.port g) ∧ { t with ports := s.ports } = s := by
  obtain ⟨b, ⟨honly, bport⟩, htrain⟩ := State.updPort_bringUp_trains (g := fun q => { q with perst := false }) rfl hp hheld hup hrun href hon
  have hdown : (b.port p).up = (s.port p).up := by
    have h := congrArg Port.up bport
    exact h
  refine ⟨_, congrArg Host.Outcome.next htrain, ?_⟩
  have honly := (honly.trans (.updPort ..)).trans (.updPort (b.lanesTried p c (c.goodLanes &&& (b.port p).goodLanes)) p fun q => { q with ltssm := .detect })
  rw [State.train_detects b p hrecv]
  exact ⟨by rw [State.port_updPort_self], by rw [State.port_updPort_self, State.lanesTried, State.port_updPort_self, hdown, hup], honly.others, honly.frame⟩

/-- The clause of a port whose domain is not ON. -/
theorem portBringUp_wakes (hrun : s.mainRuns = true) (href : c.refclk = true) (hoff : s.domOn (4 + p.val) = false) :
    Gives (.portBringUp p c) s fun t =>
      t.port p = { s.port p with perst := false, cap := some c, refclk := true, waiting := none } ∧ (∀ g, g ≠ p → t.port g = s.port g) ∧
        (t.dom (4 + p.val)).latch = (s.dom (4 + p.val)).latch ++ (if (s.dom (4 + p.val)).latch.any (·.1 == .perst) then [] else [(.perst, s.tb)]) ∧
        (∀ j, j ≠ 4 + p.val → t.dom j = s.dom j) ∧ { t with ports := s.ports, doms := s.doms } = s := by
  have hwake := State.bringUp_wakes (s := s.updPort p fun q => { q with perst := false }) (p := p) (c := c) hheld (by rw [State.port_updPort_self]; exact hup) hrun href hp hoff
  refine ⟨_, congrArg Host.Outcome.next hwake, ?_⟩
  have uport : (((s.updPort p fun q => { q with perst := false }).asked p c).updPort p fun q => { q with waiting := none }).port p =
      { s.port p with perst := false, cap := some c, refclk := c.refclk, waiting := none } := by
    rw [State.port_updPort_self, State.asked, State.port_updPort_self, State.port_updPort_self]
  have honly := ((PortOnly.updPort s p fun q => { q with perst := false }).trans (.updPort _ p fun q => { q with cap := some c, refclk := c.refclk })).trans (.updPort _ p fun q => { q with waiting := none })
  have uonly : PortOnly s p (((s.updPort p fun q => { q with perst := false }).asked p c).updPort p fun q => { q with waiting := none }) := honly
  generalize (((s.updPort p fun q => { q with perst := false }).asked p c).updPort p fun q => { q with waiting := none }) = u at *
  obtain ⟨udoms, utb⟩ : u.doms = s.doms ∧ u.tb = s.tb := by
    have h := congrArg (fun x : State => (x.doms, x.tb)) uonly.frame
    simpa only [Prod.mk.injEq] using h
  obtain ⟨hlatch, hothers, hframe⟩ := State.latchWake_gives (s := u) (d := 4 + p.val) (by rw [State.domOn, State.dom_congr udoms]; exact hoff) .perst
  have hports : (u.latchWake (4 + p.val) .perst).ports = u.ports := by
    have h := congrArg State.ports hframe
    exact h
  refine ⟨by rw [State.port_congr hports, uport, href], fun g hg => (State.port_congr hports g).trans (uonly.others g hg), by rw [hlatch, State.dom_congr udoms, utb],
    fun j hj => (hothers j hj).trans (State.dom_congr udoms j), ?_⟩
  have h1 := congrArg (fun x : State => { x with ports := s.ports, doms := s.doms }) hframe
  have h2 := congrArg (fun x : State => { x with doms := s.doms }) uonly.frame
  exact h1.trans h2

omit hp in
/-- The clause of a port that waits. -/
theorem portBringUp_waits (hwait : s.mainRuns = false ∨ c.refclk = false) :
    Gives (.portBringUp p c) s fun t => (t.port p).waiting = some c ∧ (t.port p).up = false ∧ (∀ g, g ≠ p → t.port g = s.port g) ∧ { t with ports := s.ports } = s := by
  have hwaits := State.bringUp_waits (s := s.updPort p fun q => { q with perst := false }) (p := p) (c := c) hheld (by rw [State.port_updPort_self]; exact hup) hwait
  refine ⟨_, congrArg Host.Outcome.next hwaits, ?_⟩
  have honly := ((PortOnly.updPort s p fun q => { q with perst := false }).trans (.updPort _ p fun q => { q with cap := some c, refclk := c.refclk })).trans
    (.updPort _ p fun q => { q with waiting := some c, held := false })
  exact ⟨by rw [State.port_updPort_self], by rw [State.port_updPort_self, State.asked, State.port_updPort_self, State.port_updPort_self, hup], honly.others, honly.frame⟩

/-- REFCLK_RETURN brings up a port that waited for REFCLK (R465). -/
theorem refclkReturn_links (hwait : (s.port p).waiting = some c) (hrun : s.mainRuns = true) (hon : s.domOn (4 + p.val) = true) (hrecv : c.receiver = true)
    (hloop : s.loopDown p = false) (hw : linkWidth (s.tandem p) (c.goodLanes &&& (s.port p).goodLanes) ≠ 0) :
    Gives (.refclkReturn p) s (LinkTrained s p { c with refclk := true }) := by
  obtain ⟨b, hb, htrain⟩ := State.updPort_bringUp_trains (c := { c with refclk := true }) (g := fun q => { q with refclk := true }) rfl hp hheld hup hrun rfl hon
  have hwaiting : ((s.updPort p fun q => { q with refclk := true }).port p).waiting = some c := by
    rw [State.port_updPort_self]
    exact hwait
  have hexec : exec (.refclkReturn p) s = .next ((s.updPort p fun q => { q with refclk := true }).bringUp p { c with refclk := true }) := by
    show execRefclkReturn p s = _
    simp only [execRefclkReturn, hwaiting]
  exact ⟨_, hexec.trans (congrArg Host.Outcome.next htrain), hb.links (c := { c with refclk := true }) hrecv hloop hw⟩

end

/-- Settles O37: a bring-up that nothing holds back trains the port at the rate and width that `LinkTrained` gives; else it waits, latches the wake of its
domain or stays in Detect. -/
theorem portTraining : Obligations.PortTraining := by
  unfold Obligations.PortTraining
  intro s p c hp hheld hup lanes on
  refine ⟨fun hrun href hon hrecv hloop hw => ?_, fun hrun href hon hrecv => portBringUp_detects hp hheld hup hrun href hon hrecv,
    fun hrun href hoff => portBringUp_wakes hp hheld hup hrun href hoff, fun hwait => portBringUp_waits hheld hup hwait, fun hwait hrun hon hrecv hloop hw => ?_⟩
  · obtain ⟨t, hexec, ⟨q, loflit, sris, hport, hactive, hlanes⟩, hfence, ⟨hmem, hrtk⟩, hclean⟩ := portBringUp_links hp hheld hup hrun href hon hrecv hloop hw
    have hrate : (t.port p).rate = if s.wantedRate p c = 5 ∧ c.eq64Fails = true then 4 else s.wantedRate p c := by
      rw [hport]
      simp [Port.trained, trainedRate]
    refine ⟨t, hexec, ?_⟩
    dsimp only
    refine ⟨by rw [hport]; rfl, by rw [hport]; rfl, hrate, by rw [hport]; rfl, ?_, by rw [hport]; rfl, by rw [hport]; rfl, by rw [hport]; rfl, by rw [hport]; rfl, ?_, hfence, hmem, hrtk, hclean⟩
    · rw [hport]
      exact hlanes
    · rw [hport]
      exact hactive
  · obtain ⟨t, hexec, ⟨q, loflit, sris, hport, -⟩, -, ⟨hmem, -⟩, -⟩ := refclkReturn_links hp hheld hup hwait hrun hon hrecv hloop hw
    exact ⟨t, hexec, by rw [hport]; rfl, by rw [hport]; rfl, by rw [hport]; rfl, hmem⟩

end Sys2Proof.Machine
end

section
/-! PROOFS. Region tables: the entry that a CTL word spells, checks and rejections, removals, and HDM decoders (R67, R174, R176, R359, R447). -/

namespace Sys2Proof.Machine

/-! ## The CTL word of an entry (R173) -/

section
variable {key cls : Nat} (hkey : key < 1024) (hcls : cls < 4) (db origin valid : Bool)
include hkey hcls

theorem ctlWord_toNat : (ctlWord key cls db origin valid).toNat = key * 65536 + origin.toNat * 16 + cls * 4 + db.toNat * 2 + valid.toNat := by
  have hdb := db.toNat_lt
  have horigin := origin.toNat_lt
  have hvalid := valid.toNat_lt
  rw [ctlWord, BitVec.toNat_ofNat]
  omega

/-- The fields of a CTL word are what it was made of. -/
theorem ctlWord_fields :
    wordField (ctlWord key cls db origin valid) 25 16 = key ∧ (ctlWord key cls db origin valid).getLsbD 4 = origin ∧ wordField (ctlWord key cls db origin valid) 3 2 = cls ∧
    (ctlWord key cls db origin valid).getLsbD 1 = db ∧ (ctlWord key cls db origin valid).getLsbD 0 = valid := by
  have hword := ctlWord_toNat hkey hcls db origin valid
  generalize ctlWord key cls db origin valid = w at hword ⊢
  have hbit (i : Nat) : w.getLsbD i = decide (w.toNat / 2 ^ i % 2 = 1) := by rw [BitVec.getLsbD, Nat.testBit_eq_decide_div_mod_eq]
  have hfield (hi lo : Nat) : wordField w hi lo = w.toNat / 2 ^ lo % 2 ^ (hi - lo + 1) := by rw [wordField, BitVec.toNat_ushiftRight, Nat.shiftRight_eq_div_pow]
  have hbool (b : Bool) (k : Nat) (h : k = b.toNat) : decide (k = 1) = b := by subst h; cases b <;> rfl
  have hdb := db.toNat_lt
  have horigin := origin.toNat_lt
  have hvalid := valid.toNat_lt
  rw [hbit, hbit, hbit, hfield, hfield, hword]
  exact ⟨by omega, hbool _ _ (by omega), by omega, hbool _ _ (by omega), hbool _ _ (by omega)⟩

/-- An entry whose CTL word is written: its ranges stay (R174). -/
theorem State.region_setCtl (s : State) (n : Head) (e : Fin 9) :
    (s.setWord (rgnOff n e + 12) (ctlWord key cls db origin valid)).region n e = { s.region n e with key := key, cls := cls, db := db, origin := origin, valid := valid } := by
  obtain ⟨hk, ho, hc, hd, hv⟩ := ctlWord_fields hkey hcls db origin valid
  rw [State.region_eq, State.region_eq, State.word_setWord_self, State.word_setWord_ne _ _ (by omega), State.word_setWord_ne _ _ (by omega), State.word_setWord_ne _ _ (by omega),
    regionOfWords, hk, ho, hc, hd, hv]
  rfl

end

/-- An entry depends on its four words alone. -/
theorem State.region_of_words {s t : State} {n : Head} {e : Fin 9} (h : ∀ i < 16, t.word (rgnOff n e + i) = s.word (rgnOff n e + i)) : t.region n e = s.region n e := by
  rw [State.region_eq, State.region_eq, h 4 (by decide), h 8 (by decide), h 12 (by decide)]
  exact congrArg (fun w => regionOfWords n e w _ _ _) (h 0 (by decide))

theorem State.region_bounds (s : State) (n : Head) (e : Fin 9) : (s.region n e).key < 1024 ∧ (s.region n e).cls < 4 := by
  rw [State.region_eq]
  exact ⟨Nat.mod_lt _ (by decide), Nat.mod_lt _ (by decide)⟩

theorem and_toNat_lt {w m : Word} {k : Nat} (h : m.toNat < k) : (w &&& m).toNat < k := by
  rw [BitVec.toNat_and]
  exact Nat.lt_of_le_of_lt Nat.and_le_right h

theorem State.proposed_bounds (s : State) (n : Head) (e : Fin 9) (v : Word) : (s.proposed n e v).key < 1024 ∧ (s.proposed n e v).cls < 4 :=
  ⟨and_toNat_lt (by decide), and_toNat_lt (by decide)⟩

/-! ## A rejected write (R174) -/

/-- Registers alone have changed. -/
def CsrOnly (s t : State) : Prop := { t with csr := s.csr } = s

theorem CsrOnly.refl (s : State) : CsrOnly s s := rfl

theorem CsrOnly.trans {s t u : State} (h1 : CsrOnly s t) (h2 : CsrOnly t u) : CsrOnly s u := by
  have h := congrArg (fun x : State => { x with csr := s.csr }) h2
  exact Eq.trans h h1

theorem State.setWord_csrOnly (s : State) (o : Nat) (w : Word) : CsrOnly s (s.setWord o w) := rfl

theorem State.setF_csrOnly (s : State) (x : Fld) (v : Nat) : CsrOnly s (s.setF x v) := rfl

/-- The status register of a table as it names a rejected entry and the code. -/
def State.rejected (s : State) (n : Head) (e : Fin 9) (code : Nat) : State :=
  ((s.flag (Reg.PRTn_RGN_STATUS.REJ.nth n.val)).setF (Reg.PRTn_RGN_STATUS.REJ_ENTRY.nth n.val) e.val).setF (Reg.PRTn_RGN_STATUS.REJ_CODE.nth n.val) code

section
variable (s : State) (n : Head) (e : Fin 9) (code : Nat)

theorem State.rejected_fields (hcode : code < 16) :
    (s.rejected n e code).fb (Reg.PRTn_RGN_STATUS.REJ.nth n.val) = true ∧ (s.rejected n e code).f (Reg.PRTn_RGN_STATUS.REJ_ENTRY.nth n.val) = e.val ∧
      (s.rejected n e code).f (Reg.PRTn_RGN_STATUS.REJ_CODE.nth n.val) = code := by
  have hentry : (Reg.PRTn_RGN_STATUS.REJ_ENTRY.nth n.val).hi < 32 := show 7 < 32 by decide
  have hentries : (Reg.PRTn_RGN_STATUS.REJ_ENTRY.nth n.val).lo ≤ (Reg.PRTn_RGN_STATUS.REJ_ENTRY.nth n.val).hi := show 4 ≤ 7 by decide
  have hcodes : (Reg.PRTn_RGN_STATUS.REJ_CODE.nth n.val).hi < 32 := show 3 < 32 by decide
  have hrej : (Reg.PRTn_RGN_STATUS.REJ.nth n.val).hi < 32 := show 8 < 32 by decide
  have he : e.val % 2 ^ (7 - 4 + 1) = e.val := Nat.mod_eq_of_lt (Nat.lt_trans e.isLt (by decide))
  have hc : code % 2 ^ (3 - 0 + 1) = code := Nat.mod_eq_of_lt hcode
  refine ⟨?_, ?_, (State.f_setF_self _ _ _ hcodes (Nat.zero_le _)).trans hc⟩
  · have hbelow : (s.rejected n e code).fb (Reg.PRTn_RGN_STATUS.REJ.nth n.val) = ((s.flag (Reg.PRTn_RGN_STATUS.REJ.nth n.val)).setF (Reg.PRTn_RGN_STATUS.REJ_ENTRY.nth n.val) e.val).fb _ :=
      (State.fb_setF _ _ _ _ hcodes (Nat.zero_le _) hrej).trans (if_neg fun h => absurd h.2.2 (show ¬ 8 ≤ 3 by decide))
    have habove : ((s.flag (Reg.PRTn_RGN_STATUS.REJ.nth n.val)).setF (Reg.PRTn_RGN_STATUS.REJ_ENTRY.nth n.val) e.val).fb (Reg.PRTn_RGN_STATUS.REJ.nth n.val) =
        (s.flag (Reg.PRTn_RGN_STATUS.REJ.nth n.val)).fb _ :=
      (State.fb_setF _ _ _ _ hentry hentries hrej).trans (if_neg fun h => absurd h.2.2 (show ¬ 8 ≤ 7 by decide))
    exact (hbelow.trans habove).trans (State.fb_flag_self _ _ hrej (Nat.le_refl _))
  · have hkeeps : (s.rejected n e code).f (Reg.PRTn_RGN_STATUS.REJ_ENTRY.nth n.val) = _ :=
      State.f_setF_ne _ _ _ _ hcodes (Nat.zero_le _) hentry hentries (.inr (.inr (show 3 < 4 by decide)))
    exact hkeeps.trans ((State.f_setF_self _ _ _ hentry hentries).trans he)

theorem State.rejected_csrOnly : CsrOnly s (s.rejected n e code) := ((s.setF_csrOnly _ 1).trans (State.setF_csrOnly _ _ _)).trans (State.setF_csrOnly _ _ _)

theorem State.word_rejected {o : Nat} (ho : o ≠ 0x100890 + 0x10000 * n.val) : (s.rejected n e code).word o = s.word o :=
  ((State.word_setF_ne _ _ code ho).trans (State.word_setF_ne _ _ e.val ho)).trans (State.word_setF_ne _ _ 1 ho)

theorem State.rgnReject_eq : s.rgnReject n e code = if code = 5 then (s.rejected n e code).flag Reg.XLT_CAP_STATUS.CAP_OVER else s.rejected n e code := rfl

theorem State.rgnReject_csrOnly : CsrOnly s (s.rgnReject n e code) := by
  rw [State.rgnReject_eq]
  split
  · exact (s.rejected_csrOnly n e code).trans (State.setF_csrOnly _ _ _)
  · exact s.rejected_csrOnly n e code

/-- CAP_OVER stands in another register than the status of a table. -/
theorem rgnStatus_off_ne (n : Head) : (0x100890 + 0x10000 * n.val) ≠ Reg.XLT_CAP_STATUS.CAP_OVER.off := by
  show 0x100890 + 0x10000 * n.val ≠ 0x22008C
  omega

theorem State.word_rgnReject_status : (s.rgnReject n e code).word (0x100890 + 0x10000 * n.val) = (s.rejected n e code).word (0x100890 + 0x10000 * n.val) := by
  rw [State.rgnReject_eq]
  split
  · exact State.word_setF_ne _ _ 1 (rgnStatus_off_ne n)
  · rfl

/-- A rejection names the entry and the code (R174). -/
theorem State.rgnReject_fields (hcode : code < 16) :
    (s.rgnReject n e code).fb (Reg.PRTn_RGN_STATUS.REJ.nth n.val) = true ∧ (s.rgnReject n e code).f (Reg.PRTn_RGN_STATUS.REJ_ENTRY.nth n.val) = e.val ∧
      (s.rgnReject n e code).f (Reg.PRTn_RGN_STATUS.REJ_CODE.nth n.val) = code := by
  obtain ⟨hrej, hentry, hcode⟩ := s.rejected_fields n e code hcode
  have hword := s.word_rgnReject_status n e code
  exact ⟨(State.fb_of_word hword).trans hrej, (State.f_of_word hword).trans hentry, (State.f_of_word hword).trans hcode⟩

/-- A rejection changes no entry (R174). -/
theorem State.region_rgnReject (m : Head) (i : Fin 9) : (s.rgnReject n e code).region m i = s.region m i := by
  refine State.region_of_words fun k hk => ?_
  have hstatus : rgnOff m i + k ≠ 0x100890 + 0x10000 * n.val := by
    unfold rgnOff
    omega
  have hcap : rgnOff m i + k ≠ Reg.XLT_CAP_STATUS.CAP_OVER.off := by
    show rgnOff m i + k ≠ 0x22008C
    unfold rgnOff
    omega
  rw [State.rgnReject_eq]
  split
  · exact (State.word_setF_ne _ _ 1 hcap).trans (s.word_rejected n e code hstatus)
  · exact s.word_rejected n e code hstatus

end

/-! ## Enabling an entry (R174, R359) -/

theorem State.rgnCheck_csrOnly (s : State) (n : Head) (e : Fin 9) (v : Word) : CsrOnly s (s.rgnCheck n e v) := by
  unfold State.rgnCheck
  dsimp only
  split
  · exact s.rgnReject_csrOnly n e _
  · exact s.setWord_csrOnly _ _

/-- Checks in order change registers alone. -/
theorem State.rgnChecks_csrOnly (cs : List (Head × Fin 9 × Word)) (s : State) : CsrOnly s (cs.foldl (fun s c => s.rgnCheck c.1 c.2.1 c.2.2) s) := by
  induction cs generalizing s with
  | nil => exact .refl s
  | cons c cs ih =>
    obtain ⟨n, e, v⟩ := c
    exact (s.rgnCheck_csrOnly n e v).trans (ih _)

section
variable {s : State} {w : Via} {n : Head} {e : Fin 9} (hrun : s.mainRuns = true) (hown : s.isOwner w = true) (hn : n ∈ s.heads) (hopen : s.locked = false)
include hrun hown hn hopen

/-- The source, the presence and the lock let a write reach its entry (R447, R451). -/
theorem State.writeRgn_ctl (v : Word) : s.writeRgn w n e 3 v = s.writeRgnCtl n e v := by
  have hup : s.regsUp = true := hrun
  simp [State.writeRgn, hup, hown, hn, hopen]

theorem gives_enable (v : Word) {P : State → Prop} (h : P (s.writeRgnCtl n e (v ||| 1))) : Gives (.regionEntryEnable w n e v) s P :=
  ⟨_, congrArg Host.Outcome.next (State.writeRgn_ctl hrun hown hn hopen _), h⟩

theorem gives_remove (v : Word) {P : State → Prop} (h : P (s.writeRgnCtl n e (v &&& 0xFFFFFFFE))) : Gives (.regionEntryRemove w n e v) s P :=
  ⟨_, congrArg Host.Outcome.next (State.writeRgn_ctl hrun hown hn hopen _), h⟩

end

section
variable (s : State) (n : Head) (e : Fin 9) (v : Word)

/-- A busy entry refuses a write with code 0xC (R174). -/
theorem State.writeRgnCtl_busy (hbusy : s.rgnBusy n e = true) : s.writeRgnCtl n e v = s.rgnReject n e 12 := if_pos hbusy

variable (hbusy : s.rgnBusy n e = false)
include hbusy

theorem State.writeRgnCtl_checks (hv : v.getLsbD 0 = true) (hdir : (s.proposed n e v).db = false ∨ s.dirOn = true) : s.writeRgnCtl n e v = s.rgnCheck n e v := by
  have hnow : ((s.proposed n e v).db && !s.dirOn) = false := by
    rcases hdir with h | h <;> simp [h]
  simp only [State.writeRgnCtl, hbusy, hv, hnow, Bool.false_eq_true, if_false, if_true]

theorem State.writeRgnCtl_defers (hv : v.getLsbD 0 = true) (hdb : (s.proposed n e v).db = true) (hdir : s.dirOn = false) :
    s.writeRgnCtl n e v =
      [44, 45, 46, 47].foldl (fun s d => s.latchWake d .configWrite) { s with dir := { s.dir with checks := s.dir.checks ++ [(n, e, v)] } } := by
  simp only [State.writeRgnCtl, hbusy, hv, hdb, hdir, Bool.not_false, Bool.and_self, Bool.false_eq_true, if_false, if_true]

end

/-- An entry that passes every check is valid with the written KEY, CLASS and KIND, and its ranges stay (R174). -/
theorem State.rgnCheck_accepts {s : State} {n : Head} {e : Fin 9} {v : Word} (hpass : s.rgnFail (s.proposed n e v) = none) :
    (s.rgnCheck n e v).region n e =
        { s.region n e with key := (s.proposed n e v).key, cls := (s.proposed n e v).cls, db := (s.proposed n e v).db, origin := false, valid := true } ∧
      (∀ off, off ≠ rgnOff n e + 12 → (s.rgnCheck n e v).word off = s.word off) ∧ CsrOnly s (s.rgnCheck n e v) := by
  obtain ⟨hkey, hcls⟩ := s.proposed_bounds n e v
  have heq : s.rgnCheck n e v = s.setWord (rgnOff n e + 12) (ctlWord (s.proposed n e v).key (s.proposed n e v).cls (s.proposed n e v).db false true) := by
    simp only [State.rgnCheck, hpass]
  rw [heq]
  exact ⟨State.region_setCtl hkey hcls _ _ _ s n e, fun _ hoff => State.word_setWord_ne _ _ hoff, s.setWord_csrOnly _ _⟩

/-- An entry that fails a check stays as it was, and the write is rejected with the check's code (R174). -/
theorem State.rgnCheck_rejects {s : State} {n : Head} {e : Fin 9} {v : Word} {c : Nat} (hfail : s.rgnFail (s.proposed n e v) = some c) : s.rgnCheck n e v = s.rgnReject n e c := by
  simp only [State.rgnCheck, hfail]

theorem State.latchWake_doms (s : State) (d : Nat) (src : WakeSource) : { s.latchWake d src with doms := s.doms } = s := by
  unfold State.latchWake
  split <;> rfl

/-- Wakes latched for several domains change no more than the domains. -/
theorem State.latchWakes_doms (ds : List Nat) (src : WakeSource) (s : State) : { ds.foldl (fun s d => s.latchWake d src) s with doms := s.doms } = s := by
  induction ds generalizing s with
  | nil => rfl
  | cons d ds ih =>
    have hrest := congrArg (fun t : State => { t with doms := s.doms }) (ih (s.latchWake d src))
    exact Eq.trans hrest (s.latchWake_doms d src)

/-- The low bit of an enabling word is set. -/
theorem getLsbD_or_one (v : Word) : (v ||| 1).getLsbD 0 = true := by
  rw [BitVec.getLsbD_or]
  exact Bool.or_true _

/-- The low bit of a removing word is clear. -/
theorem getLsbD_and_removal (v : Word) : (v &&& 0xFFFFFFFE).getLsbD 0 = false := by
  rw [BitVec.getLsbD_and]
  exact Bool.and_false _

/-! ## Removing an entry (R176) -/

/-- An entry that stops decoding without the ring window: its CTL word alone changes, and its removal ends (R176). -/
theorem State.rgnDrop_eq {s : State} {n : Head} {e : Fin 9} (hwin : s.windowIn n e = false) :
    s.rgnDrop n e = State.setWord { s with dir := { s.dir with removals := s.dir.removals.filter (· != (n, e)) } } (rgnOff n e + 12)
      (ctlWord (s.region n e).key (s.region n e).cls (s.region n e).db false false) := by
  unfold State.rgnDrop
  rw [hwin]
  rfl

section
variable {s : State} {n : Head} {e : Fin 9} (hwin : s.windowIn n e = false)
include hwin

theorem State.rgnDrop_invalid : ((s.rgnDrop n e).region n e).valid = false := by
  obtain ⟨hkey, hcls⟩ := s.region_bounds n e
  rw [State.rgnDrop_eq hwin, State.region_setCtl hkey hcls]

theorem State.rgnDrop_words {off : Nat} (hoff : off ≠ rgnOff n e + 12) : (s.rgnDrop n e).word off = s.word off := by
  rw [State.rgnDrop_eq hwin]
  exact State.word_setWord_ne _ _ hoff

theorem State.rgnDrop_frame : { s.rgnDrop n e with csr := s.csr, dir := s.dir } = s := by
  rw [State.rgnDrop_eq hwin]
  rfl

theorem State.rgnDrop_dir : (s.rgnDrop n e).dir = { s.dir with removals := s.dir.removals.filter (· != (n, e)) } := by
  rw [State.rgnDrop_eq hwin]
  rfl

end

/-- With no line held no snoop is sent (R176). -/
theorem State.rgnSnoops_none {s : State} {n : Head} {e : Fin 9} (h : s.heldIn n (s.region n e) = []) : s.rgnSnoops n e = s := by
  rw [State.rgnSnoops, h]
  rfl

section
variable {s : State} {n : Head} {e : Fin 9} {v : Word} (hbusy : s.rgnBusy n e = false) (hv : v.getLsbD 0 = false) (hvalid : (s.region n e).valid = true)
  (horigin : (s.region n e).origin = false)
include hbusy hv hvalid horigin

/-- An HDM-H entry whose VALID is cleared stops decoding at once (R176). -/
theorem State.writeRgnCtl_drops (hdb : (s.region n e).db = false) : s.writeRgnCtl n e v = s.rgnDrop n e := by
  simp only [State.writeRgnCtl, hbusy, hv, hvalid, horigin, hdb, Bool.false_eq_true, Bool.not_true, if_false]

/-- An HDM-DB entry whose VALID is cleared has its removal in progress (R176). -/
theorem State.writeRgnCtl_removes (hdb : (s.region n e).db = true) (hheld : s.heldIn n (s.region n e) = []) :
    s.writeRgnCtl n e v = { s with dir := { s.dir with removals := s.dir.removals ++ [(n, e)] } } := by
  simp only [State.writeRgnCtl, hbusy, hv, hvalid, horigin, hdb, Bool.false_eq_true, Bool.not_true, if_false, if_true]
  exact State.rgnSnoops_none hheld

end

/-- A removal with no line held and no snoop open ends (R176). -/
theorem State.removalDone_eq {s : State} {n : Head} {e : Fin 9} (hrem : (n, e) ∈ s.dir.removals) (hheld : s.heldIn n (s.region n e) = [])
    (hsnoops : ∀ q ∈ s.dir.snoops, q.cause ≠ .removal n e) : exec (.regionRemovalDone n e) s = .next (s.rgnDrop n e) := by
  have hquiet : (!(s.heldIn n (s.region n e)).isEmpty || s.dir.snoops.any (·.cause == .removal n e)) = false := by
    rw [hheld]
    exact List.any_eq_false.mpr fun q hq => by simpa using hsnoops q hq
  show execRegionRemovalDone n e s = _
  have hin : s.dir.removals.contains (n, e) = true := List.contains_iff_mem.mpr hrem
  simp only [execRegionRemovalDone, State.rgnSnoops_none hheld, hquiet, hin, Bool.not_true, Bool.false_eq_true, if_false]

/-- What changes registers alone, once the pending checks are taken (R359). -/
theorem CsrOnly.settled (s : State) {t : State} (h : CsrOnly { s with dir := { s.dir with checks := [] } } t) :
    t.dir.checks = [] ∧ { t with csr := s.csr, dir := { t.dir with checks := s.dir.checks } } = s := by
  unfold CsrOnly at h
  have hparts := congrArg (fun t : State => (t.dir.checks, { t with csr := s.csr, dir := { t.dir with checks := s.dir.checks } })) h
  simp only [Prod.mk.injEq] at hparts
  exact hparts

/-- Every pending check is settled, by registers alone (R359). -/
theorem gives_checkAfterWake {s : State} (hdir : s.dirOn = true) :
    Gives .regionCheckAfterWake s fun t => t.dir.checks = [] ∧ { t with csr := s.csr, dir := { t.dir with checks := s.dir.checks } } = s := by
  have hexec : exec .regionCheckAfterWake s = .next (s.dir.checks.foldl (fun s c => s.rgnCheck c.1 c.2.1 c.2.2) { s with dir := { s.dir with checks := [] } }) := by
    show execRegionCheckAfterWake s = _
    simp [execRegionCheckAfterWake, hdir]
  have hcsr : CsrOnly { s with dir := { s.dir with checks := [] } }
      (s.dir.checks.foldl (fun s c => s.rgnCheck c.1 c.2.1 c.2.2) { s with dir := { s.dir with checks := [] } }) :=
    State.rgnChecks_csrOnly _ _
  exact ⟨_, hexec, CsrOnly.settled s hcsr⟩

/-! ## HDM decoders (R67) -/

theorem hdmAllowed_eq (ways gran : Nat) :
    hdmAllowed ways gran = decide (ways ∈ [1, 2, 3, 4, 6, 8, 12, 16] ∧ gran ∈ [256, 512, 1024, 2048, 4096, 8192, 16384]) := by
  rw [hdmAllowed, Bool.decide_and]
  simp only [List.contains_eq_mem]

theorem State.hdmCommit_exec {s : State} {h : Head} (hrun : s.mainRuns = true) (hh : h ∈ s.heads) (i : Fin 4) (base size : BitVec 52) (ways : Fin 17) (gran : Nat) :
    exec (.hdmDecoderCommit h i base size ways gran) s =
      .next (s.updPort h fun p => { p with hdm := p.hdm.put i.val ⟨hdmAllowed ways.val gran, !hdmAllowed ways.val gran, base.toNat, size.toNat, ways.val, gran⟩ }) := by
  have hup : s.regsUp = true := hrun
  show execHdmDecoderCommit h i base size ways gran s = _
  simp [execHdmDecoderCommit, hup, hh]

/-! ## O19 -/

/-- Settles O19, one fact for each thing that a CTL write, a removal's end, a deferred check and a decoder's commit can do. -/
theorem regionTable : Obligations.RegionTable := by
  refine ⟨fun s w n e v hrun hown hn hopen => ?_, fun s n e => ⟨fun w v hrun hown hn hopen hbusy hvalid horigin => ?_, fun hrem hheld hsnoops hwin => ?_, gives_checkAfterWake⟩,
    fun s h i base size ways gran hrun hh => ?_⟩
  · refine ⟨fun hbusy hdir hpass => gives_enable hrun hown hn hopen v ?_, fun hbusy hdir c hfail hc => gives_enable hrun hown hn hopen v ?_,
      fun hbusy hdb hdir => gives_enable hrun hown hn hopen v ?_, fun hbusy => gives_enable hrun hown hn hopen v ?_⟩
    · rw [s.writeRgnCtl_checks n e _ hbusy (getLsbD_or_one v) hdir]
      exact State.rgnCheck_accepts hpass
    · rw [s.writeRgnCtl_checks n e _ hbusy (getLsbD_or_one v) hdir, State.rgnCheck_rejects hfail]
      obtain ⟨hrej, hentry, hcode⟩ := s.rgnReject_fields n e c (by omega)
      exact ⟨s.region_rgnReject n e c n e, hrej, hentry, hcode, s.rgnReject_csrOnly n e c⟩
    · have hwakes := State.latchWakes_doms [44, 45, 46, 47] .configWrite { s with dir := { s.dir with checks := s.dir.checks ++ [(n, e, v ||| 1)] } }
      rw [← s.writeRgnCtl_defers n e _ hbusy (getLsbD_or_one v) hdb hdir] at hwakes
      have hdeps := congrArg (fun t : State => (t.dir, t.csr, { t with dir := s.dir })) hwakes
      simp only [Prod.mk.injEq] at hdeps
      obtain ⟨hchecks, hcsr, hframe⟩ := hdeps
      exact ⟨by rw [hchecks], State.region_of_words fun k _ => State.word_congr hcsr _, hcsr, hframe⟩
    · rw [s.writeRgnCtl_busy n e _ hbusy]
      obtain ⟨-, -, hcode⟩ := s.rgnReject_fields n e 12 (by decide)
      exact ⟨s.region_rgnReject n e 12 n e, hcode, s.rgnReject_csrOnly n e 12⟩
  · refine ⟨fun hdb hwin => gives_remove hrun hown hn hopen v ?_, fun hdb hheld => gives_remove hrun hown hn hopen v ?_⟩
    · rw [State.writeRgnCtl_drops hbusy (getLsbD_and_removal v) hvalid horigin hdb]
      exact ⟨State.rgnDrop_invalid hwin, fun _ => State.rgnDrop_words hwin, State.rgnDrop_frame hwin, by rw [State.rgnDrop_dir hwin]⟩
    · rw [State.writeRgnCtl_removes hbusy (getLsbD_and_removal v) hvalid horigin hdb hheld]
      exact ⟨hvalid, by simp [State.rgnBusy], rfl⟩
  · refine ⟨_, State.removalDone_eq hrem hheld hsnoops, State.rgnDrop_invalid hwin, ?_, ?_, fun _ => State.rgnDrop_words hwin, ?_⟩
    · simp [State.rgnDrop_dir hwin]
    · intro x hx hne
      simpa [State.rgnDrop_dir hwin] using ⟨hx, hne⟩
    · rw [State.rgnDrop_eq hwin]
      rfl
  · refine ⟨_, State.hdmCommit_exec hrun hh i base size ways gran, ?_, fun j hj => ?_, ?_, fun g hg => s.port_updPort_ne _ hg, s.updPort_frame h _⟩
    · rw [State.port_updPort_self, Tbl.look_put, if_pos rfl, hdmAllowed_eq]
    · rw [State.port_updPort_self, Tbl.look_put, if_neg hj]
    · rw [State.port_updPort_self]

end Sys2Proof.Machine
end

section
/-! PROOFS. The directory as a request settles it, and the state it grants (R175, R177, R180, R188, R190). -/

namespace Sys2Proof.Machine

/-! ## Presence vectors (R179) -/

theorem presBit_getLsbD (h k : Head) : (presBit h).getLsbD k.val = decide (k = h) := by
  revert h k
  decide

theorem presHosts_presBit (h : Head) : presHosts (presBit h) = [h] := by
  revert h
  decide

theorem presBit_cleared (h : Head) : presBit h &&& ~~~presBit h = 0 := BitVec.and_not_self _

theorem presBit_ne_zero (h : Head) : presBit h ≠ 0 := by
  revert h
  decide

theorem State.holds_of_look {s : State} {l : Nat} {d : DirEntry} (hd : s.dir.entries.look l = some d) (h : Head) : s.holds l h = d.pres.getLsbD h.val := by
  simp [State.holds, hd]

theorem State.holdsEm_of_look {s : State} {l : Nat} {d : DirEntry} (hd : s.dir.entries.look l = some d) (h : Head) :
    s.holdsEm l h = (d.pres.getLsbD h.val && d.state == .em) := by
  simp [State.holdsEm, hd]

/-! ## Entries set and cleared (R180) -/

section
variable {s : State} {l : Nat} {d : DirEntry} (hd : s.dir.entries.look l = some d)
include hd

theorem State.setDir_present {p : BitVec 8} (hp : p ≠ 0) (st : DirState) :
    s.setDir l p st = { s with dir := { s.dir with entries := s.dir.entries.put l { d with pres := p, state := st } } } := by
  have hstays : ¬(p = 0 ∧ (!d.busy) = true) := fun h => hp h.1
  simp only [State.setDir, hd, hstays, if_false]

/-- The last host's copy gone, an entry that is not BUSY returns to I (R180). -/
theorem State.clearPres_alone {h : Head} (hpres : d.pres = presBit h) (hbusy : d.busy = false) :
    s.clearPres l h = { s with dir := { s.dir with entries := s.dir.entries.del l } } := by
  have hbit : (presBit h).getLsbD h.val = true := by simp [presBit_getLsbD]
  simp only [State.clearPres, hd, hpres, hbit, presBit_cleared, State.setDir, hbusy, if_true, Bool.not_false, and_self]

end

/-! ## What a request may take (R175, R177, R195, R370) -/

/-- Head `h` uses back-invalidation, is not fenced, and the directory slice of line `l` is not lost. -/
structure Unhindered (s : State) (h : Head) (l : Nat) : Prop where
  biOn : s.biOn h = true
  fenced : s.fenced h = false
  dirLost : s.dirLost l = false

theorem Unhindered.effective {s : State} {h : Head} {l : Nat} (hu : Unhindered s h l) (v : MetaVal) : s.effective h l v = v := by
  simp [State.effective, hu.biOn, hu.fenced, hu.dirLost]

theorem Unhindered.congr {s t : State} {h : Head} {l : Nat} (hu : Unhindered s h l) (hbi : t.biOn h = s.biOn h) (hcsr : t.csr = s.csr) (hdoms : t.doms = s.doms) : Unhindered t h l := by
  have hfenced : t.fenced h = s.fenced h := by simp only [State.fenced, State.fbit, State.word_congr hcsr]
  have hlost : t.dirLost l = s.dirLost l := by simp only [State.dirLost, State.dom_congr hdoms]
  exact ⟨hbi.trans hu.biOn, hfenced.trans hu.fenced, hlost.trans hu.dirLost⟩

theorem Unhindered.withDir {s : State} {h : Head} {l : Nat} (hu : Unhindered s h l) (D : Dir) : Unhindered { s with dir := D } h l := hu.congr rfl rfl rfl

/-- The state as the directory has become `D` and entry `id` has been granted `g`: its coherence is settled. -/
def State.granted (s : State) (id : Nat) (D : Dir) (g : Grant) : State := State.updEntry { s with dir := D } id fun r => { r with grant := g, coherent := true }

/-- A request that asks for ownership of a line that no other host holds (R177). -/
def ReqOp.owns (op : ReqOp) : Prop := op = .rd .a ∨ op = .rdData ∨ op = .inv .a

/-- A request that leaves its host with no copy (R177, R190). -/
def ReqOp.evicts (op : ReqOp) : Prop := op = .clnEvct ∨ op = .inv .i ∨ op = .wr .i

section
variable {s : State} {r : RtkEntry} (hu : Unhindered s r.head r.line)

/-- A request with no metadata settles nothing in the directory (R177). -/
theorem State.settleDir_noOp (hu : Unhindered s r.head r.line) (hop : r.op = .rd .noOp) : s.settleDir r = s.granted r.id s.dir .none := by
  simp only [State.settleDir, hop, hu.effective]
  rfl

variable {d : DirEntry} (hd : s.dir.entries.look r.line = some d)
include hu hd

/-- A request for ownership of a line that no other host holds makes its host the owner (R177). -/
theorem State.settleDir_owns (hop : r.op.owns) (hpres : d.pres &&& ~~~presBit r.head = 0) :
    s.settleDir r = s.granted r.id { s.dir with entries := s.dir.entries.put r.line { d with pres := presBit r.head, state := .em } } .e := by
  have hset := State.setDir_present hd (presBit_ne_zero r.head) .em
  rcases hop with hop | hop | hop <;> simp only [State.settleDir, hop, hu.effective, hd, Option.map_some, Option.getD_some, hpres, hset] <;> rfl

/-- A request to share a line leaves its host in shared presence (R177). -/
theorem State.settleDir_shares (hop : r.op = .rd .s) (hpres : d.pres = 0) :
    s.settleDir r = s.granted r.id { s.dir with entries := s.dir.entries.put r.line { d with pres := presBit r.head, state := .s } } .s := by
  have hset := State.setDir_present hd (presBit_ne_zero r.head) .s
  have hor : 0 ||| presBit r.head = presBit r.head := BitVec.zero_or
  simp only [State.settleDir, hop, hu.effective, hd, Option.map_some, Option.getD_some, hpres, hor, hset]
  rfl

/-- A request that gives up the only copy of a line leaves no host holding it (R180, R190). -/
theorem State.settleDir_evicts (hop : r.op.evicts) (hpres : d.pres = presBit r.head) (hbusy : d.busy = false) :
    s.settleDir r = s.granted r.id { s.dir with entries := s.dir.entries.del r.line } .none := by
  have hclear := State.clearPres_alone hd hpres hbusy
  rcases hop with hop | hop | hop <;> simp only [State.settleDir, hop, hu.effective, hclear] <;> rfl

end

/-! ## An entry ordered against the directory (R41, R42, R188, R189) -/

theorem State.rebuildDir_none {s : State} {l : Nat} (hd : s.dir.entries.look l = none) : s.rebuildDir l = s := by
  simp only [State.rebuildDir, hd]

theorem State.rebuildDir_whole {s : State} {l : Nat} {d : DirEntry} (hd : s.dir.entries.look l = some d) (hrebuild : d.rebuild = false) : s.rebuildDir l = s := by
  simp [State.rebuildDir, hd, hrebuild]

theorem State.dirWaits_none {s : State} {l : Nat} (hd : s.dir.entries.look l = none) : s.dirWaits l = none := by
  simp only [State.dirWaits, hd]

theorem State.dirWaits_whole {s : State} {l : Nat} {d : DirEntry} (hd : s.dir.entries.look l = some d) (hbusy : d.busy = false) (hrebuild : d.rebuild = false) : s.dirWaits l = none := by
  simp [State.dirWaits, hd, hbusy, hrebuild]

/-- A line that a head alone holds needs no snoop for that head's requests (R177, R181). -/
theorem State.neededSnoops_alone {s : State} {r : RtkEntry} {d : DirEntry} (hd : s.dir.entries.look r.line = some d) (hpres : d.pres = presBit r.head) : s.neededSnoops r = [] := by
  have hothers : s.others r.line r.head = [] := by simp [State.others, hd, hpres, presHosts_presBit]
  have hem : s.emOther r.line r.head = none := by simp [State.emOther, hd, hpres, presHosts_presBit]
  unfold State.neededSnoops
  simp only [hothers, hem, List.map_nil, Option.map_none, Option.toList_none, ite_self]
  cases r.op with
  | rd v =>
    dsimp only
    cases s.effective r.head r.line v <;> rfl
  | rdData | wr _ | inv _ | rdFwd | specRd | clnEvct | wrFwd => rfl

section
variable {s : State} {r : RtkEntry} (hr : s.entry r.id = some r) (hu : Unhindered s r.head r.line)
include hr hu

/-- A read with no metadata of a line that no host holds changes no entry of the directory (R177). -/
theorem State.cohere_noOp (hop : r.op = .rd .noOp) (hd : s.dir.entries.look r.line = none) : s.cohere r.id = (s.granted r.id s.dir .none).access r.id := by
  have hneeds : s.needsEntry r = false := by simp [State.needsEntry, hop, hu.effective]
  simp only [State.cohere, hr, State.rebuildDir_none hd, State.dirWaits_none hd, hop, hd, hneeds, State.settleDir_noOp hu hop]
  simp

/-- A request for a copy of a line that no host holds takes a free way of its set (R188, R189). -/
theorem State.cohere_new (hop : r.op.owns ∨ r.op = .rd .s) (hd : s.dir.entries.look r.line = none) (hahead : s.dirSetAhead r = false) {w : Fin 16} (hw : s.dirFree r.line = some w) :
    ∃ D : Dir, D.entries.look r.line = some ⟨w, 0, .s, false, false⟩ ∧ s.cohere r.id = (State.settleDir { s with dir := D } r).access r.id := by
  have hneeds : s.needsEntry r = true := by
    rcases hop with (hop | hop | hop) | hop <;> simp only [State.needsEntry, hop, hu.effective] <;> rfl
  refine ⟨(State.touchDir { s with dir := { s.dir with entries := s.dir.entries.put r.line ⟨w, 0, .s, false, false⟩ } } r.line w).dir, Tbl.look_put_self _ _ _, ?_⟩
  unfold State.cohere
  simp only [hr, State.rebuildDir_none hd, State.dirWaits_none hd, hd, hneeds, hahead, hw]
  rcases hop with (hop | hop | hop) | hop <;> simp only [hop, hu.effective] <;> rfl

omit hu in
/-- A request of a line that its head alone holds is settled with no snoop (R41, R177). -/
theorem State.cohere_alone {d : DirEntry} (hd : s.dir.entries.look r.line = some d) (hpres : d.pres = presBit r.head) (hbusy : d.busy = false) (hrebuild : d.rebuild = false) :
    ∃ D : Dir, D.entries.look r.line = some d ∧ s.cohere r.id = (State.settleDir { s with dir := D } r).access r.id := by
  have hholds : s.holds r.line r.head = true := by simp [State.holds_of_look hd, hpres, presBit_getLsbD]
  refine ⟨(s.touchDir r.line d.way).dir, hd, ?_⟩
  unfold State.cohere
  simp only [hr, State.rebuildDir_whole hd hrebuild, State.dirWaits_whole hd hbusy hrebuild, hholds, hd, State.neededSnoops_alone hd hpres, Bool.not_true, Bool.and_false,
    Bool.false_eq_true, if_false, List.isEmpty_nil, if_true]
  rfl

end

/-! ## What a coherent request leaves in the directory (R177, R180, R190) -/

theorem presBit_none_other (h : Head) : (0 : BitVec 8) &&& ~~~presBit h = 0 := BitVec.zero_and

section
variable {s : State} {r : RtkEntry} (hr : s.entry r.id = some r) (hu : Unhindered s r.head r.line)
include hr hu

section
variable (hd : s.dir.entries.look r.line = none) (hahead : s.dirSetAhead r = false) (hfree : (s.dirFree r.line).isSome = true)
include hd hahead hfree

/-- A request for ownership of a line that no host holds leaves its host the owner (R177, R188). -/
theorem State.cohere_owns_new (hop : r.op.owns) :
    ∃ D w, D.entries.look r.line = some ⟨w, presBit r.head, .em, false, false⟩ ∧ s.cohere r.id = (s.granted r.id D .e).access r.id := by
  obtain ⟨w, hw⟩ := Option.isSome_iff_exists.1 hfree
  obtain ⟨D, hD, hcoh⟩ := State.cohere_new hr hu (.inl hop) hd hahead hw
  rw [State.settleDir_owns (hu.withDir D) hD hop (presBit_none_other _)] at hcoh
  exact ⟨{ D with entries := _ }, w, Tbl.look_put_self .., hcoh⟩

/-- A request to share a line that no host holds leaves its host in shared presence (R177, R188). -/
theorem State.cohere_shares_new (hop : r.op = .rd .s) :
    ∃ D w, D.entries.look r.line = some ⟨w, presBit r.head, .s, false, false⟩ ∧ s.cohere r.id = (s.granted r.id D .s).access r.id := by
  obtain ⟨w, hw⟩ := Option.isSome_iff_exists.1 hfree
  obtain ⟨D, hD, hcoh⟩ := State.cohere_new hr hu (.inr hop) hd hahead hw
  rw [State.settleDir_shares (hu.withDir D) hD hop rfl] at hcoh
  exact ⟨{ D with entries := _ }, w, Tbl.look_put_self .., hcoh⟩

end

section
variable {d : DirEntry} (hd : s.dir.entries.look r.line = some d) (hpres : d.pres = presBit r.head) (hbusy : d.busy = false) (hrebuild : d.rebuild = false)
include hd hpres hbusy hrebuild

/-- A request for ownership of a line that its head alone holds leaves its host the owner (R177). -/
theorem State.cohere_owns_alone (hop : r.op.owns) :
    ∃ D, D.entries.look r.line = some { d with pres := presBit r.head, state := .em } ∧ s.cohere r.id = (s.granted r.id D .e).access r.id := by
  obtain ⟨D, hD, hcoh⟩ := State.cohere_alone hr hd hpres hbusy hrebuild
  rw [State.settleDir_owns (hu.withDir D) hD hop (hpres ▸ presBit_cleared _)] at hcoh
  exact ⟨{ D with entries := _ }, Tbl.look_put_self .., hcoh⟩

/-- A request that gives up the only copy of a line leaves no host holding it (R180, R190). -/
theorem State.cohere_evicts_alone (hop : r.op.evicts) : ∃ D, D.entries.look r.line = none ∧ s.cohere r.id = (s.granted r.id D .none).access r.id := by
  obtain ⟨D, hD, hcoh⟩ := State.cohere_alone hr hd hpres hbusy hrebuild
  rw [State.settleDir_evicts (hu.withDir D) hD hop hpres hbusy] at hcoh
  exact ⟨{ D with entries := _ }, Tbl.look_del_self .., hcoh⟩

end

end

end Sys2Proof.Machine
end

section
/-! PROOFS. A host's request of a line of an HDM-DB region as it enters RTK and is served in its place (R46, R54, R175, R190, R199). -/

namespace Sys2Proof.Machine

/-! ## Ordering (R178, R184, R190) -/

/-- A request that a host sends with metadata the table of HDM-DB requests lists, and that is no forward and no speculative read (R177). -/
structure Listed (op : ReqOp) (mv : MetaVal) (snp : SnpType) : Prop where
  spec : op ≠ .specRd
  rdFwd : op ≠ .rdFwd
  wrFwd : op ≠ .wrFwd
  asIs : handledAs op = op
  listed : listed op mv snp = true

/-- With no snoop and no request open for a line a write-back is ordered last (R184, R190). -/
theorem State.crossPlace_none {s : State} {l : Nat} (h : Head) (hsnoops : ∀ q ∈ s.dir.snoops, l ∉ q.lines) (hrtk : ∀ r ∈ s.rtk, r.line ≠ l) : s.crossPlace h l = none := by
  have hto : s.snoopTo h l = none := List.find?_eq_none.2 fun q hq => by simp [hsnoops q hq]
  have hopen : (s.rtk.find? fun r => r.line == l && r.isOpen && !r.coherent) = none := List.find?_eq_none.2 fun r hr => by simp [hrtk r hr]
  simp only [State.crossPlace, hto, hopen, Option.map_none, ite_self]

/-- Ordering a listed request of an HDM-DB region with nothing open for its line: it enters RTK last and is served in its place (R175, R177, R199). -/
theorem State.order_hdmDb {t : State} {h : Head} {hpa a : Nat} {g : Region} (hd : Decodes t h hpa a g) (hdb : g.db = true) (hu : Unhindered t h (g.dpa a / 64)) (c : CreditChan)
    {op : ReqOp} {mv : MetaVal} {snp : SnpType} (hop : Listed op mv snp) (tag : BitVec 16) (m : Mask) (d : LineData) (p : Bool)
    (hsnoops : ∀ q ∈ t.dir.snoops, g.dpa a / 64 ∉ q.lines) (hrtk : ∀ r ∈ t.rtk, r.line ≠ g.dpa a / 64) :
    t.order (t.newEntry h c op tag hpa 0 false m d p) hpa mv snp .none =
      ((t.firstTouched (t.newEntry h c op tag a (g.dpa a / 64) true m d p)).pushEntry (t.newEntry h c op tag a (g.dpa a / 64) true m d p)).serve t.nextEntry := by
  have horder : t.order (t.newEntry h c op tag hpa 0 false m d p) hpa mv snp .none =
      t.orderDb (t.newEntry h c (handledAs op) tag a (g.dpa a / 64) true m d p) (listed op mv snp) .none := by
    unfold State.order
    simp only [State.newEntry, hd.memActive, hd.hdpa, hd.loop, hd.region, hdb]
    cases hcase : op
    case specRd => exact absurd hcase hop.spec
    all_goals rfl
  rw [horder, hop.asIs, hop.listed]
  generalize hrdef : t.newEntry h c op tag a (g.dpa a / 64) true m d p = r
  have hhead : r.head = h := by rw [← hrdef]; rfl
  have hline : r.line = g.dpa a / 64 := by rw [← hrdef]; rfl
  have hrop : r.op = op := by rw [← hrdef]; rfl
  have hid : r.id = t.nextEntry := by rw [← hrdef]; rfl
  have hfwd : (r.op == .rdFwd || r.op == .wrFwd) = false := by simp [hrop, hop.rdFwd, hop.wrFwd]
  obtain ⟨trtk, -, -, -, -, -, tdir, -⟩ := t.firstTouched_parts r
  have hcross : (t.firstTouched r).crossPlace r.head r.line = none := by
    refine State.crossPlace_none r.head (fun q hq => ?_) fun x hx => ?_
    · rw [tdir] at hq
      exact hline ▸ hsnoops q hq
    · rw [trtk] at hx
      exact hline ▸ hrtk x hx
  have hfault : (t.firstTouched r).lookupFault r.line true .none = t.firstTouched r := rfl
  rw [← hhead, ← hline] at hu
  simp only [State.orderDb, hu.biOn, hu.fenced, hu.dirLost, hfwd, hfault, hcross, hid, ite_self, Bool.not_true, Bool.or_self, Bool.false_and, Bool.false_eq_true, if_false]

/-! ## Service of the last entry (R46, R76, R189, R356) -/

theorem LastEntry.before {t : State} {q : List RtkEntry} {r : RtkEntry} (h : LastEntry t q r) : t.rtk.takeWhile (·.id != r.id) = q := by
  rw [h.rtk, List.takeWhile_append_of_pos fun x hx => by simpa using h.fresh x hx]
  simp

theorem LastEntry.not_blocked {t : State} {q : List RtkEntry} {r : RtkEntry} (h : LastEntry t q r) (hline : ∀ x ∈ q, x.line ≠ r.line) : t.blocked r = false := by
  rw [State.blocked, h.before]
  exact List.any_eq_false.2 fun x hx => by simp [RtkEntry.holdsUp, hline x hx]

/-- Nothing open on its line, its slices ON and its bitmap word whole, a request of an HDM-DB region is ordered against the directory (R46, R76, R356). -/
theorem State.serve_db {s : State} {r : RtkEntry} (hr : s.entry r.id = some r) (hblocked : s.blocked r = false) (hon : ∀ d ∈ lineDomains r.line r.db, s.domOn d = true)
    (hreb : s.xlt.rebuilds.contains (extOf r.line / 64) = false) (hdb : r.db = true) (hcoh : r.coherent = false) : s.serve r.id = s.cohere r.id := by
  have hoff : ((lineDomains r.line r.db).filter fun d => !s.domOn d && !(s.dom d).failed) = [] := List.filter_eq_nil_iff.2 fun d hd => by simp [hon d hd]
  rw [hdb] at hoff
  simp only [State.serve, hr, hblocked, hoff, hreb, hdb, hcoh, List.isEmpty_nil, Bool.not_true, Bool.not_false, Bool.and_self, Bool.false_eq_true, if_false, if_true]

/-! ## A request that enters RTK (R52, R54, R228) -/

/-- The state as a request's credit is spent and its slips are recorded. -/
def State.takes (s : State) (h : Head) (c : CreditChan) (op : ReqOp) (tag : BitVec 16) (m : Mask) : State := (s.spendCredit h c).hostSlips h op tag m

theorem Noted.biOn {s t : State} (hn : Noted s t) (h : Head) : t.biOn h = s.biOn h := by
  rw [State.biOn, State.biOn, ← hn.2 h]

theorem Port.spend_bi (q : Port) (c : CreditChan) : (q.spend c).biEnable = q.biEnable ∧ (q.spend c).flit256 = q.flit256 := by
  cases c <;> exact ⟨rfl, rfl⟩

theorem State.takes_biOn (s : State) (h : Head) (c : CreditChan) (op : ReqOp) (tag : BitVec 16) (m : Mask) : (s.takes h c op tag m).biOn h = s.biOn h := by
  obtain ⟨hn, -⟩ := (s.spendCredit h c).hostSlips_noted h op tag m
  obtain ⟨hbi, hflit⟩ := (s.port h).spend_bi c
  rw [State.takes, hn.biOn, State.biOn, s.spendCredit_port, hbi, hflit]
  rfl

theorem State.takes_csr (s : State) (h : Head) (c : CreditChan) (op : ReqOp) (tag : BitVec 16) (m : Mask) : (s.takes h c op tag m).csr = s.csr :=
  ((s.spendCredit h c).hostSlips_noted h op tag m).2

theorem State.takes_taken {s : State} {h : Head} (ha : Answerable s h) (c : CreditChan) (op : ReqOp) (tag : BitVec 16) (m : Mask) : Taken s h (s.takes h c op tag m) := by
  obtain ⟨hn, hcsr⟩ := (s.spendCredit h c).hostSlips_noted h op tag m
  exact (State.spendCredit_taken c ha).slips ⟨hn, fun o _ => State.word_congr hcsr o⟩

theorem State.takes_decodes {s : State} {h : Head} {hpa a : Nat} {g : Region} (hr : HostReady s h hpa a g) (c : CreditChan) (op : ReqOp) (tag : BitVec 16) (m : Mask) :
    Decodes (s.takes h c op tag m) h hpa a g := by
  obtain ⟨hn, hcsr⟩ := (s.spendCredit h c).hostSlips_noted h op tag m
  exact (hr.decodes c).noted hn hcsr

/-- A request with a credit is taken, decoded and ordered (R52, R54, R228). -/
theorem State.request_takes {s : State} {h : Head} {hpa : BitVec 52} {a : Nat} {g : Region} (hr : HostReady s h hpa.toNat a g) {c : CreditChan} (hc : c ≠ .inner)
    (op : ReqOp) (tag : BitVec 16) (mv : MetaVal) (snp : SnpType) (m : Mask) (d : LineData) (p : Bool) (hloop : ((s.takes h c op tag m).port h).loopWait = false) :
    s.request h c op hpa tag mv snp m d p .none = (s.takes h c op tag m).order ((s.takes h c op tag m).newEntry h c op tag hpa.toNat 0 false m d p) hpa.toNat mv snp .none := by
  obtain ⟨hactive, hreq, hrwd, -⟩ := hr
  have hcredit : (s.port h).credits c ≠ 0 := by
    cases c
    · exact hreq
    · exact hrwd
    · exact absurd rfl hc
  unfold State.request
  simp only [hactive, hcredit, Bool.not_true, Bool.false_eq_true, if_false]
  exact (if_neg (by decide)).trans (if_neg (by rw [Bool.not_eq_true]; exact hloop))

/-- A request taken enters RTK last. -/
theorem Taken.entered {s u : State} {h : Head} {r : RtkEntry} (hu : Taken s h u) (hid : ∀ x ∈ s.rtk, x.id ≠ r.id) :
    Entered (s.firstTouched r) h r ((u.firstTouched r).pushEntry r) := by
  obtain ⟨srtk, sports, scsr, -⟩ := s.firstTouched_parts r
  obtain ⟨urtk, uports, ucsr, -⟩ := u.firstTouched_parts r
  have hdl : (s.firstTouched r).devloadOf h = s.devloadOf h := s.firstTouched_devload r h
  obtain ⟨hans, hdev⟩ := (hu.ready.congr uports ucsr).pushEntry r
  refine ⟨(hu.same.firstTouched r).trans (State.pushEntry_same ..), ⟨?_, fun x hx => hid x (srtk ▸ hx)⟩, ⟨hans, hdev.trans hdl.symm⟩, ?_⟩
  · rw [srtk, ← hu.rtk, ← urtk]
    rfl
  · rw [State.level_of_words fun o _ => State.word_congr (State.pushEntry_csr ..) o, u.firstTouched_level, hu.level, s.firstTouched_level]

section
variable {s : State} {h : Head} {hpa : BitVec 52} {a : Nat} {g : Region} {n : NcLine} (hr : HostReady s h hpa.toNat a g) (hdb : g.db = true)
  (hndr : (s.port h).ndr ≠ 0) (hdrs : (s.port h).drs ≠ 0) (hn : NcHolds s (g.dpa a / 64) n) (hon : s.domOn (44 + dirSlice (g.dpa a / 64)) = true)
  (hu : Unhindered s h (g.dpa a / 64)) (hsnoops : ∀ q ∈ s.dir.snoops, g.dpa a / 64 ∉ q.lines)
include hr hdb hndr hdrs hn hon hu hsnoops

/-- A listed request of a line of an HDM-DB region, with none open for it, enters RTK and is ordered against the directory (R46, R175, R177). -/
theorem State.request_cohered {c : CreditChan} (hc : c ≠ .inner) {op : ReqOp} {mv : MetaVal} {snp : SnpType} (hop : Listed op mv snp) (tag : BitVec 16) (m : Mask) (d : LineData) (p : Bool) :
    ∃ v, Entered (s.firstTouched (s.newEntry h c op tag a (g.dpa a / 64) true m d p)) h (s.newEntry h c op tag a (g.dpa a / 64) true m d p) v ∧ Unhindered v h (g.dpa a / 64) ∧
      s.request h c op hpa tag mv snp m d p .none = v.cohere s.nextEntry := by
  have htaken := State.takes_taken (hr.answerable hndr hdrs) c op tag m
  have hreq := State.request_takes hr hc op tag mv snp m d p htaken.ready.answers.loop
  have hdec := State.takes_decodes hr c op tag m
  have hbi := s.takes_biOn h c op tag m
  have hcsr := s.takes_csr h c op tag m
  generalize s.takes h c op tag m = t at htaken hreq hdec hbi hcsr
  obtain ⟨-, -, -, -, tdir, -, tdoms, -⟩ := htaken.same.parts
  obtain ⟨-, -, -, hslices, hrtk, -, -, hreb⟩ := hn
  have hut : Unhindered t h (g.dpa a / 64) := hu.congr hbi hcsr tdoms
  have hentry : t.newEntry h c op tag a (g.dpa a / 64) true m d p = s.newEntry h c op tag a (g.dpa a / 64) true m d p := by
    have hnow := congrArg State.now htaken.same
    have hnow : t.now = s.now := hnow
    simp only [State.newEntry, htaken.nextEntry, hnow]
  rw [State.order_hdmDb hdec hdb hut c hop tag m d p (tdir ▸ hsnoops) (fun x hx => (hrtk x (htaken.rtk ▸ hx)).1), hentry, htaken.nextEntry] at hreq
  generalize hrdef : s.newEntry h c op tag a (g.dpa a / 64) true m d p = r at hreq ⊢
  have hline : r.line = g.dpa a / 64 := by rw [← hrdef]; rfl
  have hrdb : r.db = true := by rw [← hrdef]; rfl
  have hid : r.id = s.nextEntry := by rw [← hrdef]; rfl
  have hcoh : r.coherent = false := by rw [← hrdef]; rfl
  have he : Entered (s.firstTouched r) h r ((t.firstTouched r).pushEntry r) := htaken.entered fun x hx => hid ▸ (hrtk x hx).2
  obtain ⟨srtk, -, -, -, -, -, -, -, sdoms, sreb⟩ := s.firstTouched_parts r
  obtain ⟨-, tports, tcsr, -, -, -, -, -, tdoms', -⟩ := t.firstTouched_parts r
  obtain ⟨-, -, -, -, -, vxlt, vdoms, -⟩ := he.same.parts
  refine ⟨(t.firstTouched r).pushEntry r, he, ?_, ?_⟩
  · refine hut.congr ?_ ((State.pushEntry_csr ..).trans tcsr) tdoms'
    obtain ⟨k, hk⟩ := (t.firstTouched r).pushEntry_port r h
    rw [State.biOn, hk, State.biOn, State.port_congr tports]
  · rw [hreq, ← hid]
    refine State.serve_db he.last.entry (he.last.not_blocked fun x hx => ?_) (fun d hd => ?_) ?_ hrdb hcoh
    · exact hline ▸ (hrtk x (srtk ▸ hx)).1
    · rw [State.domOn, State.dom_congr (vdoms.trans sdoms)]
      rw [hrdb, hline] at hd
      have hsplit : lineDomains (g.dpa a / 64) true = lineDomains (g.dpa a / 64) false ++ [44 + dirSlice (g.dpa a / 64)] := by simp [lineDomains]
      rw [hsplit] at hd
      rcases List.mem_append.1 hd with hd | hd
      · exact hslices d hd
      · exact List.mem_singleton.1 hd ▸ hon
    · rw [vxlt, sreb, hline]
      exact hreb

end

/-! ## A request granted (R177) -/

/-- A request entered, as the directory becomes `D` and it is granted a state. -/
theorem Entered.granted {s v : State} {h : Head} {r : RtkEntry} (he : Entered s h r v) (D : Dir) (g : Grant) :
    Entered { s with dir := D } h { r with grant := g, coherent := true } (v.granted r.id D g) := by
  have hsame : SameData { s with dir := D } (v.granted r.id D g) := by
    have hs := congrArg (fun x : State => { x with dir := D }) he.same
    exact hs
  have hlast : LastEntry { v with dir := D } s.rtk r := ⟨he.last.rtk, he.last.fresh⟩
  obtain ⟨hans, hdl⟩ := he.ready.congr (u := v.granted r.id D g) rfl rfl
  exact ⟨hsame, hlast.updEntry (g := fun r => { r with grant := g, coherent := true }) rfl, ⟨hans, hdl⟩, he.level⟩

end Sys2Proof.Machine
end

section
/-! PROOFS. What requests of a held line of an HDM-DB region give: reads with a state granted, invalidations, evictions and write-backs (R175, R177, R180, R190). -/

namespace Sys2Proof.Machine

/-! ## The messages of an answer with a state granted (R177) -/

theorem RtkEntry.answers_data {r : RtkEntry} (hread : r.op.isRead = true) (hspec : r.op ≠ .specRd) (dl : BitVec 2) :
    Msg.data r.head r.tag (r.kept.getD LineVal.zero) r.grant dl ∈ r.answers dl := by
  have hneeds : r.needs.1 = true := by
    unfold RtkEntry.needs
    cases hop : r.op with
    | rd _ | rdData | rdFwd => rfl
    | specRd => exact absurd hop hspec
    | wr _ | inv _ | clnEvct | wrFwd => simp [hop, ReqOp.isRead] at hread
  simp [RtkEntry.answers, hneeds]

theorem RtkEntry.answers_cmp {r : RtkEntry} (hread : r.op.isRead = false) (dl : BitVec 2) : Msg.cmp r.head r.tag r.grant dl ∈ r.answers dl := by
  have hneeds : r.needs = (false, true) := by
    unfold RtkEntry.needs
    cases hop : r.op with
    | rd _ | rdData | rdFwd | specRd => simp [hop, ReqOp.isRead] at hread
    | wr _ | inv _ | clnEvct | wrFwd => rfl
  simp [RtkEntry.answers, hneeds]

/-- A request of head `h` has been answered with `m`, the directory is `D`, and RTK and every stored byte are as they were. -/
structure Settled (s : State) (D : Dir) (m : Msg) (t : State) : Prop where
  answer : m ∈ t.out
  dir : t.dir = D
  mem : t.mem = s.mem
  rtk : t.rtk = s.rtk

section
variable {s v : State} {h : Head} {r : RtkEntry} (he : Entered s h r v) (hr : r.Plain) (hh : r.head = h) (D : Dir) (g : Grant)
include he hr hh

/-- A read granted a state is answered with the data of its line, which the near cache holds whole (R37, R177). -/
theorem Entered.read_granted {n : NcLine} (hop : r.op.isRead = true) (hspec : r.op ≠ .specRd) (hkept : r.kept = none) (hlost : s.setLost r.line = false)
    (hn : s.nc.lines.look r.line = some n) (hf : n.filling = false) (hgood : n.poison = false) :
    Settled s D (.data h r.tag ⟨n.data, false⟩ g (s.devloadOf h)) ((v.granted r.id D g).access r.id) := by
  have hg := he.granted D g
  obtain ⟨u, hu, -, -, haccess⟩ := hg.access_read hop hspec hkept hlost hn hf
  obtain ⟨x, -, hx, xout, hread, -⟩ := hu.answer ⟨hr.chan, hr.synthetic, hr.conflicts⟩ hh ⟨n.data, n.poison⟩
  obtain rfl := hx hgood
  obtain ⟨hrtk, hmem, -, -, hdir, -⟩ := hread
  have haccess : (v.granted r.id D g).access r.id = u.answer r.id ⟨n.data, n.poison⟩ := haccess
  rw [haccess]
  refine ⟨?_, hdir, hmem, hrtk⟩
  have hans := RtkEntry.answers_data (r := { r with grant := g, coherent := true, kept := some ⟨n.data, n.poison⟩ }) hop hspec (s.devloadOf h)
  rw [← hh, ← hgood]
  have hout : (u.answer r.id ⟨n.data, n.poison⟩).out = u.out ++ _ := xout
  rw [hout]
  exact List.mem_append_right _ (hh ▸ hans)

/-- A request that makes no access completes with the state that it is granted (R177). -/
theorem Entered.completion_granted (hop : r.op.isRead = false) (hwr : r.op.isWrite = false) :
    Settled s D (.cmp h r.tag g (s.devloadOf h)) ((v.granted r.id D g).access r.id) := by
  have hg := he.granted D g
  have haccess : (v.granted r.id D g).access r.id = (v.granted r.id D g).respond r.id := hg.access_completes hop hwr
  obtain ⟨rout, ⟨hrtk, hmem, -, -, hdir, -⟩, -⟩ := hg.respond ⟨hr.chan, hr.synthetic, hr.conflicts⟩ hh
  rw [haccess]
  refine ⟨?_, hdir, hmem, hrtk⟩
  have hans := RtkEntry.answers_cmp (r := { r with grant := g, coherent := true }) hop (s.devloadOf h)
  have hout : ((v.granted r.id D g).respond r.id).out = (v.granted r.id D g).out ++ _ := rout
  rw [hout, ← hh]
  exact List.mem_append_right _ (hh ▸ hans)

end

/-! ## The clauses -/

theorem State.newEntry_hdmDb_plain (s : State) (h : Head) {c : CreditChan} (hc : c ≠ .inner) (op : ReqOp) (tag : BitVec 16) (a l : Nat) (m : Mask) (d : LineData) (p : Bool) :
    (s.newEntry h c op tag a l true m d p).Plain := ⟨hc, rfl, rfl⟩

theorem Entered.dirSetAhead {s v : State} {h : Head} {r q : RtkEntry} (he : Entered s h r v) (hid : r.id = q.id) (hline : r.line = q.line) : v.dirSetAhead r = s.dirSetAhead q := by
  have hq : s.rtk.takeWhile (·.id != q.id) = s.rtk := by
    rw [List.takeWhile_eq_self_iff]
    exact fun x hx => by simpa [← hid] using he.last.fresh x hx
  rw [State.dirSetAhead, State.dirSetAhead, he.last.before, hq, hline]

theorem State.dirFree_congr {s t : State} (h : t.dir = s.dir) (l : Nat) : t.dirFree l = s.dirFree l := by
  simp only [State.dirFree, State.dirMembers, h]

section
variable {s : State} {h : Head} {hpa : BitVec 52} {a : Nat} {g : Region} {n : NcLine} (hr : HostReady s h hpa.toNat a g) (hdb : g.db = true)
  (hndr : (s.port h).ndr ≠ 0) (hdrs : (s.port h).drs ≠ 0) (hn : NcHolds s (g.dpa a / 64) n) (hgood : n.poison = false) (hon : s.domOn (44 + dirSlice (g.dpa a / 64)) = true)
  (hu : Unhindered s h (g.dpa a / 64)) (hsnoops : ∀ q ∈ s.dir.snoops, g.dpa a / 64 ∉ q.lines)
include hr hdb hndr hdrs hn hon hu hsnoops

/-- A request that writes nothing enters RTK with nothing touched. -/
theorem State.request_unwritten {op : ReqOp} (hwr : op.isWrite = false) {mv : MetaVal} {snp : SnpType} (hop : Listed op mv snp) (tag : BitVec 16) :
    ∃ v, Entered s h (s.newEntry h .req op tag a (g.dpa a / 64) true 0 0 false) v ∧ Unhindered v h (g.dpa a / 64) ∧ v.dir = s.dir ∧
      s.request h .req op hpa tag mv snp 0 0 false .none = v.cohere s.nextEntry := by
  obtain ⟨v, he, hv, hreq⟩ := State.request_cohered hr hdb hndr hdrs hn hon hu hsnoops (c := .req) (by decide) hop tag 0 0 false
  rw [s.firstTouched_of_not_write hwr] at he
  obtain ⟨-, -, -, -, hdir, -⟩ := he.same.parts
  exact ⟨v, he, hv, hdir, hreq⟩

include hgood in
/-- A read with no metadata is answered with no state granted (R177). -/
theorem State.request_read_noOp (hd : s.dir.entries.look (g.dpa a / 64) = none) (tag : BitVec 16) :
    Settled s s.dir (.data h tag ⟨n.data, false⟩ .none (s.devloadOf h)) (s.request h .req (.rd .noOp) hpa tag .noOp .noOp 0 0 false .none) := by
  have hop : Listed (.rd .noOp) .noOp .noOp := ⟨by decide, by decide, by decide, rfl, rfl⟩
  obtain ⟨v, he, hv, hdir, hreq⟩ := State.request_unwritten hr hdb hndr hdrs hn hon hu hsnoops rfl hop tag
  obtain ⟨hlook, hfill, -, -, -, hlost, -⟩ := hn
  have hcoh := State.cohere_noOp he.last.entry hv rfl (hdir ▸ hd)
  rw [hdir] at hcoh
  rw [hreq]
  exact hcoh ▸ he.read_granted (s.newEntry_hdmDb_plain h (by decide) ..) rfl s.dir .none rfl hop.spec rfl hlost hlook hfill hgood

section
variable (hd : s.dir.entries.look (g.dpa a / 64) = none) (hfree : (s.dirFree (g.dpa a / 64)).isSome = true) (tag : BitVec 16)
  (hahead : s.dirSetAhead (s.newEntry h .req (.rd .a) tag a (g.dpa a / 64) true 0 0 false) = false)
include hd hfree hahead

include hgood in
/-- A read for ownership is answered with E and leaves its head the owner (R177, R188). -/
theorem State.request_read_owns {op : ReqOp} (hread : op.isRead = true) (howns : op.owns) {mv : MetaVal} {snp : SnpType} (hop : Listed op mv snp) :
    ∃ D w, D.entries.look (g.dpa a / 64) = some ⟨w, presBit h, .em, false, false⟩ ∧
      Settled s D (.data h tag ⟨n.data, false⟩ .e (s.devloadOf h)) (s.request h .req op hpa tag mv snp 0 0 false .none) := by
  have hwr : op.isWrite = false := by cases op <;> simp_all [ReqOp.isRead, ReqOp.isWrite]
  obtain ⟨v, he, hv, hdir, hreq⟩ := State.request_unwritten hr hdb hndr hdrs hn hon hu hsnoops hwr hop tag
  obtain ⟨hlook, hfill, -, -, -, hlost, -⟩ := hn
  obtain ⟨D, w, hD, hcoh⟩ := State.cohere_owns_new he.last.entry hv (hdir ▸ hd) ((he.dirSetAhead rfl rfl).trans hahead) ((State.dirFree_congr hdir _).symm ▸ hfree) howns
  refine ⟨D, w, hD, ?_⟩
  rw [hreq]
  exact hcoh ▸ he.read_granted (s.newEntry_hdmDb_plain h (by decide) ..) rfl D .e hread hop.spec rfl hlost hlook hfill hgood

include hgood in
/-- A read to share is answered with S and leaves its head in shared presence (R177, R188). -/
theorem State.request_read_shares :
    ∃ D w, D.entries.look (g.dpa a / 64) = some ⟨w, presBit h, .s, false, false⟩ ∧
      Settled s D (.data h tag ⟨n.data, false⟩ .s (s.devloadOf h)) (s.request h .req (.rd .s) hpa tag .s .data 0 0 false .none) := by
  have hop : Listed (.rd .s) .s .data := ⟨by decide, by decide, by decide, rfl, rfl⟩
  obtain ⟨v, he, hv, hdir, hreq⟩ := State.request_unwritten hr hdb hndr hdrs hn hon hu hsnoops rfl hop tag
  obtain ⟨hlook, hfill, -, -, -, hlost, -⟩ := hn
  obtain ⟨D, w, hD, hcoh⟩ := State.cohere_shares_new he.last.entry hv (hdir ▸ hd) ((he.dirSetAhead rfl rfl).trans hahead) ((State.dirFree_congr hdir _).symm ▸ hfree) rfl
  refine ⟨D, w, hD, ?_⟩
  rw [hreq]
  exact hcoh ▸ he.read_granted (s.newEntry_hdmDb_plain h (by decide) ..) rfl D .s rfl hop.spec rfl hlost hlook hfill hgood

/-- An invalidation for ownership completes with E and leaves its head the owner (R177, R188). -/
theorem State.request_inv_owns :
    ∃ D w, D.entries.look (g.dpa a / 64) = some ⟨w, presBit h, .em, false, false⟩ ∧
      Settled s D (.cmp h tag .e (s.devloadOf h)) (s.request h .req (.inv .a) hpa tag .a .inv 0 0 false .none) := by
  obtain ⟨v, he, hv, hdir, hreq⟩ := State.request_unwritten hr hdb hndr hdrs hn hon hu hsnoops rfl (op := .inv .a) (mv := .a) (snp := .inv)
    ⟨by decide, by decide, by decide, rfl, rfl⟩ tag
  obtain ⟨D, w, hD, hcoh⟩ := State.cohere_owns_new he.last.entry hv (hdir ▸ hd) ((he.dirSetAhead rfl rfl).trans hahead) ((State.dirFree_congr hdir _).symm ▸ hfree) (.inr (.inr rfl))
  refine ⟨D, w, hD, ?_⟩
  rw [hreq]
  exact hcoh ▸ he.completion_granted (s.newEntry_hdmDb_plain h (by decide) ..) rfl D .e rfl rfl

end

section
variable {e : DirEntry} (hd : s.dir.entries.look (g.dpa a / 64) = some e) (hpres : e.pres = presBit h) (hbusy : e.busy = false) (hrebuild : e.rebuild = false) (tag : BitVec 16)
include hd hpres hbusy hrebuild

/-- A clean eviction or an invalidation by the one head that holds a line leaves no host holding it (R180, R190). -/
theorem State.request_evicts {op : ReqOp} (hread : op.isRead = false) (hwr : op.isWrite = false) (hevicts : op.evicts) {mv : MetaVal} {snp : SnpType} (hop : Listed op mv snp) :
    ∃ D, D.entries.look (g.dpa a / 64) = none ∧ Settled s D (.cmp h tag .none (s.devloadOf h)) (s.request h .req op hpa tag mv snp 0 0 false .none) := by
  obtain ⟨v, he, hv, hdir, hreq⟩ := State.request_unwritten hr hdb hndr hdrs hn hon hu hsnoops hwr hop tag
  obtain ⟨D, hD, hcoh⟩ := State.cohere_evicts_alone he.last.entry hv (hdir ▸ hd) hpres hbusy hrebuild hevicts
  refine ⟨D, hD, ?_⟩
  rw [hreq]
  exact hcoh ▸ he.completion_granted (s.newEntry_hdmDb_plain h (by decide) ..) rfl D .none hread hwr

/-- A write-back by the one head that holds a line lands and leaves no host holding it (R42, R180, R190). -/
theorem State.request_writeBack (hlevel : s.level ≠ 3) (d : LineData) :
    let t := s.request h .rwd (.wr .i) hpa tag .i .noOp fullMask d false .none
    ∃ D, D.entries.look (g.dpa a / 64) = none ∧ Settled s D (.cmp h tag .none (s.devloadOf h)) t ∧ t.current (g.dpa a / 64) = ⟨d, false⟩ := by
  obtain ⟨v, he, hv, hreq⟩ := State.request_cohered hr hdb hndr hdrs hn hon hu hsnoops (c := .rwd) (by decide) (op := .wr .i) (mv := .i) (snp := .noOp)
    ⟨by decide, by decide, by decide, rfl, rfl⟩ tag fullMask d false
  obtain ⟨hlook, hfill, hwhole, -, -, hlost, -⟩ := hn
  generalize hrdef : s.newEntry h .rwd (.wr .i) tag a (g.dpa a / 64) true fullMask d false = r at he
  have hline : r.line = g.dpa a / 64 := by rw [← hrdef]; rfl
  have hop : r.op = .wr .i := by rw [← hrdef]; rfl
  have hhead : r.head = h := by rw [← hrdef]; rfl
  have hid : r.id = s.nextEntry := by rw [← hrdef]; rfl
  have htag : r.tag = tag := by rw [← hrdef]; rfl
  have hplain : r.Plain := by rw [← hrdef]; exact s.newEntry_hdmDb_plain h (by decide) ..
  have hcross : r.crossing = false := by rw [← hrdef]; rfl
  have hwritten : r.mask = fullMask ∧ r.data = d ∧ r.poison = false := by rw [← hrdef]; exact ⟨rfl, rfl, rfl⟩
  obtain ⟨rmask, rdata, rpoison⟩ := hwritten
  obtain ⟨srtk, -, -, -, snc, smem, sdir, -⟩ := s.firstTouched_parts r
  obtain ⟨-, -, -, -, vdir, -⟩ := he.same.parts
  obtain ⟨D, hD, hcoh⟩ := State.cohere_evicts_alone he.last.entry (by rw [hhead, hline]; exact hv) (by rw [vdir, sdir, hline]; exact hd) (by rw [hhead]; exact hpres) hbusy hrebuild
    (.inr (.inr hop))
  have hg := he.granted D .none
  obtain ⟨aout, artk, amem, -, adir, -, alines⟩ := hg.access_write (n := n) ⟨hplain.chan, hplain.synthetic, hplain.conflicts⟩ hhead (by rw [hop]; rfl) hcross
    (by rw [← s.firstTouched_level r] at hlevel; exact hlevel) (by show ({ s.firstTouched r with dir := D } : State).setLost r.line = false; rw [State.setLost, snc, hline]; exact hlost)
    (by show (s.firstTouched r).nc.lines.look r.line = some n; rw [snc, hline]; exact hlook) hfill (s.firstTouched_touched (by rw [hop]; rfl))
  have hcoh : v.cohere s.nextEntry = (v.granted r.id D .none).access r.id := hid ▸ hcoh
  have alines : ((v.granted r.id D .none).access r.id).nc.lines = if r.mask = 0 then (s.firstTouched r).nc.lines else (s.firstTouched r).nc.lines.put r.line (n.written r.data r.mask r.poison) := alines
  have aout : ((v.granted r.id D .none).access r.id).out = (v.granted r.id D .none).out ++ ({ r with grant := .none, coherent := true } : RtkEntry).answers ((s.firstTouched r).devloadOf h) := aout
  have hans := RtkEntry.answers_cmp (r := { r with grant := .none, coherent := true }) (by rw [hop]; rfl) (s.devloadOf h)
  have hfull : fullMask ≠ (0 : Mask) := by decide
  dsimp only
  rw [hreq, hcoh]
  refine ⟨D, hline ▸ hD, ⟨?_, adir, amem.trans smem, artk.trans srtk⟩, ?_⟩
  · rw [aout, s.firstTouched_devload, ← hhead, ← htag]
    exact List.mem_append_right _ (hhead ▸ hans)
  · rw [rmask, rdata, rpoison, hline, if_neg hfull] at alines
    rw [State.current_of_whole (n := n.written d fullMask false) (by rw [alines]; exact Tbl.look_put_self ..) (show n.mask ||| fullMask = fullMask from BitVec.or_allOnes)]
    simp [NcLine.written, mergeLine_fullMask]

end

end

/-! ## O46 -/

/-- A head that the directory shows as the owner. -/
theorem State.owner_facts {t : State} {D : Dir} {l : Nat} {w : Fin 16} {h : Head} (ht : t.dir = D) (hD : D.entries.look l = some ⟨w, presBit h, .em, false, false⟩) :
    t.holdsEm l h = true ∧ ∀ k, k ≠ h → t.holds l k = false := by
  subst ht
  refine ⟨?_, fun k hk => ?_⟩
  · simp [State.holdsEm_of_look hD, presBit_getLsbD]
  · rw [State.holds_of_look hD, presBit_getLsbD, decide_eq_false hk]

theorem State.sharer_facts {t : State} {D : Dir} {l : Nat} {w : Fin 16} {h : Head} (ht : t.dir = D) (hD : D.entries.look l = some ⟨w, presBit h, .s, false, false⟩) :
    t.holds l h = true ∧ t.holdsEm l h = false := by
  subst ht
  exact ⟨by simp [State.holds_of_look hD, presBit_getLsbD], by simp [State.holdsEm_of_look hD]⟩

/-- Settles O46: a request with nothing open for its line enters RTK, is settled in the directory with no snoop, makes its access and is answered at once. -/
theorem hostRequestsHdmDb : Obligations.HostRequestsHdmDb := by
  intro s h hpa tag g a n l hr hdb hn hgood hon hbi hfenced hlost hsnoops hndr hdrs
  have hu : Unhindered s h (g.dpa a / 64) := ⟨hbi, hfenced, hlost⟩
  refine ⟨fun hd hfree hahead => ⟨List.forall_mem_cons.2 ⟨⟨_, rfl, ?_⟩, List.forall_mem_singleton.2 ⟨_, rfl, ?_⟩⟩, ⟨_, rfl, ?_⟩, ⟨_, rfl, ?_⟩, ⟨_, rfl, ?_⟩⟩,
    fun e hd hpres hbusy hrebuild => ⟨List.forall_mem_cons.2 ⟨⟨_, rfl, ?_⟩, List.forall_mem_singleton.2 ⟨_, rfl, ?_⟩⟩, fun _ hlevel d => ⟨_, rfl, ?_⟩⟩⟩
  · obtain ⟨D, w, hD, ⟨hans, hdir, hmem, hrtk⟩⟩ := State.request_read_owns hr hdb hndr hdrs hn hgood hon hu hsnoops hd hfree tag hahead
      (op := .rd .a) rfl (.inl rfl) (mv := .a) (snp := .inv) ⟨by decide, by decide, by decide, rfl, rfl⟩
    obtain ⟨hem, hothers⟩ := State.owner_facts hdir hD
    exact ⟨hans, hem, hothers, hmem, hrtk⟩
  · obtain ⟨D, w, hD, ⟨hans, hdir, hmem, hrtk⟩⟩ := State.request_read_owns hr hdb hndr hdrs hn hgood hon hu hsnoops hd hfree tag hahead
      (op := .rdData) rfl (.inr (.inl rfl)) (mv := .noOp) (snp := .data) ⟨by decide, by decide, by decide, rfl, rfl⟩
    obtain ⟨hem, hothers⟩ := State.owner_facts hdir hD
    exact ⟨hans, hem, hothers, hmem, hrtk⟩
  · obtain ⟨D, w, hD, ⟨hans, hdir, hmem, hrtk⟩⟩ := State.request_read_shares hr hdb hndr hdrs hn hgood hon hu hsnoops hd hfree tag hahead
    obtain ⟨hholds, hem⟩ := State.sharer_facts hdir hD
    exact ⟨hans, hholds, hem, hmem, hrtk⟩
  · obtain ⟨D, w, hD, ⟨hans, hdir, hmem, hrtk⟩⟩ := State.request_inv_owns hr hdb hndr hdrs hn hon hu hsnoops hd hfree tag hahead
    obtain ⟨hem, -⟩ := State.owner_facts hdir hD
    exact ⟨hans, hem, hmem, hrtk⟩
  · obtain ⟨hans, hdir, hmem, hrtk⟩ := State.request_read_noOp hr hdb hndr hdrs hn hgood hon hu hsnoops hd tag
    exact ⟨hans, by rw [hdir], hmem, hrtk⟩
  · obtain ⟨D, hD, ⟨hans, hdir, hmem, hrtk⟩⟩ := State.request_evicts hr hdb hndr hdrs hn hon hu hsnoops hd hpres hbusy hrebuild tag
      (op := .clnEvct) rfl rfl (.inl rfl) (mv := .noOp) (snp := .noOp) ⟨by decide, by decide, by decide, rfl, rfl⟩
    exact ⟨hans, hdir ▸ hD, hmem, hrtk⟩
  · obtain ⟨D, hD, ⟨hans, hdir, hmem, hrtk⟩⟩ := State.request_evicts hr hdb hndr hdrs hn hon hu hsnoops hd hpres hbusy hrebuild tag
      (op := .inv .i) rfl rfl (.inr (.inl rfl)) (mv := .i) (snp := .inv) ⟨by decide, by decide, by decide, rfl, rfl⟩
    exact ⟨hans, hdir ▸ hD, hmem, hrtk⟩
  · obtain ⟨D, hD, ⟨hans, hdir, hmem, hrtk⟩, hcur⟩ := State.request_writeBack hr hdb hndr hdrs hn hon hu hsnoops hd hpres hbusy hrebuild tag hlevel d
    exact ⟨hans, hdir ▸ hD, hcur, hmem, hrtk⟩

end Sys2Proof.Machine
end

section
/-! PROOFS. The bits of DIR_STATUS while requests are served, snoops settled and heads fenced: none that is set is cleared (R193, R194, R199). -/

namespace Sys2Proof.Machine

/-- Every bit of DIR_STATUS that is set in `s` is set in `t`. -/
structure StatusKept (s t : State) : Prop where
  bit : ∀ i, (s.word Reg.DIR_STATUS.VIOL.off).getLsbD i = true → (t.word Reg.DIR_STATUS.VIOL.off).getLsbD i = true

theorem StatusKept.refl (s : State) : StatusKept s s := ⟨fun _ h => h⟩

theorem StatusKept.trans {s t u : State} (h1 : StatusKept s t) (h2 : StatusKept t u) : StatusKept s u := ⟨fun i h => h2.bit i (h1.bit i h)⟩

theorem StatusKept.of_word {s t : State} (h : t.word Reg.DIR_STATUS.VIOL.off = s.word Reg.DIR_STATUS.VIOL.off) : StatusKept s t := ⟨fun i hi => by rwa [h]⟩

theorem StatusKept.foldl {α : Type} {f : State → α → State} (hf : ∀ s a, StatusKept s (f s a)) (as : List α) (s : State) : StatusKept s (as.foldl f s) := by
  induction as generalizing s with
  | nil => exact .refl s
  | cons a as ih => exact (hf s a).trans (ih _)

/-- Work that counts as it goes, done for the members of a list in turn. -/
theorem StatusKept.foldl_counted {α : Type} {f : State → α → Nat × State} (hf : ∀ s a, StatusKept s (f s a).2) (as : List α) (n : Nat) (s : State) :
    StatusKept s (as.foldl (fun (x : Nat × State) a => (x.1 + (f x.2 a).1, (f x.2 a).2)) (n, s)).2 := by
  induction as generalizing n s with
  | nil => exact .refl s
  | cons a as ih => exact (hf s a).trans (ih _ _)

theorem StatusKept.of_csr {s t : State} (h : t.csr = s.csr) : StatusKept s t := .of_word (State.word_congr h _)

/-- A write of another register. -/
theorem State.setF_status (s : State) {x : Fld} (v : Nat) (hx : x.off ≠ Reg.DIR_STATUS.VIOL.off) : StatusKept s (s.setF x v) := .of_word (State.word_setF_ne _ _ _ (Ne.symm hx))

/-- A flag set, of whatever register. -/
theorem State.setBit_status (s : State) {x : Fld} (hx : x.hi = x.lo) (hlo : x.lo < 32) : StatusKept s (s.setF x 1) := by
  refine ⟨fun i hi => ?_⟩
  rw [State.word_setF]
  split
  · next hoff =>
    rw [getLsbD_putField _ _ _ _ _ (hx ▸ hlo) hx.ge (BitVec.lt_of_getLsbD hi)]
    split
    · next hin =>
      have heq : i - x.lo = 0 := by omega
      rw [heq]
      rfl
    · exact hoff ▸ hi
  · exact hi

theorem Caches.status {s t : State} (h : Caches s t) : StatusKept s t := .of_csr (by have hc := congrArg State.csr h; exact hc)

theorem Directs.status {s t : State} (h : Directs s t) : StatusKept s t := .of_csr (by have hc := congrArg State.csr h; exact hc)

theorem Sent.status {s t : State} {ms : List Msg} (h : Sent s ms t) : StatusKept s t := .of_csr (by have hc := congrArg State.csr h.1; exact hc)

theorem State.updPort_status (s : State) (h : Head) (g : Port → Port) : StatusKept s (s.updPort h g) := .of_csr rfl

theorem State.updEntry_status (s : State) (id : Nat) (g : RtkEntry → RtkEntry) : StatusKept s (s.updEntry id g) := .of_csr rfl

theorem State.setPhase_status (s : State) (id : Nat) (x : Phase) : StatusKept s (s.setPhase id x) := .of_csr rfl

theorem State.event_status (s : State) (hs : List Head) (l : EventLog) (c : Cause) (a : Nat) (b : Bool) (sl : Option (Fin 16)) : StatusKept s (s.event hs l c a b sl) := by
  obtain ⟨-, hcsr, -⟩ := State.event_noted hs l c a b sl s
  exact .of_csr hcsr

theorem State.violation_status (s : State) (h : Head) (l : Nat) : StatusKept s (s.violation h l) := by
  unfold State.violation
  obtain ⟨-, hcsr, -⟩ := ((s.countPort 1 h 7).flag Reg.DIR_STATUS.VIOL).eventPerSecond_noted h 1 .informational .violation (64 * l) (some (slice l))
  have hflag : StatusKept (s.countPort 1 h 7) ((s.countPort 1 h 7).flag Reg.DIR_STATUS.VIOL) := State.setBit_status _ rfl (by decide)
  exact (StatusKept.of_csr (s := s) (t := s.countPort 1 h 7) rfl).trans (hflag.trans (.of_csr hcsr))

/-! ## The end of an entry (R55, R186, R230, R353) -/

theorem State.dropEntry_status (s : State) (r : RtkEntry) : StatusKept s (s.dropEntry r) := by
  refine .of_csr ?_
  unfold State.dropEntry
  dsimp only
  split <;> rfl

theorem State.ackConflict_status (s : State) (h : Head) (tag : BitVec 16) : StatusKept s (s.ackConflict h tag) := by
  unfold State.ackConflict
  split
  · exact s.updPort_status h _
  · exact (((s.updPort_status h _).trans (Sent.emit ..).status).trans (State.count_caches ..).status).trans (State.updPort_status ..)

theorem State.mbxReply_status (s : State) (h : Head) (r : Reply) : StatusKept s (s.mbxReply h r) := by
  refine .of_csr ?_
  unfold State.mbxReply
  split <;> rfl

theorem State.waitCredit_status (s : State) (r : RtkEntry) : StatusKept s (s.waitCredit r) := .of_csr rfl

theorem State.loopEntry_status (s : State) (r : RtkEntry) : StatusKept s (s.loopEntry r) := by
  have hdone (t : State) (x : RtkEntry) (ht : StatusKept s t) :
      StatusKept s (if x.synthetic then t.dropEntry x else if t.maySend x then (t.sendResponse x).dropEntry x else (t.updEntry r.id fun _ => x).waitCredit x) := by
    split
    · exact ht.trans (t.dropEntry_status x)
    · split
      · exact (ht.trans (t.sendResponse_sent x).status).trans (State.dropEntry_status _ x)
      · exact ht.trans (.of_csr rfl)
  have hmiss : StatusKept s ((s.flag (Reg.PRTn_LINK_ERR.HDM_MISS.nth r.head.val)).portViolation r.head 4 .hdmMiss) := by
    obtain ⟨-, hcsr, -⟩ := (s.flag (Reg.PRTn_LINK_ERR.HDM_MISS.nth r.head.val)).portViolation_noted r.head 4 .hdmMiss
    have hflag : StatusKept s (s.flag (Reg.PRTn_LINK_ERR.HDM_MISS.nth r.head.val)) := State.setBit_status _ rfl (show Reg.PRTn_LINK_ERR.HDM_MISS.lo < 32 by decide)
    exact hflag.trans (.of_csr hcsr)
  unfold State.loopEntry
  refine hdone _ _ ?_
  split
  · exact hmiss
  · split
    · exact .of_csr rfl
    · exact .refl s

theorem State.loopStart_status (s : State) (h : Head) : StatusKept s (s.loopStart h) := by
  unfold State.loopStart
  split
  · exact .refl s
  · have hflag (t : State) : StatusKept t (t.flag (Reg.PRTn_TEST_STATUS.ACTIVE.nth h.val)) := State.setBit_status _ rfl (show Reg.PRTn_TEST_STATUS.ACTIVE.lo < 32 by decide)
    exact ((s.updPort_status h _).trans (hflag _)).trans (StatusKept.foldl (fun s r => s.loopEntry_status r) _ _)

theorem State.closeEntry_status (s : State) (r : RtkEntry) : StatusKept s (s.closeEntry r) := by
  unfold State.closeEntry
  refine StatusKept.trans ?_ ((StatusKept.foldl (fun s x => s.ackConflict_status r.head x) _ _).trans (State.loopStart_status ..))
  split
  · exact (s.dropEntry_status r).trans (State.mbxReply_status ..)
  · exact s.dropEntry_status r

theorem State.respond_status (s : State) (id : Nat) : StatusKept s (s.respond id) := by
  unfold State.respond
  split
  · exact .refl s
  · split
    · exact s.closeEntry_status _
    · split
      · exact (s.sendResponse_sent _).status.trans (State.closeEntry_status ..)
      · exact s.waitCredit_status _

theorem State.answer_status (s : State) (id : Nat) (v : LineVal) : StatusKept s (s.answer id v) := by
  have hreply (t : State) (x : LineVal) : StatusKept t (t.reply id x) := (t.updEntry_status id _).trans (State.respond_status ..)
  unfold State.answer
  split
  · exact StatusKept.trans (t := s.takeFree) (.of_csr rfl) (hreply ..)
  · exact hreply s v

/-! ## Accesses (R37, R42, R43, R118) -/

theorem State.startFill_status (s : State) (id l : Nat) : StatusKept s (s.startFill id l) := by
  unfold State.startFill
  split
  · next v hv =>
    have hbusy : Caches s v := State.takeWay_of hv
    exact hbusy.status.trans (State.setPhase_status ..)
  · next v hv =>
    have hfull : Caches s v := State.takeWay_of hv
    exact hfull.status.trans (State.setPhase_status ..)
  · next w v hv =>
    have hgot : Caches s (v.touchNc l w) := Caches.trans (State.takeWay_of hv : Caches s v) (State.touchNc_caches ..)
    dsimp only
    generalize v.touchNc l w = u at hgot ⊢
    split
    · exact (hgot.trans (u.buffered_caches ..)).status.trans (State.answer_status ..)
    · exact (hgot.trans ((u.setNc_caches ..).trans (State.addFill_caches ..))).status.trans (State.setPhase_status ..)

theorem State.accessRead_status (s : State) (r : RtkEntry) : StatusKept s (s.accessRead r) := by
  unfold State.accessRead
  extract_lets l id
  split
  · exact s.answer_status ..
  · split
    · exact s.answer_status ..
    · split
      · next n _ =>
        have hhit : Caches s ((s.touchNc l n.way).ncHit l) := (s.touchNc_caches ..).trans (State.ncHit_hit ..).caches
        split
        · exact s.setPhase_status ..
        · exact hhit.status.trans (State.answer_status ..)
      · split
        · exact (s.ncHit_hit l).caches.status.trans (State.answer_status ..)
        · have hmiss : Caches s (if r.phase.counted then s else s.ncMiss l) := by
            split
            · exact .refl s
            · exact s.ncMiss_caches l
          generalize (if r.phase.counted then s else s.ncMiss l) = u at hmiss ⊢
          have hx := hmiss.trans (u.xlate_looks l).caches
          generalize u.xlate l = y at hx ⊢
          obtain ⟨x, v⟩ := y
          replace hx : StatusKept s v := Caches.status hx
          dsimp only
          split
          · exact hx.trans (State.answer_status ..)
          · exact hx.trans (State.answer_status ..)
          · exact hx.trans (State.setPhase_status ..)
          · split
            · exact hx.trans (State.answer_status ..)
            · exact hx.trans (State.startFill_status ..)

theorem State.accessWrite_status (s : State) (r : RtkEntry) : StatusKept s (s.accessWrite r) := by
  unfold State.accessWrite
  extract_lets l id counted
  have hcounted : Caches s counted := by
    simp only [counted]
    split
    · exact .refl s
    · exact s.ncMiss_caches l
  have hfrozen : Caches s (if r.crossing then counted.freezeReaders l id else counted) := by
    split
    · exact hcounted.trans (counted.freezeReaders_caches ..)
    · exact hcounted
  split
  · exact (s.touch_caches l).status.trans (State.respond_status ..)
  · split
    · exact s.setPhase_status ..
    · split
      · next v hv =>
        have hwait : Caches s v := hfrozen.trans (State.land_of hv)
        exact hwait.status.trans (State.setPhase_status ..)
      · next v hv =>
        have hlanded : Caches s v := hfrozen.trans (State.land_of hv)
        extract_lets cleared
        have hcleared : StatusKept s cleared := by
          simp only [cleared]
          split
          · exact hlanded.status.trans (.of_csr rfl)
          · exact hlanded.status
        split
        · exact (hcleared.trans (cleared.makePool_caches l).status).trans (State.setPhase_status ..)
        · exact hcleared.trans (State.respond_status ..)

theorem State.access_status (s : State) (id : Nat) : StatusKept s (s.access id) := by
  unfold State.access
  split
  · exact .refl s
  · split
    · exact s.closeEntry_status _
    · exact s.respond_status _
    · exact s.respond_status _
    · exact s.respond_status _
    · exact s.accessWrite_status _
    · exact s.accessRead_status _

/-! ## Coherence and service (R46, R76, R182, R188, R356) -/

theorem State.settleDir_status (s : State) (r : RtkEntry) : StatusKept s (s.settleDir r) := by
  have hset (p : BitVec 8) (st : DirState) (g : Grant) : StatusKept s ((s.setDir r.line p st).updEntry r.id fun r => { r with grant := g, coherent := true }) :=
    (s.setDir_directs ..).status.trans (State.updEntry_status ..)
  have hclear : StatusKept s ((s.clearPres r.line r.head).updEntry r.id fun r => { r with grant := .none, coherent := true }) :=
    (s.clearPres_directs ..).status.trans (State.updEntry_status ..)
  unfold State.settleDir
  extract_lets l b held grant
  split
  · split
    · exact hset ..
    · exact hset ..
    · exact s.updEntry_status ..
  · split
    · exact s.updEntry_status ..
    · split
      · exact hset ..
      · exact hset ..
  · split
    · exact hset ..
    · exact hclear
  · split
    · exact hset ..
    · exact hclear
  · exact hclear
  · exact s.updEntry_status ..

theorem State.trySend_status (s : State) (q : Snoop) : StatusKept s (s.trySend q) := by
  unfold State.trySend
  split
  · exact .refl s
  · have hmark : Directs s { s with dir := { s.dir with snoops := updWhere (·.id == q.id) (fun x => { x with sent := true }) s.dir.snoops } } := rfl
    exact ((((hmark.status.trans (State.updPort_status ..)).trans (Sent.emit ..).status).trans (State.count_caches ..).status).trans (State.count_caches ..).status).trans
      (State.count_caches ..).status

theorem State.snoop_status (s : State) (h : Head) (op : SnoopOp) (l : Nat) (c : SnoopCause) (place : Nat) : StatusKept s (s.snoop h op l c place) := by
  unfold State.snoop
  extract_lets q _ slotted
  have hslotted : Directs s slotted := rfl
  exact (hslotted.status.trans (StatusKept.foldl (fun s j => (s.setBusy_directs j true).status) _ _)).trans (State.trySend_status ..)

theorem State.rebuildDir_status (s : State) (l : Nat) : StatusKept s (s.rebuildDir l) := by
  unfold State.rebuildDir
  split
  · exact .refl s
  · split
    · exact .refl s
    · extract_lets hs _ entered waiter
      split
      · exact .refl s
      · have hentered : Directs s entered := rfl
        exact hentered.status.trans (StatusKept.foldl (fun s h => s.snoop_status h _ _ _ _) _ _)

theorem State.keepData_status (s : State) (r : RtkEntry) : StatusKept s (s.keepData r) := by
  refine .of_csr ?_
  unfold State.keepData
  split
  · split <;> rfl
  · rfl

/-- A request that breaks the rules of coherence is let through (R199). -/
theorem State.letThrough_status (s : State) (h : Head) (l id : Nat) : StatusKept s (((s.violation h l).updEntry id fun r => { r with coherent := true }).access id) :=
  ((s.violation_status h l).trans (State.updEntry_status ..)).trans (State.access_status ..)

theorem State.settled_status (s : State) (r : RtkEntry) (id : Nat) : StatusKept s ((s.settleDir r).access id) := (s.settleDir_status r).trans (State.access_status ..)

theorem State.requestSnoops_status (s : State) (qs : List (Head × SnoopOp)) (l id : Nat) :
    StatusKept s (qs.foldl (fun s q => s.snoop q.1 q.2 l (.request id) id) s) := by
  have hsnoop (s : State) (q : Head × SnoopOp) : StatusKept s (s.snoop q.1 q.2 l (.request id) id) := s.snoop_status ..
  exact StatusKept.foldl hsnoop qs s

theorem State.cohere_status (s : State) (id : Nat) : StatusKept s (s.cohere id) := by
  unfold State.cohere
  split
  · exact .refl s
  · next r _ =>
    extract_lets l rebuilt _ qs
    have hrebuilt : StatusKept s rebuilt := s.rebuildDir_status l
    refine hrebuilt.trans ?_
    generalize rebuilt = u
    split
    · exact u.setPhase_status ..
    · refine iteInduction (motive := StatusKept u) (fun _ => u.letThrough_status ..) fun _ => ?_
      refine iteInduction (motive := StatusKept u) (fun _ => u.letThrough_status ..) fun _ => ?_
      split
      · split
        · exact u.settled_status ..
        · split
          · next w _ =>
            extract_lets entered
            have hentered : Directs u entered := rfl
            exact (hentered.status.trans (entered.touchDir_directs l w).status).trans (State.settled_status ..)
          · split
            · exact u.setPhase_status ..
            · next v _ =>
              extract_lets hs em counted
              have hcounted : StatusKept u counted := (u.setBusy_directs v true).status.trans (.of_csr rfl)
              split
              · exact u.setPhase_status ..
              · exact (hcounted.trans (StatusKept.foldl (fun s h => s.snoop_status h _ _ _ _) _ _)).trans (State.setPhase_status ..)
      · next d _ =>
        split
        · exact (u.touchDir_directs l d.way).status.trans (State.settled_status ..)
        · split
          · exact u.setPhase_status ..
          · exact (((u.touchDir_directs l d.way).status.trans (State.keepData_status ..)).trans (State.requestSnoops_status ..)).trans (State.setPhase_status ..)

theorem State.serve_status (s : State) (id : Nat) : StatusKept s (s.serve id) := by
  unfold State.serve
  split
  · exact .refl s
  · split
    · exact s.setPhase_status ..
    · extract_lets off
      split
      · exact (IssuedOnly.foldl (fun s d => s.latchWake_issued d _) off s).caches.status.trans (State.setPhase_status ..)
      · split
        · exact s.setPhase_status ..
        · split
          · exact s.cohere_status id
          · exact s.access_status id

/-! ## Snoops settled, and the fence (R193 to R197) -/

theorem State.resumeCause_status (s : State) (c : SnoopCause) (l : Nat) : StatusKept s (s.resumeCause c l) := by
  unfold State.resumeCause
  split
  · exact .refl s
  · split
    · split
      · split
        · exact ((s.settleDir_status _).trans (State.setPhase_status ..)).trans (State.serve_status ..)
        · exact .refl s
      · exact .refl s
    · extract_lets _ evicted
      have hevicted : Directs s evicted := rfl
      split
      · split
        · exact (hevicted.status.trans (State.setPhase_status ..)).trans (State.serve_status ..)
        · exact hevicted.status
      · exact hevicted.status
    · exact .refl s

theorem State.closeSnoop_status (s : State) (q : Snoop) : StatusKept s (s.closeSnoop q) := by
  unfold State.closeSnoop
  extract_lets _ freed resumed
  have hfreed : Directs s freed := rfl
  refine (hfreed.status.trans (freed.resumeCause_status q.cause q.line)).trans (StatusKept.foldl (fun s j => ?_) _ _)
  split
  · exact .refl s
  · exact (s.unbusy_directs j).status

theorem State.poisonLine_status (s : State) (l : Nat) : StatusKept s (s.poisonLine l) := by
  unfold State.poisonLine
  extract_lets _ cleared
  have hcleared : StatusKept s cleared := (s.touch_caches l).status.trans (.of_csr rfl)
  have hbuffered (v : State) (r : WayRes) (hr : cleared.takeWay l 17 = r) (hv : v = r.state) :
      StatusKept s { v with nc := { v.nc with wbb := v.nc.wbb ++ [⟨l, 0, fullMask, true, false, false, none⟩] } } := by
    have hway : Caches cleared v := hv ▸ State.takeWay_of hr
    exact (hcleared.trans hway.status).trans (.of_csr rfl)
  split
  · exact hcleared.trans (((State.freezeReaders_caches ..).trans (State.setNc_caches ..)).trans (State.endFill_caches ..)).status
  · split
    · next w v hv =>
      have hgot : Caches cleared v := State.takeWay_of hv
      exact hcleared.trans ((hgot.trans (State.setNc_caches ..)).trans (State.touchNc_caches ..)).status
    · next v hv => exact hbuffered v _ hv rfl
    · next v hv => exact hbuffered v _ hv rfl

theorem State.mediaEvent_status (s : State) (l : Nat) (c : Cause) (scrub : Bool) : StatusKept s (s.mediaEvent l c scrub) := by
  unfold State.mediaEvent
  extract_lets hs listed
  have hlisted : StatusKept s listed := .of_csr rfl
  exact hlisted.trans (State.event_status ..)

theorem State.settleLine_status (s : State) (h : Head) (l : Nat) (crossed : Bool) : StatusKept s (s.settleLine h l crossed).2 := by
  unfold State.settleLine
  split
  · exact ((s.poisonLine_status l).trans (State.clearPres_directs _ l h).status).trans (State.mediaEvent_status ..)
  · exact (s.clearPres_directs l h).status

theorem State.settleSnoop_status (s : State) (q : Snoop) : StatusKept s (s.settleSnoop q).2 :=
  StatusKept.foldl_counted (f := fun s l => s.settleLine q.host l (q.crossed.contains l)) (fun s _ => s.settleLine_status ..) q.lines 0 s

theorem State.purge_status (s : State) (h : Head) : StatusKept s (s.purge h).2 :=
  StatusKept.foldl_counted (f := fun s l => s.settleLine h l false) (fun s _ => s.settleLine_status ..) _ 0 s

theorem State.settleAll_status (s : State) (h : Head) : StatusKept s (s.settleAll h).2 :=
  (StatusKept.foldl_counted (f := fun s q => s.settleSnoop q) (fun s q => s.settleSnoop_status q) _ 0 s).trans (StatusKept.foldl (fun s q => s.closeSnoop_status q) _ _)

/-- A head that is fenced stays so. -/
theorem StatusKept.fenced {s t : State} (h : StatusKept s t) {p : Head} (hf : s.fenced p = true) : t.fenced p = true := h.bit _ hf

theorem StatusKept.timedOut {s t : State} (h : StatusKept s t) (hf : s.fb Reg.DIR_STATUS.TMO = true) : t.fb Reg.DIR_STATUS.TMO = true := h.bit _ hf

/-- A fence sets the head's FENCED bit and clears no bit of DIR_STATUS (R194). -/
theorem State.fence_fenced (s : State) (h : Head) (linkDown : Bool) (n : Nat) : StatusKept s (s.fence h linkDown n) ∧ (s.fence h linkDown n).fenced h = true := by
  unfold State.fence
  split
  · next hf => exact ⟨s.settleAll_status h, (s.settleAll_status h).fenced hf⟩
  · extract_lets fenced
    have hbit : StatusKept s fenced := StatusKept.trans (t := s.setBit Reg.DIR_STATUS.FENCED h.val true) (State.setBit_status _ rfl (show 16 + h.val < 32 by omega)) (.of_csr rfl)
    have hset : fenced.fenced h = true := s.fbit_setBit_self Reg.DIR_STATUS.FENCED true (show 16 + h.val < 32 by omega)
    have hrest {t : State} (ht : StatusKept fenced t) : StatusKept s t ∧ t.fenced h = true := ⟨hbit.trans ht, ht.fenced hset⟩
    have hpurged := fenced.purge_status h
    generalize fenced.purge h = x at hpurged ⊢
    obtain ⟨n1, u⟩ := x
    have hsettled := hpurged.trans (u.settleAll_status h)
    dsimp only
    generalize u.settleAll h = x at hsettled ⊢
    obtain ⟨n2, v⟩ := x
    dsimp only
    have hlogged := hsettled.trans ((((State.setF_status v (x := Reg.DIR_TMO_LOG.VALID) 1 (by decide)).trans (State.setF_status _ (x := Reg.DIR_TMO_LOG.LINKDOWN) (if linkDown then 1 else 0) (by decide))).trans
      (State.setF_status _ (x := Reg.DIR_TMO_LOG.HEAD) h.val (by decide))).trans (State.setF_status _ (x := Reg.DIR_TMO_LOG.EM_LINES) (min (n + n1 + n2) (2 ^ 24 - 1)) (by decide)))
    exact hrest ((hlogged.trans (State.event_status ..)).trans (.of_word (State.pannier_word (by decide) ..)))

/-- A snoop that expires leaves its host fenced and TMO set, and no stored byte changes (R193, R194). -/
theorem State.expire_facts (s : State) (q : Snoop) : (s.expire q).fenced q.host = true ∧ (s.expire q).fb Reg.DIR_STATUS.TMO = true ∧ (s.expire q).mem = s.mem := by
  have hsettled : DownKept q.host s (s.settleSnoop q).2 := s.settleSnoop_downKept q
  unfold State.expire
  generalize s.settleSnoop q = x at hsettled ⊢
  obtain ⟨n, u⟩ := x
  dsimp only at hsettled ⊢
  have hflag : (u.flag Reg.DIR_STATUS.TMO).fb Reg.DIR_STATUS.TMO = true := u.fb_flag_self _ (by decide) (by decide)
  have hcount : ((u.flag Reg.DIR_STATUS.TMO).count 4 (32 + q.host.val) 1 (some q.host.val)).fb Reg.DIR_STATUS.TMO = true := hflag
  have hmarked := hsettled.trans ((u.flag_downKept Reg.DIR_STATUS.TMO).trans (State.count_downKept _ 4 (32 + q.host.val) 1 (some q.host.val)))
  generalize (u.flag Reg.DIR_STATUS.TMO).count 4 (32 + q.host.val) 1 (some q.host.val) = v at hcount hmarked ⊢
  obtain ⟨hkept, hfenced⟩ := (v.closeSnoop q).fence_fenced q.host false n
  have hdown := (hmarked.trans (v.closeSnoop_downKept q)).trans (State.fence_downKept _ q.host false n)
  exact ⟨hfenced, hkept.timedOut ((v.closeSnoop_status q).timedOut hcount), congrArg (·.1) hdown.anchor⟩

end Sys2Proof.Machine
end

section
/-! PROOFS. What resumes a request that waits, and a read so served (R44 to R46, R182, R189). -/

namespace Sys2Proof.Machine

/-! ## Resumes (R44, R45, R46, R182, R189) -/

theorem State.entry_id {s : State} {id : Nat} {r : RtkEntry} (hr : s.entry id = some r) : r.id = id := by
  simpa using List.find?_some hr

section
variable {s : State} {id : Nat} {r : RtkEntry} (hr : s.entry id = some r)
include hr

/-- The first open request of its line is served where it waits behind an earlier one (R46). -/
theorem State.exec_waitingRequest {line : BitVec 40} (hfirst : (s.rtk.find? fun r => r.line == line.toNat && r.isOpen) = some r) (hphase : r.phase = .line) :
    exec (.waitingRequestServed line) s = .next (s.serve id) := by
  show execWaitingRequestServed line s = _
  simp [execWaitingRequestServed, hfirst, hphase, State.entry_id hr]

/-- A request that waits for a way is served once one is free (R45). -/
theorem State.exec_wayFreed (hphase : r.phase = .way) (hfree : s.wayFree r.line = true) : exec (.wayFreedResume id) s = .next (s.serve id) := by
  show execWayFreedResume id s = _
  simp [execWayFreedResume, hr, hphase, hfree]

theorem State.exec_wayFreed_other (hphase : r.phase ≠ .way) : exec (.wayFreedResume id) s = .next s := by
  show execWayFreedResume id s = _
  simp [execWayFreedResume, hr, hphase]

/-- A request that waits for the write-back buffer is served once the buffer has room (R44). -/
theorem State.exec_writeBackBuffer (hphase : r.phase = .wbb) (hroom : s.wbbUsed (slice r.line) < 64) : exec (.writeBackBufferResume id) s = .next (s.serve id) := by
  show execWriteBackBufferResume id s = _
  simp [execWriteBackBufferResume, hr, hphase, hroom]

theorem State.exec_writeBackBuffer_full (hfull : 64 ≤ s.wbbUsed (slice r.line)) : exec (.writeBackBufferResume id) s = .next s := by
  show execWriteBackBufferResume id s = _
  simp [execWriteBackBufferResume, hr, hfull]

/-- A request that waits for a snoop slot is served once one is free (R182). -/
theorem State.exec_snoopSlot (hphase : r.phase = .slot) (hfree : 0 < s.slotsFree r.line) : exec (.snoopSlotResume id) s = .next (s.serve id) := by
  show execSnoopSlotResume id s = _
  simp [execSnoopSlotResume, hr, hphase, hfree]

/-- A request that waits on its directory set is served in its place, once what was evicted for it is gone (R189). -/
theorem State.exec_directorySet (hphase : r.phase = .dirSet) (hahead : s.dirSetAhead r = false) (hdone : s.causeDone (.evict id) = true) :
    exec (.directorySetResume id) s = .next (s.serve id) := by
  show execDirectorySetResume id s = _
  simp [execDirectorySetResume, hr, hphase, hahead, hdone]

theorem State.exec_directorySet_ahead (hahead : s.dirSetAhead r = true) : exec (.directorySetResume id) s = .next s := by
  show execDirectorySetResume id s = _
  simp [execDirectorySetResume, hr, hahead]

end

/-! ## A read whose line the near cache holds whole (R37, R48, R55) -/

/-- The read `r` stands in RTK, the near cache holds its line whole as `n`, and its port can take the answer. -/
structure Readable (s : State) (r : RtkEntry) (n : NcLine) : Prop where
  entry : s.entry r.id = some r
  op : ∃ v, r.op = .rd v
  lost : s.setLost r.line = false
  look : s.nc.lines.look r.line = some n
  whole : n.filling = false
  good : n.poison = false
  kept : r.kept = none
  synthetic : r.synthetic = false
  port : Answerable s r.head

/-- What is open before the read `r` and its slices let it go on. -/
structure Unblocked (s : State) (r : RtkEntry) : Prop where
  blocked : s.blocked r = false
  on : ∀ d ∈ lineDomains r.line r.db, s.domOn d = true
  rebuild : s.xlt.rebuilds.contains (extOf r.line / 64) = false

theorem Servable.readable {s : State} {r : RtkEntry} {n : NcLine} {v : MetaVal} (h : Servable s r n) (hop : r.op = .rd v) : Readable s r n ∧ Unblocked s r := by
  obtain ⟨hentry, hblocked, hon, hreb, hlost, hlook, hwhole, hgood, hkept, hsyn, -, -, hready, hroom, hdrs, hndr, hloop⟩ := h
  exact ⟨⟨hentry, ⟨v, hop⟩, hlost, hlook, hwhole, hgood, hkept, hsyn, ⟨hready, hroom, hndr, hdrs, hloop⟩⟩, ⟨hblocked, hon, hreb⟩⟩

theorem State.entry_updEntry {s : State} {r : RtkEntry} (hr : s.entry r.id = some r) {g : RtkEntry → RtkEntry} (hg : ∀ x, (g x).id = x.id) : (s.updEntry r.id g).entry r.id = some (g r) := by
  have hfind := find?_updWhere (p := fun x : RtkEntry => x.id == r.id) (g := g) (fun x hx => by rw [hg]; exact hx) s.rtk
  have hr : s.rtk.find? (fun x => x.id == r.id) = some r := hr
  rw [hr] at hfind
  exact hfind

/-- An entry whose answer is sent is gone, and no stored byte and no entry of the directory has changed (R48, R55). -/
theorem State.respond_data {s : State} {r : RtkEntry} (hr : s.entry r.id = some r) (hread : r.op.isRead = true) (hspec : r.op ≠ .specRd) (hsyn : r.synthetic = false) (ha : Answerable s r.head) :
    Msg.data r.head r.tag (r.kept.getD LineVal.zero) r.grant (s.devloadOf r.head) ∈ (s.respond r.id).out ∧ (s.respond r.id).entry r.id = none ∧
      (s.respond r.id).mem = s.mem ∧ (s.respond r.id).dir = s.dir := by
  have hm : s.maySend r = true := by simp [State.maySend, ha.ready, ha.room, ha.ndr, ha.drs]
  obtain ⟨hframe, hout, -⟩ := s.sendResponse_sent r
  obtain ⟨⟨hclose, hprefix, -⟩, hgone⟩ := (s.sendResponse r).closeEntry_answers r
  rw [State.respond_eq hr hsyn hm]
  have hsent : (s.sendResponse r).mem = s.mem ∧ (s.sendResponse r).dir = s.dir := by
    have hp := congrArg (fun x : State => (x.mem, x.dir)) hframe
    simpa only [Prod.mk.injEq] using hp
  have hclosed : ((s.sendResponse r).closeEntry r).mem = (s.sendResponse r).mem ∧ ((s.sendResponse r).closeEntry r).dir = (s.sendResponse r).dir := by
    have hp := congrArg (fun x : State => (x.mem, x.dir)) hclose
    simpa only [Prod.mk.injEq] using hp
  refine ⟨hprefix.subset ?_, hgone, hclosed.1.trans hsent.1, hclosed.2.trans hsent.2⟩
  rw [hout]
  exact List.mem_append_right _ (RtkEntry.answers_data hread hspec _)

/-- A read whose line the near cache holds whole is answered with that data, and its entry is free (R37, R48, R55). -/
theorem Readable.access {s : State} {r : RtkEntry} {n : NcLine} (h : Readable s r n) :
    Msg.data r.head r.tag ⟨n.data, false⟩ r.grant (s.devloadOf r.head) ∈ (s.access r.id).out ∧ (s.access r.id).entry r.id = none ∧
      (s.access r.id).mem = s.mem ∧ (s.access r.id).dir = s.dir := by
  obtain ⟨v, hop⟩ := h.op
  have hhit : HitOnly s ((s.touchNc r.line n.way).ncHit r.line) := (s.touchNc_hit ..).trans (State.ncHit_hit ..)
  have haccess : s.access r.id = ((s.touchNc r.line n.way).ncHit r.line).reply r.id ⟨n.data, false⟩ := by
    have hread : s.access r.id = s.accessRead r := by simp only [State.access, h.entry, hop]
    rw [hread]
    simp only [State.accessRead, h.kept, h.lost, h.look, h.whole, h.good, State.answer, Bool.false_eq_true, if_false]
  obtain ⟨hrtk, hports, hcsr, -, -, -, hmem, hdir, -⟩ := hhit.parts
  generalize (s.touchNc r.line n.way).ncHit r.line = t at haccess hrtk hports hcsr hmem hdir
  have htr : t.entry r.id = some r := by rw [State.entry, hrtk]; exact h.entry
  have hkept := State.entry_updEntry htr (g := fun r => { r with kept := some ⟨n.data, false⟩ }) fun _ => rfl
  have hready : Ready s r.head t := (⟨h.port, rfl⟩ : Ready s r.head s).congr hports hcsr
  obtain ⟨hans, hdl⟩ := hready.congr (u := t.updEntry r.id fun r => { r with kept := some ⟨n.data, false⟩ }) rfl rfl
  obtain ⟨hout, hgone, rmem, rdir⟩ := State.respond_data (r := { r with kept := some ⟨n.data, false⟩ }) hkept (by rw [hop]; rfl) (by rw [hop]; exact nofun) h.synthetic hans
  rw [hdl] at hout
  rw [haccess]
  exact ⟨hout, hgone, rmem.trans hmem, rdir.trans hdir⟩

/-- A read that has been granted a state stands ready as before. -/
theorem Readable.granted {s : State} {r : RtkEntry} {n : NcLine} (h : Readable s r n) (D : Dir) (g : Grant) :
    Readable (s.granted r.id D g) { r with grant := g, coherent := true } n := by
  have hentry := State.entry_updEntry (s := { s with dir := D }) h.entry (g := fun r => { r with grant := g, coherent := true }) fun _ => rfl
  have hready : Ready s r.head (s.granted r.id D g) := (⟨h.port, rfl⟩ : Ready s r.head s).congr rfl rfl
  exact ⟨hentry, h.op, h.lost, h.look, h.whole, h.good, h.kept, h.synthetic, hready.answers⟩

/-! ## A waiting read served (R44 to R46, R177, R182, R189) -/

section
variable {s : State} {r : RtkEntry} {n : NcLine} (h : Readable s r n) (hu : Unblocked s r)
include h hu

/-- A read whose coherence is settled, or that needs none, makes its access (R46). -/
theorem Readable.serve_settled (hcoh : r.db = false ∨ r.coherent = true) : s.serve r.id = s.access r.id := by
  have hoff : ((lineDomains r.line r.db).filter fun d => !s.domOn d && !(s.dom d).failed) = [] := List.filter_eq_nil_iff.2 fun d hd => by simp [hu.on d hd]
  have hgo : (r.db && !r.coherent) = false := by
    rcases hcoh with h | h <;> simp [h]
  simp only [State.serve, h.entry, hu.blocked, hoff, hu.rebuild, hgo, List.isEmpty_nil, Bool.not_true, Bool.false_eq_true, if_false]

theorem Readable.served (hcoh : r.db = false ∨ r.coherent = true) : ReadServed s r n (s.serve r.id) := by
  rw [h.serve_settled hu hcoh]
  obtain ⟨hout, hgone, hmem, -⟩ := h.access
  exact ⟨⟨_, hout⟩, hgone, hmem⟩

/-- A read that is granted ownership is answered with its line's data, and leaves its host the owner (R177). -/
theorem Readable.served_owner (hdb : r.db = true) (hcoh : r.coherent = false) {D : Dir} {d : DirEntry} (hD : D.entries.look r.line = some d) (hpres : d.pres = presBit r.head) (hem : d.state = .em)
    (hgrant : s.cohere r.id = (s.granted r.id D .e).access r.id) : ReadServed s r n (s.serve r.id) ∧ (s.serve r.id).holdsEm r.line r.head = true := by
  rw [State.serve_db h.entry hu.blocked hu.on hu.rebuild hdb hcoh, hgrant]
  have hg := h.granted D .e
  obtain ⟨hout, hgone, hmem, hdir⟩ := hg.access
  have hdl := ((⟨h.port, rfl⟩ : Ready s r.head s).congr (u := s.granted r.id D .e) rfl rfl).devload
  refine ⟨⟨⟨.e, ?_⟩, hgone, hmem⟩, ?_⟩
  · exact hdl ▸ hout
  · have hlook : ((s.granted r.id D .e).access r.id).dir.entries.look r.line = some d := by
      have hdir : ((s.granted r.id D .e).access r.id).dir = D := hdir
      rw [hdir]
      exact hD
    simp [State.holdsEm_of_look hlook, hpres, hem, presBit_getLsbD]

end

end Sys2Proof.Machine
end

section
/-! PROOFS. Snoop answers: what they settle in the directory, violations, and conflicts (R181, R182, R186, R187, R193, R199). -/

namespace Sys2Proof.Machine

/-! ## Presence as answers settle it (R180, R181) -/

/-- From `s` to `t` the directory alone has changed, and of it no snoop. -/
structure Presence (s t : State) : Prop where
  frame : Directs s t
  snoops : t.dir.snoops = s.dir.snoops

theorem Presence.refl (s : State) : Presence s s := ⟨rfl, rfl⟩

theorem Directs.trans {s t u : State} (h1 : Directs s t) (h2 : Directs t u) : Directs s u := by
  have h := congrArg (fun x : State => { x with dir := s.dir }) h2
  exact Eq.trans h h1

theorem Presence.trans {s t u : State} (h1 : Presence s t) (h2 : Presence t u) : Presence s u := ⟨h1.frame.trans h2.frame, h2.snoops.trans h1.snoops⟩

theorem Presence.foldl {α : Type} {f : State → α → State} (hf : ∀ s a, Presence s (f s a)) (as : List α) (s : State) : Presence s (as.foldl f s) := by
  induction as generalizing s with
  | nil => exact .refl s
  | cons a as ih => exact (hf s a).trans (ih _)

theorem Directs.parts {s t : State} (h : Directs s t) : t.mem = s.mem ∧ t.nc = s.nc ∧ t.rtk = s.rtk := by
  have hp := congrArg (fun x : State => (x.mem, x.nc, x.rtk)) h
  simpa only [Prod.mk.injEq] using hp

theorem State.setDir_snoops (s : State) (l : Nat) (p : BitVec 8) (st : DirState) : (s.setDir l p st).dir.snoops = s.dir.snoops := by
  unfold State.setDir
  split <;> rfl

theorem State.clearPres_presence (s : State) (l : Nat) (h : Head) : Presence s (s.clearPres l h) := by
  refine ⟨s.clearPres_directs l h, ?_⟩
  unfold State.clearPres
  split
  · rfl
  · split
    · exact s.setDir_snoops ..
    · rfl

theorem State.unbusy_presence (s : State) (l : Nat) : Presence s (s.unbusy l) := by
  refine ⟨s.unbusy_directs l, ?_⟩
  unfold State.unbusy
  split <;> rfl

theorem State.look_setDir_ne (s : State) {l k : Nat} (p : BitVec 8) (st : DirState) (hk : k ≠ l) : (s.setDir l p st).dir.entries.look k = s.dir.entries.look k := by
  unfold State.setDir
  split
  · rfl
  · dsimp only
    split
    · exact (Tbl.look_del ..).trans (if_neg hk)
    · exact Tbl.look_put_ne _ _ hk

/-- An entry whose presence is set shows that presence and no other state; one with none may be gone. -/
theorem State.look_setDir_self (s : State) (l : Nat) (p : BitVec 8) (st : DirState) {d : DirEntry} (hd : (s.setDir l p st).dir.entries.look l = some d) : d.pres = p ∧ d.state = st := by
  unfold State.setDir at hd
  split at hd
  · next hnone => simp [hnone] at hd
  · dsimp only at hd
    split at hd
    · simp at hd
    · rw [Tbl.look_put_self] at hd
      cases hd
      exact ⟨rfl, rfl⟩

theorem State.holds_eq_false {s : State} {l : Nat} {h : Head} : s.holds l h = false ↔ ∀ d, s.dir.entries.look l = some d → d.pres.getLsbD h.val = false := by
  unfold State.holds
  cases s.dir.entries.look l <;> simp

theorem presBit_clears (p : BitVec 8) (h : Head) : (p &&& ~~~presBit h).getLsbD h.val = false := by
  simp [presBit_getLsbD]

/-- A host whose presence is cleared holds the line no more, and one that held none of a line still does not (R181). -/
theorem State.clearPres_holds (s : State) (l : Nat) (h : Head) : (s.clearPres l h).holds l h = false ∧ ∀ k, s.holds k h = false → (s.clearPres l h).holds k h = false := by
  have hself : (s.clearPres l h).holds l h = false := by
    rw [State.holds_eq_false]
    intro d hd
    unfold State.clearPres at hd
    split at hd
    · next hnone => simp [hnone] at hd
    · next e he =>
      split at hd
      · rw [(s.look_setDir_self l _ _ hd).1]
        exact presBit_clears ..
      · next hbit =>
        rw [he] at hd
        cases hd
        simpa using hbit
  refine ⟨hself, fun k hk => ?_⟩
  by_cases hl : k = l
  · exact hl ▸ hself
  · unfold State.clearPres
    split
    · exact hk
    · split
      · rw [State.holds, s.look_setDir_ne _ _ hl]
        exact hk
      · exact hk

/-- A host cleared from lines in turn holds none of them. -/
theorem State.clearAll_holds (h : Head) (ls : List Nat) (s : State) :
    (∀ j ∈ ls, (ls.foldl (fun s j => s.clearPres j h) s).holds j h = false) ∧ ∀ k, s.holds k h = false → (ls.foldl (fun s j => s.clearPres j h) s).holds k h = false := by
  induction ls generalizing s with
  | nil => exact ⟨fun _ hj => absurd hj List.not_mem_nil, fun _ hk => hk⟩
  | cons l ls ih =>
    obtain ⟨hcleared, hkept⟩ := s.clearPres_holds l h
    obtain ⟨hrest, hrestKept⟩ := ih (s.clearPres l h)
    refine ⟨fun j hj => ?_, fun k hk => hrestKept k (hkept k hk)⟩
    rcases List.mem_cons.1 hj with rfl | hj
    · exact hrestKept j hcleared
    · exact hrest j hj

/-- An entry that is BUSY no more shows the presence and the state that it showed (R180). -/
theorem State.unbusy_holds (s : State) (j l : Nat) (h : Head) : (s.unbusy j).holds l h = s.holds l h ∧ (s.unbusy j).holdsEm l h = s.holdsEm l h := by
  unfold State.unbusy
  split
  · exact ⟨rfl, rfl⟩
  · next d hd =>
    by_cases hl : l = j
    · subst hl
      unfold State.holds State.holdsEm
      dsimp only
      rw [hd]
      split
      · next hp => simp [hp]
      · simp
    · unfold State.holds State.holdsEm
      dsimp only
      split
      · simp [Tbl.look_del, hl]
      · simp [Tbl.look_put, hl]

/-! ## A snoop that closes (R182) -/

/-- What a step of CMD or of the Guard asked for goes on by itself. -/
def SnoopCause.standing (c : SnoopCause) : Prop := c = .command ∨ c = .fault

theorem State.resumeCause_standing (s : State) {c : SnoopCause} (hc : c.standing) (l : Nat) : s.resumeCause c l = s := by
  unfold State.resumeCause
  rcases hc with rfl | rfl <;> split <;> rfl

/-- A snoop that closes leaves its slot, and what the directory shows of every line is as it was. -/
structure Closed (s : State) (q : Snoop) (t : State) : Prop where
  frame : Directs s t
  gone : q.id ∉ t.dir.snoops.map (·.id)
  holds : ∀ l h, t.holds l h = s.holds l h
  holdsEm : ∀ l h, t.holdsEm l h = s.holdsEm l h

theorem State.closeSnoop_standing (s : State) {q : Snoop} (hc : q.cause.standing) : Closed s q (s.closeSnoop q) := by
  have hstep (t : State) (j : Nat) :
      Presence t (if t.dir.snoops.any fun x => x.lines.contains j then t else t.unbusy j) ∧
        ∀ l h, (if t.dir.snoops.any fun x => x.lines.contains j then t else t.unbusy j).holds l h = t.holds l h ∧
          (if t.dir.snoops.any fun x => x.lines.contains j then t else t.unbusy j).holdsEm l h = t.holdsEm l h := by
    split
    · exact ⟨.refl t, fun _ _ => ⟨rfl, rfl⟩⟩
    · exact ⟨t.unbusy_presence j, t.unbusy_holds j⟩
  have hcovers (js : List Nat) (t : State) :
      Presence t (js.foldl (fun s j => if s.dir.snoops.any fun x => x.lines.contains j then s else s.unbusy j) t) ∧
        ∀ l h, (js.foldl (fun s j => if s.dir.snoops.any fun x => x.lines.contains j then s else s.unbusy j) t).holds l h = t.holds l h ∧
          (js.foldl (fun s j => if s.dir.snoops.any fun x => x.lines.contains j then s else s.unbusy j) t).holdsEm l h = t.holdsEm l h := by
    induction js generalizing t with
    | nil => exact ⟨.refl t, fun _ _ => ⟨rfl, rfl⟩⟩
    | cons j js ih =>
      obtain ⟨hp, hh⟩ := hstep t j
      obtain ⟨hps, hhs⟩ := ih (if t.dir.snoops.any fun x => x.lines.contains j then t else t.unbusy j)
      exact ⟨hp.trans hps, fun l h => ⟨(hhs l h).1.trans (hh l h).1, (hhs l h).2.trans (hh l h).2⟩⟩
  unfold State.closeSnoop
  dsimp only
  rw [State.resumeCause_standing _ hc]
  obtain ⟨hp, hh⟩ := hcovers q.covers { s with dir := { s.dir with snoops := s.dir.snoops.filter (·.id != q.id) } }
  have hfreed : Directs s { s with dir := { s.dir with snoops := s.dir.snoops.filter (·.id != q.id) } } := rfl
  refine ⟨hfreed.trans hp.frame, ?_, fun l h => (hh l h).1, fun l h => (hh l h).2⟩
  rw [hp.snoops]
  simp

/-- With the answer for its one line a snoop closes (R182). -/
theorem State.lineAnswered_last (s : State) {q : Snoop} {l : Nat} (hl : q.lines = [l]) : s.lineAnswered q l = s.closeSnoop q := by
  simp [State.lineAnswered, hl]

/-- The directory as a host keeps a line in S (R181). -/
def State.keepsS (s : State) (l : Nat) (h : Head) : State :=
  match s.dir.entries.look l with
  | none => s
  | some d => if d.pres.getLsbD h.val then s.setDir l d.pres .s else s

theorem State.answeredS_eq (s : State) (q : Snoop) (l : Nat) : s.answeredS q l = (s.keepsS l q.host).lineAnswered q l := rfl

/-- A host that keeps a line in S holds it as it did, and not in E/M (R181). -/
theorem State.keepsS_facts (s : State) (l : Nat) (h : Head) : Directs s (s.keepsS l h) ∧ (s.keepsS l h).holds l h = s.holds l h ∧ (s.keepsS l h).holdsEm l h = false := by
  unfold State.keepsS
  split
  · next hnone => exact ⟨rfl, rfl, by simp [State.holdsEm, hnone]⟩
  · next d hd =>
    split
    · next hbit =>
      have hp : d.pres ≠ 0 := by
        intro h0
        simp [h0] at hbit
      rw [State.setDir_present hd hp]
      refine ⟨rfl, ?_, ?_⟩
      · simp [State.holds, hd]
      · simp [State.holdsEm]
    · next hbit => exact ⟨rfl, rfl, by rw [State.holdsEm_of_look hd, Bool.eq_false_of_not_eq_true hbit, Bool.false_and]⟩

/-! ## Answers (R181, R182, R199) -/

section
variable {s : State} {h : Head} {l : Nat} (hactive : (s.port h).active = true) (hfenced : s.fenced h = false)
include hactive hfenced

/-- An answer to a snoop is counted and handled (R199). -/
theorem State.birsp_answer {find : Option Snoop} {q : Snoop} (hq : find = some q) (g : State → Snoop → State) : s.birsp h l find g = g (s.count 2 47 1 (some h.val)) q := by
  have hcounted : (s.count 2 47 1 (some h.val)).fenced h = false := hfenced
  simp only [State.birsp, hactive, hcounted, hq, Bool.not_true, Bool.false_eq_true, if_false]

/-- An answer to no snoop is counted as a violation (R199). -/
theorem State.birsp_violation {find : Option Snoop} (hq : find = none) (g : State → Snoop → State) : s.birsp h l find g = (s.count 2 47 1 (some h.val)).violation h l := by
  have hcounted : (s.count 2 47 1 (some h.val)).fenced h = false := hfenced
  simp only [State.birsp, hactive, hcounted, hq, Bool.not_true, Bool.false_eq_true, if_false]

end

theorem State.snoopTo_host {s : State} {h : Head} {l : Nat} {q : Snoop} (hq : s.snoopTo h l = some q) : q.host = h := by
  have hf := List.find?_some hq
  simp only [Bool.and_eq_true, beq_iff_eq] at hf
  exact hf.1

/-- A violation sets VIOL and changes no data, no directory entry and no request (R199). -/
theorem State.violation_facts (s : State) (h : Head) (l : Nat) :
    (s.violation h l).fb Reg.DIR_STATUS.VIOL = true ∧ (s.violation h l).dir = s.dir ∧ (s.violation h l).mem = s.mem ∧ (s.violation h l).nc = s.nc ∧ (s.violation h l).rtk = s.rtk := by
  have hviol : (s.violation h l).fb Reg.DIR_STATUS.VIOL = true := by
    obtain ⟨-, hcsr, -⟩ := ((s.countPort 1 h 7).flag Reg.DIR_STATUS.VIOL).eventPerSecond_noted h 1 .informational .violation (64 * l) (some (slice l))
    exact (State.fb_congr hcsr _).trans (State.fb_flag_self _ _ (by decide) (by decide))
  have hparts := congrArg (fun x : State => (x.dir, x.mem, x.nc, x.rtk)) (s.violation_slips h l).noted.1
  simp only [Prod.mk.injEq] at hparts
  exact ⟨hviol, hparts⟩

/-! ## Conflicts (R54, R64, R186, R187) -/

/-- A BIConflict taken: its credit is spent, and it is counted. -/
def State.conflictTaken (s : State) (h : Head) : State := ((s.updPort h fun p => p.spend .req).countPort 1 h 4).count 2 47 1 (some h.val)

/-- With no request ordered before the snoop's place a BIConflict is acknowledged at once (R186, R187). -/
theorem State.biConflict_acks {s : State} {h : Head} {line : BitVec 40} (hactive : (s.port h).active = true) (hfenced : s.fenced h = false) (hreq : (s.port h).reqHost ≠ 0)
    (hplace : ∀ q, s.snoopTo h line.toNat = some q → ∀ r ∈ s.rtk, r.head = h → r.line = line.toNat → q.place ≤ r.id) (tag : BitVec 16) :
    exec (.biConflict h line tag) s = .next ((s.conflictTaken h).ackConflict h tag) := by
  have htaken : (s.conflictTaken h).fenced h = false := hfenced
  have hto : (s.conflictTaken h).snoopTo h line.toNat = s.snoopTo h line.toNat := rfl
  show execBiConflict h line tag s = _
  have hexec : execBiConflict h line tag s =
      match s.snoopTo h line.toNat with
      | none => .next ((s.conflictTaken h).ackConflict h tag)
      | some q =>
        match s.rtk.find? fun r => r.head == h && r.line == line.toNat && !r.crossing && decide (r.id < q.place) with
        | none => .next ((s.conflictTaken h).ackConflict h tag)
        | some r => .next ((s.conflictTaken h).updEntry r.id fun r => { r with conflicts := r.conflicts ++ [tag] }) := by
    unfold execBiConflict
    simp only [hactive, hreq, Bool.not_true, Bool.false_eq_true, if_false]
    rw [← State.conflictTaken, htaken]
    rfl
  rw [hexec]
  cases hq : s.snoopTo h line.toNat with
  | none => rfl
  | some q =>
    have hnone : (s.rtk.find? fun r => r.head == h && r.line == line.toNat && !r.crossing && decide (r.id < q.place)) = none := by
      refine List.find?_eq_none.2 fun r hr => ?_
      have hle := hplace q hq r hr
      simp only [Bool.and_eq_true, beq_iff_eq, decide_eq_true_eq, not_and, Nat.not_lt]
      exact fun ⟨⟨hh, hl⟩, _⟩ => hle hh hl
    simp only [hnone]

/-- An acknowledgement goes with the head's DevLoad, and the request credit returns (R54, R64, R187). -/
theorem State.ackConflict_facts {s : State} {h : Head} (hndr : (s.port h).ndr ≠ 0) (hroom : (s.port h).txRoom = true) (tag : BitVec 16) :
    let t := (s.conflictTaken h).ackConflict h tag
    t.out = s.out ++ [.biConflictAck h tag (s.devloadOf h)] ∧ (t.port h).reqHost = (s.port h).reqHost - 1 ∧ (t.port h).freedReq = (s.port h).freedReq + 1 ∧
      { t with ports := s.ports, out := s.out, pmu := s.pmu } = s := by
  have hport : (s.conflictTaken h).port h = (s.port h).spend .req := s.port_updPort_self h fun p => p.spend .req
  have htaken : Sent s [] (s.conflictTaken h) := ((Sent.updPort s h (g := fun p => p.spend .req) ⟨rfl, rfl⟩).count ..).count ..
  have hdl : (s.conflictTaken h).devloadOf h = s.devloadOf h := by
    have hloop : (s.conflictTaken h).portLoop h = s.portLoop h := rfl
    rw [State.devloadOf, State.devloadOf, hport, hloop]
    rfl
  have hack : (s.conflictTaken h).ackConflict h tag =
      (((((s.conflictTaken h).updPort h fun p => { p with ndr := p.ndr - 1 }).emit h (.biConflictAck h tag (s.devloadOf h))).count 2 47 1 (some h.val)).freeCredit h .req) := by
    have hgo : ¬(((s.conflictTaken h).port h).ndr = 0 || !((s.conflictTaken h).port h).txRoom) = true := by
      rw [hport]
      have hroom : ((s.port h).spend .req).txRoom = true := hroom
      have hndr : ((s.port h).spend .req).ndr ≠ 0 := hndr
      simp [hroom, hndr]
    rw [← hdl]
    exact if_neg hgo
  generalize hu : s.conflictTaken h = u at hport htaken hack ⊢
  have hsent : Sent s [.biConflictAck h tag (s.devloadOf h)] (u.ackConflict h tag) := by
    rw [hack]
    have hspent : Sent u [] (u.updPort h fun p => { p with ndr := p.ndr - 1 }) := Sent.updPort u h ⟨rfl, rfl⟩
    exact (htaken.trans (hspent.trans ((Sent.emit ..).count ..))).trans (State.freeCredit_sent ..)
  obtain ⟨hframe, hout, -⟩ := hsent
  have hcredit : ((u.ackConflict h tag).port h).reqHost = (u.port h).reqHost ∧ ((u.ackConflict h tag).port h).freedReq = (u.port h).freedReq + 1 := by
    rw [hack, State.freeCredit, State.port_updPort_self, State.port_count, State.emit, State.port_countPort, State.port_send, State.port_updPort_self, State.port_updPort_self]
    exact ⟨rfl, rfl⟩
  rw [hport] at hcredit
  exact ⟨hout, hcredit.1, hcredit.2, hframe⟩

end Sys2Proof.Machine
end

section
/-! PROOFS. Snoop answers and what resumes a waiting request, put together (R44 to R46, R181, R182, R186, R189, R193, R194, R199). -/

namespace Sys2Proof.Machine

/-! ## Answers to a snoop -/

section
variable {s : State} {h : Head} {line : BitVec 40} (hactive : (s.port h).active = true) (hfenced : s.fenced h = false) {q : Snoop} (hq : s.snoopTo h line.toNat = some q)
include hactive hfenced hq

theorem State.exec_birspI : exec (.birspI h line) s = .next (((s.count 2 47 1 (some h.val)).clearPres line.toNat q.host).lineAnswered q line.toNat) :=
  congrArg Host.Outcome.next (State.birsp_answer hactive hfenced hq _)

theorem State.exec_birspE (hop : q.op = .cur) : exec (.birspE h line) s = .next ((s.count 2 47 1 (some h.val)).lineAnswered q line.toNat) := by
  refine congrArg Host.Outcome.next ((State.birsp_answer hactive hfenced hq _).trans ?_)
  rw [hop]

theorem State.exec_birspS (hop : q.op = .cur ∨ q.op = .data) : exec (.birspS h line) s = .next ((s.count 2 47 1 (some h.val)).answeredS q line.toNat) := by
  refine congrArg Host.Outcome.next ((State.birsp_answer hactive hfenced hq _).trans ?_)
  rcases hop with hop | hop <;> rw [hop]

section
variable (hone : q.lines = [line.toNat]) (hcause : q.cause.standing)
include hone hcause

/-- BIRspI to a snoop of one line leaves the host with no copy, and the snoop closes (R181, R182). -/
theorem State.gives_birspI : Gives (.birspI h line) s fun t =>
    t.holds line.toNat h = false ∧ q.id ∉ t.dir.snoops.map (·.id) ∧ t.mem = s.mem ∧ t.nc = s.nc ∧ t.rtk = s.rtk := by
  have hhost := State.snoopTo_host hq
  obtain ⟨hcleared, -⟩ := (s.count 2 47 1 (some h.val)).clearPres_holds line.toNat q.host
  have hpres := (s.count 2 47 1 (some h.val)).clearPres_directs line.toNat q.host
  refine ⟨_, State.exec_birspI hactive hfenced hq, ?_⟩
  generalize (s.count 2 47 1 (some h.val)).clearPres line.toNat q.host = u at hcleared hpres ⊢
  rw [State.lineAnswered_last _ hone]
  obtain ⟨hframe, hgone, hholds, -⟩ := u.closeSnoop_standing hcause
  obtain ⟨hmem, hnc, hrtk⟩ := (hpres.trans hframe).parts
  exact ⟨(hholds _ _).trans (hhost ▸ hcleared), hgone, hmem, hnc, hrtk⟩

/-- BIRspS leaves the line in S (R181). -/
theorem State.gives_birspS (hop : q.op = .cur ∨ q.op = .data) : Gives (.birspS h line) s fun t =>
    t.holds line.toNat h = s.holds line.toNat h ∧ t.holdsEm line.toNat h = false ∧ q.id ∉ t.dir.snoops.map (·.id) ∧ t.mem = s.mem ∧ t.nc = s.nc := by
  have hhost := State.snoopTo_host hq
  obtain ⟨hkeeps, hkept, hem⟩ := (s.count 2 47 1 (some h.val)).keepsS_facts line.toNat q.host
  refine ⟨_, State.exec_birspS hactive hfenced hq hop, ?_⟩
  rw [State.answeredS_eq]
  generalize (s.count 2 47 1 (some h.val)).keepsS line.toNat q.host = u at hkeeps hkept hem ⊢
  rw [State.lineAnswered_last _ hone]
  obtain ⟨hframe, hgone, hholds, hholdsEm⟩ := u.closeSnoop_standing hcause
  obtain ⟨hmem, hnc, -⟩ := (hkeeps.trans hframe).parts
  rw [hhost] at hkept hem
  exact ⟨(hholds _ _).trans hkept, (hholdsEm _ _).trans hem, hgone, hmem, hnc⟩

/-- BIRspE to BISnpCur leaves the line's state (R181). -/
theorem State.gives_birspE (hop : q.op = .cur) : Gives (.birspE h line) s fun t =>
    t.holdsEm line.toNat h = s.holdsEm line.toNat h ∧ q.id ∉ t.dir.snoops.map (·.id) ∧ t.mem = s.mem ∧ t.nc = s.nc := by
  refine ⟨_, State.exec_birspE hactive hfenced hq hop, ?_⟩
  rw [State.lineAnswered_last _ hone]
  obtain ⟨hframe, hgone, -, hholdsEm⟩ := (s.count 2 47 1 (some h.val)).closeSnoop_standing hcause
  obtain ⟨hmem, hnc, -⟩ := hframe.parts
  exact ⟨hholdsEm _ _, hgone, hmem, hnc⟩

end

end

section
variable {s : State} {h : Head} {line : BitVec 40} (hactive : (s.port h).active = true) (hfenced : s.fenced h = false)
include hactive hfenced

/-- BIRspIBlk to a block snoop clears the host on every line that it covers (R182). -/
theorem State.gives_birspIBlk {q : Snoop} (hq : s.snoopBlk h line.toNat = some q) (hop : q.op = .invBlk) (hcause : q.cause.standing) : Gives (.birspIBlk h line) s fun t =>
    (∀ j ∈ q.lines, t.holds j h = false) ∧ q.id ∉ t.dir.snoops.map (·.id) ∧ t.mem = s.mem ∧ t.nc = s.nc := by
  have hblk : (q.op == .invBlk) = true := beq_iff_eq.2 hop
  have hexec : exec (.birspIBlk h line) s = .next ((q.lines.foldl (fun s j => s.clearPres j h) (s.count 2 47 1 (some h.val))).closeSnoop q) :=
    congrArg Host.Outcome.next ((State.birsp_answer hactive hfenced hq _).trans (if_pos hblk))
  obtain ⟨hcleared, -⟩ := State.clearAll_holds h q.lines (s.count 2 47 1 (some h.val))
  have hpres : Presence (s.count 2 47 1 (some h.val)) (q.lines.foldl (fun s j => s.clearPres j h) (s.count 2 47 1 (some h.val))) :=
    Presence.foldl (fun s j => s.clearPres_presence j h) q.lines _
  refine ⟨_, hexec, ?_⟩
  generalize q.lines.foldl (fun s j => s.clearPres j h) (s.count 2 47 1 (some h.val)) = u at hcleared hpres ⊢
  obtain ⟨hframe, hgone, hholds, -⟩ := u.closeSnoop_standing hcause
  obtain ⟨hmem, hnc, -⟩ := (hpres.frame.trans hframe).parts
  exact ⟨fun j hj => (hholds j h).trans (hcleared j hj), hgone, hmem, hnc⟩

/-- An answer to no snoop is a violation, and changes no line (R199). -/
theorem State.gives_birsp_violation (hq : s.snoopTo h line.toNat = none) : Gives (.birspI h line) s fun t =>
    t.fb Reg.DIR_STATUS.VIOL = true ∧ t.dir = s.dir ∧ t.mem = s.mem ∧ t.nc = s.nc ∧ t.rtk = s.rtk :=
  ⟨_, congrArg Host.Outcome.next (State.birsp_violation hactive hfenced hq _), State.violation_facts (s.count 2 47 1 (some h.val)) h line.toNat⟩

end

/-- A snoop whose timer runs out fences its host (R193, R194). -/
theorem State.gives_snoopTimeout {s : State} {q : Snoop} (hq : s.dir.snoops.find? (·.id == q.id) = some q) (htimer : s.timerStopped q = false) : Gives (.snoopTimeout q.id) s fun t =>
    t.fenced q.host = true ∧ t.fb Reg.DIR_STATUS.TMO = true ∧ t.mem = s.mem := by
  have hexec : exec (.snoopTimeout q.id) s = .next (s.expire q) := by
    show execSnoopTimeout q.id s = _
    simp only [execSnoopTimeout, hq, htimer, Bool.false_eq_true, if_false]
  exact ⟨_, hexec, s.expire_facts q⟩

/-! ## O47 -/

/-- A command that serves an entry gives what the service gives. -/
theorem gives_of_serve {i : Instr} {s : State} {id : Nat} {P : State → Prop} (hexec : exec i s = .next (s.serve id)) (h : P (s.serve id)) : Gives i s P := ⟨_, hexec, h⟩

/-- Settles O47: each answer is followed to the snoop that it closes, and each resume to the service of its entry. -/
theorem snoopsAndResumes : Obligations.SnoopsAndResumes := by
  refine ⟨fun s h line hactive hfenced => ⟨fun q hq => ?_, fun q hq hone hcause => ?_, fun q hq hop hcause => State.gives_birspIBlk hactive hfenced hq hop hcause,
    State.gives_birsp_violation hactive hfenced, fun q hq hhost htimer => hhost ▸ State.gives_snoopTimeout hq htimer, fun hreq hndr hroom hplace tag => ?_⟩, fun s id r hr => ?_⟩
  · exact ⟨State.exec_birspI hactive hfenced hq, State.exec_birspE hactive hfenced hq, State.exec_birspS hactive hfenced hq⟩
  · exact ⟨State.gives_birspI hactive hfenced hq hone hcause, State.gives_birspS hactive hfenced hq hone hcause, State.gives_birspE hactive hfenced hq hone hcause⟩
  · exact ⟨_, State.biConflict_acks hactive hfenced hreq hplace tag, State.ackConflict_facts hndr hroom tag⟩
  · refine ⟨fun _ => State.exec_waitingRequest hr, State.exec_wayFreed hr, State.exec_wayFreed_other hr, State.exec_writeBackBuffer hr, fun _ => State.exec_writeBackBuffer_full hr,
      State.exec_snoopSlot hr, State.exec_directorySet hr, fun _ => State.exec_directorySet_ahead hr, fun n v hid hservable hop => ?_⟩
    subst hid
    obtain ⟨hread, hgo⟩ := hservable.readable hop
    refine ⟨fun hcoh => ?_, fun hdb hcoh hv hbi hfenced hlost => ?_⟩
    · have hserved := hread.served hgo hcoh
      exact ⟨fun _ hfirst hphase => gives_of_serve (State.exec_waitingRequest hr hfirst hphase) hserved, fun hphase hfree => gives_of_serve (State.exec_wayFreed hr hphase hfree) hserved,
        fun hphase hroom => gives_of_serve (State.exec_writeBackBuffer hr hphase hroom) hserved⟩
    · subst hv
      have hu : Unhindered s r.head r.line := ⟨hbi, hfenced, hlost⟩
      refine ⟨fun e hphase hfree hd hpres hbusy hrebuild => ?_, fun hphase hahead hdone hd hfree => ?_⟩
      · obtain ⟨D, hD, hgrant⟩ := State.cohere_owns_alone hr hu hd hpres hbusy hrebuild (.inl hop)
        exact gives_of_serve (State.exec_snoopSlot hr hphase hfree) (hread.served_owner hgo hdb hcoh hD rfl rfl hgrant)
      · obtain ⟨D, w, hD, hgrant⟩ := State.cohere_owns_new hr hu hd hahead hfree (.inl hop)
        exact gives_of_serve (State.exec_directorySet hr hphase hahead hdone) (hread.served_owner hgo hdb hcoh hD rfl rfl hgrant)

end Sys2Proof.Machine
end

section
/-! PROOFS. Which register bits the end of a link, and the work that it lets go on, may write (R193 to R197, R222, R223, R230, R426). -/

namespace Sys2Proof.Machine

/-! ## The marks of a link down -/

/-- A register bit that the work after a link down may write: DIR_STATUS, DIR_TMO_LOG, BBX_STATUS and each port's TEST_STATUS, and HDM_MISS and SURPRISE_DOWN of its LINK_ERR. -/
def linkMarks (o i : Nat) : Bool :=
  o == Reg.DIR_STATUS.VIOL.off || o == Reg.DIR_TMO_LOG.VALID.off || o == Reg.BBX_STATUS.DROPPED.off ||
  heads8.any fun h => o == (Reg.PRTn_TEST_STATUS.ACTIVE.nth h.val).off ||
    (o == (Reg.PRTn_LINK_ERR.HDM_MISS.nth h.val).off && (i == Reg.PRTn_LINK_ERR.HDM_MISS.lo || i == Reg.PRTn_LINK_ERR.SURPRISE_DOWN.lo))

/-- The register bits that such work leaves as they are. -/
def State.steady (s : State) (o i : Nat) : Bool := !linkMarks o i && (s.word o).getLsbD i

theorem State.steady_of_csr {s t : State} (h : t.csr = s.csr) : t.steady = s.steady := by
  funext o i
  rw [State.steady, State.steady, State.word_congr h]

/-- A word whose every bit is steady. -/
theorem State.word_of_steady {s t : State} (h : t.steady = s.steady) {o : Nat} (ho : ∀ i, linkMarks o i = false) : t.word o = s.word o := by
  refine BitVec.eq_of_getLsbD_eq fun i _ => ?_
  have hbit := congrFun (congrFun h o) i
  simpa only [State.steady, ho i, Bool.not_false, Bool.true_and] using hbit

theorem State.fb_of_steady {s t : State} (h : t.steady = s.steady) {x : Fld} (hx : linkMarks x.off x.lo = false) : t.fb x = s.fb x := by
  have hbit := congrFun (congrFun h x.off) x.lo
  simp only [State.steady, hx, Bool.not_false, Bool.true_and] at hbit
  exact hbit

/-- A write of fields that are marks. -/
theorem State.setF_steady (s : State) {x : Fld} (v : Nat) (hhi : x.hi < 32) (hlo : x.lo ≤ x.hi) (hx : ∀ i, x.lo ≤ i → i ≤ x.hi → linkMarks x.off i = true) :
    (s.setF x v).steady = s.steady := by
  funext o i
  unfold State.steady
  rw [State.word_setF]
  split
  · next ho =>
    subst ho
    by_cases hin : x.lo ≤ i ∧ i ≤ x.hi
    · simp [hx i hin.1 hin.2]
    · by_cases h32 : i < 32
      · rw [getLsbD_putField _ _ _ _ _ hhi hlo h32, if_neg hin]
      · simp [BitVec.getLsbD_of_ge _ _ (not_lt.1 h32)]
  · rfl

theorem linkMarks_of_head {o i : Nat} (h : Head) (hm : o = (Reg.PRTn_TEST_STATUS.ACTIVE.nth h.val).off ∨
    (o = (Reg.PRTn_LINK_ERR.HDM_MISS.nth h.val).off ∧ (i = Reg.PRTn_LINK_ERR.HDM_MISS.lo ∨ i = Reg.PRTn_LINK_ERR.SURPRISE_DOWN.lo))) : linkMarks o i = true := by
  have hmem : h ∈ heads8 := by
    clear hm
    decide +revert
  have hany : (heads8.any fun h => o == (Reg.PRTn_TEST_STATUS.ACTIVE.nth h.val).off ||
      (o == (Reg.PRTn_LINK_ERR.HDM_MISS.nth h.val).off && (i == Reg.PRTn_LINK_ERR.HDM_MISS.lo || i == Reg.PRTn_LINK_ERR.SURPRISE_DOWN.lo))) = true :=
    List.any_eq_true.2 ⟨h, hmem, by simpa using hm⟩
  rw [linkMarks, hany, Bool.or_true]

/-- TEST_CTL, LOOP and LANE_MASK with it, is steady. -/
theorem linkMarks_testCtl (h : Head) (i : Nat) : linkMarks (Reg.PRTn_TEST_CTL.LOOP.nth h.val).off i = false := by
  fin_cases h <;> rfl

theorem linkMarks_ideFail (h : Head) : linkMarks (Reg.PRTn_LINK_ERR.IDE_FAIL.nth h.val).off Reg.PRTn_LINK_ERR.IDE_FAIL.lo = false := by
  decide +revert

end Sys2Proof.Machine
end

section
/-! PROOFS. The work of requests and snoops writes none but the marks of a link down: entries, accesses, coherence and service (R37 to R47, R55, R177 to R189, R230). -/

namespace Sys2Proof.Machine

/-! ## Steps that reach no register, and steps taken in turn -/

theorem Caches.steady {s t : State} (h : Caches s t) : t.steady = s.steady := State.steady_of_csr (by have hc := congrArg State.csr h; exact hc)

theorem Directs.steady {s t : State} (h : Directs s t) : t.steady = s.steady := State.steady_of_csr (by have hc := congrArg State.csr h; exact hc)

theorem Sent.steady {s t : State} {ms : List Msg} (h : Sent s ms t) : t.steady = s.steady := State.steady_of_csr (by have hc := congrArg State.csr h.1; exact hc)

theorem foldl_steady {α : Type} {f : State → α → State} (hf : ∀ s a, (f s a).steady = s.steady) (as : List α) (s : State) : (as.foldl f s).steady = s.steady := by
  induction as generalizing s with
  | nil => rfl
  | cons a as ih => exact (ih _).trans (hf s a)

theorem ite_steady {c : Prop} [Decidable c] {s t u : State} (ht : t.steady = s.steady) (hu : u.steady = s.steady) : (if c then t else u).steady = s.steady := by
  split
  · exact ht
  · exact hu

/-- Work that counts as it goes. -/
theorem foldl_counted_steady {α : Type} {f : State → α → Nat × State} (hf : ∀ s a, (f s a).2.steady = s.steady) (as : List α) (n : Nat) (s : State) :
    (as.foldl (fun (x : Nat × State) a => (x.1 + (f x.2 a).1, (f x.2 a).2)) (n, s)).2.steady = s.steady := by
  induction as generalizing n s with
  | nil => rfl
  | cons a as ih => exact (ih _ _).trans (hf s a)

section
variable (s : State)

@[simp] theorem State.updPort_steady (h : Head) (g : Port → Port) : (s.updPort h g).steady = s.steady := rfl
@[simp] theorem State.updEntry_steady (id : Nat) (g : RtkEntry → RtkEntry) : (s.updEntry id g).steady = s.steady := rfl
@[simp] theorem State.setPhase_steady (id : Nat) (x : Phase) : (s.setPhase id x).steady = s.steady := rfl
@[simp] theorem State.count_steady (g i n : Nat) (u : Option Nat) : (s.count g i n u).steady = s.steady := rfl
@[simp] theorem State.countPort_steady (g : Nat) (h : Head) (i n : Nat) : (s.countPort g h i n).steady = s.steady := rfl
@[simp] theorem State.freeCredit_steady (h : Head) (c : CreditChan) : (s.freeCredit h c).steady = s.steady := rfl
@[simp] theorem State.emit_steady (h : Head) (m : Msg) : (s.emit h m).steady = s.steady := (Sent.emit s h m).steady
@[simp] theorem State.waitCredit_steady (r : RtkEntry) : (s.waitCredit r).steady = s.steady := rfl
@[simp] theorem State.takeFree_steady : s.takeFree.steady = s.steady := rfl
@[simp] theorem State.touchDir_steady (l : Nat) (w : Fin 16) : (s.touchDir l w).steady = s.steady := rfl
@[simp] theorem State.setDir_steady (l : Nat) (p : BitVec 8) (st : DirState) : (s.setDir l p st).steady = s.steady := (s.setDir_directs l p st).steady
@[simp] theorem State.clearPres_steady (l : Nat) (h : Head) : (s.clearPres l h).steady = s.steady := (s.clearPres_directs l h).steady
@[simp] theorem State.setBusy_steady (l : Nat) (b : Bool) : (s.setBusy l b).steady = s.steady := (s.setBusy_directs l b).steady
@[simp] theorem State.unbusy_steady (l : Nat) : (s.unbusy l).steady = s.steady := (s.unbusy_directs l).steady
@[simp] theorem State.ncHit_steady (l : Nat) : (s.ncHit l).steady = s.steady := (s.ncHit_hit l).caches.steady
@[simp] theorem State.ncMiss_steady (l : Nat) : (s.ncMiss l).steady = s.steady := (s.ncMiss_caches l).steady
@[simp] theorem State.touch_steady (l : Nat) : (s.touch l).steady = s.steady := (s.touch_caches l).steady
@[simp] theorem State.touchNc_steady (l : Nat) (w : Fin 16) : (s.touchNc l w).steady = s.steady := rfl
@[simp] theorem State.setNc_steady (l : Nat) (n : NcLine) : (s.setNc l n).steady = s.steady := rfl
@[simp] theorem State.endFill_steady (l : Nat) : (s.endFill l).steady = s.steady := rfl
@[simp] theorem State.makePool_steady (l : Nat) : (s.makePool l).steady = s.steady := (s.makePool_caches l).steady
@[simp] theorem State.freezeReaders_steady (l id : Nat) : (s.freezeReaders l id).steady = s.steady := (s.freezeReaders_caches l id).steady
@[simp] theorem State.addFill_steady (l : Nat) (v : Option LineVal) (host : Bool) : (s.addFill l v host).steady = s.steady := (s.addFill_caches l v host).steady
@[simp] theorem State.xlate_steady (l : Nat) : (s.xlate l).2.steady = s.steady := (s.xlate_looks l).caches.steady
@[simp] theorem State.sendResponse_steady (r : RtkEntry) : (s.sendResponse r).steady = s.steady := (s.sendResponse_sent r).steady
@[simp] theorem State.latchWake_steady (d : Nat) (src : WakeSource) : (s.latchWake d src).steady = s.steady := (s.latchWake_issued d src).caches.steady

@[simp] theorem State.event_steady (hs : List Head) (l : EventLog) (c : Cause) (a : Nat) (b : Bool) (sl : Option (Fin 16)) : (s.event hs l c a b sl).steady = s.steady := by
  obtain ⟨-, hcsr, -⟩ := State.event_noted hs l c a b sl s
  exact State.steady_of_csr hcsr

@[simp] theorem State.portViolation_steady (h : Head) (k : Nat) (c : Cause) : (s.portViolation h k c).steady = s.steady := by
  obtain ⟨-, hcsr, -⟩ := s.portViolation_noted h k c
  exact State.steady_of_csr hcsr

@[simp] theorem State.hdmMiss_steady (h : Head) : (s.flag (Reg.PRTn_LINK_ERR.HDM_MISS.nth h.val)).steady = s.steady := by
  refine s.setF_steady 1 (show 5 < 32 by decide) le_rfl fun i hi hi' => linkMarks_of_head h (.inr ⟨rfl, .inl ?_⟩)
  exact le_antisymm hi' hi

@[simp] theorem State.surpriseDown_steady (h : Head) : (s.flag (Reg.PRTn_LINK_ERR.SURPRISE_DOWN.nth h.val)).steady = s.steady := by
  refine s.setF_steady 1 (show 10 < 32 by decide) le_rfl fun i hi hi' => linkMarks_of_head h (.inr ⟨rfl, .inr ?_⟩)
  exact le_antisymm hi' hi

@[simp] theorem State.loopActive_steady (h : Head) : (s.flag (Reg.PRTn_TEST_STATUS.ACTIVE.nth h.val)).steady = s.steady :=
  s.setF_steady 1 (show 0 < 32 by decide) le_rfl fun _ _ _ => linkMarks_of_head h (.inl rfl)

/-- Any field of DIR_STATUS. -/
theorem State.dirStatus_steady {x : Fld} (v : Nat) (hoff : x.off = Reg.DIR_STATUS.VIOL.off) (hhi : x.hi < 32) (hlo : x.lo ≤ x.hi) : (s.setF x v).steady = s.steady :=
  s.setF_steady v hhi hlo fun i _ _ => by rw [hoff]; rfl

theorem State.tmoLog_steady {x : Fld} (v : Nat) (hoff : x.off = Reg.DIR_TMO_LOG.VALID.off) (hhi : x.hi < 32) (hlo : x.lo ≤ x.hi) : (s.setF x v).steady = s.steady :=
  s.setF_steady v hhi hlo fun i _ _ => by rw [hoff]; rfl

@[simp] theorem State.violation_steady (h : Head) (l : Nat) : (s.violation h l).steady = s.steady := by
  obtain ⟨-, hcsr, -⟩ := ((s.countPort 1 h 7).flag Reg.DIR_STATUS.VIOL).eventPerSecond_noted h 1 .informational .violation (64 * l) (some (slice l))
  have hflag := (s.countPort 1 h 7).dirStatus_steady (x := Reg.DIR_STATUS.VIOL) 1 rfl (by decide) le_rfl
  exact (State.steady_of_csr hcsr).trans hflag

@[simp] theorem State.pannier_steady (dom unit kind : Nat) (c : Cause) (sev addr addrKind reg : Nat) (cxl : Bool) :
    (s.pannier dom unit kind c sev addr addrKind reg cxl).steady = s.steady := by
  funext o i
  by_cases ho : o = 0x750000
  · subst ho
    rfl
  · rw [State.steady, State.steady, State.pannier_word ho]

/-! ## The end of an entry (R55, R186, R230, R353) -/

@[simp] theorem State.dropEntry_steady (r : RtkEntry) : (s.dropEntry r).steady = s.steady := by
  unfold State.dropEntry
  dsimp only
  split <;> rfl

@[simp] theorem State.ackConflict_steady (h : Head) (tag : BitVec 16) : (s.ackConflict h tag).steady = s.steady := by
  unfold State.ackConflict
  split <;> simp

@[simp] theorem State.mbxReply_steady (h : Head) (r : Reply) : (s.mbxReply h r).steady = s.steady := by
  unfold State.mbxReply
  split <;> rfl

@[simp] theorem State.loopEntry_steady (r : RtkEntry) : (s.loopEntry r).steady = s.steady := by
  unfold State.loopEntry
  extract_lets a pat checked x
  have hchecked : checked.steady = s.steady := by
    simp only [checked]
    split
    · simp
    · split <;> simp
  split
  · simp [hchecked]
  · split <;> simp [hchecked]

@[simp] theorem State.loopStart_steady (h : Head) : (s.loopStart h).steady = s.steady := by
  unfold State.loopStart
  split
  · rfl
  · rw [foldl_steady fun s r => s.loopEntry_steady r]
    simp

@[simp] theorem State.closeEntry_steady (r : RtkEntry) : (s.closeEntry r).steady = s.steady := by
  unfold State.closeEntry
  simp only [State.loopStart_steady, foldl_steady fun s t => State.ackConflict_steady s r.head t]
  split <;> simp

@[simp] theorem State.respond_steady (id : Nat) : (s.respond id).steady = s.steady := by
  unfold State.respond
  split
  · rfl
  · split
    · simp
    · split <;> simp

@[simp] theorem State.answer_steady (id : Nat) (v : LineVal) : (s.answer id v).steady = s.steady := by
  unfold State.answer State.reply
  split <;> simp

/-! ## Accesses (R37, R42, R43, R118) -/

@[simp] theorem State.startFill_steady (id l : Nat) : (s.startFill id l).steady = s.steady := by
  unfold State.startFill
  split
  · next v hv => exact (State.takeWay_of hv : Caches s v).steady
  · next v hv => exact (State.takeWay_of hv : Caches s v).steady
  · next w v hv =>
    have hgot : (v.touchNc l w).steady = s.steady := (State.takeWay_of hv : Caches s v).steady
    dsimp only
    generalize v.touchNc l w = u at hgot ⊢
    split
    · rw [State.answer_steady, (u.buffered_caches ..).steady, hgot]
    · simp [hgot]

@[simp] theorem State.accessRead_steady (r : RtkEntry) : (s.accessRead r).steady = s.steady := by
  unfold State.accessRead
  extract_lets l id
  split
  · simp
  · split
    · simp
    · split
      · split <;> simp
      · split
        · simp
        · have hmiss : (if r.phase.counted then s else s.ncMiss l).steady = s.steady := by split <;> simp
          generalize (if r.phase.counted then s else s.ncMiss l) = u at hmiss ⊢
          have hx := (u.xlate_steady l).trans hmiss
          generalize u.xlate l = y at hx ⊢
          obtain ⟨x, v⟩ := y
          dsimp only at hx ⊢
          split
          · simp [hx]
          · simp [hx]
          · simp [hx]
          · split <;> simp [hx]

@[simp] theorem State.accessWrite_steady (r : RtkEntry) : (s.accessWrite r).steady = s.steady := by
  unfold State.accessWrite
  extract_lets l id counted
  have hcounted : counted.steady = s.steady := by
    simp only [counted]
    split <;> simp
  have hfrozen : (if r.crossing then counted.freezeReaders l id else counted).steady = s.steady := by split <;> simp [hcounted]
  split
  · simp
  · split
    · simp
    · split
      · next v hv =>
        have hwait : Caches _ v := State.land_of hv
        rw [State.setPhase_steady, hwait.steady, hfrozen]
      · next v hv =>
        have hlanded : Caches _ v := State.land_of hv
        extract_lets cleared
        have hcleared : cleared.steady = s.steady := by
          rw [← hfrozen, ← hlanded.steady]
          simp only [cleared]
          split <;> rfl
        split <;> simp [hcleared]

@[simp] theorem State.access_steady (id : Nat) : (s.access id).steady = s.steady := by
  unfold State.access
  split
  · rfl
  · split <;> simp

/-! ## Coherence and service (R46, R76, R182, R188, R356) -/

@[simp] theorem State.settleDir_steady (r : RtkEntry) : (s.settleDir r).steady = s.steady := by
  unfold State.settleDir
  extract_lets l b held grant
  split
  · split <;> simp [grant]
  · split
    · simp [grant]
    · split <;> simp [grant]
  · split <;> simp [grant]
  · split <;> simp [grant]
  · simp [grant]
  · simp [grant]

@[simp] theorem State.trySend_steady (q : Snoop) : (s.trySend q).steady = s.steady := by
  unfold State.trySend
  split
  · rfl
  · simp only [State.count_steady, State.countPort_steady, State.emit_steady, State.updPort_steady]
    rfl

@[simp] theorem State.snoop_steady (h : Head) (op : SnoopOp) (l : Nat) (c : SnoopCause) (place : Nat) : (s.snoop h op l c place).steady = s.steady := by
  unfold State.snoop
  simp only [State.trySend_steady, foldl_steady fun s j => State.setBusy_steady s j true]
  rfl

@[simp] theorem State.rebuildDir_steady (l : Nat) : (s.rebuildDir l).steady = s.steady := by
  unfold State.rebuildDir
  split
  · rfl
  · split
    · rfl
    · extract_lets hs _ entered waiter
      split
      · rfl
      · exact foldl_steady (fun s h => s.snoop_steady h _ _ _ _) _ entered

@[simp] theorem State.keepData_steady (r : RtkEntry) : (s.keepData r).steady = s.steady := by
  unfold State.keepData
  split
  · split <;> rfl
  · rfl

@[simp] theorem State.cohere_steady (id : Nat) : (s.cohere id).steady = s.steady := by
  unfold State.cohere
  split
  · rfl
  · next r _ =>
    extract_lets l rebuilt _ qs
    have hrebuilt : rebuilt.steady = s.steady := s.rebuildDir_steady l
    rw [← hrebuilt]
    generalize rebuilt = u
    split
    · rfl
    · refine ite_steady (by simp) (ite_steady (by simp) ?_)
      split
      · split
        · simp
        · split
          · rw [State.access_steady, State.settleDir_steady, State.touchDir_steady]
            rfl
          · split
            · rfl
            · next v _ =>
              extract_lets hs em counted
              have hcounted : counted.steady = u.steady := u.setBusy_steady v true
              split
              · rfl
              · rw [State.setPhase_steady, foldl_steady fun s h => s.snoop_steady h _ _ _ _, hcounted]
      · split
        · simp
        · split
          · rfl
          · rw [State.setPhase_steady, foldl_steady fun (s : State) (q : Head × SnoopOp) => s.snoop_steady q.1 q.2 l (.request id) id, State.keepData_steady, State.touchDir_steady]

@[simp] theorem State.serve_steady (id : Nat) : (s.serve id).steady = s.steady := by
  unfold State.serve
  split
  · rfl
  · split
    · rfl
    · extract_lets off
      split
      · exact foldl_steady (fun s d => s.latchWake_steady d _) off s
      · split
        · rfl
        · split <;> simp

/-! ## Snoops settled, the fence, and the end of a link (R193 to R197, R222, R223) -/

@[simp] theorem State.resumeCause_steady (c : SnoopCause) (l : Nat) : (s.resumeCause c l).steady = s.steady := by
  unfold State.resumeCause
  split
  · rfl
  · split
    · split
      · split <;> simp
      · rfl
    · extract_lets _ evicted
      have hevicted : evicted.steady = s.steady := rfl
      split
      · split <;> simp [hevicted]
      · exact hevicted
    · rfl

@[simp] theorem State.closeSnoop_steady (q : Snoop) : (s.closeSnoop q).steady = s.steady := by
  have hunbusy (s : State) (j : Nat) : (if s.dir.snoops.any (·.lines.contains j) then s else s.unbusy j).steady = s.steady := by split <;> simp
  unfold State.closeSnoop
  extract_lets _ freed resumed
  have hfreed : freed.steady = s.steady := rfl
  rw [foldl_steady hunbusy, State.resumeCause_steady, hfreed]

@[simp] theorem State.poisonLine_steady (l : Nat) : (s.poisonLine l).steady = s.steady := by
  unfold State.poisonLine
  extract_lets _ cleared
  have hcleared : cleared.steady = s.steady := s.touch_steady l
  split
  · simp [hcleared]
  · split
    · next v hv => exact (State.takeWay_of hv : Caches cleared v).steady.trans hcleared
    · next v hv => exact (State.takeWay_of hv : Caches cleared v).steady.trans hcleared
    · next v hv => exact (State.takeWay_of hv : Caches cleared v).steady.trans hcleared

@[simp] theorem State.mediaEvent_steady (l : Nat) (c : Cause) (scrub : Bool) : (s.mediaEvent l c scrub).steady = s.steady := by
  unfold State.mediaEvent
  rw [State.event_steady]
  rfl

@[simp] theorem State.settleLine_steady (h : Head) (l : Nat) (crossed : Bool) : (s.settleLine h l crossed).2.steady = s.steady := by
  unfold State.settleLine
  split <;> simp

@[simp] theorem State.settleSnoop_steady (q : Snoop) : (s.settleSnoop q).2.steady = s.steady :=
  foldl_counted_steady (f := fun s l => s.settleLine q.host l (q.crossed.contains l)) (fun s _ => s.settleLine_steady ..) q.lines 0 s

@[simp] theorem State.purge_steady (h : Head) : (s.purge h).2.steady = s.steady :=
  foldl_counted_steady (f := fun s l => s.settleLine h l false) (fun s _ => s.settleLine_steady ..) _ 0 s

@[simp] theorem State.settleAll_steady (h : Head) : (s.settleAll h).2.steady = s.steady :=
  (foldl_steady (fun s q => s.closeSnoop_steady q) _ _).trans (foldl_counted_steady (f := fun s q => s.settleSnoop q) (fun s q => s.settleSnoop_steady q) _ 0 s)

@[simp] theorem State.fence_steady (h : Head) (linkDown : Bool) (n : Nat) : (s.fence h linkDown n).steady = s.steady := by
  unfold State.fence
  split
  · simp
  · extract_lets fenced
    have hbit : (s.setBit Reg.DIR_STATUS.FENCED h.val true).steady = s.steady :=
      s.dirStatus_steady (x := { Reg.DIR_STATUS.FENCED with hi := 16 + h.val, lo := 16 + h.val }) 1 rfl (by dsimp only; omega) le_rfl
    have hfenced : fenced.steady = s.steady := (State.count_steady ..).trans hbit
    have hpurged := (fenced.purge_steady h).trans hfenced
    generalize fenced.purge h = x at hpurged ⊢
    obtain ⟨n1, u⟩ := x
    have hsettled := (u.settleAll_steady h).trans hpurged
    dsimp only
    generalize u.settleAll h = x at hsettled ⊢
    obtain ⟨n2, v⟩ := x
    dsimp only
    rw [State.pannier_steady, State.event_steady, State.tmoLog_steady (x := Reg.DIR_TMO_LOG.EM_LINES) _ _ rfl (by decide) (by decide),
      State.tmoLog_steady (x := Reg.DIR_TMO_LOG.HEAD) _ _ rfl (by decide) (by decide), State.tmoLog_steady (x := Reg.DIR_TMO_LOG.LINKDOWN) _ _ rfl (by decide) le_rfl]
    exact (v.tmoLog_steady (x := Reg.DIR_TMO_LOG.VALID) 1 rfl (by decide) le_rfl).trans hsettled

@[simp] theorem State.synthesize_steady (h : Head) : (s.synthesize h).steady = s.steady := by
  have hclose (s : State) (r : RtkEntry) : (if r.phase == .domain || r.phase == .respond then s.closeEntry { r with conflicts := [] } else s).steady = s.steady := by split <;> simp
  exact foldl_steady hclose _ s

theorem State.endSessions_steady (v : Via) : (s.endSessions v).steady = s.steady := rfl

theorem State.ideClear_steady (h : Head) : (s.ideClear h).steady = s.steady := rfl

/-- A link that goes down writes no register bit but its marks (R222, R223). -/
theorem State.linkDown_steady (h : Head) (perst : Bool) : (s.linkDown h perst).steady = s.steady := by
  unfold State.linkDown
  split
  · rfl
  · extract_lets _ cut ended expired flagged
    have hcut : cut.steady = s.steady := ((State.endSessions_steady ..).trans (State.ideClear_steady ..)).trans (s.updPort_steady h Port.down)
    have hended : ended.steady = s.steady := (State.synthesize_steady cut h).trans hcut
    have hexpired : expired.steady = s.steady := by
      simp only [expired]
      split <;> simp [hended]
    have hflagged : flagged.steady = s.steady := by
      simp only [flagged]
      split <;> simp [hexpired]
    exact ((State.pannier_steady ..).trans (State.event_steady ..)).trans hflagged

end

end Sys2Proof.Machine
end

section
/-! PROOFS. IDE: keys programmed and switched over a head's own DOE, and a failed MAC (R220, R227, R295, R309 to R311). -/

namespace Sys2Proof.Machine

/-! ## The stream directions of a port (R309) -/

theorem Port.ideDir_updIde_self (p : Port) (st : IdeStream) (rx : Bool) (g : IdeDir → IdeDir) : (p.updIde st rx g).ideDir st rx = g (p.ideDir st rx) := by
  cases st <;> cases rx <;> rfl

theorem Port.ideDir_updIde_ne (p : Port) {st st' : IdeStream} {rx rx' : Bool} (g : IdeDir → IdeDir) (hne : (st', rx') ≠ (st, rx)) : (p.updIde st rx g).ideDir st' rx' = p.ideDir st' rx' := by
  cases st <;> cases rx <;> cases st' <;> cases rx' <;> simp_all [Port.updIde, Port.ideDir]

/-- A key set loaded (R309). -/
def IdeDir.loaded (d : IdeDir) (k1 : Bool) (x : BitVec 256 × Bool) : IdeDir :=
  { d with k0 := if k1 then d.k0 else some x, k1 := if k1 then some x else d.k1 }

theorem IdeDir.loaded_keys (d : IdeDir) (k1 : Bool) (x : BitVec 256 × Bool) :
    (if k1 then (d.loaded k1 x).k1 else (d.loaded k1 x).k0) = some x ∧ (if k1 then (d.loaded k1 x).k0 = d.k0 else (d.loaded k1 x).k1 = d.k1) := by
  cases k1 <;> exact ⟨rfl, rfl⟩

/-- One port changed and one message sent. -/
theorem State.updPort_send_frame (s : State) (h : Head) (g : Port → Port) (m : Msg) : { (s.updPort h g).send m with ports := s.ports, out := s.out } = s :=
  congrArg (fun x : State => { x with out := s.out }) (s.updPort_frame h g)

/-! ## Key management over a head's DOE (R295, R309, R310) -/

/-- Key management accepted: it counts, the port changes and the answer acknowledges it. -/
def State.ideAcked (s : State) (h : Head) (g : Port → Port) : State := ((s.count 12 17).updPort h g).send (.ideAck h)

theorem State.ideAcked_gives (s : State) (h : Head) (g : Port → Port) :
    (s.ideAcked h g).port h = g (s.port h) ∧ (∀ k, k ≠ h → (s.ideAcked h g).port k = s.port k) ∧ (s.ideAcked h g).out = s.out ++ [.ideAck h] ∧
      { s.ideAcked h g with ports := s.ports, out := s.out, pmu := s.pmu } = s :=
  ⟨(s.count 12 17).port_updPort_self h g, fun _ hk => (s.count 12 17).port_updPort_ne g hk, rfl,
    congrArg (fun x : State => { x with pmu := s.pmu }) ((s.count 12 17).updPort_send_frame h g (.ideAck h))⟩

section
variable {s : State} {h : Head} (hreach : CryReached s (.head h))
include hreach

/-- Key management without the right session is refused (R295). -/
theorem State.ideKm_refused (hallow : s.ideAllowed h = false) (i : Instr) (g : State → State) : s.ideKm h i g = s.svcNo (.head h) "NOT_AUTHORIZED" := by
  rw [State.ideKm, State.carry_eq hreach, hallow]
  rfl

variable (hallow : s.ideAllowed h = true)
include hallow

theorem State.ideKm_eq (i : Instr) (g : State → State) : s.ideKm h i g = g (s.count 12 17) := by
  rw [State.ideKm, State.carry_eq hreach, hallow]
  rfl

variable (st : IdeStream) (rx k1 : Bool)

theorem exec_keyProg (key : BitVec 256) (hgcm : (s.port h).gcm ≠ some false) :
    exec (.keyProg h st rx k1 key) s = .next (s.ideAcked h fun p => p.updIde st rx fun d => d.loaded k1 (key, !s.hasRole (.head h) .user)) := by
  have hexec : exec (.keyProg h st rx k1 key) s = execKeyProg h st rx k1 key s := rfl
  rw [hexec, execKeyProg, State.ideKm_eq hreach hallow, State.port_count, if_neg (by simpa using hgcm)]
  rfl

variable (hkey : (if k1 then ((s.port h).ideDir st rx).k1 else ((s.port h).ideDir st rx).k0) ≠ none) (hgcm : (s.port h).gcm = some true)
include hkey hgcm

theorem exec_kSetGo : exec (.kSetGo h st rx k1) s =
    .next (if (s.port h).ltssm == .recovery then s.ideAcked h fun p => { p with goDue := p.goDue ++ [(st, rx, k1)] } else s.ideAcked h fun p => p.switchKey st rx k1) := by
  have hexec : exec (.kSetGo h st rx k1) s = execKSetGo h st rx k1 s := rfl
  have hgo : ((if k1 then ((s.port h).ideDir st rx).k1 else ((s.port h).ideDir st rx).k0).isNone || (s.port h).gcm != some true) = false := by
    simp [Option.isNone_eq_false_iff, Option.isSome_iff_ne_none, hkey, hgcm]
  rw [hexec, execKSetGo, State.ideKm_eq hreach hallow]
  simp only [State.port_count, hgo, Bool.false_eq_true, if_false]
  rfl

end

theorem PortOnly.csr {s t : State} {p : Head} (h : PortOnly s p t) : t.csr = s.csr := by
  have hcsr := congrArg State.csr h.frame
  exact hcsr

theorem PortOnly.mem {s t : State} {p : Head} (h : PortOnly s p t) : t.mem = s.mem := by
  have hmem := congrArg State.mem h.frame
  exact hmem

/-! ## A failed MAC (R227, R311) -/

/-- After the cut of its link a port changes only as one with no link and no credit can. -/
theorem State.linkDown_port {s : State} {h : Head} (hup : (s.port h).up = true) (perst : Bool) : (s.port h).severed.undoDown ((s.linkDown h perst).port h) = (s.port h).severed := by
  obtain ⟨hport, -⟩ := s.cut_gives h
  obtain ⟨hkept, -⟩ := (s.cut h).afterCut_kept h perst
  have hback := hkept.port (by rw [hport]; exact ⟨rfl, rfl, rfl⟩)
  rwa [hport, ← State.linkDown_eq hup] at hback

/-- The failure reported, and both streams Insecure. -/
def State.macFailed (s : State) (h : Head) : State := ((s.flag (Reg.PRTn_LINK_ERR.IDE_FAIL.nth h.val)).updPort h fun p => { p with rasIde := true }).ideClear h

theorem exec_ideMacFail {s : State} {h : Head} (hup : (s.port h).up = true) (hgo : (s.port h).ioRx.go = true ∨ (s.port h).cmRx.go = true) :
    exec (.ideMacFail h) s = .next ((s.macFailed h).linkDown h false) := by
  have hexec : exec (.ideMacFail h) s = execIdeMacFail h s := rfl
  have hon : (!(s.port h).up || !((s.port h).ioRx.go || (s.port h).cmRx.go)) = false := by
    rw [hup, Bool.or_eq_true_iff.2 hgo]
    rfl
  rw [hexec, execIdeMacFail]
  dsimp only
  rw [hon, if_neg Bool.false_ne_true]
  rfl

theorem State.macFailed_port (s : State) (h : Head) : (s.macFailed h).port h =
    { s.port h with rasIde := true, ioTx := .clear, ioRx := .clear, cmTx := .clear, cmRx := .clear, gcm := none, ideHeld := [], ideFlits := 0, goDue := [] } := by
  rw [State.macFailed, State.ideClear_port, State.port_updPort_self]
  rfl

theorem State.macFailed_portOnly (s : State) (h : Head) : PortOnly (s.flag (Reg.PRTn_LINK_ERR.IDE_FAIL.nth h.val)) h (s.macFailed h) := by
  unfold State.macFailed State.ideClear
  exact (PortOnly.updPort _ h _).trans (PortOnly.updPort _ h _)

theorem State.macFailed_fb (s : State) (h : Head) : (s.macFailed h).fb (Reg.PRTn_LINK_ERR.IDE_FAIL.nth h.val) = true := by
  rw [State.fb_congr (s.macFailed_portOnly h).csr]
  exact s.fb_flag_self (Reg.PRTn_LINK_ERR.IDE_FAIL.nth h.val) (show 7 < 32 by decide) le_rfl

theorem State.macFailed_mem (s : State) (h : Head) : (s.macFailed h).mem = s.mem := (s.macFailed_portOnly h).mem

theorem gives_ideMacFail {s : State} {h : Head} (hup : (s.port h).up = true) (hgo : (s.port h).ioRx.go = true ∨ (s.port h).cmRx.go = true) :
    Gives (.ideMacFail h) s fun t =>
      (t.port h).up = false ∧ (t.port h).rasIde = true ∧ (t.port h).ioTx = .clear ∧ (t.port h).ioRx = .clear ∧ (t.port h).cmTx = .clear ∧ (t.port h).cmRx = .clear ∧
      t.fb (Reg.PRTn_LINK_ERR.IDE_FAIL.nth h.val) = true ∧ t.mem = s.mem := by
  have hup' : ((s.macFailed h).port h).up = true := by
    rw [State.macFailed_port]
    exact hup
  obtain ⟨hlost, -⟩ := State.linkDown_lost hup' false
  have hras := congrArg Port.rasIde (State.linkDown_port hup' false)
  have hsevered : ((s.macFailed h).port h).severed.rasIde = true := by
    rw [State.macFailed_port]
    rfl
  have hfail := State.fb_of_steady (State.linkDown_steady (s.macFailed h) h false) (linkMarks_ideFail h)
  rw [State.macFailed_fb] at hfail
  refine ⟨_, exec_ideMacFail hup hgo, ?_⟩
  have hmem := State.macFailed_mem s h
  generalize s.macFailed h = u at *
  generalize u.linkDown h false = t at *
  obtain ⟨⟨lup, -, -, -, -, -, lioTx, lioRx, lcmTx, lcmRx⟩, lrest⟩ := linkLost_iff.1 hlost
  exact ⟨lup, hras.trans hsevered, lioTx, lioRx, lcmTx, lcmRx, hfail, lrest.mem.trans hmem⟩

/-- Settles O34: accepted key management is one change of the port with its answer, and the link that a failed MAC takes down leaves IDE_FAIL and the RAS note standing. -/
theorem ideKeys : Obligations.IdeKeys := by
  intro s h hreach
  have hup : (s.port h).up = true := by
    obtain ⟨-, -, -, hup⟩ := hreach
    exact hup
  refine ⟨fun hallow st rx k1 => ⟨fun key hgcm => ?_, fun hkey hgcm hlt => ?_, fun hkey hgcm hlt => ?_⟩, fun hallow st rx k1 key => ?_, gives_ideMacFail hup⟩
  · obtain ⟨hport, hothers, hout, hframe⟩ := s.ideAcked_gives h fun p => p.updIde st rx fun d => d.loaded k1 (key, !s.hasRole (.head h) .user)
    have hself := (s.port h).ideDir_updIde_self st rx fun d => d.loaded k1 (key, !s.hasRole (.head h) .user)
    obtain ⟨hset, hkept⟩ := ((s.port h).ideDir st rx).loaded_keys k1 (key, !s.hasRole (.head h) .user)
    refine ⟨_, exec_keyProg hreach hallow st rx k1 key hgcm, ?_⟩
    dsimp only
    rw [hport, hself]
    exact ⟨hset, hkept, fun st' rx' hne => Port.ideDir_updIde_ne _ _ hne, hothers, hout, hframe⟩
  · obtain ⟨hport, hothers, hout, hframe⟩ := s.ideAcked_gives h fun p => p.switchKey st rx k1
    have hexec := exec_kSetGo hreach hallow st rx k1 hkey hgcm
    rw [if_neg (by simpa using hlt)] at hexec
    refine ⟨_, hexec, ?_⟩
    dsimp only
    rw [hport]
    exact ⟨Port.ideDir_updIde_self .., fun st' rx' hne => Port.ideDir_updIde_ne _ _ hne, hothers, hout, hframe⟩
  · have hexec := exec_kSetGo hreach hallow st rx k1 hkey hgcm
    rw [hlt] at hexec
    exact ⟨_, hexec, s.ideAcked_gives h fun p => { p with goDue := p.goDue ++ [(st, rx, k1)] }⟩
  · have hexec : exec (.keyProg h st rx k1 key) s = .next (s.svcNo (.head h) "NOT_AUTHORIZED") := congrArg Host.Outcome.next (State.ideKm_refused hreach hallow _ _)
    exact ⟨_, hexec, State.svcNo_frame ..⟩

end Sys2Proof.Machine
end

section
/-! PROOFS. Test loops: what LOOP sets, and the links that it takes down (R202, R229, R230, R447). -/

namespace Sys2Proof.Machine

/-! ## The registers of a loop (R229, R230) -/

/-- LOOP has taken a value, and the status of the loop before is gone. -/
def State.loopSet (s : State) (p : Head) (v : Nat) : State :=
  ((s.setF (Reg.PRTn_TEST_CTL.LOOP.nth p.val) v).setF (Reg.PRTn_TEST_STATUS.ACTIVE.nth p.val) 0).setF (Reg.PRTn_TEST_STATUS.LANE_LOCK.nth p.val) 0

section
variable (s : State) (p : Head)

/-- TEST_STATUS is another register than TEST_CTL. -/
theorem testCtl_ne_active : (Reg.PRTn_TEST_CTL.LOOP.nth p.val).off ≠ (Reg.PRTn_TEST_STATUS.ACTIVE.nth p.val).off := by
  simp [Fld.nth, Reg.PRTn_TEST_CTL.LOOP, Reg.PRTn_TEST_STATUS.ACTIVE]

theorem testCtl_ne_laneLock : (Reg.PRTn_TEST_CTL.LOOP.nth p.val).off ≠ (Reg.PRTn_TEST_STATUS.LANE_LOCK.nth p.val).off := by
  simp [Fld.nth, Reg.PRTn_TEST_CTL.LOOP, Reg.PRTn_TEST_STATUS.LANE_LOCK]

theorem laneMask_off : (Reg.PRTn_TEST_CTL.LANE_MASK.nth p.val).off = (Reg.PRTn_TEST_CTL.LOOP.nth p.val).off := rfl

theorem State.loopSet_testCtl (v : Nat) : (s.loopSet p v).word (Reg.PRTn_TEST_CTL.LOOP.nth p.val).off = (s.setF (Reg.PRTn_TEST_CTL.LOOP.nth p.val) v).word (Reg.PRTn_TEST_CTL.LOOP.nth p.val).off := by
  rw [State.loopSet, State.word_setF_ne _ _ _ (testCtl_ne_laneLock p), State.word_setF_ne _ _ _ (testCtl_ne_active p)]

theorem State.loopSet_loop {v : Nat} (hv : v < 8) : (s.loopSet p v).f (Reg.PRTn_TEST_CTL.LOOP.nth p.val) = v := by
  have hhi : (Reg.PRTn_TEST_CTL.LOOP.nth p.val).hi = 2 := rfl
  have hlo : (Reg.PRTn_TEST_CTL.LOOP.nth p.val).lo = 0 := rfl
  rw [State.f_of_word (s.loopSet_testCtl p v), State.f_setF_self _ _ _ (by omega) (by omega), hhi, hlo]
  exact Nat.mod_eq_of_lt hv

theorem State.loopSet_laneMask (v : Nat) : (s.loopSet p v).f (Reg.PRTn_TEST_CTL.LANE_MASK.nth p.val) = s.f (Reg.PRTn_TEST_CTL.LANE_MASK.nth p.val) := by
  have hhi : (Reg.PRTn_TEST_CTL.LOOP.nth p.val).hi = 2 := rfl
  have hlo : (Reg.PRTn_TEST_CTL.LOOP.nth p.val).lo = 0 := rfl
  have hmaskhi : (Reg.PRTn_TEST_CTL.LANE_MASK.nth p.val).hi = 15 := rfl
  have hmasklo : (Reg.PRTn_TEST_CTL.LANE_MASK.nth p.val).lo = 8 := rfl
  have hword : (s.loopSet p v).word (Reg.PRTn_TEST_CTL.LANE_MASK.nth p.val).off = (s.setF (Reg.PRTn_TEST_CTL.LOOP.nth p.val) v).word (Reg.PRTn_TEST_CTL.LANE_MASK.nth p.val).off := by
    rw [laneMask_off, State.loopSet_testCtl]
  rw [State.f_of_word hword, State.f_setF_ne _ _ _ _ (by omega) (by omega) (by omega) (by omega) (by omega)]

theorem State.loopSet_csrOnly (v : Nat) : CsrOnly s (s.loopSet p v) := ((s.setF_csrOnly _ v).trans (State.setF_csrOnly _ _ 0)).trans (State.setF_csrOnly _ _ 0)

end

/-! ## LOOP takes a value (R229, R230) -/

/-- Registers and port `p` alone have changed. -/
structure LoopOnly (s : State) (p : Head) (t : State) : Prop where
  frame : { t with csr := s.csr, ports := s.ports } = s
  others : ∀ g, g ≠ p → t.port g = s.port g

theorem LoopOnly.trans {s t u : State} {p : Head} (h1 : LoopOnly s p t) (h2 : LoopOnly t p u) : LoopOnly s p u := by
  have h := congrArg (fun x : State => { x with csr := s.csr, ports := s.ports }) h2.frame
  exact ⟨Eq.trans h h1.frame, fun g hg => (h2.others g hg).trans (h1.others g hg)⟩

theorem LoopOnly.rtk {s t : State} {p : Head} (h : LoopOnly s p t) : t.rtk = s.rtk := by
  have hrtk := congrArg State.rtk h.frame
  exact hrtk

theorem LoopOnly.mem {s t : State} {p : Head} (h : LoopOnly s p t) : t.mem = s.mem := by
  have hmem := congrArg State.mem h.frame
  exact hmem

theorem CsrOnly.ports {s t : State} (h : CsrOnly s t) : t.ports = s.ports := by
  have hports := congrArg State.ports h
  exact hports

theorem CsrOnly.loopOnly {s t : State} (h : CsrOnly s t) (p : Head) : LoopOnly s p t := by
  have hframe := congrArg (fun x : State => { x with ports := s.ports }) h
  exact ⟨hframe, fun g _ => State.port_congr h.ports g⟩

theorem PortOnly.loopOnly {s t : State} {p : Head} (h : PortOnly s p t) : LoopOnly s p t := by
  have hframe := congrArg (fun x : State => { x with csr := s.csr }) h.frame
  exact ⟨hframe, h.others⟩

/-- LOOP has taken a value, and requests of the head wait for the port loop or do not. -/
def State.loopTaken (s : State) (p : Head) (v : Nat) (wait : Bool) : State := (s.loopSet p v).updPort p fun q => { q with loopWait := wait }

section
variable (s : State) (p : Head) (v : Nat) (wait : Bool)

theorem State.loopTaken_loop (hv : v < 8) : (s.loopTaken p v wait).f (Reg.PRTn_TEST_CTL.LOOP.nth p.val) = v := by
  rw [State.loopTaken, State.f_updPort, State.loopSet_loop s p hv]

theorem State.loopTaken_laneMask : (s.loopTaken p v wait).f (Reg.PRTn_TEST_CTL.LANE_MASK.nth p.val) = s.f (Reg.PRTn_TEST_CTL.LANE_MASK.nth p.val) := by
  rw [State.loopTaken, State.f_updPort, State.loopSet_laneMask]

theorem State.loopTaken_port : (s.loopTaken p v wait).port p = { s.port p with loopWait := wait } := by
  rw [State.loopTaken, State.port_updPort_self, State.port_congr (s.loopSet_csrOnly p v).ports]

theorem State.loopTaken_only : LoopOnly s p (s.loopTaken p v wait) := ((s.loopSet_csrOnly p v).loopOnly p).trans (PortOnly.updPort _ p _).loopOnly

end

/-! ## What each value does (R229, R230) -/

/-- With no request that waits for the port loop, none is let go. -/
theorem State.unloop_of_none {s : State} {p : Head} (hnone : ∀ r ∈ s.rtk, ¬(r.head = p ∧ r.loopWaits = true)) : s.unloop p = s := by
  have hwaits : s.rtk.filter (fun r => r.head == p && r.loopWaits) = [] := List.filter_eq_nil_iff.2 fun r hr => by simpa using hnone r hr
  have hrest : s.rtk.filter (fun r => !(r.head == p && r.loopWaits)) = s.rtk := List.filter_eq_self.2 fun r hr => by simpa [imp_iff_not_or] using hnone r hr
  rw [State.unloop, hwaits, hrest]
  rfl

/-- What a PHY loop or a remote loop does once its link is down: it is active, and the one that leads shows its lanes. -/
def State.looped (s : State) (p : Head) (v errors : Nat) : State :=
  let t := s.flag (Reg.PRTn_TEST_STATUS.ACTIVE.nth p.val)
  let t := if v = 1 then t else t.updPort p fun q => { q with ltssm := .loopback }
  if v = 2 then t else (t.setF (Reg.PRTn_TEST_STATUS.LANE_LOCK.nth p.val) (t.f (Reg.PRTn_TEST_CTL.LANE_MASK.nth p.val))).countPort 0 p 6 errors

section
variable {s : State} {p : Head} (hnone : ∀ r ∈ s.rtk, ¬(r.head = p ∧ r.loopWaits = true))
include hnone

theorem State.unloop_loopTaken (v : Nat) (wait : Bool) : (s.loopTaken p v wait).unloop p = s.loopTaken p v wait := by
  apply State.unloop_of_none
  rw [(s.loopTaken_only p v wait).rtk]
  exact hnone

theorem State.setLoop_down {v : Nat} (hv : v = 1 ∨ v = 2 ∨ v = 3) (errors : Nat) : s.setLoop p v errors = ((s.loopTaken p v false).linkDown p false).looped p v errors := by
  have hset : s.setLoop p v errors = (((s.loopTaken p v false).unloop p).linkDown p false).looped p v errors := by
    obtain rfl | rfl | rfl := hv <;> rfl
  rw [hset, State.unloop_loopTaken hnone]

theorem State.setLoop_off (hold : s.f (Reg.PRTn_TEST_CTL.LOOP.nth p.val) = 4) : s.setLoop p 0 0 = s.loopTaken p 0 false := by
  have hset : s.setLoop p 0 0 = (s.loopTaken p 0 false).unloop p := by
    rw [State.setLoop, hold]
    rfl
  rw [hset, State.unloop_loopTaken hnone]

end

/-! ## The link down, and the loop active (R229) -/

section
variable (s : State) (p : Head)

theorem State.linkDown_ends (perst : Bool) : ((s.linkDown p perst).port p).up = false ∧ (s.linkDown p perst).mem = s.mem := by
  cases hup : (s.port p).up with
  | false =>
    have hsame : s.linkDown p perst = s := by
      rw [State.linkDown, hup]
      rfl
    rw [hsame]
    exact ⟨hup, rfl⟩
  | true =>
    obtain ⟨hport, hrest⟩ := linkLost_iff.1 (State.linkDown_lost hup perst).1
    exact ⟨hport.1, hrest.mem⟩

theorem State.linkDown_testCtl (perst : Bool) : (s.linkDown p perst).word (Reg.PRTn_TEST_CTL.LOOP.nth p.val).off = s.word (Reg.PRTn_TEST_CTL.LOOP.nth p.val).off :=
  State.word_of_steady (s.linkDown_steady p perst) (linkMarks_testCtl p)

variable (v errors : Nat)

theorem State.looped_mem : (s.looped p v errors).mem = s.mem := by
  unfold State.looped
  split <;> split <;> rfl

theorem State.looped_up : ((s.looped p v errors).port p).up = (s.port p).up := by
  unfold State.looped
  extract_lets t u
  have hu : (u.port p).up = (s.port p).up := by
    simp only [u]
    split
    · rfl
    · rw [State.port_updPort_self]
      rfl
  split
  · exact hu
  · rw [State.port_countPort, State.port_setF, hu]

theorem State.looped_loop : (s.looped p v errors).f (Reg.PRTn_TEST_CTL.LOOP.nth p.val) = s.f (Reg.PRTn_TEST_CTL.LOOP.nth p.val) := by
  apply State.f_of_word
  have hactive : (s.flag (Reg.PRTn_TEST_STATUS.ACTIVE.nth p.val)).word (Reg.PRTn_TEST_CTL.LOOP.nth p.val).off = s.word (Reg.PRTn_TEST_CTL.LOOP.nth p.val).off :=
    State.word_setF_ne _ _ 1 (testCtl_ne_active p)
  unfold State.looped
  extract_lets t u
  have hu : u.word (Reg.PRTn_TEST_CTL.LOOP.nth p.val).off = s.word (Reg.PRTn_TEST_CTL.LOOP.nth p.val).off := by
    simp only [u]
    split
    · exact hactive
    · rw [State.word_updPort, hactive]
  split
  · exact hu
  · rw [State.word_countPort, State.word_setF_ne _ _ _ (testCtl_ne_laneLock p), hu]

theorem State.looped_active : (s.looped p v errors).fb (Reg.PRTn_TEST_STATUS.ACTIVE.nth p.val) = true := by
  have hhi : (Reg.PRTn_TEST_STATUS.ACTIVE.nth p.val).hi = 0 := rfl
  have hlo : (Reg.PRTn_TEST_STATUS.ACTIVE.nth p.val).lo = 0 := rfl
  have hlockhi : (Reg.PRTn_TEST_STATUS.LANE_LOCK.nth p.val).hi = 15 := rfl
  have hlocklo : (Reg.PRTn_TEST_STATUS.LANE_LOCK.nth p.val).lo = 8 := rfl
  have hactive : (s.flag (Reg.PRTn_TEST_STATUS.ACTIVE.nth p.val)).fb (Reg.PRTn_TEST_STATUS.ACTIVE.nth p.val) = true := s.fb_flag_self _ (by omega) (by omega)
  unfold State.looped
  extract_lets t u
  have hu : u.fb (Reg.PRTn_TEST_STATUS.ACTIVE.nth p.val) = true := by
    simp only [u]
    split
    · exact hactive
    · rw [State.fb_updPort, hactive]
  split
  · exact hu
  · rw [State.countPort, State.fb_count, State.fb_setF _ _ _ _ (by omega) (by omega) (by omega), if_neg (by omega), hu]

theorem State.looped_lanes {v : Nat} (hv : v ≠ 2) : (s.looped p v errors).f (Reg.PRTn_TEST_STATUS.LANE_LOCK.nth p.val) = s.f (Reg.PRTn_TEST_CTL.LANE_MASK.nth p.val) := by
  have hlockhi : (Reg.PRTn_TEST_STATUS.LANE_LOCK.nth p.val).hi = 15 := rfl
  have hlocklo : (Reg.PRTn_TEST_STATUS.LANE_LOCK.nth p.val).lo = 8 := rfl
  have hactive : (s.flag (Reg.PRTn_TEST_STATUS.ACTIVE.nth p.val)).f (Reg.PRTn_TEST_CTL.LANE_MASK.nth p.val) = s.f (Reg.PRTn_TEST_CTL.LANE_MASK.nth p.val) := by
    apply State.f_of_word
    rw [laneMask_off]
    exact State.word_setF_ne _ _ 1 (testCtl_ne_active p)
  have hbound : s.f (Reg.PRTn_TEST_CTL.LANE_MASK.nth p.val) < 2 ^ (15 - 8 + 1) := Nat.mod_lt _ (Nat.two_pow_pos _)
  unfold State.looped
  extract_lets t u
  have hu : u.f (Reg.PRTn_TEST_CTL.LANE_MASK.nth p.val) = s.f (Reg.PRTn_TEST_CTL.LANE_MASK.nth p.val) := by
    simp only [u]
    split
    · exact hactive
    · rw [State.f_updPort, hactive]
  rw [if_neg hv, State.countPort, State.f_count, State.f_setF_self _ _ _ (by omega) (by omega), hlockhi, hlocklo, hu]
  exact Nat.mod_eq_of_lt hbound

end

/-! ## The port loop (R230) -/

/-- The port loop is active. -/
def State.portLooped (s : State) (p : Head) : State := (s.updPort p fun q => { q with loopWait := false }).flag (Reg.PRTn_TEST_STATUS.ACTIVE.nth p.val)

section
variable (s : State) (p : Head)

theorem State.portLooped_only : LoopOnly s p (s.portLooped p) :=
  (PortOnly.updPort s p fun q => { q with loopWait := false }).loopOnly.trans ((State.setF_csrOnly _ (Reg.PRTn_TEST_STATUS.ACTIVE.nth p.val) 1).loopOnly p)

theorem State.portLooped_port : (s.portLooped p).port p = { s.port p with loopWait := false } := by
  rw [State.portLooped, State.port_flag, State.port_updPort_self]

theorem State.portLooped_loop : (s.portLooped p).f (Reg.PRTn_TEST_CTL.LOOP.nth p.val) = s.f (Reg.PRTn_TEST_CTL.LOOP.nth p.val) := by
  apply State.f_of_word
  rw [State.portLooped, State.flag, State.word_setF_ne _ _ _ (testCtl_ne_active p), State.word_updPort]

theorem State.portLooped_active : (s.portLooped p).fb (Reg.PRTn_TEST_STATUS.ACTIVE.nth p.val) = true :=
  State.fb_flag_self _ (Reg.PRTn_TEST_STATUS.ACTIVE.nth p.val) (show 0 < 32 by decide) (show 0 ≤ 0 by decide)

end

/-- With no entry of the head the port loop is active at once. -/
theorem State.loopStart_of_no_entry {s : State} {p : Head} (hwait : (s.port p).loopWait = true) (hnone : ∀ r ∈ s.rtk, r.head ≠ p) :
    s.loopStart p = s.portLooped p := by
  have hearlier : (s.rtk.any fun r => r.head == p && r.chan != .inner && !r.loopWaits) = false :=
    List.any_eq_false.2 fun r hr => by simp [hnone r hr]
  have hwaits : s.rtk.filter (fun r => r.head == p && r.loopWaits) = [] := List.filter_eq_nil_iff.2 fun r hr => by simp [hnone r hr]
  rw [State.loopStart, hwait, hearlier, if_neg (by decide)]
  dsimp only [State.flag_rtk, State.updPort_rtk]
  rw [hwaits]
  rfl

/-! ## Who may write LOOP (R229, R447) -/

theorem exec_writesLoop (s : State) (w : Via) (p : Head) {i : Instr} (hi : i ∈ [Instr.phyLoop w p 0, .remoteLoopFollower w p, .remoteLoopLeader w p 0, .portLoop w p, .loopOff w p]) :
    ∃ v, exec i s = .next (s.writeLoop w p v 0) := by
  simp only [List.mem_cons, List.not_mem_nil, or_false] at hi
  obtain rfl | rfl | rfl | rfl | rfl := hi
  · exact ⟨1, rfl⟩
  · exact ⟨2, rfl⟩
  · exact ⟨3, rfl⟩
  · exact ⟨4, rfl⟩
  · exact ⟨0, rfl⟩

section
variable {s : State} {w : Via} {p : Head} (hrun : s.mainRuns = true)
include hrun

theorem State.writeLoop_owner (hown : s.isOwner w = true) (hp : p ∈ s.heads) (v errors : Nat) : s.writeLoop w p v errors = s.setLoop p v errors := by
  simp [State.writeLoop, State.regsUp, hrun, hown, hp]

theorem State.writeLoop_no_head (hown : s.isOwner w = true) (hp : p ∉ s.heads) (v errors : Nat) : s.writeLoop w p v errors = s := by
  simp [State.writeLoop, State.regsUp, hrun, hown, hp]

theorem State.writeLoop_nonowner (hown : s.isOwner w = false) (v errors : Nat) : s.writeLoop w p v errors = s.nonowner := by
  simp [State.writeLoop, State.regsUp, hrun, hown]

variable (hown : s.isOwner w = true) (hp : p ∈ s.heads)
include hown hp

/-- A PHY loop or a remote loop begins (R229). -/
theorem gives_loop (hnone : ∀ r ∈ s.rtk, ¬(r.head = p ∧ r.loopWaits = true)) {v errors : Nat} {i : Instr} (hexec : exec i s = .next (s.writeLoop w p v errors)) (hv : v = 1 ∨ v = 2 ∨ v = 3) :
    Gives i s fun t => t.f (Reg.PRTn_TEST_CTL.LOOP.nth p.val) = v ∧ t.fb (Reg.PRTn_TEST_STATUS.ACTIVE.nth p.val) = true ∧ (t.port p).up = false ∧
      (v ≠ 2 → t.f (Reg.PRTn_TEST_STATUS.LANE_LOCK.nth p.val) = s.f (Reg.PRTn_TEST_CTL.LANE_MASK.nth p.val)) ∧ t.mem = s.mem := by
  rw [State.writeLoop_owner hrun hown hp, State.setLoop_down hnone hv] at hexec
  refine ⟨_, hexec, ?_⟩
  have htaken := s.loopTaken_loop p v false (by omega)
  have hmask := s.loopTaken_laneMask p v false
  have hmem := (s.loopTaken_only p v false).mem
  generalize s.loopTaken p v false = u at *
  obtain ⟨hup, hcut⟩ := u.linkDown_ends p false
  have hword := u.linkDown_testCtl p false
  have hmaskWord : (u.linkDown p false).word (Reg.PRTn_TEST_CTL.LANE_MASK.nth p.val).off = u.word (Reg.PRTn_TEST_CTL.LANE_MASK.nth p.val).off := by rw [laneMask_off, hword]
  generalize u.linkDown p false = t at *
  refine ⟨?_, t.looped_active p v errors, (t.looped_up p v errors).trans hup, fun hv2 => ?_, ?_⟩
  · rw [State.looped_loop, State.f_of_word hword, htaken]
  · rw [State.looped_lanes _ _ _ hv2, State.f_of_word hmaskWord, hmask]
  · rw [State.looped_mem, hcut, hmem]

variable (hempty : ∀ r ∈ s.rtk, r.head ≠ p)
include hempty

theorem gives_portLoop : Gives (.portLoop w p) s fun t => t.f (Reg.PRTn_TEST_CTL.LOOP.nth p.val) = 4 ∧ t.portLoop p = true ∧ t.port p = { s.port p with loopWait := false } ∧
    (∀ g, g ≠ p → t.port g = s.port g) ∧ { t with csr := s.csr, ports := s.ports } = s := by
  have hexec : exec (.portLoop w p) s = .next (s.writeLoop w p 4 0) := rfl
  have hset : s.setLoop p 4 0 = (s.loopTaken p 4 true).loopStart p := rfl
  have honly := s.loopTaken_only p 4 true
  have hport := s.loopTaken_port p 4 true
  have hloop := s.loopTaken_loop p 4 true (by decide)
  have hwait : ((s.loopTaken p 4 true).port p).loopWait = true := by rw [hport]
  have hnone : ∀ r ∈ (s.loopTaken p 4 true).rtk, r.head ≠ p := by
    rw [honly.rtk]
    exact hempty
  rw [State.writeLoop_owner hrun hown hp, hset, State.loopStart_of_no_entry hwait hnone] at hexec
  refine ⟨_, hexec, ?_⟩
  clear hexec hset hwait hnone
  generalize s.loopTaken p 4 true = u at *
  have hlast := honly.trans (u.portLooped_only p)
  refine ⟨(u.portLooped_loop p).trans hloop, ?_, ?_, hlast.others, hlast.frame⟩
  · rw [State.portLoop, u.portLooped_loop, hloop, u.portLooped_active]
    rfl
  · rw [u.portLooped_port, hport]

theorem gives_loopOff (hold : s.f (Reg.PRTn_TEST_CTL.LOOP.nth p.val) = 4) : Gives (.loopOff w p) s fun t =>
    t.f (Reg.PRTn_TEST_CTL.LOOP.nth p.val) = 0 ∧ t.portLoop p = false ∧ t.port p = { s.port p with loopWait := false } ∧ (∀ g, g ≠ p → t.port g = s.port g) ∧ { t with csr := s.csr, ports := s.ports } = s := by
  have hexec : exec (.loopOff w p) s = .next (s.writeLoop w p 0 0) := rfl
  rw [State.writeLoop_owner hrun hown hp, State.setLoop_off (fun r hr h => hempty r hr h.1) hold] at hexec
  have hloop := s.loopTaken_loop p 0 false (by decide)
  have honly := s.loopTaken_only p 0 false
  refine ⟨_, hexec, hloop, ?_, s.loopTaken_port p 0 false, honly.others, honly.frame⟩
  rw [State.portLoop, hloop]
  rfl

end

/-- Settles O44: LOOP and the lane mask outlive the link down that a loop begins with, and the loop is active after it. -/
theorem testLoops : Obligations.TestLoops := by
  intro s w p hrun
  refine ⟨fun hown hp hnone => ⟨fun n x hx => ?_, fun hempty => gives_portLoop hrun hown hp hempty, fun hold hempty => gives_loopOff hrun hown hp hempty hold⟩,
    fun hown hp i hi => ?_, fun hown i hi => ?_⟩
  · simp only [List.mem_cons, List.not_mem_nil, or_false] at hx
    obtain rfl | rfl | rfl := hx
    · exact gives_loop hrun hown hp hnone (errors := n) rfl (.inl rfl)
    · exact gives_loop hrun hown hp hnone (errors := 0) rfl (.inr (.inl rfl))
    · exact gives_loop hrun hown hp hnone (errors := n) rfl (.inr (.inr rfl))
  · obtain ⟨v, hexec⟩ := exec_writesLoop s w p hi
    rw [hexec, State.writeLoop_no_head hrun hown hp]
  · obtain ⟨v, hexec⟩ := exec_writesLoop s w p hi
    rw [State.writeLoop_nonowner hrun hown] at hexec
    exact ⟨_, hexec, s.fb_flag_self Reg.GEN_STATUS.NONOWN_DROP (by decide) (by decide), fun o ho => State.word_setF_ne s Reg.GEN_STATUS.NONOWN_DROP 1 ho, s.setF_csrOnly Reg.GEN_STATUS.NONOWN_DROP 1⟩

end Sys2Proof.Machine
end

section
/-! PROOFS. Flits: taken in sequence once, and replayed in order (R209, R210, R212, R213). -/

namespace Sys2Proof.Machine

/-! ## What one port does on its link -/

/-- `t` is `s` with port `p` as `q` and with messages sent: the messages `ms`. -/
structure PortSent (s : State) (p : Head) (q : Port) (ms : List Msg) (t : State) : Prop where
  frame : { t with ports := s.ports, out := s.out, pmu := s.pmu } = s
  port : t.port p = q
  others : ∀ h, h ≠ p → t.port h = s.port h
  out : t.out = s.out ++ ms

namespace PortSent

theorem refl (s : State) (p : Head) : PortSent s p (s.port p) [] s := ⟨rfl, rfl, fun _ _ => rfl, (List.append_nil _).symm⟩

section
variable {s t : State} {p : Head} {q : Port} {ms : List Msg} (h : PortSent s p q ms t)
include h

theorem updPort (g : Port → Port) : PortSent s p (g q) ms (t.updPort p g) := by
  refine ⟨h.frame, ?_, fun k hk => (t.port_updPort_ne g hk).trans (h.others k hk), h.out⟩
  rw [State.port_updPort_self, h.port]

theorem send (m : Msg) : PortSent s p q (ms ++ [m]) (t.send m) := by
  refine ⟨h.frame, h.port, h.others, ?_⟩
  rw [State.send, h.out, List.append_assoc]

theorem countPort (g k n : Nat) : PortSent s p q ms (t.countPort g p k n) := ⟨h.frame, h.port, h.others, h.out⟩

end

/-- Messages sent one after the other. -/
theorem sendAll {α : Type} {s t : State} {p : Head} {q : Port} {ms : List Msg} (h : PortSent s p q ms t) (f : α → Msg) (l : List α) :
    PortSent s p q (ms ++ l.map f) (l.foldl (fun (s : State) x => s.send (f x)) t) := by
  induction l generalizing ms t with
  | nil => simpa using h
  | cons x l ih => simpa using ih (h.send (f x))

end PortSent

/-! ## Replays (R210, R213) -/

/-- A replay is counted on every flit that waits for its acknowledgement. -/
def Port.replaying (q : Port) : Port := { q with replay := q.replay.map fun x => { x with replays := x.replays + 1 } }

/-- The replays of the flits that wait, in order. -/
def Port.replayed (q : Port) (p : Head) : List Msg := q.replay.map fun x => Msg.replay p x.seq x.reqInc x.rwdInc

theorem Port.replayed_replaying (q : Port) (p : Head) : q.replaying.replayed p = q.replayed p := by
  simp [Port.replaying, Port.replayed]

theorem Port.replaying_of_nil {q : Port} (hq : q.replay = []) : q.replaying = q := by
  have hnil : q.replaying = { q with replay := [] } := by rw [Port.replaying, hq, List.map_nil]
  rw [hnil, ← hq]

/-- Every flit that waits is replayed in order; before the fourth replay of the oldest the port stays in L0. -/
theorem PortSent.replayAll {s t : State} {p : Head} {q : Port} {ms : List Msg} (h : PortSent s p q ms t) (hfew : ∀ x ∈ q.replay, x.replays < 3) :
    PortSent s p q.replaying (ms ++ q.replayed p) (t.replayAll p) := by
  cases hbuf : q.replay with
  | nil =>
    have hsame : t.replayAll p = t := by rw [State.replayAll, h.port, hbuf]
    rw [hsame, Port.replaying_of_nil hbuf, Port.replayed, hbuf, List.map_nil, List.append_nil]
    exact h
  | cons x l =>
    have hx : ¬ 4 ≤ x.replays + 1 := by
      have := hfew x (hbuf ▸ List.mem_cons_self)
      omega
    have hcounted := h.updPort Port.replaying
    have hsent := (hcounted.sendAll (fun x : TxFlit => Msg.replay p x.seq x.reqInc x.rwdInc) q.replaying.replay).countPort 0 4 1
    have hall : t.replayAll p = (((t.updPort p Port.replaying).port p).replay.foldl (fun (s : State) x => s.send (.replay p x.seq x.reqInc x.rwdInc)) (t.updPort p Port.replaying)).countPort 0 p 4 := by
      rw [State.replayAll, h.port, hbuf]
      exact if_neg hx
    rw [hall, hcounted.port, ← q.replayed_replaying]
    exact hsent

/-! ## What waits at the port (R48, R210, R217) -/

/-- Nothing waits at a port for credits or for room in its replay buffer. -/
structure State.Drained (s : State) (p : Head) : Prop where
  acks : (s.port p).acks = []
  ready : (s.port p).ready = []
  snoops : ∀ q ∈ s.dir.snoops, ¬(q.host = p ∧ q.sent = false)

theorem State.drainResponses_of_drained {s : State} {p : Head} (h : s.Drained p) : s.drainResponses p = s := by
  have hsnoops : (s.dir.snoops.filter fun q => q.host == p && !q.sent) = [] := List.filter_eq_nil_iff.2 fun q hq => by simpa using h.snoops q hq
  unfold State.drainResponses
  rw [h.acks]
  dsimp only [List.foldl_nil]
  rw [h.ready]
  dsimp only [List.foldl_nil]
  rw [hsnoops, List.foldl_nil]

/-- What a port does leaves nothing waiting there, as long as its own queues stay empty. -/
theorem PortSent.drained {s t : State} {p : Head} {q : Port} {ms : List Msg} (h : PortSent s p q ms t) (hs : s.Drained p) (hacks : q.acks = (s.port p).acks) (hready : q.ready = (s.port p).ready) :
    t.Drained p := by
  have hdir := congrArg State.dir h.frame
  refine ⟨?_, ?_, fun x hx => hs.snoops x (hdir ▸ hx)⟩
  · rw [h.port, hacks, hs.acks]
  · rw [h.port, hready, hs.ready]

/-! ## Flits received (R209, R212) -/

section
variable {s : State} {p : Head} (hup : (s.port p).up = true) (hl0 : (s.port p).ltssm = .l0)
include hup hl0

theorem port_takes : (!(s.port p).up || (s.port p).ltssm != .l0) = false := by
  rw [hup, hl0]
  rfl

variable {f : Flit} (hfec : f.fecFixed = false)
include hfec

/-- A bad flit is answered with a Nak (R209). -/
theorem exec_flitReceive_bad (hcrc : f.crc = .bad) : exec (.flitReceive p f) s =
    .next ((((s.countPort 0 p 0).flag (Reg.PRTn_LINK_ERR.FEC_UE.nth p.val)).countPort 0 p 3).send (.nak p (s.port p).rxSeq)) := by
  have hexec : exec (.flitReceive p f) s = execFlitReceive p f s := rfl
  rw [hexec, execFlitReceive, hcrc, hfec]
  exact if_neg (Bool.eq_false_iff.1 (port_takes hup hl0))

/-- A flit with a good CRC is taken, answered or dropped by its number (R209, R212). -/
theorem exec_flitReceive_good (hcrc : f.crc = .good) : exec (.flitReceive p f) s =
    if f.seq < (s.port p).rxSeq then .next (s.countPort 0 p 0)
    else if f.seq ≠ (s.port p).rxSeq then .next ((s.countPort 0 p 0).send (.nak p (s.port p).rxSeq))
    else .next ((((s.countPort 0 p 0).updPort p fun q => { q with rxSeq := q.rxSeq + 1, halfDone := none }).ideSlots p
      (if (s.port p).halfDone == some f.seq then f.second else f.first ++ f.second) true).send (.ack p f.seq)) := by
  have hexec : exec (.flitReceive p f) s = execFlitReceive p f s := rfl
  rw [hexec, execFlitReceive, hcrc, hfec]
  exact if_neg (Bool.eq_false_iff.1 (port_takes hup hl0))

/-- A flit out of its sequence changes no credit (R209). -/
theorem gives_flitBehind (hcrc : f.crc = .good) (hseq : f.seq < (s.port p).rxSeq) : Gives (.flitReceive p f) s fun t => { t with pmu := s.pmu } = s := by
  have hexec := exec_flitReceive_good hup hl0 hfec hcrc
  rw [if_pos hseq] at hexec
  exact ⟨_, hexec, s.count_frame ..⟩

theorem gives_flitAhead (hcrc : f.crc = .good) (hseq : (s.port p).rxSeq < f.seq) :
    Gives (.flitReceive p f) s fun t => t.out = s.out ++ [.nak p (s.port p).rxSeq] ∧ { t with out := s.out, pmu := s.pmu } = s := by
  have hexec := exec_flitReceive_good hup hl0 hfec hcrc
  rw [if_neg (by omega), if_pos (by omega)] at hexec
  have hsent := ((PortSent.refl s p).countPort 0 0 1).send (.nak p (s.port p).rxSeq)
  have hframe := congrArg (fun x : State => { x with out := s.out }) (s.count_frame 0 (9 * p.val + 0) 1 (some p.val))
  exact ⟨_, hexec, hsent.out, hframe⟩

theorem gives_flitBad (hcrc : f.crc = .bad) : Gives (.flitReceive p f) s fun t =>
    t.out = s.out ++ [.nak p (s.port p).rxSeq] ∧ t.fb (Reg.PRTn_LINK_ERR.FEC_UE.nth p.val) = true ∧ { t with out := s.out, pmu := s.pmu, csr := s.csr } = s := by
  have hflag : ((s.countPort 0 p 0).flag (Reg.PRTn_LINK_ERR.FEC_UE.nth p.val)).fb (Reg.PRTn_LINK_ERR.FEC_UE.nth p.val) = true :=
    State.fb_flag_self _ (Reg.PRTn_LINK_ERR.FEC_UE.nth p.val) (show 2 < 32 by decide) le_rfl
  have hcsr : CsrOnly (s.countPort 0 p 0) ((s.countPort 0 p 0).flag (Reg.PRTn_LINK_ERR.FEC_UE.nth p.val)) := State.setF_csrOnly _ _ 1
  refine ⟨_, exec_flitReceive_bad hup hl0 hfec hcrc, ?_⟩
  have hout : ((s.countPort 0 p 0).flag (Reg.PRTn_LINK_ERR.FEC_UE.nth p.val)).out = s.out := by rw [State.flag_out, State.countPort_out]
  generalize (s.countPort 0 p 0).flag (Reg.PRTn_LINK_ERR.FEC_UE.nth p.val) = u at hflag hcsr hout ⊢
  have hframe := congrArg (fun x : State => { x with out := s.out, pmu := s.pmu }) hcsr
  exact ⟨congrArg (· ++ [Msg.nak p (s.port p).rxSeq]) hout, hflag, hframe⟩

end

/-- With no containment mode the slots of a flit are taken at once (R225 to R227). -/
theorem State.ideSlots_of_no_containment {s : State} {p : Head} (hcontain : (s.port p).ideContain = false) (l : List Slot) (last : Bool) : s.ideSlots p l last = s.takeSlots p l := by
  rw [State.ideSlots, hcontain, Bool.and_false]
  rfl

/-- S2M credits added (R212). -/
def Port.credited (q : Port) (g : S2mGrant) : Port := { q with ndr := q.ndr + g.ndr, drs := q.drs + g.drs, bisnp := q.bisnp + g.bisnp }

theorem State.takeSlots_credits {s : State} {p : Head} (hup : (s.port p).up = true) (hdrained : s.Drained p) (g : S2mGrant) :
    s.takeSlots p [.credits g, .message] = s.updPort p fun q => q.credited g := by
  have hafter : (s.updPort p fun q => q.credited g).Drained p := ((PortSent.refl s p).updPort fun q => q.credited g).drained hdrained rfl rfl
  have hfold : [Slot.credits g, .message].foldl (fun (s : State) x => if (s.port p).up then s.takeSlot p x else s) s = s.updPort p fun q => q.credited g := by
    rw [List.foldl_cons, if_pos hup, List.foldl_cons, List.foldl_nil]
    exact ite_self _
  rw [State.takeSlots, hfold, State.drainResponses_of_drained hafter]

/-- The expected flit is taken once, and acknowledged (R209, R212). -/
theorem gives_flitTaken {s : State} {p : Head} (hup : (s.port p).up = true) (hl0 : (s.port p).ltssm = .l0) {f : Flit} (hfec : f.fecFixed = false) (hcrc : f.crc = .good) (hseq : f.seq = (s.port p).rxSeq)
    (hhalf : (s.port p).halfDone = none) (hdrained : s.Drained p) (hcontain : (s.port p).ideContain = false) {g : S2mGrant} (hfirst : f.first = [.credits g]) (hsecond : f.second = [.message]) :
    Gives (.flitReceive p f) s fun t => PortSent s p { s.port p with rxSeq := (s.port p).rxSeq + 1, ndr := (s.port p).ndr + g.ndr, drs := (s.port p).drs + g.drs, bisnp := (s.port p).bisnp + g.bisnp } [.ack p f.seq] t := by
  have hexec := exec_flitReceive_good hup hl0 hfec hcrc
  have hwhole : ((s.port p).halfDone == some f.seq) = false := by
    rw [hhalf]
    rfl
  have hnumbered := ((PortSent.refl s p).countPort 0 0 1).updPort fun q => { q with rxSeq := q.rxSeq + 1, halfDone := none }
  rw [if_neg (by omega), if_neg (by omega), hwhole, if_neg Bool.false_ne_true, hfirst, hsecond] at hexec
  generalize (s.countPort 0 p 0).updPort p _ = u at hexec hnumbered
  have hcontain' : (u.port p).ideContain = false := by rw [hnumbered.port, hcontain]
  have hup' : (u.port p).up = true := by rw [hnumbered.port, hup]
  rw [State.ideSlots_of_no_containment hcontain', List.singleton_append, State.takeSlots_credits hup' (hnumbered.drained hdrained rfl rfl)] at hexec
  refine ⟨_, hexec, ?_⟩
  have hlast := (hnumbered.updPort fun q => q.credited g).send (.ack p f.seq)
  have hsame : ({ s.port p with rxSeq := (s.port p).rxSeq + 1, halfDone := none } : Port).credited g =
      { s.port p with rxSeq := (s.port p).rxSeq + 1, ndr := (s.port p).ndr + g.ndr, drs := (s.port p).drs + g.drs, bisnp := (s.port p).bisnp + g.bisnp } := by
    rw [← hhalf]
    rfl
  rwa [← hsame]

/-! ## Naks and the replay timer (R210, R213) -/

section
variable {s : State} {p : Head} (hup : (s.port p).up = true) (hl0 : (s.port p).ltssm = .l0)
include hup hl0

/-- The flits that a Nak does not acknowledge. -/
def Port.unacked (q : Port) (seq : Nat) : Port := { q with replay := q.replay.filter fun t => decide (seq < t.seq) }

theorem gives_nak (seq : Nat) (hfew : ∀ x ∈ (s.port p).replay, x.replays < 3) (hdrained : s.Drained p) :
    Gives (.nak p seq) s (PortSent s p ((s.port p).unacked seq).replaying (((s.port p).unacked seq).replayed p)) := by
  have hdropped := (PortSent.refl s p).updPort fun q => q.unacked seq
  have hsent := hdropped.replayAll fun x hx => hfew x (List.mem_of_mem_filter hx)
  have hexec : exec (.nak p seq) s = .next (((s.updPort p fun q => q.unacked seq).replayAll p).drainResponses p) := if_neg (Bool.eq_false_iff.1 (port_takes hup hl0))
  rw [State.drainResponses_of_drained (hsent.drained hdrained rfl rfl)] at hexec
  exact ⟨_, hexec, hsent⟩

theorem gives_replayTimerExpiry (hfew : ∀ x ∈ (s.port p).replay, x.replays < 3) : Gives (.replayTimerExpiry p) s (PortSent s p (s.port p).replaying ((s.port p).replayed p)) :=
  ⟨s.replayAll p, if_neg (Bool.eq_false_iff.1 (port_takes hup hl0)), (PortSent.refl s p).replayAll hfew⟩

end

/-- Settles O41: each answer is one change of the port with its messages, and a port where nothing waits has nothing to drain. -/
theorem flits : Obligations.Flits := by
  intro s p hup hl0
  refine ⟨fun f hfec => ⟨fun hcrc hseq hhalf hacks hready hcontain hsnoops g hfirst hsecond => ?_, fun hcrc => gives_flitBehind hup hl0 hfec hcrc, fun hcrc => gives_flitAhead hup hl0 hfec hcrc,
    fun hcrc => gives_flitBad hup hl0 hfec hcrc⟩, fun seq hfew hacks hready hsnoops => ?_, fun hfew => ?_⟩
  · obtain ⟨t, hexec, hsent⟩ := gives_flitTaken hup hl0 hfec hcrc hseq hhalf ⟨hacks, hready, hsnoops⟩ hcontain hfirst hsecond
    exact ⟨t, hexec, hsent.port, hsent.others, hsent.out, hsent.frame⟩
  · obtain ⟨t, hexec, hsent⟩ := gives_nak hup hl0 seq hfew ⟨hacks, hready, hsnoops⟩
    exact ⟨t, hexec, congrArg Port.replay hsent.port, hsent.out, hsent.others, hsent.frame⟩
  · obtain ⟨t, hexec, hsent⟩ := gives_replayTimerExpiry hup hl0 hfew
    exact ⟨t, hexec, congrArg Port.replay hsent.port, hsent.out, hsent.frame⟩

end Sys2Proof.Machine
end

section
/-! PROOFS. Recovery, lost lanes and L0p (R204, R210, R218, R220, R221, R391). -/

namespace Sys2Proof.Machine

/-! ## Into Recovery (R220, R221) -/

/-- A port in Recovery, at full width (R210, R220). -/
def Port.recovering (q : Port) : Port :=
  { q with ltssm := .recovery, txWidth := q.width, rxWidth := q.width
           replayDue := q.replay.any fun t => t.replays != 0, replay := q.replay.map fun t => { t with replays := 0 } }

section
variable {s : State} {p : Head} (hup : (s.port p).up = true)
include hup

/-- Recovery begins: the port changes, and RETRAINED is set. -/
theorem State.recover_gives (hl0 : (s.port p).ltssm = .l0) : Recovered s p (s.recover p) := by
  have heq : s.recover p = ((s.updPort p Port.recovering).flag (Reg.PRTn_LINK_ERR.RETRAINED.nth p.val)).countPort 0 p 5 := by
    rw [State.recover]
    refine if_neg ?_
    rw [hup, hl0]
    decide
  have hport := s.port_updPort_self p Port.recovering
  have honly := PortOnly.updPort s p Port.recovering
  rw [heq]
  generalize s.updPort p Port.recovering = u at hport honly ⊢
  have hall := honly.loopOnly.trans ((u.setF_csrOnly (Reg.PRTn_LINK_ERR.RETRAINED.nth p.val) 1).loopOnly p)
  have hflag : (u.flag (Reg.PRTn_LINK_ERR.RETRAINED.nth p.val)).fb (Reg.PRTn_LINK_ERR.RETRAINED.nth p.val) = true :=
    u.fb_flag_self (Reg.PRTn_LINK_ERR.RETRAINED.nth p.val) (show 3 < 32 by decide) le_rfl
  exact ⟨hport, hall.others, hflag, congrArg (fun x : State => { x with pmu := s.pmu }) hall.frame⟩

theorem gives_retrain (hl0 : (s.port p).ltssm = .l0) {w : Via} (hrun : s.mainRuns = true) (hmay : s.mayWritePort w p = true) : Gives (.retrain w p) s (Recovered s p) := by
  have hexec : exec (.retrain w p) s = execRetrain w p s := rfl
  rw [execRetrain, State.regsUp, hrun, hmay] at hexec
  exact ⟨_, hexec, State.recover_gives hup hl0⟩

end

theorem gives_retrain_nonowner {s : State} {p : Head} {w : Via} (hrun : s.mainRuns = true) (hmay : s.mayWritePort w p = false) :
    Gives (.retrain w p) s fun t => t.fb Reg.GEN_STATUS.NONOWN_DROP = true ∧ { t with csr := s.csr } = s := by
  have hexec : exec (.retrain w p) s = execRetrain w p s := rfl
  rw [execRetrain, State.regsUp, hrun, hmay] at hexec
  exact ⟨_, hexec, s.fb_flag_self Reg.GEN_STATUS.NONOWN_DROP (by decide) (by decide), s.setF_csrOnly Reg.GEN_STATUS.NONOWN_DROP 1⟩

/-! ## Back to L0 (R210, R220) -/

/-- The port back in L0, where no key change is due and the replay that was due goes on. -/
def Port.returned (q : Port) (after : Nat) : Port := { q with ltssm := .l0, l0pAfter := after, replayDue := false }

section
variable {s : State} {p : Head} (hrec : (s.port p).ltssm = .recovery) (hdue : (s.port p).goDue = [])
include hrec hdue

theorem exec_linkRecovery_back (byHost : Bool) : ∃ u, PortOnly s p u ∧ PortSent s p ((s.port p).returned (s.now + 10000)) [] u ∧
    exec (.linkRecovery p byHost true) s = .next (if (s.port p).replayDue then u.replayAll p else u) := by
  have hexec : exec (.linkRecovery p byHost true) s = .next (if (s.port p).ltssm == .recovery then s.backToL0 p else s) := rfl
  have hret : (s.port p).goDue.foldl (fun (q : Port) g => q.switchKey g.1 g.2.1 g.2.2) { s.port p with ltssm := .l0, l0pAfter := s.now + 10000, goDue := [], replayDue := false } =
      (s.port p).returned (s.now + 10000) := by
    rw [hdue, List.foldl_nil, ← hdue]
    rfl
  have hsent := (PortSent.refl s p).updPort fun q => q.goDue.foldl (fun (q : Port) g => q.switchKey g.1 g.2.1 g.2.2) { q with ltssm := .l0, l0pAfter := s.now + 10000, goDue := [], replayDue := false }
  rw [hret] at hsent
  rw [hrec] at hexec
  exact ⟨_, PortOnly.updPort s p _, hsent, hexec⟩

theorem gives_back (byHost : Bool) (hreplay : (s.port p).replayDue = false) : Gives (.linkRecovery p byHost true) s fun t =>
    t.port p = { s.port p with ltssm := .l0, l0pAfter := s.now + 10000 } ∧ (∀ g, g ≠ p → t.port g = s.port g) ∧ { t with ports := s.ports } = s := by
  obtain ⟨u, honly, hsent, hexec⟩ := exec_linkRecovery_back hrec hdue byHost
  rw [hreplay] at hexec
  have hport : (s.port p).returned (s.now + 10000) = { s.port p with ltssm := .l0, l0pAfter := s.now + 10000 } := by
    rw [Port.returned, ← hreplay]
  exact ⟨u, hexec, hsent.port.trans hport, honly.others, honly.frame⟩

theorem gives_back_replay (byHost : Bool) (hreplay : (s.port p).replayDue = true) (hfew : ∀ x ∈ (s.port p).replay, x.replays < 3) :
    Gives (.linkRecovery p byHost true) s (PortSent s p ((s.port p).returned (s.now + 10000)).replaying ((s.port p).replayed p)) := by
  obtain ⟨u, -, hsent, hexec⟩ := exec_linkRecovery_back hrec hdue byHost
  rw [hreplay] at hexec
  exact ⟨_, hexec, hsent.replayAll hfew⟩

end

/-! ## Lost lanes (R204) -/

/-- A link narrowed to the lanes that are left: it has been through Recovery, and DEGRADED stands. -/
def State.narrowedTo (s : State) (p : Head) (left : BitVec 16) (w : Nat) : State :=
  ((((s.updPort p fun q => { q with goodLanes := left }).updPort p fun q => { q with width := w, txWidth := w, rxWidth := w, l0pAfter := s.now + 10000 }).flag
    (Reg.PRTn_LINK_ERR.DEGRADED.nth p.val)).flag (Reg.PRTn_LINK_ERR.RETRAINED.nth p.val)).countPort 0 p 5

section
variable (s : State) (p : Head) (left : BitVec 16) (w : Nat)

theorem State.narrowedTo_port : (s.narrowedTo p left w).port p = { s.port p with goodLanes := left, width := w, txWidth := w, rxWidth := w, l0pAfter := s.now + 10000 } := by
  rw [State.narrowedTo, State.port_countPort, State.port_flag, State.port_flag, State.port_updPort_self, State.port_updPort_self]

theorem State.narrowedTo_degraded : (s.narrowedTo p left w).fb (Reg.PRTn_LINK_ERR.DEGRADED.nth p.val) = true := by
  have hhi : (Reg.PRTn_LINK_ERR.DEGRADED.nth p.val).hi = 9 := rfl
  have hlo : (Reg.PRTn_LINK_ERR.DEGRADED.nth p.val).lo = 9 := rfl
  have hretHi : (Reg.PRTn_LINK_ERR.RETRAINED.nth p.val).hi = 3 := rfl
  have hretLo : (Reg.PRTn_LINK_ERR.RETRAINED.nth p.val).lo = 3 := rfl
  rw [State.narrowedTo, State.countPort, State.fb_count, State.fb_flag_ne _ _ _ (by omega) (by omega) (by omega) (by omega), State.fb_flag_self _ _ (by omega) (by omega)]

theorem State.narrowedTo_kept : (s.narrowedTo p left w).rtk = s.rtk ∧ (s.narrowedTo p left w).mem = s.mem := by
  constructor
  · rw [State.narrowedTo, State.countPort_rtk, State.flag_rtk, State.flag_rtk, State.updPort_rtk, State.updPort_rtk]
  · rw [State.narrowedTo, State.countPort_mem, State.flag_mem, State.flag_mem, State.updPort_mem, State.updPort_mem]

end

/-- The narrowing is told in an event record and a Pannier record. -/
def State.narrowingTold (s : State) (p : Head) : State :=
  (s.event (withOwner s [p]) .warning .linkNarrowed p.val).pannier (4 + p.val) 0 1 .linkNarrowed 1 0 0 (0x100008 + 0x10000 * p.val) true

theorem State.narrowingTold_noted (s : State) (p : Head) : Noted s (s.narrowingTold p) := (s.event_noted (withOwner s [p]) .warning .linkNarrowed p.val false none).1.trans (State.pannier_noted ..)

theorem State.narrowingTold_fb (s : State) (p : Head) {x : Fld} (hx : x.off ≠ 0x750000) : (s.narrowingTold p).fb x = s.fb x := by
  obtain ⟨-, hcsr, -⟩ := s.event_noted (withOwner s [p]) .warning .linkNarrowed p.val false none
  refine State.fb_of_word ((State.pannier_word hx ..).trans (State.word_congr hcsr _))

section
variable {s : State} {p : Head} {good : BitVec 16} (hup : (s.port p).up = true) (hlost : (s.port p).goodLanes &&& good ≠ (s.port p).goodLanes)
  (hsome : 0 < min (s.port p).width (linkWidth (s.tandem p) ((s.port p).goodLanes &&& good)))
  (hless : min (s.port p).width (linkWidth (s.tandem p) ((s.port p).goodLanes &&& good)) < (s.port p).width)
include hup hlost hsome hless

theorem exec_laneFailure_narrows :
    exec (.laneFailure p good) s = .next ((s.narrowedTo p ((s.port p).goodLanes &&& good) (linkWidth (s.tandem p) ((s.port p).goodLanes &&& good))).narrowingTold p) := by
  have hw : min (s.port p).width (linkWidth (s.tandem p) ((s.port p).goodLanes &&& good)) = linkWidth (s.tandem p) ((s.port p).goodLanes &&& good) := by omega
  rw [hw] at hsome hless
  have hexec : exec (.laneFailure p good) s = execLaneFailure p good s := rfl
  have hgo : (!(s.port p).up || ((s.port p).goodLanes &&& good) == (s.port p).goodLanes) = false := by
    rw [hup, beq_false_of_ne hlost]
    rfl
  rw [execLaneFailure] at hexec
  dsimp only at hexec
  rw [if_neg (Bool.eq_false_iff.1 hgo), hw, if_neg (by omega), if_neg (by omega)] at hexec
  exact hexec

theorem gives_laneFailure : Gives (.laneFailure p good) s fun t =>
    (t.port p).width = linkWidth (s.tandem p) ((s.port p).goodLanes &&& good) ∧ (t.port p).up = true ∧ (t.port p).ltssm = (s.port p).ltssm ∧ (t.port p).goodLanes = (s.port p).goodLanes &&& good ∧
    (t.port p).replay = (s.port p).replay ∧ (t.port p).reqHost = (s.port p).reqHost ∧ t.fb (Reg.PRTn_LINK_ERR.DEGRADED.nth p.val) = true ∧ t.rtk = s.rtk ∧ t.mem = s.mem := by
  refine ⟨_, exec_laneFailure_narrows hup hlost hsome hless, ?_⟩
  have hport := s.narrowedTo_port p ((s.port p).goodLanes &&& good) (linkWidth (s.tandem p) ((s.port p).goodLanes &&& good))
  have hdegraded := s.narrowedTo_degraded p ((s.port p).goodLanes &&& good) (linkWidth (s.tandem p) ((s.port p).goodLanes &&& good))
  obtain ⟨hrtk, hmem⟩ := s.narrowedTo_kept p ((s.port p).goodLanes &&& good) (linkWidth (s.tandem p) ((s.port p).goodLanes &&& good))
  generalize s.narrowedTo p _ _ = u at *
  obtain ⟨hframe, hports⟩ := u.narrowingTold_noted p
  have hoff : (Reg.PRTn_LINK_ERR.DEGRADED.nth p.val).off ≠ 0x750000 := show 0x100008 + 0x10000 * p.val ≠ 0x750000 by omega
  have hfb := u.narrowingTold_fb p hoff
  have hrtk' := congrArg State.rtk hframe
  have hmem' := congrArg State.mem hframe
  have hkept := hports p
  generalize u.narrowingTold p = t at *
  have hwidth := congrArg Port.width hkept
  have hup' := congrArg Port.up hkept
  have hltssm := congrArg Port.ltssm hkept
  have hlanes := congrArg Port.goodLanes hkept
  have hreplay := congrArg Port.replay hkept
  have hreq := congrArg Port.reqHost hkept
  rw [hport] at hwidth hup' hltssm hlanes hreplay hreq
  exact ⟨hwidth, hup'.trans hup, hltssm, hlanes, hreplay, hreq, hfb.trans hdegraded, Eq.trans hrtk' hrtk, Eq.trans hmem' hmem⟩

end

/-! ## L0p (R218, R391) -/

theorem isWidth_of_mem {w : Nat} (hw : w ∈ [1, 2, 4, 8, 16]) : isWidth w = true := by
  simp only [List.mem_cons, List.not_mem_nil, or_false] at hw
  obtain rfl | rfl | rfl | rfl | rfl := hw <;> rfl

/-- Port `p` is now `q`, and the message `m` has gone. -/
structure Asked (s : State) (p : Head) (q : Port) (m : Msg) (t : State) : Prop where
  port : t.port p = q
  out : t.out = s.out ++ [m]
  others : ∀ g, g ≠ p → t.port g = s.port g
  frame : { t with ports := s.ports, out := s.out } = s

theorem Asked.updPort_send (s : State) (p : Head) (g : Port → Port) (m : Msg) : Asked s p (g (s.port p)) m ((s.updPort p g).send m) :=
  ⟨s.port_updPort_self p g, rfl, fun _ hk => s.port_updPort_ne g hk, s.updPort_send_frame p g m⟩

section
variable {s : State} {p : Head} (hok : s.l0pOk p = true)
include hok

theorem gives_l0pHostRequest (rx : Bool) (w : Fin 17) (hwidth : isWidth w.val = true) (hle : w.val ≤ (s.port p).width) :
    Gives (.l0pHostRequest p rx w) s (Asked s p (if rx then { s.port p with rxWidth := w.val } else { s.port p with txWidth := w.val }) (.l0pAck p rx w.val)) := by
  have hgo : (!s.l0pOk p || !isWidth w.val || decide ((s.port p).width < w.val)) = false := by
    rw [hok, hwidth, decide_eq_false (Nat.not_lt.2 hle)]
    rfl
  exact ⟨_, if_neg (Bool.eq_false_iff.1 hgo), .updPort_send s p (fun q => if rx then { q with rxWidth := w.val } else { q with txWidth := w.val }) (.l0pAck p rx w.val)⟩

variable (hheld : (s.port p).l0pAfter ≤ s.now)
include hheld

theorem gives_l0pNarrow (hmin : s.l0pMin p ≤ (s.port p).txWidth / 2) (hpos : 0 < (s.port p).txWidth / 2) :
    Gives (.l0pNarrow p) s (Asked s p { s.port p with txWidth := (s.port p).txWidth / 2 } (.l0pRequest p ((s.port p).txWidth / 2))) := by
  have hgo : (!s.l0pOk p || decide (s.now < (s.port p).l0pAfter) || decide ((s.port p).txWidth / 2 < s.l0pMin p) || (s.port p).txWidth / 2 == 0) = false := by
    rw [hok, decide_eq_false (Nat.not_lt.2 hheld), decide_eq_false (Nat.not_lt.2 hmin), beq_false_of_ne (Nat.ne_of_gt hpos)]
    rfl
  have hnarrow : s.narrow p = (s.updPort p fun q => { q with txWidth := (s.port p).txWidth / 2 }).send (.l0pRequest p ((s.port p).txWidth / 2)) := if_neg (Bool.eq_false_iff.1 hgo)
  exact ⟨_, congrArg Host.Outcome.next hnarrow, .updPort_send s p (fun q => { q with txWidth := (s.port p).txWidth / 2 }) _⟩

theorem gives_l0pWiden (byCadence : Bool) (hstage : byCadence = true → s.cad.stage = 0) (hless : (s.port p).txWidth < (s.port p).width) :
    Gives (.l0pWiden p byCadence) s (Asked s p { s.port p with txWidth := (s.port p).width } (.l0pRequest p (s.port p).width)) := by
  have hexec : exec (.l0pWiden p byCadence) s = .next (if byCadence && s.cad.stage.val != 0 then s else s.widen p) := rfl
  have hmay : (byCadence && s.cad.stage.val != 0) = false := by
    cases byCadence with
    | false => rfl
    | true => rw [hstage rfl]; rfl
  have hgo : (!s.l0pOk p || decide (s.now < (s.port p).l0pAfter) || decide ((s.port p).width ≤ (s.port p).txWidth)) = false := by
    rw [hok, decide_eq_false (Nat.not_lt.2 hheld), decide_eq_false (Nat.not_le.2 hless)]
    rfl
  have hwiden : s.widen p = (s.updPort p fun q => { q with txWidth := q.width }).send (.l0pRequest p (s.port p).width) := if_neg (Bool.eq_false_iff.1 hgo)
  rw [hmay, if_neg Bool.false_ne_true, hwiden] at hexec
  exact ⟨_, hexec, .updPort_send s p (fun q => { q with txWidth := q.width }) _⟩

end

/-- Settles O40: Recovery and a narrowed link change one port and its error register, the way back goes on with the replay that was due, and L0p is one change of the port with its message. -/
theorem recoveryLanesL0p : Obligations.RecoveryLanesL0p := by
  refine ⟨fun s p hup => ⟨fun hl0 => ⟨fun _ => ⟨_, rfl, State.recover_gives hup hl0⟩, fun w hrun hmay => gives_retrain hup hl0 hrun hmay⟩, fun w hrun hmay => gives_retrain_nonowner hrun hmay,
    fun hrec hdue byHost => ⟨fun hreplay => gives_back hrec hdue byHost hreplay, fun hreplay hfew => ?_⟩, fun good => ?_⟩,
    fun s p hok => ⟨fun rx w hw hle => ?_, fun hheld hmin hpos => ?_, fun byCadence hstage hheld hless => ?_⟩⟩
  · obtain ⟨t, hexec, hsent⟩ := gives_back_replay hrec hdue byHost hreplay hfew
    exact ⟨t, hexec, hsent.port, hsent.out, hsent.others, hsent.frame⟩
  · intro left hlost hsome hless
    exact gives_laneFailure hup hlost hsome hless
  · obtain ⟨t, hexec, hasked⟩ := gives_l0pHostRequest hok rx w (isWidth_of_mem hw) hle
    exact ⟨t, hexec, hasked.port, hasked.out, hasked.others, hasked.frame⟩
  · obtain ⟨t, hexec, hasked⟩ := gives_l0pNarrow hok hheld hmin hpos
    exact ⟨t, hexec, hasked.port, hasked.out, hasked.others, hasked.frame⟩
  · obtain ⟨t, hexec, hasked⟩ := gives_l0pWiden hok hheld byCadence hstage hless
    exact ⟨t, hexec, hasked.port, hasked.out, hasked.others, hasked.frame⟩

end Sys2Proof.Machine
end

section
/-! PROOFS. Entries of power domains: asked, answered, refused and reached (R357 to R359, R362 to R365). -/

namespace Sys2Proof.Machine

/-! ## One domain changed -/

/-- Domain `d` alone has changed. -/
structure DomOnly (s : State) (d : Nat) (t : State) : Prop where
  frame : { t with doms := s.doms } = s
  others : ∀ j, j ≠ d → t.dom j = s.dom j

theorem DomOnly.updDom (s : State) (d : Nat) (g : Domain → Domain) : DomOnly s d (s.updDom d g) :=
  ⟨rfl, fun j hj => by rw [State.dom_updDom, if_neg hj]⟩

theorem DomOnly.trans {s t u : State} {d : Nat} (h1 : DomOnly s d t) (h2 : DomOnly t d u) : DomOnly s d u := by
  have hframe := congrArg (fun x : State => { x with doms := s.doms }) h2.frame
  exact ⟨Eq.trans hframe h1.frame, fun j hj => (h2.others j hj).trans (h1.others j hj)⟩

/-! ## The stop phase begins (R358, R359, R362) -/

section
variable {s : State} {d : Nat} (hrun : s.mainRuns = true) (hon : s.domOn d = true) (hheld : (s.dom d).holdUntil ≤ s.now)
include hrun hon hheld

theorem State.askEntry_eq {off byCad : Bool} (hmay : s.mayAsk d off byCad = true) : s.askEntry d off byCad = s.updDom d fun x => { x with st := .stopping off, stopped := [] } := by
  have hgo : (!s.mainRuns || !s.domOn d || !s.mayAsk d off byCad || decide (s.now < (s.dom d).holdUntil)) = false := by
    rw [hrun, hon, hmay, decide_eq_false (Nat.not_lt.2 hheld)]
    rfl
  exact if_neg (Bool.eq_false_iff.1 hgo)

end

/-- A port with no receiver may be asked for RET where the policy says so (R219, R358). -/
theorem State.mayAsk_port {s : State} (p : Head) (hpolicy : 1 ≤ s.f Reg.PWR_POLICY.PRT) : s.mayAsk (4 + p.val) false false = true := by
  have hkind : domKind (4 + p.val) = .prt := by
    have hp := p.isLt
    simp only [domKind]
    rw [if_neg (by omega), if_neg (by omega), if_pos (by omega)]
  rw [State.mayAsk, hkind]
  simp [State.policy, hpolicy]

section
variable {s : State} {d : DomainId} (hrun : s.mainRuns = true) (hon : s.domOn d.val = true) (hheld : (s.dom d.val).holdUntil ≤ s.now)
include hrun hon hheld

theorem exec_domainEntryRequest {off byCad : Bool} (hmay : s.mayAsk d.val off byCad = true) (hcad : byCad = true → s.cadenceAsks d.val = true) :
    exec (.domainEntryRequest d off byCad) s = .next (s.updDom d.val fun x => { x with st := .stopping off, stopped := [] }) := by
  have hexec : exec (.domainEntryRequest d off byCad) s = if byCad && !s.cadenceAsks d.val then .next s else .next (s.askEntry d.val off byCad) := rfl
  have hasks : (byCad && !s.cadenceAsks d.val) = false := by
    cases byCad with
    | false => rfl
    | true => rw [hcad rfl]; rfl
  rw [hexec, hasks, if_neg Bool.false_ne_true, State.askEntry_eq hrun hon hheld hmay]

theorem exec_idlePolicyTimeout {off : Bool} (hoff : off = s.mayAsk d.val true false) (hquiet : domKind d.val = .ch → (s.chan (chOf d.val)).st = .quiet) (hmay : s.mayAsk d.val off false = true) :
    exec (.idlePolicyTimeout d) s = .next (s.updDom d.val fun x => { x with st := .stopping off, stopped := [] }) := by
  have hexec : exec (.idlePolicyTimeout d) s =
      if domKind d.val == .ch && (s.chan (chOf d.val)).st != .quiet then .next s else .next (s.askEntry d.val (s.mayAsk d.val true false) false) := rfl
  have hgo : (domKind d.val == .ch && (s.chan (chOf d.val)).st != .quiet) = false := by
    rw [Bool.and_eq_false_iff, or_iff_not_imp_left]
    intro hch
    rw [hquiet (by simpa using hch)]
    rfl
  rw [hexec, hgo, if_neg Bool.false_ne_true, ← hoff, State.askEntry_eq hrun hon hheld hmay]

theorem exec_noReceiverTimeout {p : Head} (hd : d.val = 4 + p.val) (hdown : (s.port p).up = false) (hrecv : (s.port p).receiver = false) (hpolicy : 1 ≤ s.f Reg.PWR_POLICY.PRT) :
    exec (.noReceiverTimeout p) s = .next (s.updDom d.val fun x => { x with st := .stopping false, stopped := [] }) := by
  have hexec : exec (.noReceiverTimeout p) s = execNoReceiverTimeout p s := rfl
  rw [hd] at hon hheld ⊢
  rw [hexec, execNoReceiverTimeout, hdown, hrecv, if_neg (by decide), State.askEntry_eq hrun hon hheld (State.mayAsk_port p hpolicy)]

end

/-! ## A refusal (R363, R365) -/

/-- A refusal logged: PWR_STATUS and PWR_REFUSE_LOG. -/
def State.refuseLogged (s : State) (d unit code n : Nat) : State :=
  (((((s.flag Reg.PWR_STATUS.REFUSED).flag Reg.PWR_REFUSE_LOG.VALID).setF Reg.PWR_REFUSE_LOG.DOMAIN d).setF Reg.PWR_REFUSE_LOG.UNIT unit).setF Reg.PWR_REFUSE_LOG.CODE code).setF
    Reg.PWR_REFUSE_LOG.COUNT (min 255 n)

section
variable (s : State) (d unit code n : Nat)

theorem State.refuseLogged_csrOnly : CsrOnly s (s.refuseLogged d unit code n) :=
  (((((s.setF_csrOnly _ 1).trans (State.setF_csrOnly _ _ 1)).trans (State.setF_csrOnly _ _ d)).trans (State.setF_csrOnly _ _ unit)).trans (State.setF_csrOnly _ _ code)).trans (State.setF_csrOnly _ _ (min 255 n))

theorem State.refuseLogged_refused : (s.refuseLogged d unit code n).fb Reg.PWR_STATUS.REFUSED = true := by
  rw [State.refuseLogged, State.fb_setF _ _ _ _ (by decide) (by decide) (by decide), if_neg (by decide), State.fb_setF _ _ _ _ (by decide) (by decide) (by decide), if_neg (by decide),
    State.fb_setF _ _ _ _ (by decide) (by decide) (by decide), if_neg (by decide), State.fb_setF _ _ _ _ (by decide) (by decide) (by decide), if_neg (by decide),
    State.fb_flag_ne _ _ _ (by decide) (by decide) (by decide) (by decide), State.fb_flag_self _ _ (by decide) (by decide)]

theorem State.refuseLogged_valid : (s.refuseLogged d unit code n).fb Reg.PWR_REFUSE_LOG.VALID = true := by
  rw [State.refuseLogged, State.fb_setF _ _ _ _ (by decide) (by decide) (by decide), if_neg (by decide), State.fb_setF _ _ _ _ (by decide) (by decide) (by decide), if_neg (by decide),
    State.fb_setF _ _ _ _ (by decide) (by decide) (by decide), if_neg (by decide), State.fb_setF _ _ _ _ (by decide) (by decide) (by decide), if_neg (by decide), State.fb_flag_self _ _ (by decide) (by decide)]

theorem State.refuseLogged_domain (hd : d < 64) : (s.refuseLogged d unit code n).f Reg.PWR_REFUSE_LOG.DOMAIN = d := by
  rw [State.refuseLogged, State.f_setF_ne _ _ _ _ (by decide) (by decide) (by decide) (by decide) (by decide), State.f_setF_ne _ _ _ _ (by decide) (by decide) (by decide) (by decide) (by decide),
    State.f_setF_ne _ _ _ _ (by decide) (by decide) (by decide) (by decide) (by decide), State.f_setF_self _ _ _ (by decide) (by decide)]
  exact Nat.mod_eq_of_lt hd

theorem State.refuseLogged_unit (hunit : unit < 256) : (s.refuseLogged d unit code n).f Reg.PWR_REFUSE_LOG.UNIT = unit := by
  rw [State.refuseLogged, State.f_setF_ne _ _ _ _ (by decide) (by decide) (by decide) (by decide) (by decide), State.f_setF_ne _ _ _ _ (by decide) (by decide) (by decide) (by decide) (by decide),
    State.f_setF_self _ _ _ (by decide) (by decide)]
  exact Nat.mod_eq_of_lt hunit

theorem State.refuseLogged_code (hcode : code < 16) : (s.refuseLogged d unit code n).f Reg.PWR_REFUSE_LOG.CODE = code := by
  rw [State.refuseLogged, State.f_setF_ne _ _ _ _ (by decide) (by decide) (by decide) (by decide) (by decide), State.f_setF_self _ _ _ (by decide) (by decide)]
  exact Nat.mod_eq_of_lt hcode

end

/-- Is a refusal one more with the same code in a row (R365)? -/
def State.refusedAgain (s : State) (d code : Nat) : Bool := (s.dom d).lastCode == code && (s.dom d).refusals != 0

theorem State.refusedAgain_iff {s : State} {d code : Nat} : s.refusedAgain d code = true ↔ (s.dom d).lastCode = code ∧ (s.dom d).refusals ≠ 0 := by
  simp [State.refusedAgain]

/-- How long the domain is held off after a refusal, in ms (R365). -/
def State.holdOff (s : State) (d code : Nat) : Nat := if s.refusedAgain d code then min 64 (2 * (s.dom d).holdMs) else s.refuseHold

theorem State.holdOff_eq (s : State) (d code : Nat) : s.holdOff d code = if (s.dom d).lastCode = code ∧ (s.dom d).refusals ≠ 0 then min 64 (2 * (s.dom d).holdMs) else s.refuseHold := by
  simp only [State.holdOff, State.refusedAgain_iff]

/-- How many refusals with the same code there have been in a row (R365). -/
def State.refusalsNow (s : State) (d code : Nat) : Nat := if s.refusedAgain d code then (s.dom d).refusals + 1 else 1

/-- The domain ON again, with nothing latched and held off (R363, R365). -/
def State.rolledBack (s : State) (d code now : Nat) (x : Domain) : Domain :=
  { x with st := .on, stopped := [], latch := [], holdMs := s.holdOff d code, holdUntil := now + s.holdOff d code * 1000000, lastCode := code, refusals := s.refusalsNow d code }

/-- The entry refused, before what waited for the domain goes on. -/
def State.refusedAt (s : State) (d unit code : Nat) : State :=
  let u := (s.count 14 (58 + code) 1 (some d)).refuseLogged d unit code (s.refusalsNow d code)
  u.updDom d (s.rolledBack d code u.now)

theorem State.refuse_eq (s : State) (d unit code : Nat) : s.refuse d unit code = (s.refusedAt d unit code).replay d ((s.dom d).latch.map (·.1)) := by
  unfold State.refuse State.refusedAt State.refuseLogged State.rolledBack State.holdOff State.refusalsNow State.refusedAgain
  rfl

theorem State.refuse_refused (s : State) (d : DomainId) {unit code : Nat} (hunit : unit < 256) (hcode : code < 16) : Refused s d.val unit code ((s.refuse d.val unit code).heldDone d.val) := by
  have hd : d.val < 64 := by omega
  have hcsr := (s.count 14 (58 + code) 1 (some d.val)).refuseLogged_csrOnly d.val unit code (s.refusalsNow d.val code)
  refine ⟨s.refusedAt d.val unit code, by rw [State.refuse_eq], ?_⟩
  have hrefused := (s.count 14 (58 + code) 1 (some d.val)).refuseLogged_refused d.val unit code (s.refusalsNow d.val code)
  have hvalid := (s.count 14 (58 + code) 1 (some d.val)).refuseLogged_valid d.val unit code (s.refusalsNow d.val code)
  have hdomain := (s.count 14 (58 + code) 1 (some d.val)).refuseLogged_domain d.val unit code (s.refusalsNow d.val code) hd
  have hlogUnit := (s.count 14 (58 + code) 1 (some d.val)).refuseLogged_unit d.val unit code (s.refusalsNow d.val code) hunit
  have hlogCode := (s.count 14 (58 + code) 1 (some d.val)).refuseLogged_code d.val unit code (s.refusalsNow d.val code) hcode
  unfold State.refusedAt
  dsimp only
  generalize (s.count 14 (58 + code) 1 (some d.val)).refuseLogged d.val unit code (s.refusalsNow d.val code) = u at *
  have hdoms : u.doms = s.doms := by
    have hdoms := congrArg State.doms hcsr
    exact hdoms
  have hnow : u.now = s.now := by
    have hnow := congrArg State.now hcsr
    exact hnow
  have hframe := congrArg (fun x : State => { x with pmu := s.pmu, doms := s.doms }) hcsr
  have honly := DomOnly.updDom u d.val (s.rolledBack d.val code u.now)
  have hself := u.dom_updDom_self d.val (s.rolledBack d.val code u.now)
  refine ⟨?_, ?_, ?_, fun j hj => (honly.others j hj).trans (State.dom_congr hdoms j), ?_, ?_, ?_, ?_, ?_, ?_⟩
  · rw [State.domOn, hself]
    rfl
  · rw [hself, State.rolledBack]
  · rw [hself, State.rolledBack, hnow, State.holdOff_eq]
  · rw [State.fb_updDom, hrefused]
  · rw [State.fb_updDom, hvalid]
  · rw [State.f_updDom, hdomain]
  · rw [State.f_updDom, hlogUnit]
  · rw [State.f_updDom, hlogCode]
  · exact hframe

theorem participants_le (k : DomKind) : participants k ≤ 256 := by
  cases k <;> decide

/-- Participant `n` of domain `d` has answered. -/
def State.answered (s : State) (d n : Nat) : State := s.updDom d fun x => { x with stopped := x.stopped ++ [n] }

/-- Whether a codec cluster is the last rests on the other domains alone. -/
theorem State.lastCodec_congr {s t : State} {d : Nat} (h : ∀ j, j ≠ d → t.dom j = s.dom j) : t.lastCodec d = s.lastCodec d := by
  have hfilter : ([52, 53, 54, 55].filter fun j => j != d && (match (t.dom j).st with | .on => true | .stopping _ => true | _ => false)) =
      [52, 53, 54, 55].filter fun j => j != d && (match (s.dom j).st with | .on => true | .stopping _ => true | _ => false) := by
    refine List.filter_congr fun j _ => ?_
    by_cases hj : j = d
    · rw [hj, bne_self_eq_false, Bool.false_and, Bool.false_and]
    · rw [h j hj]
  exact congrArg (fun l : List Nat => domKind d == .cdc && l.isEmpty) hfilter

/-- With no wake source latched, and not for the last codec cluster, the entry is committed. -/
theorem State.commitEntry_eq {s : State} {d : Nat} {off : Bool} (hlatch : (s.dom d).latch = []) (hcodec : s.lastCodec d = false) :
    s.commitEntry d off = s.updDom d fun x => { x with st := .entering off, stale := false } := by
  rw [State.commitEntry, hlatch, hcodec]
  rfl

/-- Nothing that waited for PD_MGT runs while it enters another state. -/
theorem State.heldDone_of_entering {s : State} {d : Nat} {off : Bool} (hst : (s.dom d).st = .entering off) : s.heldDone d = s := by
  refine if_neg ?_
  rintro ⟨rfl, hup⟩
  rw [State.mgtUp, State.domOn, hst, Bool.and_eq_true] at hup
  exact absurd hup.2 (by cases off <;> decide)

section
variable {s : State} {d : DomainId} {off : Bool} (hst : (s.dom d.val).st = .stopping off)
include hst

theorem gives_stopTimeout : Gives (.stopTimeout d) s (Refused s d.val 0xFF 2) := by
  have hexec : exec (.stopTimeout d) s = execStopTimeout d s := rfl
  rw [execStopTimeout, hst] at hexec
  exact ⟨_, hexec, s.refuse_refused d (by decide) (by decide)⟩

variable {n : Nat} (hn : n < participants (domKind d.val)) (hopen : n ∉ (s.dom d.val).stopped)
include hn hopen

theorem gives_participantRefuse {code : Fin 16} (hcode : refusesWith (domKind d.val) n code.val = true) : Gives (.participantRefuse d n code) s (Refused s d.val n code.val) := by
  have hexec : exec (.participantRefuse d n code) s = execParticipantRefuse d n code s := rfl
  have hgo : (decide (participants (domKind d.val) ≤ n) || (s.dom d.val).stopped.contains n || !refusesWith (domKind d.val) n code.val) = false := by
    rw [decide_eq_false (Nat.not_le.2 hn), List.contains_eq_mem, decide_eq_false hopen, hcode]
    rfl
  have hunit : n < 256 := Nat.lt_of_lt_of_le hn (participants_le _)
  rw [execParticipantRefuse, hst] at hexec
  dsimp only at hexec
  rw [if_neg (Bool.eq_false_iff.1 hgo)] at hexec
  exact ⟨_, hexec, s.refuse_refused d hunit code.isLt⟩

/-! ## The answers of the participants (R362, R364) -/

variable (hidle : s.openWork d.val = false)
include hidle

theorem exec_participantStopped : exec (.participantStopped d n) s =
    .next (if (s.dom d.val).stopped.length + 1 = participants (domKind d.val) then ((s.answered d.val n).commitEntry d.val off).heldDone d.val else s.answered d.val n) := by
  have hexec : exec (.participantStopped d n) s = execParticipantStopped d n s := rfl
  have hgo : (decide (participants (domKind d.val) ≤ n) || (s.dom d.val).stopped.contains n || s.openWork d.val) = false := by
    rw [decide_eq_false (Nat.not_le.2 hn), List.contains_eq_mem, decide_eq_false hopen, hidle]
    rfl
  have hlength : ((s.answered d.val n).dom d.val).stopped.length = (s.dom d.val).stopped.length + 1 := by
    rw [State.answered, State.dom_updDom_self, List.length_append]
    rfl
  rw [execParticipantStopped, hst] at hexec
  dsimp only at hexec
  rw [if_neg (Bool.eq_false_iff.1 hgo)] at hexec
  rw [hexec, ← hlength]
  rfl

theorem gives_lastStopped (hlast : (s.dom d.val).stopped.length + 1 = participants (domKind d.val)) (hlatch : (s.dom d.val).latch = []) (hcodec : s.lastCodec d.val = false) :
    Gives (.participantStopped d n) s fun t => (t.dom d.val).st = .entering off ∧ (∀ j, j ≠ d.val → t.dom j = s.dom j) ∧ { t with doms := s.doms } = s := by
  have hexec := exec_participantStopped hst hn hopen hidle
  have honly : DomOnly s d.val (s.answered d.val n) := DomOnly.updDom s d.val fun x => { x with stopped := x.stopped ++ [n] }
  have hlatch' : ((s.answered d.val n).dom d.val).latch = [] := by
    rw [State.answered, State.dom_updDom_self, hlatch]
  have hcodec' : (s.answered d.val n).lastCodec d.val = false := by
    rw [State.lastCodec_congr honly.others, hcodec]
  rw [if_pos hlast, State.commitEntry_eq hlatch' hcodec', State.heldDone_of_entering (off := off) (by rw [State.dom_updDom_self])] at hexec
  have hall := honly.trans (DomOnly.updDom (s.answered d.val n) d.val fun x => { x with st := .entering off, stale := false })
  exact ⟨_, hexec, congrArg Domain.st (State.dom_updDom_self ..), hall.others, hall.frame⟩

end

/-! ## The state reached (R357, R362) -/

/-- Domain `d` is in the state that it was committed to, and the entry is counted. -/
def State.arrived (s : State) (d : Nat) (off : Bool) : State :=
  (s.updDom d fun x => { x with st := if off then .off else .ret, stopped := [], refusals := 0, holdMs := 0, lastCode := 0 }).count 14 58

/-- Its channel is with it, before what OFF loses. -/
def State.reached (s : State) (d : Nat) (off : Bool) : State :=
  if domKind d == .ch then (s.arrived d off).updChan (chOf d) fun x => { x with st := .ret } else s.arrived d off

section
variable (s : State) (d : Nat) (off : Bool)

theorem State.reached_dom : ((s.reached d off).dom d).st = if off then .off else .ret := by
  have harrived : ((s.arrived d off).dom d).st = if off then .off else .ret := by rw [State.arrived, State.dom_count, State.dom_updDom_self]
  unfold State.reached
  split
  · rw [State.dom_updChan, harrived]
  · exact harrived

theorem State.reached_others {j : Nat} (hj : j ≠ d) : (s.reached d off).dom j = s.dom j := by
  have harrived : (s.arrived d off).dom j = s.dom j := by rw [State.arrived, State.dom_count, State.dom_updDom, if_neg hj]
  unfold State.reached
  split
  · rw [State.dom_updChan, harrived]
  · exact harrived

theorem State.reached_chan : (domKind d = .ch → ((s.reached d off).chan (chOf d)).st = .ret) ∧ ∀ c, (domKind d ≠ .ch ∨ c ≠ chOf d) → (s.reached d off).chan c = s.chan c := by
  have harrived (c : Chan) : (s.arrived d off).chan c = s.chan c := by rw [State.arrived, State.chan_count, State.chan_updDom]
  unfold State.reached
  split
  · next hch =>
    refine ⟨fun _ => by rw [State.chan_updChan_self], fun c hc => ?_⟩
    rw [State.chan_updChan, if_neg (hc.resolve_left (not_not.2 (by simpa using hch))), harrived]
  · next hch => exact ⟨fun h => absurd h (by simpa using hch), fun c _ => harrived c⟩

theorem State.reached_frame : { s.reached d off with doms := s.doms, pmu := s.pmu, chans := s.chans } = s := by
  have hdom := (DomOnly.updDom s d fun x => { x with st := if off then .off else .ret, stopped := [], refusals := 0, holdMs := 0, lastCode := 0 }).frame
  have harrived : { s.arrived d off with doms := s.doms, pmu := s.pmu, chans := s.chans } = s := congrArg (fun x : State => { x with pmu := s.pmu, chans := s.chans }) hdom
  unfold State.reached
  cases domKind d == .ch with
  | true => exact harrived
  | false => exact harrived

/-- A loss at OFF is of the directory's entries or the codec's buffer alone (R357). -/
theorem State.loseDomain_gives : (domKind d = .dir → (s.loseDomain d).dir.entries = s.dir.entries.filter fun e => dirSlice e.1 + 44 != d) ∧ (domKind d = .deep → (s.loseDomain d).cdc.buffer = []) ∧
    (s.loseDomain d).doms = s.doms ∧ { s.loseDomain d with dir := { (s.loseDomain d).dir with entries := s.dir.entries }, cdc := { (s.loseDomain d).cdc with buffer := s.cdc.buffer } } = s := by
  unfold State.loseDomain
  split
  · next hkind => exact ⟨fun _ => rfl, fun h => absurd (hkind.symm.trans h) (by decide), rfl, rfl⟩
  · next hkind => exact ⟨fun h => absurd (hkind.symm.trans h) (by decide), fun _ => rfl, rfl, rfl⟩
  · next hdir hdeep => exact ⟨fun h => absurd h hdir, fun h => absurd h hdeep, rfl, rfl⟩

end

theorem exec_domainStateReached {s : State} {d : DomainId} {off : Bool} (hst : (s.dom d.val).st = .entering off) :
    exec (.domainStateReached d) s = .next (if off then (s.reached d.val off).loseDomain d.val else s.reached d.val off) := by
  have hexec : exec (.domainStateReached d) s = execDomainStateReached d s := rfl
  rw [execDomainStateReached, hst] at hexec
  exact hexec

theorem gives_reachedRet {s : State} {d : DomainId} (hst : (s.dom d.val).st = .entering false) : Gives (.domainStateReached d) s fun t =>
    (t.dom d.val).st = .ret ∧ (∀ j, j ≠ d.val → t.dom j = s.dom j) ∧ (domKind d.val = .ch → (t.chan (chOf d.val)).st = .ret) ∧
    (∀ c, (domKind d.val ≠ .ch ∨ c ≠ chOf d.val) → t.chan c = s.chan c) ∧ { t with doms := s.doms, pmu := s.pmu, chans := s.chans } = s := by
  obtain ⟨hchan, hothers⟩ := s.reached_chan d.val false
  exact ⟨s.reached d.val false, exec_domainStateReached hst, s.reached_dom d.val false, fun j hj => s.reached_others d.val false hj, hchan, hothers, s.reached_frame d.val false⟩

theorem gives_reachedOff {s : State} {d : DomainId} (hst : (s.dom d.val).st = .entering true) : Gives (.domainStateReached d) s fun t =>
    (t.dom d.val).st = .off ∧ (∀ j, j ≠ d.val → t.dom j = s.dom j) ∧
    (domKind d.val = .dir → t.dir.entries = s.dir.entries.filter fun e => dirSlice e.1 + 44 != d.val) ∧ (domKind d.val = .deep → t.cdc.buffer = []) ∧
    { t with doms := s.doms, pmu := s.pmu, chans := s.chans, dir := { t.dir with entries := s.dir.entries }, cdc := { t.cdc with buffer := s.cdc.buffer } } = s := by
  refine ⟨_, exec_domainStateReached hst, ?_⟩
  have hself := s.reached_dom d.val true
  have hothers (j : Nat) (hj : j ≠ d.val) := s.reached_others d.val true hj
  have hframe := s.reached_frame d.val true
  generalize s.reached d.val true = u at *
  have hdir : u.dir = s.dir := by
    have hdir := congrArg State.dir hframe
    exact hdir
  have hcdc : u.cdc = s.cdc := by
    have hcdc := congrArg State.cdc hframe
    exact hcdc
  obtain ⟨hentries, hbuffer, hdoms, hlost⟩ := u.loseDomain_gives d.val
  rw [if_pos rfl]
  generalize u.loseDomain d.val = t at *
  rw [hdir] at hentries hlost
  rw [hcdc] at hlost
  have hall := congrArg (fun x : State => { x with doms := s.doms, pmu := s.pmu, chans := s.chans }) hlost
  exact ⟨(congrArg Domain.st (State.dom_congr hdoms d.val)).trans hself, fun j hj => (State.dom_congr hdoms j).trans (hothers j hj), hentries, hbuffer, Eq.trans hall hframe⟩

/-- Settles O48: a request begins the stop phase, the last answer commits the entry, a refusal rolls it back and logs it, and the state reached is the one committed to. -/
theorem powerDomainEntries : Obligations.PowerDomainEntries := by
  intro s d
  refine ⟨fun hrun hon hheld => ⟨fun off byCad hmay hcad => exec_domainEntryRequest hrun hon hheld hmay hcad, fun off hoff hquiet hmay => exec_idlePolicyTimeout hrun hon hheld hoff hquiet hmay,
      fun p hd hdown hrecv hpolicy => exec_noReceiverTimeout hrun hon hheld hd hdown hrecv hpolicy⟩,
    fun off hst => ⟨fun n hn hopen => ⟨fun hidle => ⟨fun hmore => ?_, fun hlast hlatch hcodec => gives_lastStopped hst hn hopen hidle hlast hlatch hcodec⟩,
      fun code hcode => gives_participantRefuse hst hn hopen hcode⟩, gives_stopTimeout hst⟩,
    gives_reachedRet, gives_reachedOff⟩
  rw [exec_participantStopped hst hn hopen hidle, if_neg hmore]
  rfl

end Sys2Proof.Machine
end

section
/-! PROOFS. Refresh, periodic retraining and rank states of a channel (R242, R243, R246, R248 to R250). -/

namespace Sys2Proof.Machine

/-! ## One channel changed, one rank changed -/

/-- Channel `c` alone has changed. -/
structure ChanOnly (s : State) (c : Chan) (t : State) : Prop where
  frame : { t with chans := s.chans } = s
  others : ∀ d, d ≠ c → t.chan d = s.chan d

theorem ChanOnly.refl (s : State) (c : Chan) : ChanOnly s c s := ⟨rfl, fun _ _ => rfl⟩

theorem ChanOnly.trans {s t u : State} {c : Chan} (h1 : ChanOnly s c t) (h2 : ChanOnly t c u) : ChanOnly s c u := by
  have hframe := congrArg (fun x : State => { x with chans := s.chans }) h2.frame
  exact ⟨Eq.trans hframe h1.frame, fun d hd => (h2.others d hd).trans (h1.others d hd)⟩

theorem State.chan_updChan_ne (s : State) {c d : Chan} (g : Channel → Channel) (hd : d ≠ c) : (s.updChan c g).chan d = s.chan d := by
  rw [State.chan_updChan, if_neg hd]

theorem ChanOnly.updChan (s : State) (c : Chan) (g : Channel → Channel) : ChanOnly s c (s.updChan c g) := ⟨rfl, fun _ hd => s.chan_updChan_ne g hd⟩

/-- Channel `x` with rank `r` as `y`. -/
def Channel.setRank (x : Channel) (r : RankSet) (y : Rank) : Channel := { x with ranks := x.ranks.put r.val y }

theorem Channel.look_setRank (x : Channel) (r j : RankSet) (y : Rank) : (x.setRank r y).ranks.look j.val = if j = r then some y else x.ranks.look j.val := by
  rw [Channel.setRank, Tbl.look_put]
  simp only [Fin.ext_iff]

section
variable {s : State} {c : Chan} {r : RankSet} {x : Rank} (hx : s.rank c r = some x)
include hx

theorem State.updRank_eq (g : Rank → Rank) : s.updRank c r g = s.updChan c fun ch => ch.setRank r (g x) := by
  rw [State.updRank, hx]
  rfl

theorem State.chan_updRank (g : Rank → Rank) : (s.updRank c r g).chan c = (s.chan c).setRank r (g x) := by
  rw [State.updRank_eq hx, State.chan_updChan_self]

/-- A change of a rank that the channel has. -/
theorem RankIs.updRank (g : Rank → Rank) : RankIs s c r (g x) (s.updRank c r g) := by
  have hchan := State.chan_updRank hx g
  have hrank (j : RankSet) : (s.updRank c r g).rank c j = if j = r then some (g x) else s.rank c j := by
    rw [State.rank, hchan, Channel.look_setRank]
    rfl
  refine ⟨?_, fun j hj => ?_, fun d hd => ?_, ?_, ?_⟩
  · rw [hrank, if_pos rfl]
  · rw [hrank, if_neg hj]
  · rw [State.updRank_eq hx, State.chan_updChan_ne _ _ hd]
  · rw [hchan]
    rfl
  · rw [State.updRank_eq hx]
    rfl

end

theorem ChanOnly.updRank (s : State) (c : Chan) (r : RankSet) (g : Rank → Rank) : ChanOnly s c (s.updRank c r g) := by
  unfold State.updRank
  split
  · exact .refl s c
  · exact .updChan s c _

/-! ## Refresh (R246) -/

/-- Channel `c` with the refreshes of rank `r` issued on both subchannels and entered in its retry buffer. -/
def State.refreshed (s : State) (c : Chan) (r : RankSet) : State :=
  s.updChan c fun ch => { ch with retry := (ch.retry.filter fun e => decide (s.now < e.1 + ch.retryNs)) ++ [(s.now, false, .refresh r), (s.now, true, .refresh r)] }

section
variable {s : State} {c : Chan} {r : RankSet} {x : Rank} (hrun : s.chanRuns c = true) (hx : s.rank c r = some x)

section
include hrun hx

theorem exec_refresh (hawake : x.asleep = false) (wait : Bool) : exec (.refresh c r wait) s =
    .next (if wait && decide (x.postponed < 4) then s.updRank c r fun x => { x with postponed := x.postponed + 1 }
      else ((s.refreshed c r).updRank c r fun x => { x with postponed := 0 }).count 9 (4 * c.val + 3) (x.postponed + 1)) := by
  have hexec : exec (.refresh c r wait) s = execRefresh c r wait s := rfl
  rw [hexec, execRefresh, hx]
  simp only [hrun, hawake, Bool.not_true, Bool.or_self, Bool.false_eq_true, if_false]
  split <;> rfl

theorem gives_refresh_postponed (hawake : x.asleep = false) (hfew : x.postponed < 4) :
    Gives (.refresh c r true) s (RankIs s c r { x with postponed := x.postponed + 1 }) := by
  refine ⟨_, exec_refresh hrun hx hawake true, ?_⟩
  rw [decide_eq_true hfew, Bool.and_self, if_pos rfl]
  exact RankIs.updRank hx _

theorem gives_refresh_issued (hawake : x.asleep = false) {wait : Bool} (hnow : wait = false ∨ 4 ≤ x.postponed) : Gives (.refresh c r wait) s fun t =>
    t.rank c r = some { x with postponed := 0 } ∧ (∀ j, j ≠ r → t.rank c j = s.rank c j) ∧ (t.chan c).retry.getLast? = some (s.now, true, .refresh r) ∧
    { t.chan c with ranks := (s.chan c).ranks, retry := (s.chan c).retry } = s.chan c ∧ (∀ d, d ≠ c → t.chan d = s.chan d) ∧ { t with chans := s.chans, pmu := s.pmu } = s := by
  have hissue : (wait && decide (x.postponed < 4)) = false := by
    rcases hnow with rfl | hfull
    · rfl
    · rw [decide_eq_false (Nat.not_lt.2 hfull), Bool.and_false]
  refine ⟨_, exec_refresh hrun hx hawake wait, ?_⟩
  rw [hissue, if_neg Bool.false_ne_true]
  have hchan : (s.refreshed c r).chan c = _ := s.chan_updChan_self c _
  have hrank (j : RankSet) : (s.refreshed c r).rank c j = s.rank c j := by rw [State.rank, hchan]; rfl
  have honly : ChanOnly s c (s.refreshed c r) := .updChan s c _
  have hsame := (hrank r).trans hx
  obtain ⟨hself, hrest, hothers, hset, hframe⟩ := RankIs.updRank hsame fun x => { x with postponed := 0 }
  generalize s.refreshed c r = v at *
  generalize (v.updRank c r fun x => { x with postponed := 0 }) = t at *
  have hretry := congrArg Channel.retry hset
  have hkept := congrArg (fun y : Channel => { y with ranks := (s.chan c).ranks, retry := (s.chan c).retry }) hset
  have hissued := congrArg (fun u : State => { u with chans := s.chans, pmu := s.pmu }) hframe
  have hentered := congrArg (fun u : State => { u with pmu := s.pmu }) honly.frame
  rw [hchan] at hretry hkept
  exact ⟨hself, fun j hj => (hrest j hj).trans (hrank j), (congrArg List.getLast? hretry).trans (by simp), hkept,
    fun d hd => (hothers d hd).trans (honly.others d hd), Eq.trans hissued hentered⟩

end

/-! ## Periodic retraining and wakes (R242, R243, R248) -/

/-- A rank on which retraining has fallen due: a sleeping one does it at its wake. -/
def Rank.retrained (x : Rank) : Rank := if x.asleep then { x with retrainDue := true } else x

/-- A rank that has woken: retraining that was due is done. -/
def Rank.woken (x : Rank) : Rank := { x with st := .active, retrainDue := false }

theorem Rank.retrained_retrained (x : Rank) : x.retrained.retrained = x.retrained := by
  unfold Rank.retrained
  cases h : x.asleep
  · simp [h]
  · have hstill : ({ x with retrainDue := true } : Rank).asleep = true := h
    simp [hstill]

theorem State.chanRuns_congr {s t : State} {c : Chan} (h : (t.chan c).st = (s.chan c).st) : t.chanRuns c = s.chanRuns c := by
  rw [State.chanRuns, State.chanRuns, h]

theorem ChanOnly.retrain (s : State) (c : Chan) (r : RankSet) : ChanOnly s c (s.retrain c r) := by
  unfold State.retrain
  split
  · exact .refl s c
  · exact .updRank s c r _

theorem State.retrain_runs (s : State) (c : Chan) (r : RankSet) : (s.retrain c r).chanRuns c = s.chanRuns c := by
  refine State.chanRuns_congr ?_
  unfold State.retrain State.updRank
  split
  · rfl
  · split
    · rfl
    · rw [State.chan_updChan_self]

section
include hrun

theorem State.retrain_eq : s.retrain c r = s.updRank c r Rank.retrained := by
  rw [State.retrain, hrun]
  rfl

include hx

theorem RankIs.retrain : RankIs s c r x.retrained (s.retrain c r) := by
  rw [State.retrain_eq hrun]
  exact RankIs.updRank hx _

theorem State.rank_retrain (j : RankSet) : (s.retrain c j).rank c r = some (if r = j then x.retrained else x) := by
  by_cases hj : r = j
  · subst hj
    rw [if_pos rfl]
    exact (RankIs.retrain hrun hx).1
  · rw [if_neg hj, ← hx, State.retrain_eq hrun]
    cases hy : s.rank c j with
    | none => rw [State.updRank, hy]
    | some y =>
      obtain ⟨-, hrest, -⟩ := RankIs.updRank hy Rank.retrained
      exact hrest r hj

end

/-- Retraining that falls due on the ranks of a list. -/
theorem State.foldl_retrain (rs : List RankSet) {s : State} {x : Rank} (hrun : s.chanRuns c = true) (hx : s.rank c r = some x) :
    (rs.foldl (fun s r => s.retrain c r) s).rank c r = some (if r ∈ rs then x.retrained else x) ∧ ChanOnly s c (rs.foldl (fun s r => s.retrain c r) s) := by
  induction rs generalizing s x with
  | nil => exact ⟨hx, .refl s c⟩
  | cons j rs ih =>
    obtain ⟨hrank, honly⟩ := ih ((s.retrain_runs c j).trans hrun) (State.rank_retrain hrun hx j)
    refine ⟨hrank.trans (congrArg some ?_), (ChanOnly.retrain s c j).trans honly⟩
    by_cases hj : r = j
    · simp only [hj, List.mem_cons, true_or, if_true]
      split
      · exact x.retrained_retrained
      · rfl
    · simp only [hj, List.mem_cons, false_or, if_false]

section
include hrun hx

theorem gives_zqCalibration (slot : Fin 2) : Gives (.zqCalibration c slot) s fun t => { t with chans := s.chans } = s ∧ (∀ d, d ≠ c → t.chan d = s.chan d) ∧
    t.rank c r = some (if r ∈ s.slotRanks slot.val ∧ x.asleep = true then { x with retrainDue := true } else x) := by
  obtain ⟨hrank, honly⟩ := State.foldl_retrain (s.slotRanks slot.val) hrun hx
  refine ⟨_, rfl, honly.frame, honly.others, hrank.trans (congrArg some ?_)⟩
  rw [ite_and]
  rfl

theorem gives_dqsOscillatorReadout {drift : Nat} (hdue : 1 < drift ∨ x.asleep = true) : Gives (.dqsOscillatorReadout c r drift) s (RankIs s c r x.retrained) := by
  have hexec : exec (.dqsOscillatorReadout c r drift) s = execDqsOscillatorReadout c r drift s := rfl
  have hgo : ¬(drift ≤ 1 ∧ (s.rank c r).any (fun x => !x.asleep) = true) := by
    rintro ⟨hsmall, hawake⟩
    rw [hx, Option.any_some] at hawake
    rcases hdue with hdrift | hsleep
    · omega
    · rw [hsleep] at hawake
      exact Bool.false_ne_true hawake
  rw [execDqsOscillatorReadout, if_neg hgo] at hexec
  exact ⟨_, hexec, RankIs.retrain hrun hx⟩

theorem gives_dqRecentre {subB : Bool} (hpause : (if subB then (s.chan c).pauseB else (s.chan c).pauseA) = false) {i : Instr}
    (hi : i ∈ [Instr.readDqRecentre c r subB, .writeDqRecentre c r subB]) : Gives i s (RankIs s c r x.retrained) := by
  have hexec : exec i s = if (if subB then (s.chan c).pauseB else (s.chan c).pauseA) then .next s else .next (s.retrain c r) := by
    rcases List.mem_pair.1 hi with rfl | rfl <;> rfl
  rw [hpause, if_neg Bool.false_ne_true] at hexec
  exact ⟨_, hexec, RankIs.retrain hrun hx⟩

/-! ## Rank and channel states (R248, R249) -/

theorem gives_powerDownEntry (hidle : s.f (Reg.DRCn_PWR_CFG.PD_IDLE.nth c.val) ≠ 0) (hactive : x.st = .active) :
    Gives (.powerDownEntry c r) s (RankIs s c r { x with st := .powerDown }) := by
  have hexec : exec (.powerDownEntry c r) s = execPowerDownEntry c r s := rfl
  rw [execPowerDownEntry, hrun, beq_eq_false_iff_ne.2 hidle, Bool.not_true, Bool.or_self, if_neg Bool.false_ne_true] at hexec
  have hrank := RankIs.updRank hx fun x => if x.st == .active then { x with st := .powerDown } else x
  rw [hactive] at hrank
  exact ⟨_, hexec, hrank⟩

theorem gives_selfRefreshEntry (hkept : s.drl.released.getLsbD r.val = false) (hawake : x.asleep = false) :
    Gives (.selfRefreshEntry c r) s (RankIs s c r { x with st := .selfRefresh }) := by
  have hexec : exec (.selfRefreshEntry c r) s = execSelfRefreshEntry c r s := rfl
  rw [execSelfRefreshEntry, hrun, hkept, Bool.not_true, Bool.or_self, if_neg Bool.false_ne_true] at hexec
  have hrank := RankIs.updRank hx fun x => if x.asleep then x else { x with st := .selfRefresh }
  rw [hawake, if_neg Bool.false_ne_true] at hrank
  exact ⟨_, hexec, hrank⟩

theorem gives_parkedEntry (hreleased : s.drl.released.getLsbD r.val = true) : Gives (.parkedEntry c r) s (RankIs s c r { x with st := .parked }) := by
  have hexec : exec (.parkedEntry c r) s = execParkedEntry c r s := rfl
  rw [execParkedEntry, hrun, hreleased, Bool.not_true, Bool.or_self, if_neg Bool.false_ne_true] at hexec
  exact ⟨_, hexec, RankIs.updRank hx _⟩

end

include hx

theorem exec_quietEntry (hactive : (s.chan c).st = .active) (hidle : s.f (Reg.DRCn_PWR_CFG.QUIET_IDLE.nth c.val) ≠ 0) (hasleep : ∀ q ∈ (s.chan c).ranks, q.2.asleep = true) :
    exec (.quietEntry c) s = .next (s.updChan c fun x => { x with st := .quiet }) := by
  have hexec : exec (.quietEntry c) s = execQuietEntry c s := rfl
  have hranks : (s.chan c).ranks.isEmpty = false := by
    cases hempty : (s.chan c).ranks with
    | nil =>
      rw [State.rank, hempty, Tbl.look_nil] at hx
      exact absurd hx (Option.some_ne_none x).symm
    | cons => rfl
  rw [hexec, execQuietEntry, hactive, beq_eq_false_iff_ne.2 hidle, hranks, List.all_eq_true.2 hasleep]
  rfl

/-- A QUIET channel becomes ACTIVE with its rank. -/
theorem State.wakeRank_eq : s.wakeRank c r =
    if (s.chan c).st = .quiet then (s.updRank c r Rank.woken).updChan c fun x => { x with st := .active } else s.updRank c r Rank.woken := by
  have hst : ((s.updRank c r Rank.woken).chan c).st = (s.chan c).st := by rw [State.chan_updRank hx]; rfl
  have hwake : s.wakeRank c r = if ((s.updRank c r Rank.woken).chan c).st == .quiet then (s.updRank c r Rank.woken).updChan c fun x => { x with st := .active } else s.updRank c r Rank.woken := rfl
  rw [hwake, hst]
  simp only [beq_iff_eq]

theorem gives_rankWake_active (hactive : (s.chan c).st = .active) : Gives (.rankWake c r) s (RankIs s c r x.woken) := by
  have hexec : exec (.rankWake c r) s = execRankWake c r s := rfl
  rw [execRankWake, hactive] at hexec
  dsimp only at hexec
  rw [State.wakeRank_eq hx, if_neg (hactive.trans_ne (by decide))] at hexec
  exact ⟨_, hexec, RankIs.updRank hx _⟩

theorem gives_rankWake_quiet (hquiet : (s.chan c).st = .quiet) : Gives (.rankWake c r) s fun t =>
    t.rank c r = some x.woken ∧ (t.chan c).st = .active ∧ (∀ d, d ≠ c → t.chan d = s.chan d) ∧ { t with chans := s.chans } = s := by
  have hexec : exec (.rankWake c r) s = execRankWake c r s := rfl
  rw [execRankWake, hquiet] at hexec
  dsimp only at hexec
  rw [State.wakeRank_eq hx, if_pos hquiet] at hexec
  refine ⟨_, hexec, ?_⟩
  obtain ⟨hrank, -⟩ := RankIs.updRank hx Rank.woken
  have honly : ChanOnly s c _ := .updRank s c r Rank.woken
  generalize s.updRank c r Rank.woken = u at *
  have hall := honly.trans (.updChan u c fun x => { x with st := .active })
  have hchan := u.chan_updChan_self c fun x => { x with st := .active }
  refine ⟨?_, congrArg Channel.st hchan, hall.others, hall.frame⟩
  rw [State.rank, hchan]
  exact hrank

omit hx in
/-- A channel in RET wakes with its domain first. -/
theorem exec_rankWake_ret (hret : (s.chan c).st = .ret) : exec (.rankWake c r) s = .next (s.latchWake (12 + c.val) .hostRequest) := by
  have hexec : exec (.rankWake c r) s = execRankWake c r s := rfl
  rw [hexec, execRankWake, hret]

end

/-- Settles O52: each row changes one rank of its channel, through `State.updRank`; the rows that train mark it through `State.retrain`. -/
theorem channelUpkeep : Obligations.ChannelUpkeep := by
  intro s c r x hrun hx
  refine ⟨fun hawake wait => ⟨?_, fun hnow => gives_refresh_issued hrun hx hawake hnow⟩, gives_zqCalibration hrun hx, fun drift => gives_dqsOscillatorReadout hrun hx,
    fun subB hpause i => gives_dqRecentre hrun hx hpause, gives_powerDownEntry hrun hx, gives_selfRefreshEntry hrun hx, gives_parkedEntry hrun hx,
    exec_quietEntry hx, gives_rankWake_active hx, gives_rankWake_quiet hx, exec_rankWake_ret⟩
  rintro rfl
  exact gives_refresh_postponed hrun hx hawake

end Sys2Proof.Machine
end

section
/-! PROOFS. Alerts, repairs, failures and returns of a channel (R247, R251 to R258, R266, R280 to R282). -/

namespace Sys2Proof.Machine

/-! ## A channel that fails (R280) -/

theorem State.not_failed_of_runs {s : State} {c : Chan} (hrun : s.chanRuns c = true) : (s.chan c).st ≠ .failed := by
  intro hfailed
  rw [State.chanRuns, hfailed] at hrun
  exact Bool.false_ne_true hrun

/-- What a channel's entry into FAILED writes and reports: its bit in DRC_GLB_STATUS, its domain, event records; of the registers TRM_RESYNC and BBX_STATUS beside. -/
structure FailTold (s : State) (c : Chan) (t : State) : Prop where
  bit : t.fbit Reg.DRC_GLB_STATUS.FAILED c.val = true
  off : t.domOn (12 + c.val) = false
  events : s.events <+: t.events
  word : ∀ o, o ≠ 0x400004 → o ≠ 0x250010 → o ≠ 0x750000 → t.word o = s.word o

theorem FailTold.withTrm {s t : State} {c : Chan} (h : FailTold s c t) (x : Trm) : FailTold s c { t with trm := x } := ⟨h.bit, h.off, h.events, h.word⟩

theorem State.pannier_events (s : State) (dom unit kind : Nat) (k : Cause) (sev addr addrKind reg : Nat) (cxl : Bool) :
    (s.pannier dom unit kind k sev addr addrKind reg cxl).events = s.events := by
  have hframe := congrArg State.events (s.pannier_frame dom unit kind k sev addr addrKind reg cxl)
  exact hframe

theorem State.failChan_told {s : State} {c : Chan} (hst : (s.chan c).st ≠ .failed) (cause : FailCause) : FailTold s c (s.failChan c cause) := by
  unfold State.failChan
  rw [if_neg fun h => hst (eq_of_beq h)]
  extract_lets failed bit told reported off noted
  obtain ⟨-, hcsr, -, -, hevents, -⟩ := State.event_noted bit.heads .failure .channelFailed c.val false none bit
  have hlt : Reg.DRC_GLB_STATUS.FAILED.lo + c.val < 32 := by
    have hlo : Reg.DRC_GLB_STATUS.FAILED.lo = 0 := rfl
    omega
  have hword (o : Nat) (hr : o ≠ 0x250010) (hb : o ≠ 0x750000) : noted.word o = bit.word o := calc
    noted.word o = off.word o := (State.word_setBit_ne _ _ _ _ hr).trans (State.word_setBit_ne _ _ _ _ hr)
    _ = told.word o := State.pannier_word hb told ..
    _ = bit.word o := State.word_congr hcsr o
  have hbit : noted.fbit Reg.DRC_GLB_STATUS.FAILED c.val = true :=
    (State.fbit_of_word (hword _ (by decide) (by decide)) _).trans (failed.fbit_setBit_self _ true hlt)
  have hdom : (noted.dom (12 + c.val)).st = .off := congrArg Domain.st (reported.dom_updDom_self (12 + c.val) fun d => { d with st := .off })
  have hoff : noted.domOn (12 + c.val) = false := beq_eq_false_iff_ne.2 (hdom.trans_ne (by decide))
  have hreported : reported.events = told.events := told.pannier_events ..
  have hgrow : bit.events <+: reported.events := hreported ▸ hevents
  have hall : FailTold s c noted := ⟨hbit, hoff, hgrow, fun o hf hr hb => (hword o hr hb).trans (failed.word_setBit_ne _ _ _ hf)⟩
  split
  · exact hall.withTrm _
  · exact hall

theorem ChanFailed.of_failChan {s : State} {c : Chan} (hrun : s.chanRuns c = true) (cause : FailCause) : ChanFailed s c (s.failChan c cause) := by
  have htold := State.failChan_told (State.not_failed_of_runs hrun) cause
  obtain ⟨hfailed, hothers⟩ := s.failChan_failed c cause
  obtain ⟨⟨hmem, hbad, hnc, hdir, hrtk, hxlt⟩, hcap, -⟩ := (s.failChan_mends c cause).kept
  exact ⟨hfailed, htold.bit, htold.off, hothers, htold.events, hmem, hbad, hnc, hdir, hrtk, hxlt, hcap⟩

/-- A failure after a step that changes no data, no other channel and no event record. -/
theorem ChanFailed.after {s u t : State} {c : Chan} (h : ChanFailed u c t) (hmends : Mends s u) (hothers : ∀ d, d ≠ c → u.chan d = s.chan d) (hevents : u.events = s.events) :
    ChanFailed s c t := by
  obtain ⟨hst, hbit, hoff, hrest, hgrow, hmem, hbad, hnc, hdir, hrtk, hxlt, hcap⟩ := h
  obtain ⟨⟨hmem', hbad', hnc', hdir', hrtk', hxlt'⟩, hcap', -⟩ := hmends.kept
  exact ⟨hst, hbit, hoff, fun d hd => (hrest d hd).trans (hothers d hd), hevents ▸ hgrow, hmem.trans hmem', hbad.trans hbad', hnc.trans hnc', hdir.trans hdir',
    hrtk.trans hrtk', hxlt.trans hxlt', hcap.trans hcap'⟩

section
variable {s : State} {c : Chan} (hrun : s.chanRuns c = true)
include hrun

theorem gives_channelNoDataTimeout : Gives (.channelNoDataTimeout c) s (ChanFailed s c) := by
  have hexec : exec (.channelNoDataTimeout c) s = execChannelNoDataTimeout c s := rfl
  rw [execChannelNoDataTimeout, hrun, if_pos rfl] at hexec
  exact ⟨_, hexec, .of_failChan hrun _⟩

theorem exec_channelB3Timeout (hband : (s.chan c).band = 3) :
    exec (.channelB3Timeout c) s = .next (if s.lean then s.event s.heads .fatal .channelB3 c.val else s.failChan c .band) := by
  have hexec : exec (.channelB3Timeout c) s = execChannelB3Timeout c s := rfl
  rw [hexec, execChannelB3Timeout, hband, hrun]
  cases s.lean <;> rfl

theorem gives_channelB3Timeout_guarded (hband : (s.chan c).band = 3) (hlean : s.lean = false) : Gives (.channelB3Timeout c) s (ChanFailed s c) := by
  refine ⟨_, exec_channelB3Timeout hrun hband, ?_⟩
  rw [hlean]
  exact .of_failChan hrun _

theorem gives_channelB3Timeout_lean (hband : (s.chan c).band = 3) (hlean : s.lean = true) :
    Gives (.channelB3Timeout c) s fun t => t.events.length = s.events.length + s.heads.length ∧ Noted s t := by
  obtain ⟨hnoted, -, -, -, -, hlength⟩ := State.event_noted s.heads .fatal .channelB3 c.val false none s
  refine ⟨_, exec_channelB3Timeout hrun hband, ?_⟩
  rw [hlean]
  exact ⟨hlength, hnoted⟩

end

/-! ## ALERT_N (R252, R253) -/

/-- The alerts of the last millisecond, with one more at `now`. -/
def Channel.recentAlerts (x : Channel) (now : Nat) : List Nat := (x.alerts.filter fun t => decide (now < t + 1000000)) ++ [now]

/-- A channel with an alert on a subchannel noted at `now`; of a subchannel that is low the retry buffer stands still. -/
def Channel.alerted (x : Channel) (subB : Bool) (now : Nat) : Channel :=
  { x with
    alerts := x.recentAlerts now, alertA := x.alertA || !subB, alertB := x.alertB || subB
    retry := x.retry.filter fun e => (if e.2.1 then x.alertB else x.alertA) || decide (now < e.1 + x.retryNs) }

/-- The state with an alert on channel `c` noted and counted. -/
def State.alerted (s : State) (c : Chan) (subB : Bool) : State :=
  (((s.flag (Reg.DRCn_ERR.CA_PAR.nth c.val)).count 10 (4 * c.val + 1)).updChan c fun x =>
    { x with retry := x.retry.filter fun e => (if e.2.1 then x.alertB else x.alertA) || decide (s.now < e.1 + x.retryNs) }).updChan c fun x =>
    { x with alerts := (s.chan c).recentAlerts s.now, alertA := x.alertA || !subB, alertB := x.alertB || subB }

theorem State.fb_flag_nth (s : State) (c : Chan) {x : Fld} (hhi : x.hi < 32) (hlo : x.lo ≤ x.hi) : (s.flag (x.nth c.val)).fb (x.nth c.val) = true :=
  s.fb_flag_self _ hhi hlo

section
variable (s : State) (c : Chan) (subB : Bool)

theorem State.alerted_chan : (s.alerted c subB).chan c = (s.chan c).alerted subB s.now := by
  rw [State.alerted, State.chan_updChan_self, State.chan_updChan_self, State.chan_count, State.chan_flag]
  rfl

theorem State.alerted_others {d : Chan} (hd : d ≠ c) : (s.alerted c subB).chan d = s.chan d := by
  rw [State.alerted, State.chan_updChan_ne _ _ hd, State.chan_updChan_ne _ _ hd, State.chan_count, State.chan_flag]

theorem State.alerted_frame : { s.alerted c subB with chans := s.chans, csr := s.csr, pmu := s.pmu } = s := by
  have hflag : { (s.flag (Reg.DRCn_ERR.CA_PAR.nth c.val)).count 10 (4 * c.val + 1) with csr := s.csr, pmu := s.pmu } = s := rfl
  unfold State.alerted
  generalize (s.flag (Reg.DRCn_ERR.CA_PAR.nth c.val)).count 10 (4 * c.val + 1) = u at *
  exact congrArg (fun x : State => { x with chans := s.chans }) hflag

theorem State.alerted_parity : (s.alerted c subB).fb (Reg.DRCn_ERR.CA_PAR.nth c.val) = true := by
  rw [State.alerted, State.fb_updChan, State.fb_updChan, State.fb_count]
  exact State.fb_flag_nth s c (by decide) (by decide)

theorem State.alerted_runs : (s.alerted c subB).chanRuns c = s.chanRuns c := State.chanRuns_congr (by rw [State.alerted_chan]; rfl)

end

section
variable {s : State} {c : Chan} (hrun : s.chanRuns c = true) (subB : Bool)
include hrun

theorem exec_alertN : exec (.alertN c subB) s =
    if ((s.chan c).recentAlerts s.now).length < 3 then .next (s.alerted c subB)
    else if (s.chan c).recentred.any (fun t => decide (s.now < t + 1000000)) then
      .next (((s.alerted c subB).flag (Reg.DRCn_ERR.REPLAY_FAIL.nth c.val)).failChan c .replay)
    else .next ((s.alerted c subB).updChan c fun x => { x with alerts := [], recentred := some s.now, pauseA := x.pauseA || !subB, pauseB := x.pauseB || subB }) := by
  have hexec : exec (.alertN c subB) s = execAlertN c subB s := rfl
  rw [hexec, execAlertN, hrun]
  rfl

theorem gives_alertN_noted (hfew : ((s.chan c).recentAlerts s.now).length < 3) : Gives (.alertN c subB) s fun t => t.chan c = (s.chan c).alerted subB s.now ∧
    t.fb (Reg.DRCn_ERR.CA_PAR.nth c.val) = true ∧ (∀ d, d ≠ c → t.chan d = s.chan d) ∧ { t with chans := s.chans, csr := s.csr, pmu := s.pmu } = s := by
  have hexec := exec_alertN hrun subB
  rw [if_pos hfew] at hexec
  exact ⟨_, hexec, s.alerted_chan c subB, s.alerted_parity c subB, fun d hd => s.alerted_others c subB hd, s.alerted_frame c subB⟩

/-- The third alert of a millisecond starts CA re-centring. -/
theorem gives_alertN_recentres (hmany : 3 ≤ ((s.chan c).recentAlerts s.now).length) (hlong : ∀ t ∈ (s.chan c).recentred, t + 1000000 ≤ s.now) :
    Gives (.alertN c subB) s fun t => (t.chan c).alerts = [] ∧ (t.chan c).recentred = some s.now ∧ (if subB then (t.chan c).pauseB else (t.chan c).pauseA) = true ∧
      (∀ d, d ≠ c → t.chan d = s.chan d) ∧ { t with chans := s.chans, csr := s.csr, pmu := s.pmu } = s := by
  have hexec := exec_alertN hrun subB
  have hafter : (s.chan c).recentred.any (fun t => decide (s.now < t + 1000000)) = false := by
    cases hlast : (s.chan c).recentred with
    | none => rfl
    | some t =>
      rw [Option.any_some]
      exact decide_eq_false (Nat.not_lt.2 (hlong t hlast))
  rw [if_neg (Nat.not_lt.2 hmany), hafter, if_neg Bool.false_ne_true] at hexec
  refine ⟨_, hexec, ?_⟩
  have hothers (d : Chan) (hd : d ≠ c) := s.alerted_others c subB hd
  have hframe := s.alerted_frame c subB
  generalize s.alerted c subB = u at *
  beta_reduce
  rw [State.chan_updChan_self]
  refine ⟨rfl, rfl, ?_, fun d hd => ?_, hframe⟩
  · cases subB
    · exact Bool.or_true _
    · exact Bool.or_true _
  · rw [State.chan_updChan_ne _ _ hd, hothers d hd]

/-- Three more alerts within a millisecond of a re-centring fail the channel. -/
theorem gives_alertN_fails (hmany : 3 ≤ ((s.chan c).recentAlerts s.now).length) (hshort : ∃ t ∈ (s.chan c).recentred, s.now < t + 1000000) :
    Gives (.alertN c subB) s fun t => ChanFailed s c t ∧ t.fb (Reg.DRCn_ERR.REPLAY_FAIL.nth c.val) = true := by
  have hexec := exec_alertN hrun subB
  obtain ⟨t, ht, hlt⟩ := hshort
  have hafter : (s.chan c).recentred.any (fun t => decide (s.now < t + 1000000)) = true := by
    rw [Option.mem_def.1 ht, Option.any_some]
    exact decide_eq_true hlt
  rw [if_neg (Nat.not_lt.2 hmany), hafter, if_pos rfl] at hexec
  refine ⟨_, hexec, ?_⟩
  have hflag := State.fb_flag_nth (s.alerted c subB) c (x := Reg.DRCn_ERR.REPLAY_FAIL) (by decide) (by decide)
  have hothers (d : Chan) (hd : d ≠ c) := s.alerted_others c subB hd
  have hframe := s.alerted_frame c subB
  have hstill := (s.alerted_runs c subB).trans hrun
  generalize s.alerted c subB = v at *
  have hmends : Mends s v := by
    have hmends := congrArg s.undoMend hframe
    exact hmends
  have hevents : v.events = s.events := by
    have hevents := congrArg State.events hframe
    exact hevents
  replace hmends := hmends.trans (v.flag_mends (Reg.DRCn_ERR.REPLAY_FAIL.nth c.val))
  replace hevents := (v.flag_events (Reg.DRCn_ERR.REPLAY_FAIL.nth c.val)).trans hevents
  replace hothers (d : Chan) (hd : d ≠ c) : (v.flag (Reg.DRCn_ERR.REPLAY_FAIL.nth c.val)).chan d = s.chan d := (v.chan_flag _ d).trans (hothers d hd)
  replace hstill : (v.flag (Reg.DRCn_ERR.REPLAY_FAIL.nth c.val)).chanRuns c = true := (State.chanRuns_congr (by rw [State.chan_flag])).trans hstill
  generalize v.flag (Reg.DRCn_ERR.REPLAY_FAIL.nth c.val) = u at *
  have hoff : (Reg.DRCn_ERR.REPLAY_FAIL.nth c.val).off = 0x40001C + 0x20000 * c.val := rfl
  have htold := State.failChan_told (State.not_failed_of_runs hstill) .replay
  have hword := htold.word (Reg.DRCn_ERR.REPLAY_FAIL.nth c.val).off (by omega) (by omega) (by omega)
  exact ⟨(ChanFailed.of_failChan hstill .replay).after hmends hothers hevents, (State.fb_of_word hword).trans hflag⟩

end

/-! ## ALERT_N_DEASSERT (R251, R252) -/

theorem Counted.refl (s : State) : Counted s s := rfl

theorem Counted.trans {s t u : State} (h1 : Counted s t) (h2 : Counted t u) : Counted s u := by
  have hframe := congrArg (fun x : State => { x with pmu := s.pmu }) h2
  exact Eq.trans hframe h1

theorem Counted.foldl {α : Type} {f : State → α → State} (hf : ∀ s a, Counted s (f s a)) (as : List α) (s : State) : Counted s (as.foldl f s) := by
  induction as generalizing s with
  | nil => exact .refl s
  | cons a as ih => exact (hf s a).trans (ih _)

theorem Counted.chan {s t : State} (h : Counted s t) (c : Chan) : t.chan c = s.chan c := by
  have hchan := congrArg (fun x : State => x.chan c) h
  exact hchan

theorem State.countIssue_counted (s : State) (c : Chan) (x : ChanCmd) (n : Nat) : Counted s (s.countIssue c x n) := by
  unfold State.countIssue
  extract_lets issued
  split
  · exact s.count_counted ..
  · exact (s.count_counted ..).trans (issued.count_counted ..)

/-- What the retry buffer of channel `c` holds for a subchannel. -/
def State.retained (s : State) (c : Chan) (subB : Bool) : List (Nat × Bool × ChanCmd) := (s.chan c).retry.filter fun e => e.2.1 == subB

/-- The commands that the retry buffer of channel `c` holds for a subchannel have been issued again, where an alert was low. -/
def State.reissued (s : State) (c : Chan) (subB was : Bool) : State := if was then (s.retained c subB).foldl (fun s e => s.countIssue c e.2.2 1) s else s

theorem State.reissued_counted (s : State) (c : Chan) (subB was : Bool) : Counted s (s.reissued c subB was) := by
  unfold State.reissued
  split
  · refine Counted.foldl (fun s e => ?_) _ s
    exact s.countIssue_counted c e.2.2 1
  · exact .refl s

/-- A channel on which ALERT_n of a subchannel has gone high at `now`: `again` stands in the retry buffer anew. -/
def Channel.deasserted (x : Channel) (subB was : Bool) (again : List (Nat × Bool × ChanCmd)) (now : Nat) : Channel :=
  let x := if was then { x with retry := x.retry.filter (fun e => e.2.1 != subB) ++ again.map fun e => (now, e.2) } else x
  if subB then { x with alertB := false, pauseB := false } else { x with alertA := false, pauseA := false }

section
variable (x : Channel) (subB was : Bool) (again : List (Nat × Bool × ChanCmd)) (now : Nat)

theorem Channel.deasserted_ended : (if subB then (x.deasserted subB was again now).alertB || (x.deasserted subB was again now).pauseB
    else (x.deasserted subB was again now).alertA || (x.deasserted subB was again now).pauseA) = false := by
  cases subB <;> rfl

theorem Channel.deasserted_other : if subB then (x.deasserted subB was again now).alertA = x.alertA ∧ (x.deasserted subB was again now).pauseA = x.pauseA
    else (x.deasserted subB was again now).alertB = x.alertB ∧ (x.deasserted subB was again now).pauseB = x.pauseB := by
  cases subB <;> cases was <;> exact ⟨rfl, rfl⟩

theorem Channel.deasserted_retry : (x.deasserted subB was again now).retry = if was then x.retry.filter (fun e => e.2.1 != subB) ++ again.map (fun e => (now, e.2)) else x.retry := by
  cases subB <;> cases was <;> rfl

theorem Channel.deasserted_frame :
    { x.deasserted subB was again now with retry := x.retry, alertA := x.alertA, alertB := x.alertB, pauseA := x.pauseA, pauseB := x.pauseB } = x := by
  cases subB <;> cases was <;> rfl

end

section
variable {s : State} {c : Chan} {subB lost was : Bool} (hwas : was = if subB then (s.chan c).alertB else (s.chan c).alertA)
include hwas

theorem exec_alertNDeassert : exec (.alertNDeassert c subB lost) s =
    if was && lost then .next ((s.pannier (12 + c.val) 4 7 .sramError 2 0 0 0 false).failChan c .detected)
    else .next ((s.reissued c subB was).updChan c fun x => x.deasserted subB was (s.retained c subB) (s.reissued c subB was).now) := by
  subst hwas
  rfl

theorem gives_alertNDeassert (hkept : was = false ∨ lost = false) : Gives (.alertNDeassert c subB lost) s fun t =>
    (if subB then (t.chan c).alertB || (t.chan c).pauseB else (t.chan c).alertA || (t.chan c).pauseA) = false ∧
    (if subB then (t.chan c).alertA = (s.chan c).alertA ∧ (t.chan c).pauseA = (s.chan c).pauseA else (t.chan c).alertB = (s.chan c).alertB ∧ (t.chan c).pauseB = (s.chan c).pauseB) ∧
    (t.chan c).retry = (if was then (s.chan c).retry.filter (fun e => e.2.1 != subB) ++ ((s.chan c).retry.filter fun e => e.2.1 == subB).map (fun e => (s.now, e.2)) else (s.chan c).retry) ∧
    { t.chan c with retry := (s.chan c).retry, alertA := (s.chan c).alertA, alertB := (s.chan c).alertB, pauseA := (s.chan c).pauseA, pauseB := (s.chan c).pauseB } = s.chan c ∧
    (∀ d, d ≠ c → t.chan d = s.chan d) ∧ { t with chans := s.chans, pmu := s.pmu } = s := by
  have hexec := exec_alertNDeassert hwas (lost := lost)
  have hgo : (was && lost) = false := Bool.and_eq_false_iff.2 hkept
  have hcounted := s.reissued_counted c subB was
  have hnow : (s.reissued c subB was).now = s.now := by
    have hnow := congrArg State.now hcounted
    exact hnow
  rw [hgo, if_neg Bool.false_ne_true, hnow] at hexec
  refine ⟨_, hexec, ?_⟩
  beta_reduce
  rw [State.chan_updChan_self, hcounted.chan]
  refine ⟨Channel.deasserted_ended .., Channel.deasserted_other .., Channel.deasserted_retry .., Channel.deasserted_frame .., fun d hd => ?_, ?_⟩
  · rw [State.chan_updChan_ne _ _ hd, hcounted.chan]
  · exact congrArg (fun x : State => { x with chans := s.chans }) hcounted

theorem gives_alertNDeassert_lost (hlow : was = true) (hlost : lost = true) (hrun : s.chanRuns c = true) : Gives (.alertNDeassert c subB lost) s (ChanFailed s c) := by
  have hexec := exec_alertNDeassert hwas (lost := lost)
  rw [hlow, hlost, Bool.and_self, if_pos rfl] at hexec
  refine ⟨_, hlost ▸ hexec, ?_⟩
  have hnoted := s.pannier_noted (12 + c.val) 4 7 .sramError 2 0 0 0 false
  have hevents := s.pannier_events (12 + c.val) 4 7 .sramError 2 0 0 0 false
  generalize s.pannier (12 + c.val) 4 7 .sramError 2 0 0 0 false = u at *
  have hchan (d : Chan) : u.chan d = s.chan d := by
    have hchans := congrArg (fun x : State => x.chan d) hnoted.1
    exact hchans
  have hstill : u.chanRuns c = true := (State.chanRuns_congr (congrArg Channel.st (hchan c))).trans hrun
  exact (ChanFailed.of_failChan hstill _).after hnoted.mends (fun d _ => hchan d) hevents

end

/-! ## Rows offered for repair (R255, R256) -/

theorem gives_ecsReadout {s : State} {c : Chan} (hrun : s.chanRuns c = true) {d : DevRow} {n : Nat} (hen : s.fb Reg.DRC_GLB_CFG.ECS_EN = true) (hmany : 4 ≤ n) :
    Gives (.ecsReadout c d n) s fun t => (∃ q ∈ (t.chan c).cands, q.1 = d) ∧ { t.chan c with cands := (s.chan c).cands } = s.chan c ∧
      (∀ j, j ≠ c → t.chan j = s.chan j) ∧ { t with chans := s.chans } = s := by
  have hexec : exec (.ecsReadout c d n) s = execEcsReadout c d n s := rfl
  rw [execEcsReadout, hen, hrun, decide_eq_false (Nat.not_lt.2 hmany), Bool.not_true, Bool.or_self, Bool.or_self, if_neg Bool.false_ne_true] at hexec
  refine ⟨_, hexec, ?_⟩
  unfold State.offerRepair
  have honly : ChanOnly s c _ := .updChan s c fun x => { x with cands := if x.cands.any (fun q => q.1 == d) then x.cands else x.cands ++ [(d, s.now)] }
  refine ⟨?_, ?_, honly.others, honly.frame⟩
  · rw [State.chan_updChan_self]
    cases hlisted : (s.chan c).cands.any fun q => q.1 == d with
    | true =>
      obtain ⟨q, hq, hd⟩ := List.any_eq_true.1 hlisted
      exact ⟨q, by simpa [hlisted] using hq, eq_of_beq hd⟩
    | false => exact ⟨(d, s.now), by simp, rfl⟩
  · rw [State.chan_updChan_self]

/-! ## SOFT_PPR (R256 to R258, R266) -/

/-- A repair is listed while the list has room; nothing else changes (R257). -/
theorem State.listRepair_gives (s : State) (c : Chan) (d : DevRow) (mark : Bool) :
    (s.listRepair c d mark).repairs = (if s.repairs.length < 1024 then s.repairs ++ [⟨c, s.dimmSerial c d.rank, d, mark⟩] else s.repairs) ∧
    { s.listRepair c d mark with repairs := s.repairs } = s := by
  unfold State.listRepair
  split
  · exact ⟨rfl, rfl⟩
  · exact ⟨rfl, rfl⟩

/-- The first mark of a rank and subchannel (R266): of the registers DRCn_MARK and BBX_STATUS change. -/
theorem State.markDevice_first {s : State} {c : Chan} {d : DevRow} (hnone : s.rankMarked c d = false) :
    (s.markDevice c d).chan c = { s.chan c with marks := (s.chan c).marks ++ [(d.rank, d.subB, d.dev)] } ∧ (∀ j, j ≠ c → (s.markDevice c d).chan j = s.chan j) ∧
    ∀ o, o ≠ 0x400020 + 0x20000 * c.val → o ≠ 0x750000 → (s.markDevice c d).word o = s.word o := by
  have hmarked : s.marked c d = false := by
    refine Bool.eq_false_iff.2 fun h => ?_
    rw [State.marked, List.contains_iff_mem] at h
    exact List.any_eq_false.1 hnone _ h (by simp)
  unfold State.markDevice
  rw [hmarked, hnone, if_neg Bool.false_ne_true, if_neg Bool.false_ne_true]
  extract_lets marked bit listed told
  obtain ⟨-, hlisted⟩ := bit.listRepair_gives c d true
  have hlistedCsr : listed.csr = bit.csr := by
    have hcsr := congrArg State.csr hlisted
    exact hcsr
  obtain ⟨hevent, heventCsr, -⟩ := State.event_noted [listed.owner] .warning .deviceMarked c.val false none listed
  have hpan := told.pannier_noted (12 + c.val) 5 7 .deviceMarked 1 (told.repairForm c d) 3 (0x400020 + 0x20000 * c.val) true
  have hlistedChans := congrArg State.chans hlisted
  have hnotedChans := congrArg State.chans ((hevent.trans (State.count_noted _ 11 24 1 none)).trans hpan).1
  have hchans : (told.pannier (12 + c.val) 5 7 .deviceMarked 1 (told.repairForm c d) 3 (0x400020 + 0x20000 * c.val) true).chans = marked.chans := Eq.trans hnotedChans hlistedChans
  refine ⟨?_, fun j hj => ?_, fun o hm hb => ?_⟩
  · rw [State.chan_congr hchans, State.chan_updChan_self]
  · rw [State.chan_congr hchans, State.chan_updChan_ne _ _ hj]
  · calc _ = told.word o := State.pannier_word hb told ..
      _ = listed.word o := State.word_congr heventCsr o
      _ = bit.word o := State.word_congr hlistedCsr o
      _ = marked.word o := State.word_setBit_ne _ _ _ _ (by split <;> exact hm)

/-- Channel `c` with other candidates. -/
def State.withCands (s : State) (c : Chan) (rest : List (DevRow × Nat)) : State := s.updChan c fun x => { x with cands := rest }

theorem State.withCands_chan (s : State) (c : Chan) (rest : List (DevRow × Nat)) : (s.withCands c rest).chan c = { s.chan c with cands := rest } := s.chan_updChan_self c _

theorem ChanOnly.withCands (s : State) (c : Chan) (rest : List (DevRow × Nat)) : ChanOnly s c (s.withCands c rest) := .updChan s c _

section
variable {s : State} {c : Chan} {d : DevRow} {t0 : Nat} {rest : List (DevRow × Nat)} (hrun : s.chanRuns c = true) (hcands : (s.chan c).cands = (d, t0) :: rest)
  (hen : s.fb Reg.DRC_GLB_CFG.PPR_SOFT_EN = true) (hidle : (if d.subB then (s.chan c).alertB || (s.chan c).pauseB else (s.chan c).alertA || (s.chan c).pauseA) = false)
  (hawake : ∀ x, s.rank c d.rank = some x → x.asleep = false)
include hrun hcands hen hidle hawake

/-- The oldest candidate, on a rank that is awake, is repaired where its device has a resource left, and otherwise marks its device. -/
theorem exec_softPpr (resource : Bool) : exec (.softPpr c resource) s = .next (
    if resource && s.pprFree c d then
      ((((s.withCands c rest).rewriteRow c).listRepair c d false).flag (Reg.DRCn_ERR.PPR_DONE.nth c.val)).count 10 (4 * c.val + 3)
    else ((s.withCands c rest).flag (Reg.DRCn_ERR.PPR_EXHAUST.nth c.val)).markDevice c d) := by
  have hexec : exec (.softPpr c resource) s = execSoftPpr c resource s := rfl
  have hnot {f : Rank → Bool} (hf : ∀ x, x.asleep = false → f x = false) : (s.rank c d.rank).any f = false := by
    cases hx : s.rank c d.rank with
    | none => rfl
    | some x => exact hf x (hawake x hx)
  have hparked := hnot (f := fun r => r.st == .parked) fun x hx => (Bool.or_eq_false_iff.1 hx).2
  have hrank : (s.withCands c rest).rank c d.rank = s.rank c d.rank := by
    rw [State.rank, State.withCands_chan]
    rfl
  have hasleep : ((s.withCands c rest).rank c d.rank).any (·.asleep) = false := by
    rw [hrank]
    exact hnot fun _ hx => hx
  have hgo : (!s.chanRuns c || !s.fb Reg.DRC_GLB_CFG.PPR_SOFT_EN || false || (false && decide (s.now < t0 + 3600000000000))) = false := by rw [hrun, hen]; rfl
  unfold State.withCands at hasleep ⊢
  rw [hexec, execSoftPpr, hcands]
  dsimp only
  rw [hparked, hidle, hgo, if_neg Bool.false_ne_true, hasleep, if_neg Bool.false_ne_true]
  exact (apply_ite Host.Outcome.next _ _ _).symm

theorem gives_softPpr_repaired (hfree : s.pprFree c d = true) : Gives (.softPpr c true) s fun t =>
    t.repairs = (if s.repairs.length < 1024 then s.repairs ++ [⟨c, s.dimmSerial c d.rank, d, false⟩] else s.repairs) ∧ t.chan c = { s.chan c with cands := rest } ∧
    t.fb (Reg.DRCn_ERR.PPR_DONE.nth c.val) = true ∧ (∀ j, j ≠ c → t.chan j = s.chan j) ∧ { t with chans := s.chans, repairs := s.repairs, csr := s.csr, pmu := s.pmu } = s := by
  have hexec := exec_softPpr hrun hcands hen hidle hawake true
  rw [hfree, Bool.and_self, if_pos rfl] at hexec
  refine ⟨_, hexec, ?_⟩
  have honly := ChanOnly.withCands s c rest
  have hself := s.withCands_chan c rest
  have hcounted : Counted (s.withCands c rest) ((s.withCands c rest).rewriteRow c) := (State.countIssue_counted ..).trans (State.countIssue_counted ..)
  generalize (s.withCands c rest).rewriteRow c = u at *
  have hchan (j : Chan) : u.chan j = (s.withCands c rest).chan j := hcounted.chan j
  have hrepairs : u.repairs = s.repairs := by
    have hrepairs := congrArg State.repairs hcounted
    exact hrepairs
  have hserial : u.dimmSerial c d.rank = s.dimmSerial c d.rank := by
    rw [State.dimmSerial, State.dimmSerial, hchan, hself]
  obtain ⟨hlisted, hframe⟩ := u.listRepair_gives c d false
  rw [hrepairs, hserial] at hlisted
  have hdone := State.fb_flag_nth (u.listRepair c d false) c (x := Reg.DRCn_ERR.PPR_DONE) (by decide) (by decide)
  generalize u.listRepair c d false = t at *
  have hstill (j : Chan) : t.chan j = u.chan j := by
    have hchans := congrArg (fun x : State => x.chan j) hframe
    exact hchans
  have hcounts (j : Chan) : ((t.flag (Reg.DRCn_ERR.PPR_DONE.nth c.val)).count 10 (4 * c.val + 3)).chan j = (s.withCands c rest).chan j := by
    rw [State.chan_count, State.chan_flag, hstill, hchan]
  refine ⟨hlisted, (hcounts c).trans hself, (State.fb_count ..).trans hdone, fun j hj => (hcounts j).trans (honly.others j hj), ?_⟩
  have hlistedFrame := congrArg (fun x : State => { x with chans := s.chans, repairs := s.repairs, csr := s.csr, pmu := s.pmu }) hframe
  have hcountedFrame := congrArg (fun x : State => { x with chans := s.chans, repairs := s.repairs, csr := s.csr, pmu := s.pmu }) hcounted
  exact Eq.trans hlistedFrame hcountedFrame

/-- With no resource left the device is marked. -/
theorem gives_softPpr_marked (hnone : s.rankMarked c d = false) {resource : Bool} (hused : (resource && s.pprFree c d) = false) : Gives (.softPpr c resource) s fun t =>
    (t.chan c).marks = (s.chan c).marks ++ [(d.rank, d.subB, d.dev)] ∧ (t.chan c).cands = rest ∧ t.fb (Reg.DRCn_ERR.PPR_EXHAUST.nth c.val) = true ∧
    (∀ j, j ≠ c → t.chan j = s.chan j) ∧ DataKept s t := by
  have hexec := exec_softPpr hrun hcands hen hidle hawake resource
  rw [hused, if_neg Bool.false_ne_true] at hexec
  refine ⟨_, hexec, ?_⟩
  have hself : ((s.withCands c rest).flag (Reg.DRCn_ERR.PPR_EXHAUST.nth c.val)).chan c = { s.chan c with cands := rest } :=
    (State.chan_flag ..).trans (s.withCands_chan c rest)
  have hothers (j : Chan) (hj : j ≠ c) : ((s.withCands c rest).flag (Reg.DRCn_ERR.PPR_EXHAUST.nth c.val)).chan j = s.chan j :=
    (State.chan_flag ..).trans ((ChanOnly.withCands s c rest).others j hj)
  have hflag := State.fb_flag_nth (s.withCands c rest) c (x := Reg.DRCn_ERR.PPR_EXHAUST) (by decide) (by decide)
  have hmends := (s.updChan_mends c _).trans ((s.withCands c rest).flag_mends (Reg.DRCn_ERR.PPR_EXHAUST.nth c.val))
  generalize (s.withCands c rest).flag (Reg.DRCn_ERR.PPR_EXHAUST.nth c.val) = u at *
  have hfirst : u.rankMarked c d = false := by
    rw [State.rankMarked, hself]
    exact hnone
  obtain ⟨hmarked, hrest, hword⟩ := State.markDevice_first hfirst
  have hoff : (Reg.DRCn_ERR.PPR_EXHAUST.nth c.val).off = 0x40001C + 0x20000 * c.val := rfl
  beta_reduce
  rw [hmarked, hself]
  exact ⟨rfl, rfl, (State.fb_of_word (hword _ (by omega) (by omega))).trans hflag, fun j hj => (hrest j hj).trans (hothers j hj), (hmends.trans (u.markDevice_mends c d)).kept.1⟩

end

/-! ## The return of a channel (R281, R282) -/

/-- `t` is `s` with marks of channel `c` set. -/
structure MarksSet (s : State) (c : Chan) (t : State) : Prop where
  chan : { t.chan c with marks := (s.chan c).marks } = s.chan c
  others : ∀ d, d ≠ c → t.chan d = s.chan d
  frame : { t with chans := s.chans, csr := s.csr } = s

theorem MarksSet.refl (s : State) (c : Chan) : MarksSet s c s := ⟨rfl, fun _ _ => rfl, rfl⟩

theorem MarksSet.trans {s t u : State} {c : Chan} (h1 : MarksSet s c t) (h2 : MarksSet t c u) : MarksSet s c u := by
  have hchan := congrArg (fun x : Channel => { x with marks := (s.chan c).marks }) h2.chan
  have hframe := congrArg (fun x : State => { x with chans := s.chans, csr := s.csr }) h2.frame
  exact ⟨Eq.trans hchan h1.chan, fun d hd => (h2.others d hd).trans (h1.others d hd), Eq.trans hframe h1.frame⟩

theorem State.applyMark_marksSet (s : State) (c : Chan) (r : Repair) : MarksSet s c (s.applyMark c r) := by
  unfold State.applyMark
  refine ⟨?_, fun d hd => ?_, ?_⟩
  · rw [State.chan_setBit, State.chan_updChan_self]
  · rw [State.chan_setBit, State.chan_updChan_ne _ _ hd]
  · generalize hu : s.updChan c _ = u
    have honly : ChanOnly s c u := hu ▸ .updChan s c _
    exact congrArg (fun x : State => { x with csr := s.csr }) honly.frame

theorem State.applyMarks_marksSet (s : State) (c : Chan) : MarksSet s c (s.applyMarks c) := by
  have hfold (rs : List Repair) (s : State) : MarksSet s c (rs.foldl (fun s r => s.applyMark c r) s) := by
    induction rs generalizing s with
    | nil => exact .refl s c
    | cons r rs ih => exact (s.applyMark_marksSet c r).trans (ih _)
  exact hfold _ s

theorem State.failed_of_mayReturn {s : State} {c : Chan} (hmay : s.mayReturn c = true) : (s.chan c).st = .failed := by
  simp only [State.mayReturn, Bool.and_eq_true, beq_iff_eq] at hmay
  tauto

theorem gives_channelReturn {s : State} {c : Chan} (hmay : s.mayReturn c = true) : Gives (.channelReturn c) s fun t =>
    (t.chan c).retraining = true ∧ (t.chan c).st = .failed ∧ (∀ d, d ≠ c → t.chan d = s.chan d) ∧ { t with chans := s.chans, csr := s.csr } = s := by
  have hexec : exec (.channelReturn c) s = execChannelReturn c s := rfl
  rw [execChannelReturn, hmay, if_pos rfl] at hexec
  refine ⟨_, hexec, ?_⟩
  have honly : ChanOnly s c _ := .updChan s c fun x => { x with retraining := true }
  have hself := s.chan_updChan_self c fun x => { x with retraining := true }
  generalize (s.updChan c fun x => { x with retraining := true }) = u at *
  have hmarks := u.applyMarks_marksSet c
  have hretraining := congrArg Channel.retraining (hmarks.chan.trans hself)
  have hst := congrArg Channel.st (hmarks.chan.trans hself)
  have hframe := congrArg (fun x : State => { x with chans := s.chans, csr := s.csr }) hmarks.frame
  have hbegun := congrArg (fun x : State => { x with csr := s.csr }) honly.frame
  exact ⟨hretraining, Eq.trans hst (State.failed_of_mayReturn hmay), fun d hd => (hmarks.others d hd).trans (honly.others d hd), Eq.trans hframe hbegun⟩

/-- Channel `c` re-admitted: its resynchronization has ended. -/
def State.readmitted (s : State) (c : Chan) : State :=
  (s.updChan c fun x => { x with resync := false, cursor := 0, resyncing := [] }).setBit Reg.TRM_RESYNC.RESYNC c.val false

theorem State.setBit_noted (s : State) (x : Fld) (i : Nat) (b : Bool) : Noted s (s.setBit x i b) := ⟨rfl, fun _ => rfl⟩

theorem State.readmitted_gives (s : State) (c : Chan) : ((s.readmitted c).chan c).resync = false ∧ (s.readmitted c).fbit Reg.TRM_RESYNC.RESYNC c.val = false ∧
    (∀ d, d ≠ c → (s.readmitted c).chan d = s.chan d) ∧ Noted { s with chans := (s.readmitted c).chans } (s.readmitted c) := by
  have hlt : Reg.TRM_RESYNC.RESYNC.lo + c.val < 32 := by
    have hlo : Reg.TRM_RESYNC.RESYNC.lo = 16 := rfl
    omega
  unfold State.readmitted
  have honly : ChanOnly s c _ := .updChan s c fun x => { x with resync := false, cursor := 0, resyncing := [] }
  have hself := congrArg Channel.resync (s.chan_updChan_self c fun x => { x with resync := false, cursor := 0, resyncing := [] })
  generalize (s.updChan c fun x => { x with resync := false, cursor := 0, resyncing := [] }) = u at *
  have hframe : { s with chans := u.chans } = u := congrArg (fun x : State => { x with chans := u.chans }) honly.frame.symm
  refine ⟨?_, State.fbit_setBit_self _ _ _ hlt, fun d hd => ?_, ?_⟩
  · rw [State.chan_setBit, hself]
  · rw [State.chan_setBit, honly.others d hd]
  · rw [State.setBit_chans, hframe]
    exact u.setBit_noted ..

theorem gives_resynchronizationDone {s : State} {c : Chan} (hresync : (s.chan c).resync = true) (hpast : ∀ q ∈ s.positionsInUse, q < (s.chan c).cursor) :
    Gives (.resynchronizationDone c) s fun t => (t.chan c).resync = false ∧ t.fbit Reg.TRM_RESYNC.RESYNC c.val = false ∧
      (∀ d, d ≠ c → t.chan d = s.chan d) ∧ Noted { s with chans := t.chans } t := by
  have hexec : exec (.resynchronizationDone c) s = .next (if !(s.chan c).resync || s.positionsInUse.any (fun q => decide ((s.chan c).cursor ≤ q)) then s
      else (s.readmitted c).event [(s.readmitted c).owner] .informational .recovered c.val) := (apply_ite Host.Outcome.next _ _ _).symm
  have hany : s.positionsInUse.any (fun q => decide ((s.chan c).cursor ≤ q)) = false := List.any_eq_false.2 fun q hq => by simpa using hpast q hq
  rw [hresync, hany, Bool.not_true, Bool.or_self, if_neg Bool.false_ne_true] at hexec
  refine ⟨_, hexec, ?_⟩
  obtain ⟨hdone, hbit, hothers, hnoted⟩ := s.readmitted_gives c
  obtain ⟨htold, hcsr, -⟩ := State.event_noted [(s.readmitted c).owner] .informational .recovered c.val false none (s.readmitted c)
  generalize (s.readmitted c).event [(s.readmitted c).owner] .informational .recovered c.val = t at *
  have hchans : t.chans = (s.readmitted c).chans := by
    have hchans := congrArg State.chans htold.1
    exact hchans
  rw [hchans]
  refine ⟨(congrArg Channel.resync (State.chan_congr hchans c)).trans hdone, (State.fbit_of_word (State.word_congr hcsr _) _).trans hbit,
    fun d hd => (State.chan_congr hchans d).trans (hothers d hd), hnoted.trans htold⟩

/-- Settles O53: a failure tells the same of a channel whatever its cause; the other rows change the one channel, its registers and the repair list. -/
theorem channelErrors : Obligations.ChannelErrors := by
  intro s c
  refine ⟨fun subB lost => ⟨gives_alertNDeassert rfl, gives_alertNDeassert_lost rfl⟩, gives_resynchronizationDone, gives_channelReturn, fun hrun =>
    ⟨gives_channelNoDataTimeout hrun, gives_channelB3Timeout_guarded hrun, gives_channelB3Timeout_lean hrun,
      fun subB => ⟨gives_alertN_noted hrun subB, gives_alertN_recentres hrun subB, gives_alertN_fails hrun subB⟩,
      fun d n => gives_ecsReadout hrun, fun d t0 rest hcands hen hidle hawake => ⟨gives_softPpr_repaired hrun hcands hen hidle hawake, fun hnone b hused => ?_⟩⟩⟩
  obtain ⟨-, hfree⟩ := Bool.and_eq_true_iff.1 hused
  exact gives_softPpr_marked hrun hcands hen hidle hawake hnone (by rw [of_decide_eq_true hfree, Bool.and_false])

end Sys2Proof.Machine
end

section
/-! PROOFS. What the end of a link, and the work that it lets go on, can reach: all the rest of the device stays, and no service is answered (R193 to R197, R222 to R224, R318, R436). -/

namespace Sys2Proof.Machine

/-! ## The rest of the device -/

/-- Is a message the answer of a service of CRY? -/
def Msg.ofService : Msg → Bool
  | .service .. => true
  | _ => false

/-- A state with all that blanked which work for requests, snoops and lost links may touch. The answers of services, CRY but for its sessions, MGT, stored memory and the queue stay. -/
def State.rest (s : State) : State :=
  { s with free := 0, out := s.out.filter Msg.ofService, csr := [], ports := [], rtk := [], nextEntry := 0, nc := {}, dir := {}, xlt := {}, cdc := {}, chans := []
           cry := { s.cry with sessions := [] }, cmd := {}, doms := [], cad := {}, pan := {}, pmu := {}, events := [], nextHandle := 0, poisonList := [] }

theorem Caches.rest {s t : State} (h : Caches s t) : t.rest = s.rest := by
  have hr := congrArg State.rest h
  exact hr

theorem Directs.rest {s t : State} (h : Directs s t) : t.rest = s.rest := by
  have hr := congrArg State.rest h
  exact hr

theorem Sent.rest {s t : State} {ms : List Msg} (h : Sent s ms t) (hms : ms.filter Msg.ofService = []) : t.rest = s.rest := by
  obtain ⟨hframe, hout, -⟩ := h
  have hr := congrArg (fun x : State => { x.rest with out := s.out.filter Msg.ofService }) hframe
  have hsame : t.out.filter Msg.ofService = s.out.filter Msg.ofService := by rw [hout, List.filter_append, hms, List.append_nil]
  calc t.rest = { t.rest with out := t.out.filter Msg.ofService } := rfl
    _ = { t.rest with out := s.out.filter Msg.ofService } := by rw [hsame]
    _ = s.rest := hr

theorem foldl_rest {α : Type} {f : State → α → State} (hf : ∀ s a, (f s a).rest = s.rest) (as : List α) (s : State) : (as.foldl f s).rest = s.rest := by
  induction as generalizing s with
  | nil => rfl
  | cons a as ih => exact (ih _).trans (hf s a)

/-- Work that counts as it goes. -/
theorem foldl_counted_rest {α : Type} {f : State → α → Nat × State} (hf : ∀ s a, (f s a).2.rest = s.rest) (as : List α) (n : Nat) (s : State) :
    (as.foldl (fun (x : Nat × State) a => (x.1 + (f x.2 a).1, (f x.2 a).2)) (n, s)).2.rest = s.rest := by
  induction as generalizing n s with
  | nil => rfl
  | cons a as ih => exact (ih _ _).trans (hf s a)

section
variable (s : State)

@[simp] theorem State.updPort_rest (h : Head) (g : Port → Port) : (s.updPort h g).rest = s.rest := rfl
@[simp] theorem State.updEntry_rest (id : Nat) (g : RtkEntry → RtkEntry) : (s.updEntry id g).rest = s.rest := rfl
@[simp] theorem State.setPhase_rest (id : Nat) (x : Phase) : (s.setPhase id x).rest = s.rest := rfl
@[simp] theorem State.count_rest (g i n : Nat) (u : Option Nat) : (s.count g i n u).rest = s.rest := rfl
@[simp] theorem State.countPort_rest (g : Nat) (h : Head) (i n : Nat) : (s.countPort g h i n).rest = s.rest := rfl
@[simp] theorem State.setF_rest (x : Fld) (v : Nat) : (s.setF x v).rest = s.rest := rfl
@[simp] theorem State.flag_rest (x : Fld) : (s.flag x).rest = s.rest := rfl
@[simp] theorem State.setBit_rest (x : Fld) (i : Nat) (b : Bool) : (s.setBit x i b).rest = s.rest := rfl
@[simp] theorem State.takeFree_rest : s.takeFree.rest = s.rest := rfl
@[simp] theorem State.freeCredit_rest (h : Head) (c : CreditChan) : (s.freeCredit h c).rest = s.rest := rfl
@[simp] theorem State.waitCredit_rest (r : RtkEntry) : (s.waitCredit r).rest = s.rest := rfl
@[simp] theorem State.endSessions_rest (v : Via) : (s.endSessions v).rest = s.rest := rfl
@[simp] theorem State.ideClear_rest (h : Head) : (s.ideClear h).rest = s.rest := rfl
@[simp] theorem State.touchDir_rest (l : Nat) (w : Fin 16) : (s.touchDir l w).rest = s.rest := rfl
@[simp] theorem State.setDir_rest (l : Nat) (p : BitVec 8) (st : DirState) : (s.setDir l p st).rest = s.rest := (s.setDir_directs l p st).rest
@[simp] theorem State.clearPres_rest (l : Nat) (h : Head) : (s.clearPres l h).rest = s.rest := (s.clearPres_directs l h).rest
@[simp] theorem State.setBusy_rest (l : Nat) (b : Bool) : (s.setBusy l b).rest = s.rest := (s.setBusy_directs l b).rest
@[simp] theorem State.unbusy_rest (l : Nat) : (s.unbusy l).rest = s.rest := (s.unbusy_directs l).rest
@[simp] theorem State.ncHit_rest (l : Nat) : (s.ncHit l).rest = s.rest := (s.ncHit_hit l).caches.rest
@[simp] theorem State.ncMiss_rest (l : Nat) : (s.ncMiss l).rest = s.rest := (s.ncMiss_caches l).rest
@[simp] theorem State.touch_rest (l : Nat) : (s.touch l).rest = s.rest := (s.touch_caches l).rest
@[simp] theorem State.touchNc_rest (l : Nat) (w : Fin 16) : (s.touchNc l w).rest = s.rest := rfl
@[simp] theorem State.setNc_rest (l : Nat) (n : NcLine) : (s.setNc l n).rest = s.rest := rfl
@[simp] theorem State.endFill_rest (l : Nat) : (s.endFill l).rest = s.rest := rfl
@[simp] theorem State.makePool_rest (l : Nat) : (s.makePool l).rest = s.rest := (s.makePool_caches l).rest
@[simp] theorem State.freezeReaders_rest (l id : Nat) : (s.freezeReaders l id).rest = s.rest := (s.freezeReaders_caches l id).rest
@[simp] theorem State.addFill_rest (l : Nat) (v : Option LineVal) (host : Bool) : (s.addFill l v host).rest = s.rest := (s.addFill_caches l v host).rest
@[simp] theorem State.xlate_rest (l : Nat) : (s.xlate l).2.rest = s.rest := (s.xlate_looks l).caches.rest
@[simp] theorem State.latchWake_rest (d : Nat) (src : WakeSource) : (s.latchWake d src).rest = s.rest := (s.latchWake_issued d src).caches.rest

/-! ## Messages that no service sends -/

theorem State.send_rest {m : Msg} (hm : m.ofService = false) : (s.send m).rest = s.rest := (Sent.send s m).rest (by simp [hm])

theorem State.emit_rest (h : Head) {m : Msg} (hm : m.ofService = false) : (s.emit h m).rest = s.rest := (Sent.emit s h m).rest (by simp [hm])

@[simp] theorem State.sendResponse_rest (r : RtkEntry) : (s.sendResponse r).rest = s.rest := by
  refine (s.sendResponse_sent r).rest ?_
  unfold RtkEntry.answers
  rw [List.filter_append]
  split <;> split <;> rfl

/-- Platform events are no answers of services (R442). -/
@[simp] theorem State.notify_rest (old : State) : (s.notify old).rest = s.rest := by
  unfold State.notify
  split
  · rfl
  · refine foldl_rest (fun s i => ?_) _ s
    split
    · split
      · rfl
      · exact s.send_rest rfl
    · rfl

/-! ## Records -/

@[simp] theorem State.msix_rest (h : Head) (v : Nat) : (s.msix h v).rest = s.rest := by
  unfold State.msix
  dsimp only
  split
  · rfl
  · split
    · exact s.send_rest (m := .msix h v) rfl
    · rfl

@[simp] theorem State.event_rest (hs : List Head) (l : EventLog) (c : Cause) (a : Nat) (b : Bool) (sl : Option (Fin 16)) : (s.event hs l c a b sl).rest = s.rest := by
  refine foldl_rest (fun s h => ?_) hs s
  unfold State.event1
  dsimp only
  split
  · rfl
  · rw [State.msix_rest]
    rfl

@[simp] theorem State.pannier_rest (dom unit kind : Nat) (c : Cause) (sev addr addrKind reg : Nat) (cxl : Bool) :
    (s.pannier dom unit kind c sev addr addrKind reg cxl).rest = s.rest := by
  have hr := congrArg State.rest (s.pannier_frame dom unit kind c sev addr addrKind reg cxl)
  exact hr

@[simp] theorem State.eventPerSecond_rest (h : Head) (k : Nat) (l : EventLog) (c : Cause) (a : Nat) (sl : Option (Fin 16)) : (s.eventPerSecond h k l c a sl).rest = s.rest := by
  unfold State.eventPerSecond
  exact iteInduction (motive := fun t : State => t.rest = s.rest) (fun _ => by simp) fun _ => rfl

@[simp] theorem State.portViolation_rest (h : Head) (k : Nat) (c : Cause) : (s.portViolation h k c).rest = s.rest := by simp [State.portViolation]

@[simp] theorem State.violation_rest (h : Head) (l : Nat) : (s.violation h l).rest = s.rest := by simp [State.violation]

@[simp] theorem State.mediaEvent_rest (l : Nat) (c : Cause) (scrub : Bool) : (s.mediaEvent l c scrub).rest = s.rest := by
  unfold State.mediaEvent
  rw [State.event_rest]
  rfl

/-! ## The end of an entry (R55, R186, R230, R353) -/

@[simp] theorem State.dropEntry_rest (r : RtkEntry) : (s.dropEntry r).rest = s.rest := by
  unfold State.dropEntry
  dsimp only
  split <;> rfl

@[simp] theorem State.ackConflict_rest (h : Head) (tag : BitVec 16) : (s.ackConflict h tag).rest = s.rest := by
  unfold State.ackConflict
  split
  · rfl
  · rw [State.freeCredit_rest, State.count_rest, State.emit_rest _ _ rfl, State.updPort_rest]

@[simp] theorem State.mbxReply_rest (h : Head) (r : Reply) : (s.mbxReply h r).rest = s.rest := by
  unfold State.mbxReply
  split
  · exact s.send_rest rfl
  · rfl

@[simp] theorem State.loopEntry_rest (r : RtkEntry) : (s.loopEntry r).rest = s.rest := by
  unfold State.loopEntry
  extract_lets a pat checked x
  have hchecked : checked.rest = s.rest := by
    simp only [checked]
    split
    · simp
    · split <;> simp
  split
  · simp [hchecked]
  · split <;> simp [hchecked]

@[simp] theorem State.loopStart_rest (h : Head) : (s.loopStart h).rest = s.rest := by
  unfold State.loopStart
  split
  · rfl
  · rw [foldl_rest fun s r => s.loopEntry_rest r]
    simp

@[simp] theorem State.closeEntry_rest (r : RtkEntry) : (s.closeEntry r).rest = s.rest := by
  unfold State.closeEntry
  simp only [State.loopStart_rest, foldl_rest fun s t => State.ackConflict_rest s r.head t]
  split <;> simp

@[simp] theorem State.respond_rest (id : Nat) : (s.respond id).rest = s.rest := by
  unfold State.respond
  split
  · rfl
  · split
    · simp
    · split <;> simp

@[simp] theorem State.answer_rest (id : Nat) (v : LineVal) : (s.answer id v).rest = s.rest := by
  unfold State.answer State.reply
  split <;> simp

/-! ## Accesses (R37, R42, R43, R118) -/

@[simp] theorem State.startFill_rest (id l : Nat) : (s.startFill id l).rest = s.rest := by
  unfold State.startFill
  split
  · next v hv => exact (State.takeWay_of hv : Caches s v).rest
  · next v hv => exact (State.takeWay_of hv : Caches s v).rest
  · next w v hv =>
    have hgot : (v.touchNc l w).rest = s.rest := (State.takeWay_of hv : Caches s v).rest
    dsimp only
    generalize v.touchNc l w = u at hgot ⊢
    split
    · rw [State.answer_rest, (u.buffered_caches ..).rest, hgot]
    · simp [hgot]

@[simp] theorem State.accessRead_rest (r : RtkEntry) : (s.accessRead r).rest = s.rest := by
  unfold State.accessRead
  extract_lets l id
  split
  · simp
  · split
    · simp
    · split
      · split <;> simp
      · split
        · simp
        · have hmiss : (if r.phase.counted then s else s.ncMiss l).rest = s.rest := by split <;> simp
          generalize (if r.phase.counted then s else s.ncMiss l) = u at hmiss ⊢
          have hx := (u.xlate_rest l).trans hmiss
          generalize u.xlate l = y at hx ⊢
          obtain ⟨x, v⟩ := y
          dsimp only at hx ⊢
          split
          · simp [hx]
          · simp [hx]
          · simp [hx]
          · split <;> simp [hx]

@[simp] theorem State.accessWrite_rest (r : RtkEntry) : (s.accessWrite r).rest = s.rest := by
  unfold State.accessWrite
  extract_lets l id counted
  have hcounted : counted.rest = s.rest := by
    simp only [counted]
    split <;> simp
  have hfrozen : (if r.crossing then counted.freezeReaders l id else counted).rest = s.rest := by split <;> simp [hcounted]
  split
  · simp
  · split
    · simp
    · split
      · next v hv =>
        have hwait : Caches _ v := State.land_of hv
        rw [State.setPhase_rest, hwait.rest, hfrozen]
      · next v hv =>
        have hlanded : Caches _ v := State.land_of hv
        extract_lets cleared
        have hcleared : cleared.rest = s.rest := by
          rw [← hfrozen, ← hlanded.rest]
          simp only [cleared]
          split <;> rfl
        split <;> simp [hcleared]

@[simp] theorem State.access_rest (id : Nat) : (s.access id).rest = s.rest := by
  unfold State.access
  split
  · rfl
  · split <;> simp

/-! ## Coherence and service (R46, R76, R182, R188, R356) -/

@[simp] theorem State.settleDir_rest (r : RtkEntry) : (s.settleDir r).rest = s.rest := by
  unfold State.settleDir
  extract_lets l b held grant
  split
  · split <;> simp [grant]
  · split
    · simp [grant]
    · split <;> simp [grant]
  · split <;> simp [grant]
  · split <;> simp [grant]
  · simp [grant]
  · simp [grant]

@[simp] theorem State.trySend_rest (q : Snoop) : (s.trySend q).rest = s.rest := by
  unfold State.trySend
  split
  · rfl
  · simp only [State.count_rest, State.countPort_rest]
    rw [State.emit_rest _ _ rfl]
    rfl

@[simp] theorem State.snoop_rest (h : Head) (op : SnoopOp) (l : Nat) (c : SnoopCause) (place : Nat) : (s.snoop h op l c place).rest = s.rest := by
  unfold State.snoop
  simp only [State.trySend_rest, foldl_rest fun s j => State.setBusy_rest s j true]
  rfl

@[simp] theorem State.rebuildDir_rest (l : Nat) : (s.rebuildDir l).rest = s.rest := by
  unfold State.rebuildDir
  split
  · rfl
  · split
    · rfl
    · extract_lets hs _ entered waiter
      split
      · rfl
      · exact foldl_rest (fun s h => s.snoop_rest h _ _ _ _) _ entered

@[simp] theorem State.keepData_rest (r : RtkEntry) : (s.keepData r).rest = s.rest := by
  unfold State.keepData
  split
  · split <;> rfl
  · rfl

theorem ite_rest {c : Prop} [Decidable c] {s t u : State} (ht : t.rest = s.rest) (hu : u.rest = s.rest) : (if c then t else u).rest = s.rest := by
  split
  · exact ht
  · exact hu

@[simp] theorem State.cohere_rest (id : Nat) : (s.cohere id).rest = s.rest := by
  unfold State.cohere
  split
  · rfl
  · next r _ =>
    extract_lets l rebuilt _ qs
    have hrebuilt : rebuilt.rest = s.rest := s.rebuildDir_rest l
    rw [← hrebuilt]
    generalize rebuilt = u
    split
    · rfl
    · refine ite_rest (by simp) (ite_rest (by simp) ?_)
      split
      · split
        · simp
        · split
          · rw [State.access_rest, State.settleDir_rest, State.touchDir_rest]
            rfl
          · split
            · rfl
            · next v _ =>
              extract_lets hs em counted
              have hcounted : counted.rest = u.rest := u.setBusy_rest v true
              split
              · rfl
              · rw [State.setPhase_rest, foldl_rest fun s h => s.snoop_rest h _ _ _ _, hcounted]
      · split
        · simp
        · split
          · rfl
          · rw [State.setPhase_rest, foldl_rest fun (s : State) (q : Head × SnoopOp) => s.snoop_rest q.1 q.2 l (.request id) id, State.keepData_rest, State.touchDir_rest]

@[simp] theorem State.serve_rest (id : Nat) : (s.serve id).rest = s.rest := by
  unfold State.serve
  split
  · rfl
  · split
    · rfl
    · extract_lets off
      split
      · exact foldl_rest (fun s d => s.latchWake_rest d _) off s
      · split
        · rfl
        · split <;> simp

/-! ## Snoops settled, the fence, and the end of links (R193 to R197, R222, R223, R318, R436) -/

@[simp] theorem State.resumeCause_rest (c : SnoopCause) (l : Nat) : (s.resumeCause c l).rest = s.rest := by
  unfold State.resumeCause
  split
  · rfl
  · split
    · split
      · split <;> simp
      · rfl
    · extract_lets _ evicted
      have hevicted : evicted.rest = s.rest := rfl
      split
      · split <;> simp [hevicted]
      · exact hevicted
    · rfl

@[simp] theorem State.closeSnoop_rest (q : Snoop) : (s.closeSnoop q).rest = s.rest := by
  have hunbusy (s : State) (j : Nat) : (if s.dir.snoops.any (·.lines.contains j) then s else s.unbusy j).rest = s.rest := by split <;> simp
  unfold State.closeSnoop
  extract_lets _ freed resumed
  have hfreed : freed.rest = s.rest := rfl
  rw [foldl_rest hunbusy, State.resumeCause_rest, hfreed]

@[simp] theorem State.poisonLine_rest (l : Nat) : (s.poisonLine l).rest = s.rest := by
  unfold State.poisonLine
  extract_lets _ cleared
  have hcleared : cleared.rest = s.rest := s.touch_rest l
  split
  · simp [hcleared]
  · split
    · next v hv => exact (State.takeWay_of hv : Caches cleared v).rest.trans hcleared
    · next v hv => exact (State.takeWay_of hv : Caches cleared v).rest.trans hcleared
    · next v hv => exact (State.takeWay_of hv : Caches cleared v).rest.trans hcleared

@[simp] theorem State.settleLine_rest (h : Head) (l : Nat) (crossed : Bool) : (s.settleLine h l crossed).2.rest = s.rest := by
  unfold State.settleLine
  split <;> simp

theorem State.settleAll_rest (h : Head) : (s.settleAll h).2.rest = s.rest :=
  (foldl_rest (fun s q => s.closeSnoop_rest q) _ _).trans (foldl_counted_rest (f := fun s q => s.settleSnoop q)
    (fun s q => foldl_counted_rest (f := fun s l => s.settleLine q.host l (q.crossed.contains l)) (fun s _ => s.settleLine_rest ..) q.lines 0 s) _ 0 s)

@[simp] theorem State.fence_rest (h : Head) (linkDown : Bool) (n : Nat) : (s.fence h linkDown n).rest = s.rest := by
  unfold State.fence
  split
  · exact s.settleAll_rest h
  · extract_lets fenced
    have hpurged : (fenced.purge h).2.rest = s.rest := foldl_counted_rest (f := fun s l => s.settleLine h l false) (fun s _ => s.settleLine_rest ..) _ 0 fenced
    generalize fenced.purge h = x at hpurged ⊢
    obtain ⟨n1, u⟩ := x
    have hsettled := (u.settleAll_rest h).trans hpurged
    dsimp only
    generalize u.settleAll h = x at hsettled ⊢
    obtain ⟨n2, v⟩ := x
    simpa using hsettled

@[simp] theorem State.synthesize_rest (h : Head) : (s.synthesize h).rest = s.rest := by
  have hclose (s : State) (r : RtkEntry) : (if r.phase == .domain || r.phase == .respond then s.closeEntry { r with conflicts := [] } else s).rest = s.rest := by split <;> simp
  unfold State.synthesize
  extract_lets mine closed
  have hclosed : closed.rest = s.rest := foldl_rest hclose mine s
  exact hclosed

@[simp] theorem State.linkDown_rest (h : Head) (perst : Bool) : (s.linkDown h perst).rest = s.rest := by
  unfold State.linkDown
  split
  · rfl
  · extract_lets _ cut ended expired flagged
    have hcut : cut.rest = s.rest := ((State.endSessions_rest ..).trans (State.ideClear_rest ..)).trans (s.updPort_rest h Port.down)
    have hended : ended.rest = s.rest := (cut.synthesize_rest h).trans hcut
    have hexpired : expired.rest = s.rest := by
      simp only [expired]
      split <;> simp [hended]
    have hflagged : flagged.rest = s.rest := by
      simp only [flagged]
      split <;> simp [hexpired]
    exact ((State.pannier_rest ..).trans (State.event_rest ..)).trans hflagged

/-- With every link down and every port held, the rest of the device is as it was. -/
@[simp] theorem State.holdPorts_rest : s.holdPorts.rest = s.rest := by
  have hhold (s : State) (h : Head) : ((s.linkDown h false).updPort h fun p => { p with held := true, waiting := none }).rest = s.rest := s.linkDown_rest h false
  exact foldl_rest hhold heads8 s

@[simp] theorem State.ideClearAll_rest : s.ideClearAll.rest = s.rest := foldl_rest (fun s h => s.ideClear_rest h) heads8 s

end

end Sys2Proof.Machine
end

section
/-! PROOFS. Services of the cryptographic module: what an accepted or a refused request leaves, sessions, key slots, and JTAG (R294 to R303, R320, R323). -/

namespace Sys2Proof.Machine

/-! ## Requests that reach CRY (R294, R295) -/

section
variable {s : State} {w : Via} (hreach : CryReached s w)
include hreach

theorem gives_carried {i : Instr} {g : State → State} {P : State → Prop} (hexec : exec i s = .next (s.carry w i g)) (h : P (g s)) : Gives i s P :=
  ⟨g s, hexec.trans (congrArg Host.Outcome.next (State.carry_eq hreach i g)), h⟩

theorem gives_served {r : Role} (hrole : s.hasRole w r = true) {i : Instr} {g : State → State} {P : State → Prop} (hexec : exec i s = .next (s.service w r i g))
    (h : P (g s)) : Gives i s P :=
  ⟨g s, hexec.trans (congrArg Host.Outcome.next (State.service_eq hreach hrole i g)), h⟩

/-- Without its role a request is refused, and only counters have changed (R295). -/
theorem gives_unauthorized {r : Role} (hrole : s.hasRole w r = false) {i : Instr} {g : State → State} (hexec : exec i s = .next (s.service w r i g)) :
    Gives i s fun t => t.out = s.out ++ [.service w (.refused "NOT_AUTHORIZED") s.approved] ∧ { t with out := s.out, pmu := s.pmu } = s :=
  ⟨_, hexec.trans (congrArg Host.Outcome.next (State.service_refused hreach hrole i g)), s.svcNo_frame w _⟩

/-! ## Services that need no role (R294 to R297, R323) -/

theorem exec_spdmSession {root : Option (BitVec 384)} {r : Role} (hroot : s.roleOf root = some r) : exec (.spdmSession w root) s = .next
    { s with cry := { s.cry with sessions := s.cry.sessions.filter (·.via != w) ++ [⟨w, r⟩] }, out := s.out ++ [.service w .ok s.approved] } := by
  have hexec : exec (.spdmSession w root) s = execSpdmSession w root s := rfl
  rw [hexec, execSpdmSession, State.carry_eq hreach, hroot]
  rfl

theorem gives_spdmSession_refused {root : Option (BitVec 384)} (hroot : s.roleOf root = none) : Gives (.spdmSession w root) s fun t =>
    t.out = s.out ++ [.service w (.refused "INVALID_REQUEST") s.approved] ∧ { t with out := s.out, pmu := s.pmu } = s := by
  refine gives_carried hreach rfl ?_
  rw [hroot]
  exact s.svcNo_frame w _

/-- SHOW_STATUS takes its own way over the sideband, which serves it in the error state too (R318). -/
theorem exec_showStatus : exec (.showStatus w) s = .next (s.svcOk w (.nats [s.cryStatus.toNat, s.cryFw.toNat, s.approved.toNat])) := by
  have hexec : exec (.showStatus w) s = execShowStatus w s := rfl
  rw [hexec]
  unfold execShowStatus
  cases w with
  | head h =>
    dsimp only
    rw [State.carry_eq hreach]
  | sideband =>
    obtain ⟨hst, hserves⟩ := hreach
    dsimp only
    rw [State.sideband_eq hserves, hst]
    rfl

end

/-- Settles O31: a session takes its role from the list that its root stands on, the open services answer and count, and JTAG acts as Zeroize All and the token allow. -/
theorem cryOpenServices : Obligations.CryOpenServices := by
  refine ⟨fun s w => ⟨rfl, fun hreach => ⟨fun root r => exec_spdmSession hreach, fun root => gives_spdmSession_refused hreach, fun n x hx => ?_⟩⟩,
    fun s => ⟨rfl, fun hzero => ⟨?_, ?_⟩, fun hkept => ⟨?_, ?_⟩, ?_⟩⟩
  · simp only [List.mem_cons, List.not_mem_nil, or_false] at hx
    rcases hx with rfl | rfl | rfl | rfl
    · exact ⟨_, exec_showStatus hreach, s.svcOk_frame w _⟩
    · exact gives_carried hreach rfl (s.svcOk_frame w _)
    · exact gives_carried hreach rfl (s.svcOk_frame w _)
    · exact gives_carried hreach rfl (s.svcOk_frame w _)
  · exact congrArg Host.Outcome.next (if_pos hzero)
  · exact congrArg Host.Outcome.next (if_pos (by rw [hzero]; rfl))
  · exact congrArg Host.Outcome.next (if_neg (by rw [hkept]; exact Bool.false_ne_true))
  · exact congrArg Host.Outcome.next (if_neg (by rw [hkept]; exact Bool.false_ne_true))
  · exact congrArg Host.Outcome.next (if_neg (by rw [Bool.and_false]; exact Bool.false_ne_true))

/-! ## Key slots (R299, R300, R302, R303) -/

/-- From `s` to `t` no key slot but `k` has changed, nor whether the module is in its approved mode, nor what CRY does not hold. -/
structure SlotOnly (s : State) (k : Nat) (t : State) : Prop where
  others : ∀ j, j ≠ k → t.keySlot j = s.keySlot j
  approved : t.approved = s.approved
  keyed : Keyed s t

/-- The answer of a service that has changed one slot. -/
theorem SlotOnly.answered {s : State} {k : Nat} {t : State} (h : SlotOnly s k t) (w : Via) (r : Reply) :
    (∀ j, j ≠ k → (t.svcOk w r).keySlot j = s.keySlot j) ∧ (t.svcOk w r).out = s.out ++ [.service w r s.approved] ∧
      { t.svcOk w r with cry := s.cry, free := s.free, out := s.out, pmu := s.pmu } = s := by
  have hout := congrArg State.out h.keyed
  have hout : t.out = s.out := hout
  refine ⟨h.others, ?_, congrArg (fun x : State => { x with out := s.out }) h.keyed⟩
  rw [← hout, ← h.approved]
  exact (t.svcOk_frame w r).1

theorem State.setSlot_only (s : State) (k : Nat) (x : KeySlot) : SlotOnly s k (s.setSlot k x) :=
  ⟨fun j hj => by rw [State.keySlot_setSlot, if_neg hj], rfl, s.setSlot_keyed k x⟩

theorem State.generateInto_only (s : State) (k : Nat) : SlotOnly s k (s.generateInto k) := by
  obtain ⟨-, -, hothers, hkeyed⟩ := s.generateInto_gives k
  exact ⟨hothers, rfl, hkeyed⟩

/-- The count of imports, and the KEM key pair that is made anew at its end, leave the slots (R300). -/
theorem State.countImport_gives (s : State) : s.countImport.cry.slots = s.cry.slots ∧ s.countImport.approved = s.approved ∧ Keyed s s.countImport := by
  unfold State.countImport
  split <;> exact ⟨rfl, rfl, rfl⟩

theorem State.imported_only (s : State) (k : Nat) (x : KeySlot) : SlotOnly s k (s.setSlot k x).countImport ∧ (s.setSlot k x).countImport.keySlot k = x := by
  obtain ⟨hslots, happroved, hkeyed⟩ := (s.setSlot k x).countImport_gives
  have hslot (j : Nat) : (s.setSlot k x).countImport.keySlot j = (s.setSlot k x).keySlot j := congrArg (fun t => Tbl.get KeySlot.empty t j) hslots
  have hset := s.setSlot_only k x
  exact ⟨⟨fun j hj => (hslot j).trans (hset.others j hj), happroved.trans hset.approved, hset.keyed.trans hkeyed⟩, by rw [hslot, State.keySlot_setSlot, if_pos rfl]⟩

/-- A service that writes one slot and nothing else of the module. -/
theorem State.setSlot_answered (s : State) (w : Via) (k : Nat) (x : KeySlot) :
    ((s.setSlot k x).svcOk w .ok).keySlot k = x ∧ (∀ j, j ≠ k → ((s.setSlot k x).svcOk w .ok).keySlot j = s.keySlot j) ∧
      ((s.setSlot k x).svcOk w .ok).out = s.out ++ [.service w .ok s.approved] ∧
      { (s.setSlot k x).svcOk w .ok with cry := { ((s.setSlot k x).svcOk w .ok).cry with slots := s.cry.slots }, out := s.out, pmu := s.pmu } = s := by
  obtain ⟨hothers, hout, -⟩ := (s.setSlot_only k x).answered w .ok
  have hset : { s.setSlot k x with cry := { (s.setSlot k x).cry with slots := s.cry.slots } } = s := rfl
  obtain ⟨-, hframe⟩ := (s.setSlot k x).svcOk_frame w .ok
  exact ⟨(s.keySlot_setSlot k k x).trans (if_pos rfl), hothers, hout, (congrArg (fun x : State => { x with cry := { x.cry with slots := s.cry.slots } }) hframe).trans hset⟩

/-- A wrap that does not open counts twice: as a failed import and as a refusal. -/
theorem State.badWrap_frame (s : State) (w : Via) : ((s.count 12 19).svcNo w "BAD_WRAP").out = s.out ++ [.service w (.refused "BAD_WRAP") s.approved] ∧
    { (s.count 12 19).svcNo w "BAD_WRAP" with out := s.out, pmu := s.pmu } = s := by
  obtain ⟨hout, hframe⟩ := (s.count 12 19).svcNo_frame w "BAD_WRAP"
  exact ⟨hout, (congrArg (fun x : State => { x with pmu := s.pmu }) hframe).trans (s.count_frame 12 19 1 none)⟩

theorem State.wrapOk_iff (s : State) (k : KeyId) (x : Wrapped) : s.wrapOk k x = true ↔ x.kemGen = s.cry.kemGen ∧ x.slot = k ∧ x.tagOk = true ∧ x.dataKey ≠ x.tweakKey := by
  simp [State.wrapOk, and_assoc]

section
variable {s : State} {w : Via} {k : KeyId} (hreach : CryReached s w) (hrole : s.hasRole w .user = true)
include hreach hrole

theorem exec_generateSlot (hempty : (s.keySlot k.val).st = .empty) : exec (.generateSlot w k) s = .next ((s.generateInto k.val).svcOk w .ok) := by
  have hexec : exec (.generateSlot w k) s = execGenerateSlot w k s := rfl
  rw [hexec, execGenerateSlot, State.service_eq hreach hrole, hempty]
  rfl

theorem exec_importSlot {x : Wrapped} (hempty : (s.keySlot k.val).st = .empty) : exec (.importSlot w k x) s = .next (if s.wrapOk k x then
    ((s.setSlot k.val ⟨.active, true, x.dataKey, x.tweakKey⟩).countImport).svcOk w .ok else (s.count 12 19).svcNo w "BAD_WRAP") := by
  have hexec : exec (.importSlot w k x) s = execImportSlot w k x s := rfl
  rw [hexec, execImportSlot, State.service_eq hreach hrole, hempty]
  cases s.wrapOk k x <;> rfl

theorem exec_retireSlot (hactive : (s.keySlot k.val).st = .active) : exec (.retireSlot w k) s = .next (if s.slotRegions k.val = 0 then
    (s.setSlot k.val { s.keySlot k.val with st := .retiring }).svcOk w .ok else s.svcNo w "IN_USE") := by
  have hexec : exec (.retireSlot w k) s = execRetireSlot w k s := rfl
  rw [hexec, execRetireSlot, State.service_eq hreach hrole]
  dsimp only
  rw [hactive, ite_not]
  rfl

theorem exec_destroySlot (hused : (s.keySlot k.val).st ≠ .empty) : exec (.destroySlot w k) s = .next (if s.slotFree k.val then
    (s.setSlot k.val KeySlot.empty).svcOk w .ok else s.svcNo w "IN_USE") := by
  have hexec : exec (.destroySlot w k) s = execDestroySlot w k s := rfl
  rw [hexec, execDestroySlot, State.service_eq hreach hrole, if_neg (by simpa using hused)]
  cases s.slotFree k.val <;> rfl

end

/-- Settles O32: an accepted service writes one slot, from the DRBG, from the wrap, or by its state alone, and a refused one counts. -/
theorem cryUserServices : Obligations.CryUserServices := by
  refine fun s w k hreach => ⟨fun hrole => ⟨fun hempty => ?_, fun x hempty hgen hslot htag hkeys => ?_, fun x hempty hbad => ?_, fun hactive hnone => ?_, fun hactive hsome => ?_,
    fun hused hfree => ?_, fun hused hnamed => ?_, gives_served hreach hrole rfl (s.svcOk_frame w _)⟩, fun hrole i hi => ?_⟩
  · obtain ⟨hst, himported, -⟩ := s.generateInto_gives k.val
    exact ⟨_, exec_generateSlot hreach hrole hempty, hst, himported, (s.generateInto_only k.val).answered w .ok⟩
  · have hexec := exec_importSlot hreach hrole (x := x) hempty
    rw [if_pos ((s.wrapOk_iff k x).2 ⟨hgen, hslot, htag, hkeys⟩)] at hexec
    obtain ⟨honly, hself⟩ := s.imported_only k.val ⟨.active, true, x.dataKey, x.tweakKey⟩
    exact ⟨_, hexec, hself, honly.answered w .ok⟩
  · have hexec := exec_importSlot hreach hrole (x := x) hempty
    have hwrap : ¬ s.wrapOk k x = true := by
      rw [State.wrapOk_iff]
      rintro ⟨hgen, hslot, htag, hkeys⟩
      rcases hbad with h | h | h | h
      · exact h hgen
      · exact h hslot
      · exact Bool.false_ne_true (h.symm.trans htag)
      · exact hkeys h
    rw [if_neg hwrap] at hexec
    exact ⟨_, hexec, s.badWrap_frame w⟩
  · have hexec := exec_retireSlot hreach hrole hactive
    rw [if_pos hnone] at hexec
    exact ⟨_, hexec, s.setSlot_answered ..⟩
  · have hexec := exec_retireSlot hreach hrole hactive
    rw [if_neg hsome] at hexec
    exact ⟨_, hexec, s.svcNo_frame w _⟩
  · have hexec := exec_destroySlot hreach hrole hused
    rw [if_pos hfree] at hexec
    exact ⟨_, hexec, s.setSlot_answered ..⟩
  · have hexec := exec_destroySlot hreach hrole hused
    rw [if_neg (by rw [hnamed]; exact Bool.false_ne_true)] at hexec
    exact ⟨_, hexec, s.svcNo_frame w _⟩
  · simp only [List.mem_cons, List.not_mem_nil, or_false] at hi
    rcases hi with rfl | rfl | rfl | rfl
    · exact gives_unauthorized hreach hrole rfl
    · exact gives_unauthorized hreach hrole rfl
    · exact gives_unauthorized hreach hrole rfl
    · exact gives_unauthorized hreach hrole rfl

end Sys2Proof.Machine
end

section
/-! PROOFS. The error state, self-tests, entropy, the DRBG, the spare XTS engine, and the services of the CO (R294, R295, R312 to R319, R322, R324). -/

namespace Sys2Proof.Machine

/-! ## Keys overwritten, and the error state (R318) -/

theorem State.keySlot_zeroKeys (s : State) (k : Nat) : s.zeroKeys.keySlot k = { s.keySlot k with dataKey := 0, tweakKey := 0 } := by
  have hlook := Tbl.look_mapVals (fun _ (x : KeySlot) => { x with dataKey := 0, tweakKey := 0 }) s.cry.slots k
  have hslot : s.zeroKeys.keySlot k = ((s.cry.slots.look k).map fun x => { x with dataKey := 0, tweakKey := 0 }).getD KeySlot.empty := congrArg (·.getD KeySlot.empty) hlook
  rw [hslot, State.keySlot, Tbl.get]
  cases s.cry.slots.look k <;> rfl

/-- The error state but for the ports and the records: every key overwritten, and the cause. -/
def State.erred (s : State) (c : ErrCause) : State := { s.zeroKeys with cry := { s.zeroKeys.cry with st := .error, errCause := some c } }

theorem State.cryError_rest {s : State} (hst : s.cry.st ≠ .error) (c : ErrCause) : (s.cryError c).rest = (s.erred c).rest := by
  have hheld : s.zeroKeys.ideClearAll.holdPorts.rest = s.zeroKeys.rest := by rw [State.holdPorts_rest, State.ideClearAll_rest]
  have hlast (u : State) : ((State.notify { u with cry := { u.cry with st := .error, errCause := some c } } u).pannier 57 0xFF 8 .errorState 3 0 0 0x610000 false).rest =
      { u.rest with cry := { u.rest.cry with st := .error, errCause := some c } } := by
    rw [State.pannier_rest, State.notify_rest]
    rfl
  have hentered : s.cryError c = _ := if_neg fun h => hst (eq_of_beq h)
  rw [hentered, hlast, hheld]
  rfl

/-- CRY in its error state: keys are zeros, slots keep their states, and the start stands where it stood. -/
theorem State.cryError_failed {s : State} (hst : s.cry.st ≠ .error) (c : ErrCause) : CryFailed s (s.cryError c) c ∧ (s.cryError c).aon = s.aon := by
  have hrest := State.cryError_rest hst c
  generalize s.cryError c = t at hrest ⊢
  have hmem := congrArg State.mem hrest
  have haon := congrArg State.aon hrest
  have hcry := congrArg State.cry hrest
  have herror := congrArg Cry.st hcry
  have hcause := congrArg Cry.errCause hcry
  have hmeta := congrArg Cry.metaKey hcry
  have hslots := congrArg Cry.slots hcry
  have hslot (k : Nat) : t.keySlot k = s.zeroKeys.keySlot k := congrArg (fun x => Tbl.get KeySlot.empty x k) hslots
  refine ⟨⟨herror, hcause, hmeta, fun k => ?_, hmem⟩, haon⟩
  rw [hslot, State.keySlot_zeroKeys]
  exact ⟨rfl, rfl, rfl⟩

/-! ## Power-up tests (R314) -/

/-- Tests that find every engine good change nothing. -/
theorem State.katResult_good (s : State) : s.katResult ⟨none, 0, 0⟩ = s := by
  simp [State.katResult]

theorem exec_powerUpKatDone {s : State} (hboot : s.aon.boot = .rails) (hst : s.cry.st = .selfTest) (hreset : s.aon.inReset = false) (hrail : s.aon.railFault = false)
    (r : KatResult) (f : FlashCheck) : exec (.powerUpKatDone r f) s = .next (if (s.katResult r).cry.st == .error then s.katResult r else
      { (s.katResult r).loadFlash f with
        aon := { ((s.katResult r).loadFlash f).aon with boot := .tested, trying := ((s.katResult r).loadFlash f).aon.pendingFw }
        cry := { ((s.katResult r).loadFlash f).cry with st := .operational, drbgAt := ((s.katResult r).loadFlash f).now }
        mgt := { ((s.katResult r).loadFlash f).mgt with st := .booting, dogAt := ((s.katResult r).loadFlash f).now } }) := by
  have hexec : exec (.powerUpKatDone r f) s = execPowerUpKatDone r f s := rfl
  rw [hexec, execPowerUpKatDone, hboot, hst, hreset, hrail, if_neg (by decide)]
  exact (apply_ite Host.Outcome.next _ _ _).symm

/-- The IDE policy as the flash gives it: any session where no policy record is valid (R324). -/
def State.policed (s : State) (bad : Bool) : State := if bad then { s with aon := { s.aon with ideAny := true } } else s

theorem State.policed_gives (s : State) (bad : Bool) : (s.policed bad).aon.ideAny = (bad || s.aon.ideAny) ∧ (s.policed bad).events = s.events := by
  cases bad <;> exact ⟨rfl, rfl⟩

/-- A User root list that fails its HMAC is empty from then on, and an event record says so (R294, R324). -/
theorem State.loadFlash_rootsBad (s : State) (policyBad : Bool) : (s.loadFlash ⟨true, policyBad⟩).aon.userRoots = [] ∧ (s.loadFlash ⟨true, policyBad⟩).aon.ideAny = (policyBad || s.aon.ideAny) ∧
    s.events <+: (s.loadFlash ⟨true, policyBad⟩).events ∧ s.events.length < (s.loadFlash ⟨true, policyBad⟩).events.length := by
  obtain ⟨hany, hevents⟩ := s.policed_gives policyBad
  have hload : s.loadFlash ⟨true, policyBad⟩ = State.event { s.policed policyBad with aon := { (s.policed policyBad).aon with userRoots := [] } } [(s.policed policyBad).owner] .warning .userRootsBad 0 := rfl
  rw [hload, ← hany, ← hevents]
  generalize s.policed policyBad = u
  obtain ⟨hnoted, -, -, -, hprefix, hlen⟩ := State.event_noted [u.owner] .warning .userRootsBad 0 false none { u with aon := { u.aon with userRoots := [] } }
  have haon := congrArg State.aon hnoted.1
  generalize State.event { u with aon := { u.aon with userRoots := [] } } [u.owner] .warning .userRootsBad 0 = t at *
  have hroots := congrArg Aon.userRoots haon
  have hideAny := congrArg Aon.ideAny haon
  exact ⟨hroots, hideAny, hprefix, by rw [hlen]; exact Nat.lt_succ_self _⟩

section
variable {s : State} (hboot : s.aon.boot = .rails) (hst : s.cry.st = .selfTest) (hreset : s.aon.inReset = false) (hrail : s.aon.railFault = false)
include hboot hst hreset hrail

theorem exec_powerUpKatDone_good (f : FlashCheck) : exec (.powerUpKatDone ⟨none, 0, 0⟩ f) s = .next { s.loadFlash f with
    aon := { (s.loadFlash f).aon with boot := .tested, trying := (s.loadFlash f).aon.pendingFw }
    cry := { (s.loadFlash f).cry with st := .operational, drbgAt := (s.loadFlash f).now }
    mgt := { (s.loadFlash f).mgt with st := .booting, dogAt := (s.loadFlash f).now } } := by
  rw [exec_powerUpKatDone hboot hst hreset hrail, State.katResult_good, hst]
  rfl

theorem gives_powerUpKatDone_shared (c : ErrCause) (x : BitVec 17) (g : BitVec 8) (f : FlashCheck) : Gives (.powerUpKatDone ⟨some c, x, g⟩ f) s fun t => CryFailed s t c ∧ t.aon.boot = .rails := by
  obtain ⟨hfailed, haon⟩ := State.cryError_failed (s := s) (by rw [hst]; decide) c
  have hkat : s.katResult ⟨some c, x, g⟩ = s.cryError c := rfl
  have hexec := exec_powerUpKatDone hboot hst hreset hrail ⟨some c, x, g⟩ f
  rw [hkat, hfailed.1, if_pos (beq_self_eq_true _)] at hexec
  exact ⟨_, hexec, hfailed, by rw [haon, hboot]⟩

end

/-! ## Entropy and the DRBG (R312, R313) -/

theorem exec_entropyHealthFail {s : State} (hrun : s.mainRuns = true) (hst : s.cry.st ≠ .error) : exec .entropyHealthFail s = .next (
    if s.cry.entropyAt.any fun t => decide (s.now < t + 1000000000) then (s.count 12 21).cryError .entropy
    else { s.count 12 21 with cry := { s.cry with entropyAt := [s.now] } }) := by
  have hexec : exec .entropyHealthFail s = execEntropyHealthFail s := rfl
  rw [hexec, execEntropyHealthFail, hrun, Bool.not_true, Bool.false_or, if_neg fun h => hst (eq_of_beq h)]
  exact (apply_ite Host.Outcome.next _ _ _).symm

theorem gives_entropyHealthFail_first {s : State} (hrun : s.mainRuns = true) (hst : s.cry.st ≠ .error) (hold : ∀ a ∈ s.cry.entropyAt, a + 1000000000 ≤ s.now) :
    Gives .entropyHealthFail s fun t => t.cry = { s.cry with entropyAt := [s.now] } ∧ { t with cry := s.cry, pmu := s.pmu } = s := by
  have hexec := exec_entropyHealthFail hrun hst
  have hnone : s.cry.entropyAt.any (fun t => decide (s.now < t + 1000000000)) = false := List.any_eq_false.2 fun a ha => by simpa using hold a ha
  rw [hnone, if_neg Bool.false_ne_true] at hexec
  exact ⟨_, hexec, rfl, congrArg (fun x : State => { x with cry := s.cry, pmu := s.pmu }) (s.count_frame 12 21 1 none)⟩

theorem gives_entropyHealthFail_second {s : State} (hrun : s.mainRuns = true) (hst : s.cry.st ≠ .error) {a : Nat} (ha : a ∈ s.cry.entropyAt) (hsoon : s.now < a + 1000000000) :
    Gives .entropyHealthFail s fun t => CryFailed s t .entropy := by
  have hexec := exec_entropyHealthFail hrun hst
  rw [if_pos (List.any_eq_true.2 ⟨a, ha, decide_eq_true hsoon⟩)] at hexec
  obtain ⟨hfailed, -⟩ := State.cryError_failed (s := s.count 12 21) hst .entropy
  exact ⟨_, hexec, hfailed⟩

theorem exec_drbgReseed {s : State} (hst : s.cry.st = .operational) (bad : Bool) : exec (.drbgReseed bad) s = .next (if bad then s.cryError .drbg else s.reseed) := by
  have hexec : exec (.drbgReseed bad) s = execDrbgReseed bad s := rfl
  rw [hexec, execDrbgReseed, hst]
  cases bad <;> rfl

/-! ## The spare XTS engine (R316, R317) -/

/-- The channel of an engine. -/
def engineChan (e : Fin 17) : Chan := ⟨e.val % 16, Nat.mod_lt _ (by decide)⟩

/-- An engine is out of service, and that is told: the event register's field `x`, the engine's bit, an event record and a Pannier record. -/
def State.engineOut (s : State) (x : Fld) (e : Fin 17) : State :=
  let s := (s.flag x).setBit Reg.XTS_STATUS.ENGINE_OOS e.val true
  let s := s.event [s.owner] .warning .unitOutOfService (engineChan e).val
  s.pannier (12 + (engineChan e).val) 3 8 .unitOutOfService 1 0 0 0x600000 true

theorem State.engineOut_word (s : State) (x : Fld) (e : Fin 17) {o : Nat} (ho : o ≠ 0x750000) :
    (s.engineOut x e).word o = ((s.flag x).setBit Reg.XTS_STATUS.ENGINE_OOS e.val true).word o := by
  unfold State.engineOut
  extract_lets out told
  obtain ⟨-, hcsr, -⟩ := State.event_noted [out.owner] .warning .unitOutOfService (engineChan e).val false none out
  exact (State.pannier_word ho told ..).trans (State.word_congr hcsr o)

theorem State.engineOut_noted (s : State) (x : Fld) (e : Fin 17) : Noted s (s.engineOut x e) := by
  unfold State.engineOut
  extract_lets out told
  obtain ⟨htold, -⟩ := State.event_noted [out.owner] .warning .unitOutOfService (engineChan e).val false none out
  exact (((s.flag_noted x).trans (State.setBit_noted ..)).trans htold).trans (State.pannier_noted ..)

/-- The spare's marks stand as they stood, and the engine's bit is set. -/
theorem State.engineOut_status (s : State) {x : Fld} (hx : x.off ≠ 0x600000) {e : Fin 17} (he : e.val < 16) : (s.engineOut x e).fbit Reg.XTS_STATUS.ENGINE_OOS e.val = true ∧
    (s.engineOut x e).fb Reg.XTS_STATUS.SPARE_ACTIVE = s.fb Reg.XTS_STATUS.SPARE_ACTIVE ∧ (s.engineOut x e).fb Reg.XTS_STATUS.SPARE_FAIL = s.fb Reg.XTS_STATUS.SPARE_FAIL := by
  have hout := s.engineOut_word x e (o := 0x600000) (by decide)
  have hflag : (s.flag x).word 0x600000 = s.word 0x600000 := State.word_setF_ne _ _ _ hx.symm
  have hlo : Reg.XTS_STATUS.ENGINE_OOS.lo + e.val < 16 := by simpa [Reg.XTS_STATUS.ENGINE_OOS] using he
  have hspare {y : Fld} (hoff : y.off = 0x600000) (hy : 16 ≤ y.lo) (hy' : y.lo < 32) : (s.engineOut x e).fb y = s.fb y := by
    rw [State.fb_of_word (hoff ▸ hout), State.setBit, State.fb_setF _ _ _ _ (by dsimp only; omega) le_rfl hy', if_neg (by dsimp only; omega)]
    exact State.fb_of_word (hoff ▸ hflag)
  exact ⟨(State.fbit_of_word hout _).trans (State.fbit_setBit_self _ _ true (by omega)), hspare rfl (by decide) (by decide), hspare rfl (by decide) (by decide)⟩

/-- The spare takes channel `c`. -/
def State.spareTakes (s : State) (c : Chan) : State := ((s.flag Reg.XTS_STATUS.SPARE_ACTIVE).setF Reg.XTS_STATUS.SPARE_CH c.val).flag Reg.XTS_EVENTS.SWITCHED

theorem State.spareTakes_csrOnly (s : State) (c : Chan) : CsrOnly s (s.spareTakes c) :=
  ((s.setF_csrOnly _ 1).trans (State.setF_csrOnly _ _ _)).trans (State.setF_csrOnly _ _ 1)

theorem State.spareTakes_status (s : State) (c : Chan) : (s.spareTakes c).fb Reg.XTS_STATUS.SPARE_ACTIVE = true ∧ (s.spareTakes c).f Reg.XTS_STATUS.SPARE_CH = c.val ∧
    (s.spareTakes c).fbit Reg.XTS_STATUS.ENGINE_OOS c.val = s.fbit Reg.XTS_STATUS.ENGINE_OOS c.val := by
  have hlast : (s.spareTakes c).word 0x600000 = ((s.flag Reg.XTS_STATUS.SPARE_ACTIVE).setF Reg.XTS_STATUS.SPARE_CH c.val).word 0x600000 := State.word_setF_ne _ _ _ (by decide)
  refine ⟨?_, ?_, ?_⟩
  · rw [State.fb_of_word (x := Reg.XTS_STATUS.SPARE_ACTIVE) hlast, State.fb_setF _ _ _ _ (by decide) (by decide) (by decide), if_neg (by decide)]
    exact s.fb_flag_self _ (by decide) le_rfl
  · rw [State.f_of_word (x := Reg.XTS_STATUS.SPARE_CH) hlast, State.f_setF_self _ _ _ (by decide) (by decide)]
    exact Nat.mod_eq_of_lt c.isLt
  · have hengine : Reg.XTS_STATUS.ENGINE_OOS.lo + c.val < 16 := by simp [Reg.XTS_STATUS.ENGINE_OOS]
    have hch : Reg.XTS_STATUS.SPARE_CH.lo = 20 := rfl
    have hactive : Reg.XTS_STATUS.SPARE_ACTIVE.lo = 31 := rfl
    rw [State.fbit_of_word (x := Reg.XTS_STATUS.ENGINE_OOS) hlast]
    exact (State.fb_setF _ Reg.XTS_STATUS.SPARE_CH { Reg.XTS_STATUS.ENGINE_OOS with lo := Reg.XTS_STATUS.ENGINE_OOS.lo + c.val } _ (by decide) (by decide) (by dsimp only; omega)).trans
      ((if_neg (by dsimp only; omega)).trans
        (s.fb_flag_ne Reg.XTS_STATUS.SPARE_ACTIVE { Reg.XTS_STATUS.ENGINE_OOS with lo := Reg.XTS_STATUS.ENGINE_OOS.lo + c.val } (by decide) le_rfl (by dsimp only; omega) (by dsimp only; omega)))

/-- The event register's field that names how the failure was found. -/
def xtsEvent (periodic : Bool) : Fld := if periodic then Reg.XTS_EVENTS.KAT_FAIL else Reg.XTS_EVENTS.CHECK_MISMATCH

/-- An engine of a channel that fails: its mark, and the spare or none in its place (R316, R317). -/
theorem State.xtsFail_eq {s : State} {e : Fin 17} (he : e.val < 16) (periodic spareOk : Bool) : s.xtsFail e periodic spareOk =
    if (s.flag (xtsEvent periodic)).fbit Reg.XTS_STATUS.ENGINE_OOS e.val then s.flag (xtsEvent periodic)
    else if (s.engineOut (xtsEvent periodic) e).fb Reg.XTS_STATUS.SPARE_ACTIVE || (s.engineOut (xtsEvent periodic) e).fb Reg.XTS_STATUS.SPARE_FAIL then
      (s.engineOut (xtsEvent periodic) e).engineless (engineChan e)
    else if !spareOk then (((s.engineOut (xtsEvent periodic) e).flag Reg.XTS_STATUS.SPARE_FAIL).flag Reg.XTS_EVENTS.KAT_FAIL).engineless (engineChan e)
    else (s.engineOut (xtsEvent periodic) e).spareTakes (engineChan e) :=
  if_neg (Nat.ne_of_lt he)

/-- The spare has taken the channel of engine `e`, and no channel and no data has changed. -/
def SpareTook (s : State) (e : Fin 17) (t : State) : Prop :=
  t.fbit Reg.XTS_STATUS.ENGINE_OOS e.val = true ∧ t.fb Reg.XTS_STATUS.SPARE_ACTIVE = true ∧ t.f Reg.XTS_STATUS.SPARE_CH = e.val ∧
  t.chans = s.chans ∧ t.mem = s.mem ∧ t.cry = s.cry ∧ t.rtk = s.rtk ∧ t.nc = s.nc

section
variable {s : State} {e : Fin 17} (he : e.val < 16) (hon : s.fbit Reg.XTS_STATUS.ENGINE_OOS e.val = false) (hidle : s.fb Reg.XTS_STATUS.SPARE_ACTIVE = false)
  (hgood : s.fb Reg.XTS_STATUS.SPARE_FAIL = false)
include he hon hidle hgood

theorem State.xtsFail_spare (periodic : Bool) : s.xtsFail e periodic true = (s.engineOut (xtsEvent periodic) e).spareTakes (engineChan e) := by
  have hoff : (xtsEvent periodic).off ≠ 0x600000 := by cases periodic <;> decide
  obtain ⟨-, hactive, hfail⟩ := s.engineOut_status hoff he
  have hword : (s.flag (xtsEvent periodic)).word 0x600000 = s.word 0x600000 := State.word_setF_ne _ _ _ hoff.symm
  have hbit : (s.flag (xtsEvent periodic)).fbit Reg.XTS_STATUS.ENGINE_OOS e.val = false := (State.fbit_of_word hword _).trans hon
  rw [State.xtsFail_eq he, hbit, hactive, hfail, hidle, hgood]
  rfl

theorem State.xtsFail_spareTook (periodic : Bool) : SpareTook s e (s.xtsFail e periodic true) := by
  rw [State.xtsFail_spare he hon hidle hgood]
  have hoff : (xtsEvent periodic).off ≠ 0x600000 := by cases periodic <;> decide
  obtain ⟨hout, -⟩ := s.engineOut_status hoff he
  have hnoted := s.engineOut_noted (xtsEvent periodic) e
  generalize s.engineOut (xtsEvent periodic) e = u at hout hnoted ⊢
  obtain ⟨hactive, hch, hkept⟩ := u.spareTakes_status (engineChan e)
  have hchan : (engineChan e).val = e.val := Nat.mod_eq_of_lt he
  rw [hchan] at hch hkept
  have hsame := congrArg (fun x : State => (x.chans, x.mem, x.cry, x.rtk, x.nc)) (u.spareTakes_csrOnly (engineChan e))
  have hparts := congrArg (fun x : State => (x.chans, x.mem, x.cry, x.rtk, x.nc)) hnoted.1
  simp only [Prod.mk.injEq] at hsame hparts
  obtain ⟨hchans, hmem, hcry, hrtk, hnc⟩ := hsame
  obtain ⟨hchans', hmem', hcry', hrtk', hnc'⟩ := hparts
  exact ⟨hkept.trans hout, hactive, hch, hchans.trans hchans', hmem.trans hmem', hcry.trans hcry', hrtk.trans hrtk', hnc.trans hnc'⟩

theorem gives_spareTook (hst : s.cry.st = .operational) {i : Instr} (hi : i ∈ [Instr.xtsPeriodicTest e false true, .xtsEngineFail e true true, .xtsEngineFail e false true]) :
    Gives i s (SpareTook s e) := by
  have htest : exec (.xtsPeriodicTest e false true) s = execXtsPeriodicTest e false true s := rfl
  have hcheck (periodic : Bool) : exec (.xtsEngineFail e periodic true) s = execXtsEngineFail e periodic true s := rfl
  rw [execXtsPeriodicTest, hst, hon, Bool.and_false] at htest
  simp only [execXtsEngineFail, hst, hon, Bool.and_false] at hcheck
  have htook := State.xtsFail_spareTook he hon hidle hgood
  simp only [List.mem_cons, List.not_mem_nil, or_false] at hi
  rcases hi with rfl | rfl | rfl
  · exact ⟨_, htest, htook true⟩
  · exact ⟨_, hcheck true, htook true⟩
  · exact ⟨_, hcheck false, htook false⟩

end

/-- Settles O35: good tests lead on and a bad shared engine into the error state, which overwrites keys and leaves memory; the spare takes the channel of a failed engine. -/
theorem crySelfTests : Obligations.CrySelfTests := by
  refine fun s => ⟨fun hboot hst hreset hrail => ⟨exec_powerUpKatDone_good hboot hst hreset hrail _, fun policyBad => ?_, gives_powerUpKatDone_shared hboot hst hreset hrail⟩,
    fun hrun hst => ⟨gives_entropyHealthFail_first hrun hst, fun a ha => gives_entropyHealthFail_second hrun hst ha⟩, fun hst => ⟨?_, ?_, fun e ok => ?_, fun e he hon hidle hgood i =>
      gives_spareTook he hon hidle hgood hst⟩⟩
  · obtain ⟨hroots, hany, hprefix, hlt⟩ := s.loadFlash_rootsBad policyBad
    exact ⟨_, exec_powerUpKatDone_good hboot hst hreset hrail _, hroots, hany, rfl, hprefix, hlt⟩
  · exact ⟨_, exec_drbgReseed hst false, rfl, rfl, s.reseed_kept.2, s.reseed_kept.1⟩
  · exact ⟨_, exec_drbgReseed hst true, (State.cryError_failed (by rw [hst]; decide) .drbg).1⟩
  · have hexec : exec (.xtsPeriodicTest e true ok) s = execXtsPeriodicTest e true ok s := rfl
    rw [hexec, execXtsPeriodicTest, Bool.or_true, if_pos rfl]

/-! ## Services of the CO (R294, R295, R319, R322, R324) -/

/-- A reset of the main domains leaves every link down (R206, R436). -/
theorem State.mainReset_down (s : State) (cold : Bool) (h : Head) : ((s.mainReset cold).port h).up = false := by
  have hset (hs : List Head) : ∀ t : Tbl Port, (∀ k, (t.get Port.reset k).up = false) → ∀ k,
      (Tbl.get Port.reset (hs.foldl (fun t h => t.set Port.reset h.val (s.port h).afterReset) t) k).up = false := by
    induction hs with
    | nil => exact fun t ht => ht
    | cons g hs ih =>
      refine fun t ht => ih _ fun k => ?_
      rw [Tbl.get_set]
      split
      · rfl
      · exact ht k
  exact hset heads8 [] (fun _ => rfl) h.val

/-- Zeroize All but for the ports and its record: every key overwritten, and the mark. -/
def State.erased (s : State) : State := { s.zeroKeys with cry := { s.zeroKeys.cry with zeroized := true } }

/-- The module as Zeroize All leaves it when the device reset begins (R319). -/
def State.zeroizing (s : State) : State :=
  ({ s.zeroKeys.ideClearAll with cry := { s.zeroKeys.ideClearAll.cry with zeroized := true } } : State).pannier 57 0xFF 8 .zeroize 3 0 0 0x610000 false

theorem State.zeroizing_rest (s : State) : s.zeroizing.rest = s.erased.rest := by
  have hmark (u : State) : ({ u with cry := { u.cry with zeroized := true } } : State).rest = { u.rest with cry := { u.rest.cry with zeroized := true } } := rfl
  rw [State.zeroizing, State.pannier_rest, hmark, State.ideClearAll_rest]
  rfl

/-- What a device reset leaves after Zeroize All (R319, R436). -/
theorem State.zeroizing_reset (s : State) : s.zeroizing.deviceReset.mem = [] ∧ s.zeroizing.deviceReset.cry.slots = [] ∧ s.zeroizing.deviceReset.cry.metaKey = none ∧
    s.zeroizing.deviceReset.cry.zeroized = true ∧ (∀ m ∈ s.out, m.ofService = true → m ∈ s.zeroizing.deviceReset.out) ∧ s.zeroizing.deviceReset.tb = s.tb ∧
    s.zeroizing.deviceReset.repairs = s.repairs ∧ s.zeroizing.deviceReset.aon.svnFuse = s.aon.svnFuse ∧ s.zeroizing.deviceReset.pending = s.pending ∧
    ∀ h, (s.zeroizing.deviceReset.port h).up = false := by
  have hrest : s.zeroizing.holdPorts.rest = s.erased.rest := (State.holdPorts_rest _).trans s.zeroizing_rest
  unfold State.deviceReset
  generalize s.zeroizing.holdPorts = u at hrest ⊢
  have hcry := congrArg State.cry hrest
  have hzero := congrArg Cry.zeroized hcry
  have hout := congrArg State.out hrest
  have hout : u.out.filter Msg.ofService = s.out.filter Msg.ofService := hout
  have htb := congrArg State.tb hrest
  have hrepairs := congrArg State.repairs hrest
  have haon := congrArg State.aon hrest
  have hfuse := congrArg Aon.svnFuse haon
  have hpending := congrArg State.pending hrest
  refine ⟨rfl, rfl, rfl, hzero, fun m hm hservice => ?_, htb, hrepairs, hfuse, hpending, u.mainReset_down false⟩
  have hkept : m ∈ u.out.filter Msg.ofService := hout ▸ List.mem_filter.2 ⟨hm, hservice⟩
  exact List.mem_of_mem_filter hkept

section
variable {s : State} {w : Via} (hreach : CryReached s w) (hrole : s.hasRole w .co = true)
include hreach hrole

theorem exec_setUserRoots {rs : List (BitVec 384)} (hfew : rs.length ≤ 4) : exec (.setUserRoots w rs) s = .next (State.svcOk { s with aon := { s.aon with userRoots := rs } } w .ok) := by
  have hexec : exec (.setUserRoots w rs) s = execSetUserRoots w rs s := rfl
  rw [hexec, execSetUserRoots, State.service_eq hreach hrole, if_neg (not_lt.2 hfew)]

/-- The fuse rises to the SVN of the image that runs, and never falls (R322). -/
theorem exec_advanceSvn {i : FwImage} (hclear : s.aon.pendingFw = false) (hruns : s.aon.running = some i) :
    exec (.advanceSvn w) s = .next (State.svcOk { s with aon := { s.aon with svnFuse := max s.aon.svnFuse i.svn } } w .ok) := by
  have hexec : exec (.advanceSvn w) s = execAdvanceSvn w s := rfl
  rw [hexec, execAdvanceSvn, State.service_eq hreach hrole, if_neg (by rw [hclear]; exact Bool.false_ne_true), hruns, max_def_lt]

theorem gives_advanceSvn_pending (hset : s.aon.pendingFw = true) : Gives (.advanceSvn w) s fun t =>
    t.out = s.out ++ [.service w (.refused "PENDING") s.approved] ∧ { t with out := s.out, pmu := s.pmu } = s := by
  refine gives_served hreach hrole rfl ?_
  rw [if_pos hset]
  exact s.svcNo_frame w _

theorem gives_selfTest_good : Gives (.selfTest w ⟨none, 0, 0⟩) s fun t => t.out = s.out ++ [.service w .ok s.approved] ∧ { t with out := s.out, pmu := s.pmu } = s := by
  refine gives_served hreach hrole rfl ?_
  rw [State.katResult_good]
  exact s.svcOk_frame w .ok

theorem exec_zeroizeAll : exec (.zeroizeAll w) s = .next (s.svcOk w .ok).zeroizing.deviceReset :=
  congrArg Host.Outcome.next (State.service_eq hreach hrole (.zeroizeAll w) fun s => (s.svcOk w .ok).zeroizing.deviceReset)

end

/-- Settles O33: each service of the CO writes its part of the always-on state, and Zeroize All goes on to a device reset. -/
theorem cryOfficerServices : Obligations.CryOfficerServices := by
  refine fun s w hreach => ⟨fun hrole => ⟨fun rs hfew => ⟨_, exec_setUserRoots hreach hrole hfew, rfl, rfl, rfl⟩, fun b => gives_served hreach hrole rfl ⟨rfl, rfl, rfl⟩,
    fun i hclear hruns => ⟨_, exec_advanceSvn hreach hrole hclear hruns, rfl, rfl, rfl⟩, gives_advanceSvn_pending hreach hrole, gives_selfTest_good hreach hrole, ?_⟩, fun hrole i hi => ?_⟩
  · obtain ⟨hmem, hslots, hmeta, hzero, hout, hkept⟩ := (s.svcOk w .ok).zeroizing_reset
    exact ⟨_, exec_zeroizeAll hreach hrole, hmem, hslots, hmeta, hzero, hout _ (List.mem_append_right _ (List.mem_singleton_self _)) rfl, hkept⟩
  · simp only [List.mem_cons, List.not_mem_nil, or_false] at hi
    rcases hi with rfl | rfl | rfl | rfl | rfl
    · exact gives_unauthorized hreach hrole rfl
    · exact gives_unauthorized hreach hrole rfl
    · exact gives_unauthorized hreach hrole rfl
    · exact gives_unauthorized hreach hrole rfl
    · exact gives_unauthorized hreach hrole rfl

end Sys2Proof.Machine
end

section
/-! PROOFS. Firmware images, ready points and restarts of MGT (R321, R322, R352, R437 to R439, R442). -/

namespace Sys2Proof.Machine

/-! ## Updates (R321, R322) -/

/-- The inactive slot written, and nothing PENDING yet. -/
def State.staged (s : State) (img : FwImage) : State :=
  { s with aon := if s.aon.activeB then { s.aon with slotA := some img, pendingFw := false } else { s.aon with slotB := some img, pendingFw := false } }

/-- What verifies an image does not depend on the slots. -/
theorem State.staged_imageOk (s : State) (img : FwImage) : (s.staged img).imageOk img true = s.imageOk img true := by
  unfold State.staged State.imageOk
  cases s.aon.activeB <;> rfl

/-- An update writes the inactive slot, and PENDING says whether the image verifies. -/
theorem State.updateFw_eq (s : State) (img : FwImage) : s.updateFw img = { s with
    aon := { s.aon with slotA := if s.aon.activeB then some img else s.aon.slotA, slotB := if s.aon.activeB then s.aon.slotB else some img, pendingFw := s.imageOk img true }
    out := s.out ++ [.sideband (if s.imageOk img true then .ok else .refused "VERIFY")] } := by
  have hupdate : s.updateFw img = if (s.staged img).imageOk img true then { s.staged img with aon := { (s.staged img).aon with pendingFw := true } }.send (.sideband .ok)
      else (s.staged img).send (.sideband (.refused "VERIFY")) := rfl
  rw [hupdate, State.staged_imageOk, State.staged]
  cases s.imageOk img true <;> cases s.aon.activeB <;> rfl

theorem exec_pldmFirmwareUpdate {s : State} (hserves : SidebandServes s) (img : FwImage) : exec (.pldmFirmwareUpdate img) s = .next (s.updateFw img) := by
  have hexec : exec (.pldmFirmwareUpdate img) s = execPldmFirmwareUpdate img s := rfl
  rw [hexec, execPldmFirmwareUpdate, State.sideband_eq hserves, ite_self]

theorem gives_pldmFirmwareUpdate {s : State} (hserves : SidebandServes s) (img : FwImage) : Gives (.pldmFirmwareUpdate img) s fun t =>
    t.aon.pendingFw = s.imageOk img true ∧ (if s.aon.activeB then t.aon.slotA = some img ∧ t.aon.slotB = s.aon.slotB else t.aon.slotB = some img ∧ t.aon.slotA = s.aon.slotA) ∧
    t.out = s.out ++ [.sideband (if s.imageOk img true then .ok else .refused "VERIFY")] ∧
    { t with out := s.out, aon := { t.aon with slotA := s.aon.slotA, slotB := s.aon.slotB, pendingFw := s.aon.pendingFw } } = s := by
  refine ⟨_, exec_pldmFirmwareUpdate hserves img, ?_⟩
  rw [State.updateFw_eq]
  refine ⟨rfl, ?_, rfl, rfl⟩
  dsimp only
  cases s.aon.activeB <;> exact ⟨rfl, rfl⟩

/-! ## The ready point (R321, R322, R438, R439) -/

/-- With no work held, none runs at the ready point. -/
theorem State.runAll_idle {s : State} (hheld : s.mgt.held = []) (hsb : s.mgt.heldSb = []) : s.runAll = s := by
  have hmgt : { s.mgt with heldSb := [] } = s.mgt := by rw [← hsb]
  rw [State.runAll, hheld]
  dsimp only [List.foldl_nil]
  rw [hsb, List.foldl_nil, hmgt]

/-- A board profile sets registers alone (R433). -/
theorem State.loadProfile_csrOnly (s : State) (i : FwImage) : CsrOnly s (s.loadProfile i) := by
  have hset (as : List Head) (v : Nat) : ∀ s : State, CsrOnly s (as.foldl (fun s h => s.setF (Reg.PRTn_LINK_CFG.CLK_MODE.nth h.val) v) s) := by
    induction as with
    | nil => exact CsrOnly.refl
    | cons h hs ih => exact fun s => (s.setF_csrOnly _ v).trans (ih _)
  unfold State.loadProfile
  split
  · exact .refl s
  · exact hset ..

/-- The registers as the ready point finds them: with the board profile at a start. -/
def State.profiled (s : State) (i : FwImage) : State := if s.aon.boot == .tested then s.loadProfile i else s

theorem State.profiled_csrOnly (s : State) (i : FwImage) : CsrOnly s (s.profiled i) := by
  unfold State.profiled
  split
  · exact s.loadProfile_csrOnly i
  · exact .refl s

theorem CsrOnly.eq {s t : State} (h : CsrOnly s t) : t = { s with csr := t.csr } := by
  have hback := congrArg (fun x : State => { x with csr := t.csr }) h
  exact hback

/-- Clandahar runs image `i` of slot `b`, at a start or after a restart, and the rings go on. -/
def State.imageRuns (s : State) (start b : Bool) (i : FwImage) : State :=
  State.setF { s with
    aon := { s.aon with
      running := some i, activeB := if s.aon.trying then b else s.aon.activeB
      pendingFw := s.aon.pendingFw && !s.aon.trying, trying := false, boot := if start then .firmware else s.aon.boot }
    cry := { s.cry with measured := some i.manifest, identity := s.cry.identity || start }
    mgt := { s.mgt with st := .running, dogAt := s.now } } Reg.CMD_STATUS.MGT_PAUSE 0

theorem State.imageRuns_idle {s : State} (hheld : s.mgt.held = []) (hsb : s.mgt.heldSb = []) (start b : Bool) (i : FwImage) : (s.imageRuns start b i).runAll = s.imageRuns start b i :=
  State.runAll_idle hheld hsb

section
variable {s : State} (hst : s.mgt.st = .booting) (hrun : s.mainRuns = true) (hon : s.domOn 1 = true)
include hst hrun hon

theorem exec_readyPoint_recovery {a b : Bool} (hnone : s.bootSlot a b = none) :
    exec (.readyPoint a b) s = .next { s with mgt := { s.mgt with st := .recovery }, aon := { s.aon with trying := false, pendingFw := false } } := by
  have hexec : exec (.readyPoint a b) s = execReadyPoint a b s := rfl
  rw [hexec, execReadyPoint, hst, hrun, hon, if_neg (by decide), hnone]

theorem exec_readyPoint_runs (hheld : s.mgt.held = []) (hsb : s.mgt.heldSb = []) {a b x : Bool} {i : FwImage} (hboot : s.bootSlot a b = some (x, i)) :
    exec (.readyPoint a b) s = .next ((s.profiled i).imageRuns (s.aon.boot == .tested) x i) := by
  have hexec : exec (.readyPoint a b) s = execReadyPoint a b s := rfl
  have hready : s.fwReady x i = ((s.profiled i).imageRuns (s.aon.boot == .tested) x i).runAll := rfl
  rw [hexec, execReadyPoint, hst, hrun, hon, if_neg (by decide), hboot]
  dsimp only
  rw [hready, (s.profiled_csrOnly i).eq, State.imageRuns_idle (s := { s with csr := (s.profiled i).csr }) hheld hsb]

theorem gives_readyPoint (hheld : s.mgt.held = []) (hsb : s.mgt.heldSb = []) {a b x : Bool} {i : FwImage} (hboot : s.bootSlot a b = some (x, i)) : Gives (.readyPoint a b) s fun t =>
    t.mgt.st = .running ∧ t.aon.running = some i ∧ t.aon.activeB = (if s.aon.trying then x else s.aon.activeB) ∧ t.aon.trying = false ∧ t.cry.measured = some i.manifest ∧
    t.fb Reg.CMD_STATUS.MGT_PAUSE = false ∧ (s.aon.boot = .tested → t.aon.boot = .firmware ∧ t.cry.identity = true) ∧
    { t with csr := s.csr, aon := s.aon, cry := s.cry, mgt := s.mgt } = s := by
  refine ⟨_, exec_readyPoint_runs hst hrun hon hheld hsb hboot, ?_⟩
  rw [(s.profiled_csrOnly i).eq]
  refine ⟨rfl, rfl, rfl, rfl, rfl, ?_, fun hstart => ?_, rfl⟩
  · rw [State.imageRuns, State.fb_setF _ _ _ _ (by decide) le_rfl (by decide), if_pos ⟨rfl, le_rfl, le_rfl⟩]
    rfl
  · rw [hstart]
    exact ⟨rfl, Bool.or_true _⟩

end

theorem exec_fwReadyTimeout {s : State} (hst : s.mgt.st = .booting) (htry : s.aon.trying = true) : exec .fwReadyTimeout s =
    .next { s with aon := { s.aon with trying := false, pendingFw := false }, mgt := { s.mgt with dogAt := s.now } } := by
  have hexec : exec .fwReadyTimeout s = execFwReadyTimeout s := rfl
  rw [hexec, execFwReadyTimeout, hst, htry, if_neg (by decide)]

/-! ## Restarts of MGT (R352, R437, R438) -/

/-- A training round that a restart finds is given up (R140, R438). -/
def State.dropRound (s : State) : State := if s.cdc.train.st == .idle then s else (s.endRound 0 0).count 7 14

theorem State.dropRound_gives (s : State) : s.dropRound.cdc.train.st = .idle ∧ RoundOnly s s.dropRound := by
  unfold State.dropRound
  split
  · next hidle => exact ⟨eq_of_beq hidle, rfl⟩
  · obtain ⟨honly, hcdc⟩ := s.endRound_gives 0 0
    exact ⟨congrArg (·.train.st) hcdc, honly⟩

/-- Ring commands paused and the sideband's sessions ended (R296, R352). -/
def State.mgtPaused (s : State) : State := (s.flag Reg.CMD_STATUS.MGT_PAUSE).endSessions .sideband

theorem State.mgtPaused_gives (s : State) : (∀ x ∈ s.mgtPaused.cry.sessions, x.via ≠ .sideband) ∧ s.mgtPaused.fb Reg.CMD_STATUS.MGT_PAUSE = true ∧
    ∀ o, o ≠ Reg.CMD_STATUS.MGT_PAUSE.off → s.mgtPaused.word o = s.word o :=
  ⟨State.endSessions_sessions _ _, s.fb_flag_self _ (by decide) le_rfl, fun _ ho => s.word_setF_ne _ _ ho⟩

/-- The restart recorded, and what it stops stopped. -/
def State.mgtStopped (s : State) (why : RestartWhy) : State := (s.pannier 1 0xFF 0xD (.mgtRestart why) 1 0 0 0 false).mgtPaused

theorem State.restartMgt_eq {s : State} (hst : s.mgt.st ≠ .reset) (why : RestartWhy) : s.restartMgt why = { (s.mgtStopped why).dropRound with
    aon := { (s.mgtStopped why).dropRound.aon with trying := (s.mgtStopped why).dropRound.aon.pendingFw }
    mgt := { (s.mgtStopped why).dropRound.mgt with st := .booting, dogAt := (s.mgtStopped why).dropRound.now, updating := false } } :=
  if_neg fun h => hst (eq_of_beq h)

/-- What a restart does not touch: all that a host stored, the ports, the key slots, the time, and the always-on state. -/
def State.spared (s : State) :=
  (s.mem, s.bad, s.nc, s.xlt, s.dir, s.rtk, s.ports, s.chans, s.cry.slots, s.now, s.aon)

theorem State.pannier_spared (s : State) (dom unit kind : Nat) (c : Cause) (sev addr addrKind reg : Nat) (cxl : Bool) :
    (s.pannier dom unit kind c sev addr addrKind reg cxl).spared = s.spared := by
  have hrecorded := congrArg State.spared (s.pannier_frame dom unit kind c sev addr addrKind reg cxl)
  exact hrecorded

theorem State.mgtPaused_spared (s : State) : s.mgtPaused.spared = s.spared := rfl

theorem State.dropRound_spared (s : State) : s.dropRound.spared = s.spared := by
  obtain ⟨-, honly⟩ := s.dropRound_gives
  have hsame := congrArg State.spared honly
  exact hsame

/-- A restart of MGT, its pause, and the registers that it leaves. -/
theorem State.restartMgt_restarted {s : State} (hst : s.mgt.st ≠ .reset) (why : RestartWhy) :
    MgtRestarted s (s.restartMgt why) ∧ (s.restartMgt why).out = s.out ∧ ∀ o, o ≠ 0x750000 → o ≠ Reg.CMD_STATUS.MGT_PAUSE.off → (s.restartMgt why).word o = s.word o := by
  have hstopped : (s.mgtStopped why).spared = s.spared := (State.mgtPaused_spared _).trans (State.pannier_spared ..)
  have hsent := congrArg State.out (s.pannier_frame 1 0xFF 0xD (.mgtRestart why) 1 0 0 0 false)
  have hsent : (s.mgtStopped why).out = s.out := hsent
  obtain ⟨hsessions, hpause, hwords⟩ := (s.pannier 1 0xFF 0xD (.mgtRestart why) 1 0 0 0 false).mgtPaused_gives
  have hword (o : Nat) (ho : o ≠ 0x750000) (hne : o ≠ Reg.CMD_STATUS.MGT_PAUSE.off) : (s.mgtStopped why).word o = s.word o := (hwords o hne).trans (State.pannier_word ho s ..)
  rw [← State.mgtStopped] at hsessions hpause
  clear hwords
  rw [State.restartMgt_eq hst]
  generalize s.mgtStopped why = u at *
  have hspared := u.dropRound_spared.trans hstopped
  obtain ⟨hidle, honly⟩ := u.dropRound_gives
  have hcsr := congrArg State.csr honly
  have hcry := congrArg State.cry honly
  have hout := congrArg State.out honly
  have hout : u.dropRound.out = u.out := hout
  have hcsr : u.dropRound.csr = u.csr := hcsr
  have hcry : u.dropRound.cry = u.cry := hcry
  generalize u.dropRound = t at *
  simp only [State.spared, Prod.mk.injEq] at hspared
  obtain ⟨hmem, hbad, hnc, hxlt, hdir, hrtk, hports, hchans, hslots, hnow, haon⟩ := hspared
  refine ⟨⟨rfl, hnow, rfl, (State.fb_congr hcsr _).trans hpause, hcry ▸ hsessions, hidle, congrArg Aon.pendingFw haon, hmem, hbad, hnc, hxlt, hdir, hrtk, hports, hchans, hslots⟩, hout.trans hsent,
    fun o ho hne => (State.word_congr hcsr o).trans (hword o ho hne)⟩

/-- A restart after a step that spares what a restart spares. -/
theorem MgtRestarted.after {s u t : State} (h : MgtRestarted u t) (hspared : u.spared = s.spared) : MgtRestarted s t := by
  simp only [State.spared, Prod.mk.injEq] at hspared
  obtain ⟨hmem, hbad, hnc, hxlt, hdir, hrtk, hports, hchans, hslots, hnow, haon⟩ := hspared
  obtain ⟨hst, hdog, hupd, hpause, hsessions, hidle, htry, hmem', hbad', hnc', hxlt', hdir', hrtk', hports', hchans', hslots'⟩ := h
  exact ⟨hst, hdog.trans hnow, hupd, hpause, hsessions, hidle, htry.trans (congrArg Aon.pendingFw haon), hmem'.trans hmem, hbad'.trans hbad, hnc'.trans hnc, hxlt'.trans hxlt,
    hdir'.trans hdir, hrtk'.trans hrtk, hports'.trans hports, hchans'.trans hchans, hslots'.trans hslots⟩

/-- A command over the sideband that restarts MGT is answered first. -/
theorem State.restartMgt_answered {s : State} (hst : s.mgt.st ≠ .reset) (why : RestartWhy) :
    MgtRestarted s ((s.sbSend .ok).restartMgt why) ∧ Msg.sideband .ok ∈ ((s.sbSend .ok).restartMgt why).out := by
  obtain ⟨hrestarted, hout, -⟩ := State.restartMgt_restarted (s := s.sbSend .ok) hst why
  exact ⟨hrestarted.after rfl, hout ▸ List.mem_append_right _ (List.mem_singleton_self _)⟩

theorem gives_activateFirmware {s : State} (hserves : SidebandServes s) : Gives .activateFirmware s fun t => MgtRestarted s t ∧ Msg.sideband .ok ∈ t.out := by
  have hst : s.mgt.st ≠ .reset := by
    obtain ⟨-, -, hup⟩ := hserves
    obtain ⟨hrunning, -⟩ := Bool.and_eq_true_iff.1 hup
    rw [eq_of_beq hrunning]
    decide
  exact ⟨_, congrArg Host.Outcome.next (State.sideband_eq hserves ..), State.restartMgt_answered hst _⟩

theorem gives_mgtRestartCommand {s : State} (hserves : KickServes s) (hpg : s.hsw.pg = true) (hst : s.mgt.st ≠ .reset) :
    Gives .mgtRestartCommand s fun t => MgtRestarted s t ∧ Msg.sideband .ok ∈ t.out := by
  have hexec : exec .mgtRestartCommand s = execMgtRestartCommand s := rfl
  rw [execMgtRestartCommand, State.kickServes_eq hserves, if_pos hpg] at hexec
  exact ⟨_, hexec, State.restartMgt_answered hst _⟩

theorem gives_mgtWatchdog {s : State} (hst : s.mgt.st = .running) : Gives .mgtWatchdog s (MgtRestarted s) := by
  have hexec : exec .mgtWatchdog s = execMgtWatchdog s := rfl
  rw [execMgtWatchdog, hst] at hexec
  exact ⟨_, hexec, (State.restartMgt_restarted (by rw [hst]; decide) .watchdog).1⟩

section
variable {s : State} (hst : s.mgt.st ≠ .reset)
include hst

theorem exec_mgtRestart_sramError : exec (.mgtRestart .sramError) s = .next ((s.pannier 1 0xFF 7 .sramError 2 0 0 0 false).restartMgt .sramError) :=
  if_neg fun h => hst (eq_of_beq h)

theorem exec_mgtRestart_brownout : exec (.mgtRestart .brownout) s = .next ((s.flag Reg.PWR_STATUS.BROWNOUT).restartMgt .brownout) :=
  if_neg fun h => hst (eq_of_beq h)

theorem gives_mgtRestart_sramError : Gives (.mgtRestart .sramError) s (MgtRestarted s) := by
  have hmgt := congrArg State.mgt (s.pannier_frame 1 0xFF 7 .sramError 2 0 0 0 false)
  have hspared := s.pannier_spared 1 0xFF 7 .sramError 2 0 0 0 false
  refine ⟨_, exec_mgtRestart_sramError hst, ?_⟩
  generalize s.pannier 1 0xFF 7 .sramError 2 0 0 0 false = u at *
  have hmgt : u.mgt = s.mgt := hmgt
  exact (State.restartMgt_restarted (by rwa [hmgt]) .sramError).1.after hspared

theorem gives_mgtRestart_brownout : Gives (.mgtRestart .brownout) s fun t => MgtRestarted s t ∧ t.fb Reg.PWR_STATUS.BROWNOUT = true := by
  obtain ⟨hrestarted, -, hword⟩ := State.restartMgt_restarted (s := s.flag Reg.PWR_STATUS.BROWNOUT) hst .brownout
  exact ⟨_, exec_mgtRestart_brownout hst, hrestarted.after rfl, (State.fb_of_word (hword _ (by decide) (by decide))).trans (s.fb_flag_self _ (by decide) le_rfl)⟩

end

/-- Settles O36: an update writes the inactive slot, the ready point runs the slot that `bootSlot` finds, and every restart is one `State.restartMgt`. -/
theorem firmwareImages : Obligations.FirmwareImages := fun _ =>
  ⟨gives_pldmFirmwareUpdate, fun hst hrun hon hheld hsb _ _ => ⟨exec_readyPoint_recovery hst hrun hon, fun _ _ => gives_readyPoint hst hrun hon hheld hsb⟩,
    exec_fwReadyTimeout, gives_activateFirmware, gives_mgtRestartCommand, gives_mgtWatchdog, fun hst => ⟨gives_mgtRestart_sramError hst, gives_mgtRestart_brownout hst⟩⟩

end Sys2Proof.Machine
end
